-- ==== Sys2Proof/Word.lean ====
section
/-!
DEFINITION. Word.lean: the plain data types the model is built from.

A byte is 8 bits (R12); multi-byte values are little-endian lists of bytes (R13).
`Tab` is sparse data by key; `Memory` is a list of (address, byte) pairs (one canonical form, see Machine/Mem.lean).
-/

namespace Sys2Proof

/-- One byte of memory or of a message. -/
abbrev Byte := BitVec 8

/-- A sequence of bytes, lowest address first. -/
abbrev Bytes := List (BitVec 8)

/-- One aligned 64-bit word of the register block. -/
abbrev Word64 := BitVec 64

/-- Sparse data by key, keys strictly rising. -/
abbrev Tab (α : Type) := List (Nat × α)

/-- Byte memory: the cells whose value differs from what an unlisted address reads as. -/
abbrev Memory := List Host.Cell

end Sys2Proof
end

