-- ==== Sys2Proof/Machine/Hash.lean ====
section
/-!
DEFINITION. Machine/Hash.lean: the Chervil draw (R372), SHA-256, CRC-free byte helpers and little-endian words (R13).
-/

namespace Sys2Proof.Machine

/-- The number a little-endian byte string spells (R13). -/
def leNat : Bytes → Nat
  | [] => 0
  | b :: bs => b.toNat + 256 * leNat bs

/-- The n little-endian bytes of a number. -/
def natLE : Nat → Nat → Bytes
  | 0, _ => []
  | n + 1, v => BitVec.ofNat 8 v :: natLE n (v / 256)

/-- The n big-endian bytes of a number. -/
def natBE (n v : Nat) : Bytes := (natLE n v).reverse

/-- n bytes of a string from an offset; bytes past the end read as 0. -/
def slice (bs : Bytes) (off n : Nat) : Bytes :=
  let t := (bs.drop off).take n
  t ++ List.replicate (n - t.length) 0

/-- A little-endian field of a byte string. -/
def fieldLE (bs : Bytes) (off n : Nat) : Nat := leNat ((bs.drop off).take n)

/-- Bits [hi:lo] of a number (R12). -/
def bitsOf (v hi lo : Nat) : Nat := v / 2 ^ lo % 2 ^ (hi + 1 - lo)

/-- Bit n of a number. -/
def bitOf (v n : Nat) : Bool := v / 2 ^ n % 2 = 1

/-- 1 or 0. -/
def b2n (b : Bool) : Nat := if b then 1 else 0

def add32 (a b : Nat) : Nat := (a + b) % 2 ^ 32
def rotl32 (v n : Nat) : Nat := (v * 2 ^ n % 2 ^ 32) + v / 2 ^ (32 - n)
def rotr32 (v n : Nat) : Nat := v / 2 ^ n + (v % 2 ^ n) * 2 ^ (32 - n)

/-- The key fields of a draw that do not change within an instruction (R371). -/
structure DrawKey where
  k0 : Nat
  k1 : Nat
  k2 : Nat
  k3 : Nat
  salt : Nat
  step : Nat
  mb : Nat
  layer : Nat
  stream : Nat
  deriving DecidableEq, Repr

/-- The rounds of the draw, from round `r`, `n` left (R372). -/
def chervilRounds (k : Nat → Nat) : Nat → Nat → Nat → Nat → Nat → Nat → Nat
  | 0, _, _, x1, _, x3 => x1 ^^^ x3
  | n + 1, r, x0, x1, x2, x3 =>
    let x0 := add32 x0 (k (r % 4) ^^^ (0x6a3d91c5 * (r + 1) % 2 ^ 32))
    let x1 := x1 ^^^ rotl32 (add32 x0 x3) 11
    let x2 := add32 x2 (rotl32 (x1 ^^^ x0) 19)
    let x3 := x3 ^^^ rotl32 (add32 x2 x1) 5
    let x0 := add32 x0 (rotl32 (x3 ^^^ x2) 23)
    chervilRounds k n (r + 1) x0 x1 x2 x3

/-- One Chervil draw of 32 bits (R372); the salt enters streams from 0x1_0000 only (R374). -/
def chervil (d : DrawKey) (elem : Nat) : Nat :=
  let k2 := d.k2 ^^^ d.stream
  let k3 := if 0x10000 ≤ d.stream then d.k3 ^^^ d.salt else d.k3
  let k : Nat → Nat := fun i => if i = 0 then d.k0 else if i = 1 then d.k1 else if i = 2 then k2 else k3
  chervilRounds k 12 0 (elem % 2 ^ 32) (elem / 2 ^ 32 % 2 ^ 32) d.step (d.layer * 2 ^ 16 % 2 ^ 32 ||| d.mb)

/-- The bits from `b` down of the largest number whose `k`-th power is at most `n`, above those already found. -/
def rootBits (k n : Nat) : Nat → Nat → Nat
  | 0, found => found
  | b + 1, found =>
    let y := found + 2 ^ b
    rootBits k n b (if y ^ k ≤ n then y else found)

/-- The first 32 bits of the fraction of the `k`-th root of a number below 2^15. -/
def rootFraction (k p : Nat) : Nat := rootBits k (p * 2 ^ (32 * k)) 48 0 % 2 ^ 32

/-- The 64 primes below 312: those up to 17, and what shares no factor with them (17 · 19 > 311). -/
def smallPrimes : List Nat :=
  (List.range 312).filter (fun p => p ∈ [2, 3, 5, 7, 11, 13, 17] ∨ 17 < p ∧ Nat.gcd p 510510 = 1)

/-- The words SHA-256 adds in its 64 rounds: from the cube roots of the first 64 primes. -/
def hashRoundWords : List Nat := smallPrimes.map (rootFraction 3)

/-- The eight words a hash starts from: from the square roots of the first 8 primes. -/
def hashStart : List Nat := (smallPrimes.take 8).map (rootFraction 2)

/-- A word of a hash state or of a message window; 0 past its end. -/
def wordNo (l : List Nat) (n : Nat) : Nat := l.getD n 0

def xor3 (f : Nat → Nat) (a b c : Nat) : Nat := f a ^^^ f b ^^^ f c

def sum32 (l : List Nat) : Nat := l.foldl add32 0

/-- The word that follows a window of sixteen message words (oldest first). -/
def nextWord (w : List Nat) : Nat :=
  let old := wordNo w 1
  let new := wordNo w 14
  sum32 [w.headD 0, rotr32 old 7 ^^^ rotr32 old 18 ^^^ old / 2 ^ 3, wordNo w 9, rotr32 new 17 ^^^ rotr32 new 19 ^^^ new / 2 ^ 10]

/-- One round on the state `s` (eight words) with the round's word `k` and the message word `m`. -/
def hashRound (s : List Nat) (k m : Nat) : List Nat :=
  let x := wordNo s 0
  let y := wordNo s 4
  let choose := wordNo s 6 ^^^ (y &&& (wordNo s 5 ^^^ wordNo s 6))
  let major := (x &&& wordNo s 1) ||| (wordNo s 2 &&& (x ||| wordNo s 1))
  let add := sum32 [wordNo s 7, k, m, xor3 (rotr32 y) 6 11 25, choose]
  sum32 [add, xor3 (rotr32 x) 2 13 22, major] :: s.take 3 ++ add32 (wordNo s 3) add :: (s.drop 4).take 3

/-- The rounds whose words are listed, over a sliding window of message words. -/
def hashRounds : List Nat → List Nat → List Nat → List Nat
  | [], _, s => s
  | k :: ks, w, s => hashRounds ks (w.drop 1 ++ [nextWord w]) (hashRound s k (w.headD 0))

def beNat (bs : Bytes) : Nat := leNat bs.reverse

/-- `n` big-endian words of a string. -/
def beWords : Nat → Bytes → List Nat
  | 0, _ => []
  | n + 1, bs => beNat (bs.take 4) :: beWords n (bs.drop 4)

/-- The state after `n` blocks of 64 bytes. -/
def hashBlocks : Nat → Bytes → List Nat → List Nat
  | 0, _, s => s
  | n + 1, bs, s => hashBlocks n (bs.drop 64) (List.zipWith add32 s (hashRounds hashRoundWords (beWords 16 bs) s))

/-- A message as SHA-256 fills its last block: 0x80, zeros, and its length in bits. -/
def hashPad (m : Bytes) : Bytes :=
  m ++ 0x80 :: List.replicate ((119 - m.length % 64) % 64) 0 ++ natBE 8 (8 * m.length)

/-- SHA-256 of a byte string: 32 bytes, the published standard (00_scope.md names it). -/
def sha256 (m : Bytes) : Bytes :=
  let b := hashPad m
  let s := hashBlocks (b.length / 64) b hashStart
  ((List.range 8).map (fun k => natBE 4 (wordNo s k))).flatten

/-- The bytes of a text. -/
def asciiBytes (s : String) : Bytes := s.toList.map (fun c => BitVec.ofNat 8 c.toNat)

end Sys2Proof.Machine
end

