-- ==== Sys2Proof/Machine/Mem.lean ====
section
/-!
DEFINITION. Machine/Mem.lean: sparse tables and byte memory.

A memory lists only the cells whose byte differs from the default `d` that an unlisted address reads as, a function of the address, in strictly rising address
order, so that equal memories are equal lists (`Mem.wf`).
-/

namespace Sys2Proof

/-- The entry at a key. -/
def Tab.find? {α : Type} : Tab α → Nat → Option α
  | [], _ => none
  | (k, v) :: r, a => if a < k then none else if a = k then some v else Tab.find? r a

/-- The entry at a key, or a default. -/
def Tab.getD {α : Type} (t : Tab α) (a : Nat) (d : α) : α := (Tab.find? t a).getD d

/-- Set the entry at a key, keeping keys rising. -/
def Tab.set {α : Type} : Tab α → Nat → α → Tab α
  | [], a, x => [(a, x)]
  | (k, v) :: r, a, x => if a < k then (a, x) :: (k, v) :: r else if a = k then (a, x) :: r else (k, v) :: Tab.set r a x

/-- Remove the entry at a key. -/
def Tab.del {α : Type} : Tab α → Nat → Tab α
  | [], _ => []
  | (k, v) :: r, a => if a = k then r else (k, v) :: Tab.del r a

/-- Remove the entries whose keys satisfy p. -/
def Tab.drop {α : Type} (t : Tab α) (p : Nat → Bool) : Tab α := t.filter (fun e => !p e.1)

/-- Change the entry at a key, if there is one. -/
def Tab.upd {α : Type} (t : Tab α) (a : Nat) (f : α → α) : Tab α := t.map (fun e => if e.1 = a then (e.1, f e.2) else e)

end Sys2Proof

namespace Sys2Proof.Machine

/-- Read one byte. -/
def Mem.get (d : Nat → Byte) : Memory → Nat → Byte
  | [], a => d a
  | (k, v) :: r, a => if a < k then d a else if a = k then v else Mem.get d r a

/-- Write one byte; writing the default removes the cell. -/
def Mem.put (d : Nat → Byte) : Memory → Nat → Byte → Memory
  | [], a, b => if b = d a then [] else [(a, b)]
  | (k, v) :: r, a, b =>
    if a < k then (if b = d a then (k, v) :: r else (a, b) :: (k, v) :: r)
    else if a = k then (if b = d a then r else (a, b) :: r)
    else (k, v) :: Mem.put d r a b

/-- Read n bytes from an address up. -/
def Mem.read (d : Nat → Byte) (m : Memory) (a : Nat) : Nat → Bytes
  | 0 => []
  | n + 1 => Mem.get d m a :: Mem.read d m (a + 1) n

/-- Write bytes from an address up. -/
def Mem.write (d : Nat → Byte) (m : Memory) (a : Nat) : Bytes → Memory
  | [] => m
  | b :: bs => Mem.write d (Mem.put d m a b) (a + 1) bs

/-- Make the n bytes from an address up read as the default. -/
def Mem.clear (m : Memory) (a n : Nat) : Memory := m.filter (fun c => c.1 < a || a + n ≤ c.1)

/-- Whether addresses rise strictly from above `lo` and no cell holds the default. -/
def Mem.wfFrom (d : Nat → Byte) : Option Nat → Memory → Bool
  | _, [] => true
  | lo, (k, v) :: r => (match lo with
    | none => true
    | some l => decide (l < k)) && decide (v ≠ d k) && Mem.wfFrom d (some k) r

/-- The canonical form of a memory. -/
def Mem.wf (d : Nat → Byte) (m : Memory) : Bool := Mem.wfFrom d none m

/-- Insert into a rising list of numbers without repeats. -/
def insNat : List Nat → Nat → List Nat
  | [], a => [a]
  | k :: r, a => if a < k then a :: k :: r else if a = k then k :: r else k :: insNat r a

/-- a, a + s, a + 2s, … below b, at most `fuel` of them. -/
def stepsFrom (s : Nat) : Nat → Nat → Nat → List Nat
  | 0, _, _ => []
  | f + 1, a, b => if a < b then a :: stepsFrom s f (a + s) b else []

end Sys2Proof.Machine
end

