-- ==== Sys2Proof/Config.lean ====
section
/-!
DEFINITION. Config.lean: what the manual leaves open, as constants with no body.

Each is an uninterpreted function: no proof can see its value, so a claim that mentions one holds for every value.
Most take, as their first argument, the state's own counter `freeCtr`, which every command advances, and then the number of the use
within the command, so that two uses need not agree; the ones the manual calls deterministic take the operands only.
-/

namespace Sys2Proof.Config

/-- A fresh open value of any width (log entry 3). -/
opaque freeNat : Nat → Nat → Nat

/-- A fresh open byte (log entry 3). -/
opaque freeByte : Nat → Nat → BitVec 8

/-- A byte of a memory that lost its contents: when, by the counter, and its address (log entry 26). -/
opaque lostByte : Nat → Nat → BitVec 8

/-- Whether an open choice goes one way or the other (log entry 3). -/
opaque freeBool : Nat → Nat → Bool

/-- Whether the part is of stepping B0 (otherwise A0; R1, R2; log entry 7). -/
opaque isB0 : Bool

/-- The last places of a transcendental vector function: function code and FP32 operand encoding (R121; log entry 4). -/
opaque vecUlp : Nat → Nat → Nat

/-- The sign of a NaN that no rule gives: which operation, and the signs of its operands (R48; log entry 146). -/
opaque nanSign : Nat → Bool → Bool → Bool

/-- What CLAMP gives where S1 is above S2 or one of them is NaN: a, S1 and S2 as FP32 encodings (R120; log entry 146). -/
opaque clampOpen : Nat → Nat → Nat → Nat

/-- Code and severity of the event that the retrain of a die-to-die link posts, which no table lists (R37, R457; log entry 122). -/
opaque d2dRetrainCode : Nat
opaque d2dRetrainSev : Nat

/-- The chunk of an element of an all-reduce whose elements do not deal evenly over the positions: positions, elements, element (R357; log
entry 35). -/
opaque collChunk : Nat → Nat → Nat → Nat

/-- The device root key reconstructed from the PUF is not readable; only what is derived from it is used (R477; log entry 5).
The first argument is a label of the derivation, the second the index of the byte. -/
opaque derivedKey : Nat → Nat → BitVec 8

/-- Byte i of an SLH-DSA signature of a message under a private key that never leaves the part (R478, R483; log entry 5). -/
opaque signature : List (BitVec 8) → Nat → BitVec 8

/-- Whether an SLH-DSA signature of a message verifies under a public key (R465; log entry 5): key, message, signature. -/
opaque verifies : List (BitVec 8) → List (BitVec 8) → List (BitVec 8) → Bool

/-- Byte i of the vendor public key of an index, whose SHA-256 the boot ROM holds (R468; log entry 5). -/
opaque vendorKey : Nat → Nat → BitVec 8

/-- Byte i of the SHA-256 of the boot ROM, measurement M0 (R481; log entry 5). -/
opaque romHash : Nat → BitVec 8

/-- Whether the manufacturing record matches its SHA-256 (R471; log entry 6). -/
opaque mfgRecordOk : Bool

/-- Whether the certificate of the identity region carries the derived key (R479; log entry 6). -/
opaque certMatches : Bool

/-- The device certificate of the identity region: its length and its bytes (R479; log entry 6). -/
opaque certLen : Nat
opaque certByte : Nat → BitVec 8

/-- The factory content of NOR that the manual leaves to manufacture (R462; log entry 6): the address of the byte. -/
opaque factoryByte : Nat → BitVec 8

end Sys2Proof.Config
end

