-- ==== Sys2Proof/Machine/Num.lean ====
section
/-!
DEFINITION. Machine/Num.lean: number formats, exact decoding, the one rounding, FP32 arithmetic (R43 to R68, R93 to R98).

A decoded value is NaN, an infinity, or exactly ±m × 2^e. Arithmetic is exact on these and narrows once.
-/

namespace Sys2Proof.Machine

/-- A decoded value, exact (R54): NaN and infinity with a sign, or (−1)^neg × m × 2^e. -/
inductive Val where
  | nan (neg : Bool)
  | inf (neg : Bool)
  | fin (neg : Bool) (m : Nat) (e : Int)
  deriving DecidableEq, Repr

/-- +0. -/
def Val.zero : Val := .fin false 0 0

def Val.isNan : Val → Bool
  | .nan _ => true
  | _ => false

def Val.isInf : Val → Bool
  | .inf _ => true
  | _ => false

/-- ±0. -/
def Val.isZero : Val → Bool
  | .fin _ 0 _ => true
  | _ => false

def Val.sign : Val → Bool
  | .nan n => n
  | .inf n => n
  | .fin n _ _ => n

/-- A NaN that operation k makes of operands of signs a and b none of which is NaN: its sign is open (R48, log entry 146). -/
def nanOf (k : Nat) (a b : Bool) : Val := .nan (Config.nanSign k a b)

/-- The NaN of two NaN operands: their sign where they agree, otherwise which of the two is open (R48, log entry 146). -/
def nanOr (k : Nat) (a b : Bool) : Val := .nan (if a = b then a else Config.nanSign k a b)

/-- −a; a NaN keeps the sign of its source (R48). -/
def Val.neg : Val → Val
  | .nan n => .nan n
  | .inf n => .inf (!n)
  | .fin n m e => .fin (!n) m e

/-- |a|; a NaN keeps the sign of its source (R48). -/
def Val.abs : Val → Val
  | .nan n => .nan n
  | .inf _ => .inf false
  | .fin _ m e => .fin false m e

/-- An integer as a value. -/
def Val.ofNat (n : Nat) : Val := .fin false n 0

/-- a × 2^k, exact. -/
def Val.scale (v : Val) (k : Int) : Val :=
  match v with
  | .fin n m e => .fin n m (e + k)
  | x => x

/-- The signed integers a finite pair has over one common exponent. -/
def alignPair (m₁ : Nat) (e₁ : Int) (m₂ : Nat) (e₂ : Int) : Nat × Nat × Int :=
  let e := min e₁ e₂
  (m₁ * 2 ^ (e₁ - e).toNat, m₂ * 2 ^ (e₂ - e).toNat, e)

def signed (n : Bool) (m : Nat) : Int := if n then -(m : Int) else (m : Int)

/-- Exact sum. Opposite infinities give NaN; x + (−x) is +0 and (−0) + (−0) is −0 (R97). -/
def Val.add : Val → Val → Val
  | .nan a, .nan b => nanOr 8 a b
  | .nan n, _ => .nan n
  | _, .nan n => .nan n
  | .inf a, .inf b => if a = b then .inf a else nanOf 0 a b
  | .inf a, _ => .inf a
  | _, .inf b => .inf b
  | .fin n₁ m₁ e₁, .fin n₂ m₂ e₂ =>
    if m₁ = 0 ∧ m₂ = 0 then .fin (n₁ && n₂) 0 0
    else if m₁ = 0 then .fin n₂ m₂ e₂
    else if m₂ = 0 then .fin n₁ m₁ e₁
    else
      let (a, b, e) := alignPair m₁ e₁ m₂ e₂
      let s := signed n₁ a + signed n₂ b
      if s = 0 then .fin false 0 0 else .fin (decide (s < 0)) s.natAbs e

def Val.sub (a b : Val) : Val :=
  match b with
  | .nan n => (match a with
    | .nan m => nanOr 8 m n
    | _ => .nan n)
  | _ => a.add b.neg

/-- Exact product. Inf × 0 gives NaN (R97). -/
def Val.mul : Val → Val → Val
  | .nan a, .nan b => nanOr 9 a b
  | .nan n, _ => .nan n
  | _, .nan n => .nan n
  | .inf a, .inf b => .inf (a != b)
  | .inf a, .fin n m _ => if m = 0 then nanOf 1 a n else .inf (a != n)
  | .fin n m _, .inf b => if m = 0 then nanOf 1 n b else .inf (n != b)
  | .fin n₁ m₁ e₁, .fin n₂ m₂ e₂ => .fin (n₁ != n₂) (m₁ * m₂) (if m₁ * m₂ = 0 then 0 else e₁ + e₂)

/-- Order of two values neither of which is NaN: the sign of a − b, with −0 = +0. -/
def Val.cmp : Val → Val → Ordering
  | .inf a, .inf b => if a = b then .eq else if a then .lt else .gt
  | .inf a, _ => if a then .lt else .gt
  | _, .inf b => if b then .gt else .lt
  | .fin n₁ m₁ e₁, .fin n₂ m₂ e₂ =>
    let (a, b, _) := alignPair m₁ e₁ m₂ e₂
    compare (signed n₁ a) (signed n₂ b)
  | _, _ => .eq

def Val.lt (a b : Val) : Bool := !a.isNan && !b.isNan && a.cmp b == .lt
def Val.eqv (a b : Val) : Bool := !a.isNan && !b.isNan && a.cmp b == .eq
def Val.le (a b : Val) : Bool := a.lt b || a.eqv b

/-- Larger of two; NaN if either is NaN; +0 counts above −0 (MAX2 of R120). -/
def Val.max2 (a b : Val) : Val :=
  match a, b with
  | .nan a, .nan b => nanOr 10 a b
  | .nan n, _ => .nan n
  | _, .nan n => .nan n
  | a, b => if a.lt b then b else if b.lt a then a else if a.sign then b else a

/-- Smaller of two, symmetrically (MIN2 of R120). -/
def Val.min2 (a b : Val) : Val :=
  match a, b with
  | .nan a, .nan b => nanOr 11 a b
  | .nan n, _ => .nan n
  | _, .nan n => .nan n
  | a, b => if a.lt b then a else if b.lt a then b else if a.sign then a else b

/-- The rounding of one value: nearest-even (R57), stochastic with a 32-bit draw (R58), or towards +∞ in magnitude (R69). -/
inductive Rnd where
  | rne
  | sr (draw : Nat)
  | up
  deriving DecidableEq, Repr

/-- The layout of a floating-point format (R46, R93, R98): exponent bits, fraction bits, bias, the largest finite encoding's
significand (in units of its ULP) and exponent field, whether infinity and NaN have encodings, and whether finite overflow saturates (R61). -/
structure FF where
  eb : Nat
  mb : Nat
  bias : Nat
  maxSig : Nat
  maxE : Nat
  hasInf : Bool
  hasNan : Bool
  sat : Bool
  deriving DecidableEq, Repr

def ffBF16 : FF := ⟨8, 7, 127, 255, 254, true, true, false⟩
def ffFP16 : FF := ⟨5, 10, 15, 2047, 30, true, true, false⟩
def ffE4M3 : FF := ⟨4, 3, 7, 14, 15, false, true, true⟩
def ffE5M2 : FF := ⟨5, 2, 15, 7, 30, true, true, true⟩
def ffE3M2 : FF := ⟨3, 2, 3, 7, 7, false, false, true⟩
def ffE2M3 : FF := ⟨2, 3, 1, 15, 3, false, false, true⟩
def ffE2M1 : FF := ⟨2, 1, 1, 3, 3, false, false, true⟩
def ffFP32 : FF := ⟨8, 23, 127, 2 ^ 24 - 1, 254, true, true, false⟩
/-- The high 24 bits of binary32 (R98). -/
def ffFP24 : FF := ⟨8, 15, 127, 2 ^ 16 - 1, 254, true, true, false⟩
/-- The narrow accumulator of a cell (R93). -/
def ffNarrow : FF := ⟨8, 12, 127, 2 ^ 13 - 1, 254, true, true, false⟩

/-- Exponent of the smallest subnormal. -/
def FF.emin (f : FF) : Int := 1 - (f.bias : Int) - f.mb

/-- Exponent of the ULP of the largest finite value. -/
def FF.emaxUlp (f : FF) : Int := (f.maxE : Int) - f.bias - f.mb

/-- Exponent of the ULP at magnitude m × 2^e (m ≠ 0), capped below at the subnormal spacing and above at the spacing of the largest
finite value's binade. -/
def FF.quantum (f : FF) (m : Nat) (e : Int) : Int :=
  max f.emin ((m.log2 : Int) + e - f.mb)

/-- Round a nonzero magnitude m × 2^e to a multiple k × 2^q of the format's spacing there. -/
def roundMag (f : FF) (r : Rnd) (m : Nat) (e : Int) : Nat × Int :=
  let q := f.quantum m e
  if q ≤ e then (m * 2 ^ (e - q).toNat, q)
  else
    let s := (q - e).toNat
    let lo := m / 2 ^ s
    let rem := m % 2 ^ s
    if rem = 0 then (lo, q)
    else
      match r with
      | .rne =>
        if 2 ^ s < 2 * rem then (lo + 1, q)
        else if 2 * rem < 2 ^ s then (lo, q)
        else (lo + lo % 2, q)
      | .sr draw => if draw % 2 ^ 24 < rem * 2 ^ 24 / 2 ^ s then (lo + 1, q) else (lo, q)
      | .up => (lo + 1, q)

/-- Whether k × 2^q exceeds the largest finite value. -/
def FF.over (f : FF) (k : Nat) (q : Int) : Bool :=
  let (a, b, _) := alignPair k q f.maxSig f.emaxUlp
  decide (b < a)

/-- Round to the format; the result is again a value (R57, R58, R61). -/
def roundTo (f : FF) (r : Rnd) (v : Val) : Val :=
  match v with
  | .nan n => .nan n
  | .inf n => if f.hasInf then .inf n else .fin n f.maxSig f.emaxUlp
  | .fin n 0 _ => .fin n 0 0
  | .fin n m e =>
    let (k, q) := roundMag f r m e
    if f.over k q then (if f.sat then .fin n f.maxSig f.emaxUlp else .inf n)
    else if k = 0 then .fin n 0 0 else .fin n k q

/-- Encoding of a value that already lies in the format; NaN is canonical with its sign (R48). -/
def FF.bits (f : FF) (v : Val) : Nat :=
  let sgn (n : Bool) : Nat := if n then 2 ^ (f.eb + f.mb) else 0
  match v with
  | .nan n =>
    if !f.hasNan then 0
    else if f.hasInf then sgn n + (2 ^ f.eb - 1) * 2 ^ f.mb + 2 ^ (f.mb - 1)
    else sgn n + (2 ^ (f.eb + f.mb) - 1)
  | .inf n => sgn n + (2 ^ f.eb - 1) * 2 ^ f.mb
  | .fin n m e =>
    if m = 0 then sgn n
    else
      let q := f.quantum m e
      let k := if q ≤ e then m * 2 ^ (e - q).toNat else m / 2 ^ (q - e).toNat
      if k < 2 ^ f.mb then sgn n + k
      else sgn n + (q + f.mb + f.bias).toNat * 2 ^ f.mb + (k - 2 ^ f.mb)

/-- Decode an encoding of the format, exactly (R46). -/
def FF.decode (f : FF) (b : Nat) : Val :=
  let frac := b % 2 ^ f.mb
  let ex := b / 2 ^ f.mb % 2 ^ f.eb
  let n : Bool := b / 2 ^ (f.eb + f.mb) % 2 = 1
  if f.hasInf && ex = 2 ^ f.eb - 1 then (if frac = 0 then .inf n else .nan n)
  else if f.hasNan && !f.hasInf && ex = 2 ^ f.eb - 1 && frac = 2 ^ f.mb - 1 then .nan n
  else if ex = 0 then .fin n frac (if frac = 0 then 0 else f.emin)
  else .fin n (2 ^ f.mb + frac) ((ex : Int) - f.bias - f.mb)

/-- Encode with one rounding. -/
def FF.encode (f : FF) (r : Rnd) (v : Val) : Nat := f.bits (roundTo f r v)

/-- FP32, nearest-even (R117). -/
def f32 (v : Val) : Val := roundTo ffFP32 .rne v

def f32add (a b : Val) : Val := f32 (a.add b)
def f32sub (a b : Val) : Val := f32 (a.sub b)
def f32mul (a b : Val) : Val := f32 (a.mul b)
/-- One rounding (FMA of R120). -/
def f32fma (a b c : Val) : Val := f32 ((a.mul b).add c)

/-- A quotient with enough bits that the following rounding to `f` is exact: the remainder is folded into a sticky bit. -/
def quotSticky (m₁ m₂ : Nat) : Nat × Int :=
  let s := 64 + m₂.log2
  let n := m₁ * 2 ^ s
  let q := n / m₂
  (2 * q + (if n % m₂ = 0 then 0 else 1), -((s : Int) + 1))

/-- a / b, correctly rounded in FP32 (R121); x / ±0 is ±Inf and ±0 / ±0 is NaN (R122). -/
def f32div : Val → Val → Val
  | .nan a, .nan b => nanOr 12 a b
  | .nan n, _ => .nan n
  | _, .nan n => .nan n
  | .inf a, .inf b => nanOf 2 a b
  | .inf a, .fin n _ _ => .inf (a != n)
  | .fin n _ _, .inf b => .fin (n != b) 0 0
  | .fin n₁ m₁ e₁, .fin n₂ m₂ e₂ =>
    if m₂ = 0 then (if m₁ = 0 then nanOf 3 n₁ n₂ else .inf (n₁ != n₂))
    else if m₁ = 0 then .fin (n₁ != n₂) 0 0
    else
      let (q, x) := quotSticky m₁ m₂
      f32 (.fin (n₁ != n₂) q (x + e₁ - e₂))

/-- Integer square root by bits: `k` steps of a binary search from the top bit. -/
def isqrtFrom : Nat → Nat → Nat → Nat
  | 0, _, r => r
  | k + 1, n, r =>
    let c := r + 2 ^ k
    isqrtFrom k n (if c * c ≤ n then c else r)

def isqrt (n : Nat) : Nat := isqrtFrom (n.log2 / 2 + 1) n 0

/-- The square root of m × 2^e (m ≠ 0) with sticky low bit. -/
def sqrtSticky (m : Nat) (e : Int) : Nat × Int :=
  let e' := if e % 2 = 0 then e else e - 1
  let m' := (if e % 2 = 0 then m else 2 * m) * 2 ^ 64
  let r := isqrt m'
  (2 * r + (if r * r = m' then 0 else 1), e' / 2 - 33)

/-- √a, correctly rounded (R121, R122). -/
def f32sqrt : Val → Val
  | .nan n => .nan n
  | .inf n => if n then nanOf 4 n n else .inf false
  | .fin n m e =>
    if m = 0 then .fin n 0 0
    else if n then nanOf 4 n n
    else
      let (r, x) := sqrtSticky m e
      f32 (.fin false r x)

/-- FP32 encoding of a value in FP32. -/
def f32bits (v : Val) : Nat := ffFP32.bits v

/-- Element formats (R44). Reserved codes have none. -/
inductive Fmt where
  | bf16 | fp16 | e4m3 | e5m2 | e3m2 | e2m3 | e2m1 | hem8 | stat16 | u16 | u32
  deriving DecidableEq, Repr

def Fmt.ofCode : Nat → Option Fmt
  | 0 => some .bf16 | 1 => some .fp16 | 2 => some .e4m3 | 3 => some .e5m2 | 4 => some .e3m2 | 5 => some .e2m3
  | 6 => some .e2m1 | 7 => some .hem8 | 8 => some .stat16 | 9 => some .u16 | 10 => some .u32 | _ => none

/-- Element bits (R44). -/
def Fmt.width : Fmt → Nat
  | .bf16 | .fp16 | .stat16 | .u16 => 16
  | .e4m3 | .e5m2 | .hem8 => 8
  | .e3m2 | .e2m3 => 6
  | .e2m1 => 4
  | .u32 => 32

/-- FP6 and FP4 (R49). -/
def Fmt.isBlock : Fmt → Bool
  | .e3m2 | .e2m3 | .e2m1 => true
  | _ => false

/-- E4M3 and E5M2, the formats that take a tensor scale (R63). -/
def Fmt.isScaled8 : Fmt → Bool
  | .e4m3 | .e5m2 => true
  | _ => false

def Fmt.isIndex : Fmt → Bool
  | .u16 | .u32 => true
  | _ => false

/-- The floating-point layout, where the format is one. -/
def Fmt.ff : Fmt → Option FF
  | .bf16 => some ffBF16 | .fp16 => some ffFP16 | .e4m3 => some ffE4M3 | .e5m2 => some ffE5M2
  | .e3m2 => some ffE3M2 | .e2m3 => some ffE2M3 | .e2m1 => some ffE2M1 | _ => none

/-- emax of a block element format (R51). -/
def Fmt.emaxBlock : Fmt → Int
  | .e3m2 => 4
  | _ => 2

/-- STAT16 encode: truncating (R53). -/
def stat16Enc (n : Nat) : Nat :=
  if n < 2048 then n
  else if 4095 * 2 ^ 30 < n then 0xFFFF
  else
    let e := n.log2 - 10
    e * 2048 + (n / 2 ^ (e - 1) - 2048)

/-- STAT16 decode (R53). -/
def stat16Dec (w : Nat) : Nat :=
  let e := w / 2048 % 32
  if e = 0 then w % 2048 else (2048 + w % 2048) * 2 ^ (e - 1)

/-- The exact value of a stored element, before any scale (R54). HEM8 is a two's-complement integer (R52). -/
def Fmt.decodeElem (f : Fmt) (b : Nat) : Val :=
  match f.ff with
  | some ff => ff.decode b
  | none =>
    match f with
    | .stat16 => .ofNat (stat16Dec b)
    | .hem8 => if b % 256 < 128 then .fin false (b % 256) 0 else .fin true (256 - b % 256) 0
    | _ => .ofNat b

/-- An E8M0 byte as a power of two, or none for 0xFF (R50). -/
def e8m0 (x : Nat) : Option Int := if x = 0xFF then none else some ((x : Int) - 127)

/-- An element times its block scale; 0xFF decodes as NaN (R50). -/
def scaleBlock (v : Val) (x : Nat) : Val :=
  match e8m0 x with
  | some k => v.scale k
  | none => nanOf 6 v.sign false

/-- floor(log2 m×2^e) of a nonzero magnitude. -/
def floorLog2 (m : Nat) (e : Int) : Int := (m.log2 : Int) + e

/-- The larger magnitude of a finite nonnegative pair. -/
def maxMag (a b : Val) : Val := if a.lt b then b else a

/-- The block scale byte of 32 source values (R51), and whether the block is poisoned by a NaN or infinity. -/
def blockScale (f : Fmt) (xs : List Val) : Nat :=
  if xs.any (fun v => v.isNan || v.isInf) then 0xFF
  else
    match xs.foldl (fun a v => maxMag a v.abs) Val.zero with
    | .fin _ m e =>
      let sh : Int := if m = 0 then 0 else floorLog2 m e - f.emaxBlock
      (max (-127) (min 127 sh) + 127).toNat
    | _ => 0xFF

/-- Unsigned saturation of a nonnegative integer into U16 or U32 (R45). -/
def satIndex (f : Fmt) (n : Nat) : Nat := if f = .u16 then min n 0xFFFF else n % 2 ^ 32

/-- BF16 ULP exponent of an encoding (R65). -/
def bf16UlpExp (w : Nat) : Int :=
  let e := w / 128 % 256
  if e = 0 then -133 else (e : Int) - 134

/-- w + h × 2^−8 × ulp(w), exact; infinities and NaN ignore h (R65). -/
def hemValue (w : Nat) (h : Int) : Val :=
  match ffBF16.decode w with
  | .fin n m e => (Val.fin n m e).add (if h = 0 then .fin n 0 0 else .fin (decide (h < 0)) h.natAbs (bf16UlpExp w - 8))
  | x => x

/-- Round a value to an integer number of 2^u, nearest-even. -/
def roundIntRne (v : Val) (u : Int) : Int :=
  match v with
  | .fin n m e =>
    if u ≤ e then signed n (m * 2 ^ (e - u).toNat)
    else
      let s := (u - e).toNat
      let lo := m / 2 ^ s
      let rem := m % 2 ^ s
      signed n (if 2 ^ s < 2 * rem then lo + 1 else if 2 * rem < 2 ^ s then lo else lo + lo % 2)
  | _ => 0

/-- The next BF16 encoding above a finite one, towards +∞. -/
def bf16Up (w : Nat) : Nat :=
  if w = 0x8000 then 1 else if w < 0x8000 then w + 1 else w - 1

/-- Split a combined value into weight and remainder (R66): BF16 encoding and signed remainder. -/
def hemSplit (v : Val) : Nat × Int :=
  let w := ffBF16.encode .rne v
  match ffBF16.decode w with
  | .fin _ _ _ =>
    let q := roundIntRne (v.sub (ffBF16.decode w)) (bf16UlpExp w - 8)
    if q = 128 then
      let w' := bf16Up w
      match ffBF16.decode w' with
      | .fin _ _ _ => (w', roundIntRne (v.sub (ffBF16.decode w')) (bf16UlpExp w' - 8))
      | _ => (w, 127)
    else (w, q)
  | _ => (w, 0)

/-- The Hem update path (R66). -/
def hemUpdate (w : Nat) (h : Int) (u : Val) : Nat × Int := hemSplit (f32add (hemValue w h) u)

/-- A scalar of R118: two BF16 values whose sum is formed exactly in FP32. -/
def pairScalar (hi lo : Nat) : Val := f32 ((ffBF16.decode hi).add (ffBF16.decode lo))

/-- Two's complement of a byte. -/
def byteInt (b : Nat) : Int := if b % 256 < 128 then (b % 256 : Nat) else (b % 256 : Nat) - 256

def intByte (i : Int) : Nat := (i % 256).toNat

end Sys2Proof.Machine
end

