-- ==== Sys2Proof/Machine/Types.lean ====
section
/-!
DEFINITION. Machine/Types.lean: the state of the compute side: contexts, windows, chains, staging copies, objects, faults, jobs.

What a register shows is held once: in the register bank, or here where the register is a live view of the structure (R193, R303).
-/

namespace Sys2Proof.Machine

/-- A byte string at a physical address, waiting to be written. -/
structure Seg where
  pa : Nat
  bytes : Bytes
  deriving DecidableEq, Repr

/-- Where a translated address lies (R269). -/
inductive Target where
  | loc (pa : Nat)
  | peer (win off : Nat)
  | host (win off : Nat)
  deriving DecidableEq, Repr

/-- Kind of an access (R269, R290). -/
inductive Acc where
  | read | write | fetch
  deriving DecidableEq, Repr

/-- Fault types (R288). -/
inductive FType where
  | notPresent | perm | badPte | walkPoison | localUnmapped | peerWindow | peerReject | peerUnreachable
  | hostWindow | hostNopage | hostPerm | hostErr | stale
  deriving DecidableEq, Repr

def FType.code : FType → Nat
  | .notPresent => 1 | .perm => 2 | .badPte => 3 | .walkPoison => 4 | .localUnmapped => 5 | .peerWindow => 6
  | .peerReject => 7 | .peerUnreachable => 8 | .hostWindow => 9 | .hostNopage => 0xA | .hostPerm => 0xB
  | .hostErr => 0xC | .stale => 0xD

/-- What a translation gives (R269): a target, or a fault with its level and entry. -/
inductive XRes where
  | ok (t : Target) (nra : Bool)
  | fault (ty : FType) (level pte : Nat)
  deriving DecidableEq, Repr

/-- The Tape statistics of one conversion (R69 to R72). -/
structure TapeStat where
  slot : Nat
  step : Nat
  /-- BF16 magnitude rounded towards +∞. -/
  amax : Nat
  nan : Bool
  inf : Bool
  nonzero : Bool
  elems : Nat
  zeros : Nat
  uflow : Nat
  sat : Nat
  deriving DecidableEq, Repr

/-- Flags of a completion record, bits [8:0] of offset 0x06 (R181). -/
structure Flags where
  longsum : Bool := false
  nanSeen : Bool := false
  accOvf : Bool := false
  empty : Bool := false
  pleatOvf : Bool := false
  idxRange : Bool := false
  tagsDropped : Bool := false
  preempted : Bool := false
  deriving DecidableEq, Repr

/-- What an issued instruction will do as it completes. -/
structure Res where
  status : Nat := 0
  detail : Nat := 0
  flags : Flags := {}
  /-- SCALE_E in force as it issued, by Tape slot (R63). -/
  scales : List (Nat × Nat) := []
  /-- Bytes to write, by physical address. -/
  segs : List Seg := []
  /-- Bytes of staged destinations, by virtual address, to be written back (R208). -/
  vw : List (Nat × Bytes) := []
  tape : List TapeStat := []
  pleatOvf : Bool := false
  /-- Elements counted in VEC_ELEMS, multiply-accumulates in ARR_MACS. -/
  elems : Nat := 0
  idxRange : Nat := 0
  /-- Physical ranges of the regions it names, and whether other work wrote to them while it ran (R108, R116). -/
  regs : List (Nat × Nat) := []
  breach : Bool := false
  /-- Another MMA was on its array while it ran (R86). -/
  shared : Bool := false
  /-- What a vector engine's time is counted by (R124). -/
  work : Nat := 0
  /-- Scratchpad address that was found poisoned. -/
  poison : Option Nat := none
  /-- The wide values and the product count that an MMA leaves under its tag (R96, R102). -/
  wide : List Nat := []
  count : Nat := 0
  deriving DecidableEq, Repr

/-- Where an instruction of a window stands. -/
inductive Phase where
  /-- In the window, not issued. -/
  | held
  /-- Issued to its engine, or started by the Shuttle. -/
  | issued
  /-- Executed; a staged destination is still to be written back (R208). -/
  | writeback
  /-- Issued, stopped at a preemption boundary, and on no engine (R294, R296). -/
  | suspended
  deriving DecidableEq, Repr

/-- A staging copy in a Panel's reserve (R207, R558). -/
structure Copy where
  /-- Which tensor operand of the instruction, in the order of its fields. -/
  opnd : Nat
  panel : Nat
  lo : Nat
  hi : Nat
  bytes : Nat
  dest : Bool
  ahead : Bool
  done : Bool
  repitch : Bool
  /-- The bytes of the region's ranges, in order, once the copy is done (R31, R207). -/
  data : Bytes
  /-- Virtual ranges of it that were read poisoned. -/
  bad : List (Nat × Nat)
  /-- Bytes before the page at which a run-ahead read stopped (R283); 0 where it stopped at none. -/
  cut : Nat
  /-- Where in the Panel's reserve it lies. -/
  base : Nat
  /-- Order of starting. -/
  seq : Nat
  deriving DecidableEq, Repr

/-- An instruction in a context's window (R147). -/
structure Ent where
  index : Nat
  raw : Nat
  /-- The descriptors read at window entry: index and 64-byte content (R153). -/
  descs : List (Nat × Nat)
  /-- Executing engine in the numbering of R194, once assigned. -/
  engine : Option Nat
  ph : Phase
  reads : List (Nat × Nat)
  writes : List (Nat × Nat)
  copies : List Copy
  res : Res
  /-- Open fault the instruction waits on. -/
  flt : Option Nat
  /-- Successive stale marks on the prefetch of an operand (R286). -/
  staleMarks : Tab Nat
  /-- A MARK that has incremented SHUTTLE_EPOCH and waits for Basting. -/
  marked : Bool
  /-- MOVE or COLL progress: elements done, or bytes done in the step that `part` numbers. -/
  cursor : Nat
  /-- Where suspended work resumes: an element index or a row of a vector instruction (R138), a product of a split MMA (R102), a step of
  a COLL. -/
  part : Nat
  /-- Order number of the slab buffer pair an MMA holds (R78); 0 for none. -/
  slab : Nat
  deriving DecidableEq, Repr

/-- An instruction that enters a window (R147). -/
def Ent.fresh (index raw : Nat) : Ent :=
  { index := index, raw := raw, descs := [], engine := none, ph := .held, reads := [], writes := [], copies := [], res := {}, flt := none
    staleMarks := [], marked := false, cursor := 0, part := 0, slab := 0 }

/-- An open accumulation chain of a context (R85, R171). -/
structure Chain where
  tag : Nat
  array : Nat
  shape : Nat
  fp24 : Bool
  count : Nat
  /-- Wide values, row-major encodings: as the last instruction or segment that has ended left them. -/
  wide : List Nat
  /-- A FINAL instruction has issued; the chain ends as it completes. -/
  closing : Bool
  deriving DecidableEq, Repr

/-- Stored state of a context; WAITING and FAULTED are derived (R193, R287). -/
inductive CtxSt where
  | running | preempting | preempted | stopping | recordPending
  deriving DecidableEq, Repr

/-- A command context (R143, R144). -/
structure Ctx where
  queue : Nat
  staged : Bool
  vstage : Nat
  dir : Bool
  step : Nat
  mb : Nat
  userTag : Nat
  recAll : Bool
  progAddr : Nat
  progLen : Nat
  pc : Nat
  doneCnt : Nat
  okCnt : Nat
  admitSeq : Nat
  st : CtxSt
  window : List Ent
  chains : List Chain
  flags : Flags
  /-- Lowest-indexed failure: index and status. -/
  failed : Option (Nat × Nat)
  cancelled : Bool
  /-- Status forced by R37, R146 or a restore that read poison: status and INDEX. -/
  forced : Option (Nat × Nat)
  /-- Instruction fetch waits on this open fault. -/
  fetchFlt : Option Nat
  /-- RETRY or CANCEL recorded while PREEMPTED (R297): fault id and whether it is RETRY. -/
  recorded : List (Nat × Bool)
  /-- Save and restore (R296): 0 none, 1 the save is written, 2 RESUME waits for space, 3 the images are read back. -/
  io : Nat
  /-- How many late values `Train.curLog` held as the context was submitted (R377). -/
  curAt : Nat := 0
  deriving DecidableEq, Repr

/-- A completion record that is held (R185). -/
structure HeldRec where
  ctx : Nat
  bytes : Bytes
  isCtx : Bool
  deriving DecidableEq, Repr

/-- Queue state without a register (R185 to R188). -/
structure QSt where
  phase : Bool := true
  held : List HeldRec := []
  disabling : Bool := false
  sqDb : Option Nat := none
  cqDb : Option Nat := none
  /-- The write of the first held record faulted (R560). -/
  stopped : Bool := false
  /-- For each entry submitted and not admitted, how many late values `Train.curLog` held as it was submitted (R377). -/
  curAts : List Nat := []
  deriving DecidableEq, Repr

/-- The Shuttle (chapter 05). -/
structure Shuttle where
  ctxs : Tab Ctx
  queues : Tab QSt
  lastQueue : Option Nat
  admitSeq : Nat
  /-- Cached descriptors: index and content (R153). -/
  descCache : Tab Nat
  /-- SHUTTLE_CFG ENABLE was written 0 and drains. -/
  disabling : Bool
  copySeq : Nat
  deriving DecidableEq, Repr

/-- Scratchpad (chapter 06). -/
structure Spad where
  /-- Data bytes by device physical address. -/
  mem : Memory
  /-- Poisoned 8-byte words, by address. -/
  poison : List Nat
  /-- Bits flipped in the stored 80-bit codeword of a word since it was written. -/
  flips : Tab Nat
  /-- Next line of each Panel's scrub pass. -/
  scrub : List Nat
  /-- Panels whose scratchpad lost its contents, and when by freeCtr (log entry 26). -/
  lost : Tab Nat
  /-- Ranges of scratchpad mapped by MEM_MAP: base and size (R206). -/
  mapped : List (Nat × Nat)
  deriving DecidableEq, Repr

/-- State of an object (R225). -/
inductive ObjSt where
  | pending | placed | migrating | releasing
  deriving DecidableEq, Repr

/-- A Tailor object (R212 to R226). -/
structure Obj where
  va : Nat
  size : Nat
  tierMin : Nat
  tierMax : Nat
  prio : Nat
  cls : Nat
  alignLog2 : Nat
  stackHint : Nat
  affObj : Nat
  lifeEnd : Nat
  tier : Nat
  loc : Nat
  st : ObjSt
  pinned : Bool
  work : Option (Nat × Nat)
  spilled : Bool
  reason : Nat
  chgEpoch : Nat
  lastUse : Nat
  userTag : Nat
  gen : Nat
  /-- A move under way: new tier, new place, reason after it, pinned after it. -/
  move : Option (Nat × Nat × Nat × Bool)
  deriving DecidableEq, Repr

/-- A Tailor request under way: its ring slot, the object, the RESULT it will have. -/
structure Treq where
  slot : Nat
  obj : Nat
  result : Nat
  deriving DecidableEq, Repr

/-- The Tailor. -/
structure Tailor where
  objs : Tab Obj
  /-- GEN of the records of objects that were released (R225). -/
  gens : Tab Nat
  /-- The request that answers once its moves have ended (R217). -/
  waiting : Option Treq
  /-- Placement records whose writes wait, by object (R226, R559). -/
  recs : List (Nat × Bytes)
  /-- What a MARK has the Tailor do waits for a disabled block (R221, R222, R559). -/
  markDue : Bool
  deriving DecidableEq, Repr

/-- What a MARK with SNAP hands to Basting (R177, R379). -/
structure Hand where
  ctx : Nat
  index : Nat
  epoch : Nat
  setid : Nat
  markStep : Nat
  chervilStep : Nat
  cursor : Nat
  bindCheck : Nat
  skewed : Bool
  stepBase : Nat
  perStep : Nat
  cursorBase : Nat
  bindEn : Bool
  deriving DecidableEq, Repr

/-- A manifest entry of a capture (R393, R401): its identity, descriptor, place in the image, sizes. -/
structure Man where
  id : Nat
  replica : Bool
  companion : Bool
  desc : Nat
  raw : Nat
  off : Nat
  dataBytes : Nat
  scaleBytes : Nat
  deriving DecidableEq, Repr

/-- A physical extent of captured local data and its offset in the image. -/
structure CapSeg where
  pa : Nat
  n : Nat
  off : Nat
  deriving DecidableEq, Repr

/-- A piece of captured data: its target, length, offset in the image. -/
structure CapPart where
  tgt : Target
  n : Nat
  off : Nat
  deriving DecidableEq, Repr

/-- A capture (R402): the slot's commit record is being cleared (stage 1), the guard is set (2), the data is acknowledged (3). -/
structure Cap where
  hand : Hand
  nvme : Bool
  /-- Slot 0 or 1 of the target. -/
  slot : Nat
  stage : Nat
  mans : List Man
  image : Nat
  /-- Virtual ranges captured (R220). -/
  vas : List (Nat × Nat)
  parts : List CapPart
  /-- The write guard (R404). -/
  guard : List CapSeg
  /-- Blocks of 64 KiB of the image copied so far, with their bytes. -/
  copied : Tab Bytes
  /-- The job state block, latched at step 1. -/
  job : Bytes
  /-- MANIFEST_DIGEST, once the manifest is written. -/
  digest : Bytes
  deriving DecidableEq, Repr

/-- A restore (R410): source (0 own buddy, 1 another chip's Lining, 2 NVMe) and its chip, slot, policy, replica window, replica source,
verification only, operation. -/
structure Restore where
  source : Nat
  chip : Nat
  slot : Nat
  realign : Bool
  win : Option Nat
  replica : Bool
  verify : Bool
  op : Nat
  deriving DecidableEq, Repr

/-- Basting (chapter 12) beside its registers. -/
structure Bast where
  /-- Epochs handed over and not taken, oldest first (R409). -/
  hands : List Hand
  cap : Option Cap
  /-- Blocks that a held engine write waits for (R404). -/
  wanted : List Nat
  /-- Other writes held by the guard, oldest first: address and bytes. -/
  held : List (Nat × Bytes)
  restore : Option Restore
  /-- BAST_CFG ENABLE was written 0 while epochs, a capture or a restore were under way (R533). -/
  draining : Bool
  deriving DecidableEq, Repr

/-- A cached leaf or host translation (R270): cache number, page base, page size, entry. -/
structure Tlb where
  cache : Nat
  page : Nat
  size : Nat
  pte : Nat
  deriving DecidableEq, Repr

/-- A non-leaf entry in a Panel's walk cache (R270): Panel, level, the address bits that chose it, the entry. -/
structure Node where
  panel : Nat
  lvl : Nat
  key : Nat
  pte : Nat
  deriving DecidableEq, Repr

/-- Who made an access, for its restart point (R289). -/
inductive FltUnit where
  /-- Instruction fetch of a context. -/
  | fetch (c : Nat)
  /-- Descriptor fetch at window entry: context, instruction, descriptor. -/
  | desc (c i d : Nat)
  /-- Residency translation of an instruction's operand. -/
  | region (c i o : Nat)
  /-- Demand staging copy of an operand. -/
  | staging (c i o : Nat)
  /-- Write-back of a staged destination. -/
  | writeback (c i o : Nat)
  /-- MOVE. -/
  | move (c i : Nat)
  /-- COLL local read or write. -/
  | coll (c i : Nat)
  /-- Tape record fill or write-back of a slot. -/
  | tape (c i slot : Nat)
  /-- Submission or completion ring of a queue. -/
  | ring (q : Nat) (sub : Bool)
  /-- Tailor request ring. -/
  | treq
  /-- Basting snapshot copy. -/
  | bast
  /-- Tailor move. -/
  | tailor (obj : Nat)
  /-- Run-ahead read of an operand. -/
  | ahead (c i o : Nat)
  deriving DecidableEq, Repr

/-- An open fault (R287 to R293). -/
structure Flt where
  unit : FltUnit
  joined : List FltUnit
  ty : FType
  acc : Acc
  va : Nat
  ctx : Option Nat
  resumable : Bool
  deriving DecidableEq, Repr

/-- A staleness window (R284). -/
structure Win where
  panel : Nat
  lo : Nat
  hi : Nat
  ctx : Nat
  index : Nat
  opnd : Nat
  stale : Bool
  /-- Successive stale marks on the prefetch (R286). -/
  marks : Nat
  deriving DecidableEq, Repr

/-- A DMA job (R276 to R279). Of a staging copy or write-back `opnd` is the operand; of a Tailor move `index` is the object. -/
structure Job where
  slot : Nat
  kind : Nat
  ctx : Nat
  index : Nat
  src : Nat
  dst : Nat
  cursor : Nat
  parked : Bool
  /-- Chunks of a MOVE that are written. -/
  doneChunks : List Nat
  opnd : Nat := 0
  deriving DecidableEq, Repr

/-- An invalidation in progress (R271): first page, pages, whether all, the channel whose MEM_INVAL waits for it. -/
structure Inval where
  page : Nat
  n : Nat
  all : Bool
  chan : Option Nat
  deriving DecidableEq, Repr

/-- A host translation that the ATC holds (R270, R274): untranslated page and its size, translated address, what it grants. -/
structure Atc where
  page : Nat
  size : Nat
  addr : Nat
  rd : Bool
  wr : Bool
  deriving DecidableEq, Repr

/-- A host translation asked for (R274): the PCIe address, who accesses what; 0 asked, 1 page requested, 2 asked again, 3 waits for a page
request. -/
structure AtsReq where
  addr : Nat
  unit : FltUnit
  va : Nat
  acc : Acc
  stage : Nat
  deriving DecidableEq, Repr

/-- Translation, DMA and faults (chapter 08). -/
structure Xlate where
  tlbs : List Tlb
  nodes : List Node
  faults : Tab Flt
  nextFlt : Nat
  /-- Identifiers last given to faults that are not resumable (R292; log entry 12). -/
  nonres : List Nat
  /-- Fault records held for lack of ring room: id and 64 bytes (TIME and PHASE set as written). -/
  heldFlt : List (Nat × Bytes)
  fltPhase : Bool
  wins : List Win
  jobs : Tab (List Job)
  /-- Invalidations in progress, oldest first. -/
  inval : List Inval
  atsOn : Bool
  priOn : Bool
  /-- The ATC (R270), newest first. -/
  atc : List Atc
  ats : List AtsReq
  deriving DecidableEq, Repr

end Sys2Proof.Machine
end

