-- ==== Sys2Proof/Machine/Plat.lean ====
section
/-!
DEFINITION. Machine/Plat.lean: the state of the events, what the part has sent outside, and operands of commands that carry several values.
-/

namespace Sys2Proof.Machine

/-- The path a register access comes by (R535). -/
inductive Path where
  | bar0 | bar4 | internal | diag
  /-- PCI configuration requests of the host (R2, R6, R519, R522), which reach no register of BAR0. -/
  | cfg
  deriving DecidableEq, Repr

/-- SOURCE of BUSERR_STATUS (R548); a configuration request makes no bus error. -/
def Path.code : Path → Nat
  | .bar0 => 0 | .bar4 => 1 | .internal => 2 | .diag => 3 | .cfg => 0

/-- An event record (R458). -/
structure EvRec where
  code : Nat
  sev : Nat
  seq : Nat
  time : Nat
  args : Bytes
  deriving DecidableEq, Repr

/-- Event delivery (R459). -/
structure Evt where
  /-- The live log, newest first, at most 4,096 records. -/
  log : List EvRec
  /-- SEQ of the next record to be offered to the host ring. -/
  ringNext : Nat
  /-- Phase-free slot count written to the NOR log since its region was last erased (R556). -/
  norNext : Nat
  /-- Sage's records made while YOKE was off, oldest first, at most 64. -/
  aon : List EvRec
  /-- EV_VOTE_CORRECTED posted in the current second of CTRL_CLK time: index of the second, events (R545). -/
  voteSecond : Nat
  votePosted : Nat
  deriving DecidableEq, Repr

/-- What the part sends outside. -/
inductive Out where
  /-- MSI-X vector, message address and data. -/
  | msix (vec addr data : Nat)
  /-- Interrupt to the Thimble cores in Solo profile, by the vector it replaces. -/
  | irq (vec : Nat)
  /-- Write to host memory at a PCIe address, Translated or untranslated (R274). -/
  | hostWrite (translated : Bool) (addr : Nat) (bytes : Bytes)
  /-- Write to a peer's device physical address. -/
  | peerWrite (chip addr : Nat) (bytes : Bytes)
  /-- Frame of a TYPE on a link: its bytes; 16 a lane marker, 5 a whole Link Identity Frame. -/
  | frame (link type : Nat) (bytes : Bytes)
  /-- Completion of a read over PCIe, or the value of an internal or diagnostic read: path, bytes. -/
  | readData (path : Path) (bytes : Bytes)
  /-- Completer Abort, or the error response on the internal path. -/
  | abort (path : Path)
  /-- Unsupported Request (R519, R526). -/
  | unsupported (path : Path)
  /-- Request Retry Status (R519). -/
  | retry (path : Path)
  /-- Response to a transport message or a sideband message: kind, bytes. -/
  | reply (kind : Nat) (bytes : Bytes)
  /-- Page request or its withdrawal, translation request: kind, address. -/
  | ats (kind addr : Nat)
  /-- Completion of a BAR2 request: address, status (0 successful, 1 with EP, 2 Completer Abort, 3 Unsupported Request), data (R524). -/
  | bar2 (addr status : Nat) (bytes : Bytes)
  /-- A line returned to the requester of HBM_REQUEST_ACCEPT, and whether it is poison. -/
  | hbmLine (line : Nat) (bytes : Bytes) (poison : Bool)
  /-- A write of a Basting image to the NVMe slot: slot, offset, bytes (R407). -/
  | nvme (slot off : Nat) (bytes : Bytes)
  /-- Level of an output pin: pin of R504 to R516 by name code, level. -/
  | pin (pin : Nat) (level : Bool)
  deriving DecidableEq, Repr

/-- A latched upper half (R539): path, register, value. -/
structure Latch where
  path : Path
  off : Nat
  hi : Nat
  deriving DecidableEq, Repr

/-- An access held by R540: path, offset, size, value of a write, whether a read. -/
structure HeldRt where
  path : Path
  off : Nat
  size : Nat
  value : Nat
  read : Bool
  deriving DecidableEq, Repr

/-- What a translation completion of the host carries (R274): the translated address and the accesses it allows. -/
structure AtsGrant where
  xaddr : Nat
  rd : Bool
  wr : Bool
  deriving DecidableEq, Repr

/-- An access of a peer that failed (R273, R355): its address, and whether the peer refused it; else no answer came. -/
structure PeerMiss where
  va : Nat
  rejected : Bool
  deriving DecidableEq, Repr

/-- A read of the host that failed (R274, R522): its address and its completion status, 0 where none came. -/
structure HostMiss where
  va : Nat
  code : Nat
  deriving DecidableEq, Repr

/-- The session that a KEY_EXCHANGE names, and whether it comes over DOE rather than MCTP (R6). -/
structure SpdmOpen where
  id : Nat
  doe : Bool
  deriving DecidableEq, Repr

end Sys2Proof.Machine
end

