-- ==== Sys2Proof/Syntax.lean ====
section
/-!
DEFINITION. Syntax.lean: the commands of the part, one constructor per row of the table of operations and events.

Operands name what the command acts on (a queue, a context and an instruction of it, a link, a stack, …) and bring what only the outside
knows: data that peers or the host return, measured values, choices the manual leaves to the part. A Roino command carries the channel,
the sequence number and the payload of its request.
-/

namespace Sys2Proof

open Machine

/-- The commands (R1 to R564: the table of operations and events). -/
inductive Instr where
  /-- SQ_TAIL_DB (R187). -/
  | sqTailDb (q v : Nat)
  /-- CQ_HEAD_DB (R187). -/
  | cqHeadDb (q v : Nat)
  /-- ADMIT_ENTRY (R145). -/
  | admitEntry (q : Nat) (ext : Bytes)
  /-- FETCH_INSTRUCTION (R147). -/
  | fetchInstruction (c : Nat) (ext : Bytes)
  /-- ASSIGN_CONTINUE_MMA (R85). -/
  | assignContinueMma (c i : Nat)
  /-- MMA (R89). -/
  | mma (a : Nat)
  /-- MMA_WRITEBACK_DONE (R88). -/
  | mmaWritebackDone (c i : Nat)
  /-- CVT (R123). -/
  | cvt (v : Nat)
  /-- VOP (R120). -/
  | vop (v : Nat)
  /-- DROPOUT (R134). -/
  | dropout (v : Nat)
  /-- OPT_SGD (R137). -/
  | optSgd (v : Nat)
  /-- OPT_MOMENTUM (R137). -/
  | optMomentum (v : Nat)
  /-- OPT_ADAMW (R137). -/
  | optAdamw (v : Nat)
  /-- RED (R127). -/
  | red (v : Nat)
  /-- PLEAT (R131). -/
  | pleat (v : Nat)
  /-- UNPLEAT (R133). -/
  | unpleat (v : Nat)
  /-- RNG (R164). -/
  | rng (v : Nat)
  /-- VEC_INSTR_COMPLETE (R124). -/
  | vecInstrComplete (c i : Nat)
  /-- MOVE (R277). -/
  | move (d : Nat)
  /-- DMA_CHUNK_DONE (R279). -/
  | dmaChunkDone (c i k : Nat) (ext : Bytes)
  /-- STAT_REGISTER (R165). -/
  | statRegister (c i : Nat)
  /-- STAT_QUERY (R165). -/
  | statQuery (c i : Nat)
  /-- STAT_SETSCALE (R165). -/
  | statSetscale (c i : Nat)
  /-- STAT_SETCTL (R165). -/
  | statSetctl (c i : Nat)
  /-- STAT_SETWATCH (R165). -/
  | statSetwatch (c i : Nat)
  /-- STAT_LOAD (R165). -/
  | statLoad (c i : Nat)
  /-- SIGNAL (R173). -/
  | signal (c i : Nat)
  /-- WAIT (R174). -/
  | wait (c i : Nat)
  /-- WAIT_TIMEOUT (R174). -/
  | waitTimeout (c i : Nat)
  /-- FENCE (R176). -/
  | fence (c i : Nat)
  /-- MARK (R177). -/
  | mark (c i : Nat)
  /-- WRITE_COMPLETION_RECORD (R185). -/
  | writeCompletionRecord (q : Nat)
  /-- QUEUE_ENABLE (R188). -/
  | queueEnable (q w : Nat)
  /-- QUEUE_DISABLE (R188). -/
  | queueDisable (q w : Nat)
  /-- QUEUE_DRAINED (R188). -/
  | queueDrained (q : Nat)
  /-- CTX_PREEMPT (R180). -/
  | ctxPreempt (c : Nat)
  /-- CONTEXT_SAVE (R296). -/
  | contextSave (c : Nat)
  /-- CONTEXT_SAVE_DONE (R296). -/
  | contextSaveDone (c : Nat)
  /-- CTX_RESUME (R296). -/
  | ctxResume (c : Nat)
  /-- CONTEXT_RESTORE (R296). -/
  | contextRestore (c : Nat) (arrays : List Nat)
  /-- CONTEXT_RESTORE_DONE (R296). -/
  | contextRestoreDone (c : Nat)
  /-- CTX_CANCEL (R184). -/
  | ctxCancel (c : Nat)
  /-- TOKEN_WRITE (R175). -/
  | tokenWrite (t v : Nat)
  /-- STAGING_COPY_START (R558). -/
  | stagingCopyStart (c i o : Nat)
  /-- STAGING_COPY_DONE (R207). -/
  | stagingCopyDone (c i o : Nat) (ext : Bytes)
  /-- STAGED_WRITEBACK (R208). -/
  | stagedWriteback (c i : Nat)
  /-- SPAD_SCRUB_READ (R205). -/
  | spadScrubRead (p : Nat)
  /-- TREQ_TAIL_DB (R213). -/
  | treqTailDb (v : Nat)
  /-- TREQ_REGISTER (R219). -/
  | treqRegister (ext : Bytes)
  /-- TREQ_RELEASE (R224). -/
  | treqRelease (ext : Bytes)
  /-- TREQ_PIN (R215). -/
  | treqPin (ext : Bytes)
  /-- TREQ_UNPIN (R215). -/
  | treqUnpin (ext : Bytes)
  /-- TREQ_MIGRATE (R215). -/
  | treqMigrate (ext : Bytes)
  /-- TREQ_WORK_PIN (R228). -/
  | treqWorkPin (ext : Bytes)
  /-- TREQ_WORK_UNPIN (R215). -/
  | treqWorkUnpin (ext : Bytes)
  /-- TREQ_QUERY (R215). -/
  | treqQuery (ext : Bytes)
  /-- OBJECT_MOVE_DONE (R224). -/
  | objectMoveDone (n : Nat) (ext : Bytes)
  /-- HBM_REQUEST_ACCEPT (R237, R238): `write` is the byte mask of a write, none for a read. -/
  | hbmRequestAccept (addr : Nat) (write : Option Nat) (bytes : Bytes)
  /-- DARNING_AGE_FLUSH (R242). -/
  | darningAgeFlush (line : Nat)
  /-- HBM_READ_COMPLETE (R246). -/
  | hbmReadComplete (line : Nat)
  /-- HBM_SCRUB_READ (R248). -/
  | hbmScrubRead (stk : Nat)
  /-- HBM_RETRAIN_START (R253). -/
  | hbmRetrainStart (stk ch : Nat)
  /-- HBM_RETRAIN_DONE (R253). -/
  | hbmRetrainDone (stk : Nat) (pass : Bool) (temp : Nat)
  /-- HBM_RETRAIN_RETRY (R255). -/
  | hbmRetrainRetry (stk ch : Nat)
  /-- MARGIN_SCAN_BURST (R250). -/
  | marginScanBurst (stk : Nat)
  /-- MARGIN_SCAN_PAUSE (R250). -/
  | marginScanPause (stk : Nat) (counts : List (List Nat))
  /-- MAPOUT_EVACUATED (R257). -/
  | mapoutEvacuated (stk : Nat)
  /-- RELAYOUT_SLICE (R258). -/
  | relayoutSlice (stk : Nat) (usable : Bool)
  /-- RELAYOUT_DONE (R257). -/
  | relayoutDone (stk : Nat)
  /-- PAGE_WALK_DONE (R269). -/
  | pageWalkDone (u : FltUnit) (va : Nat) (acc : Acc)
  /-- RUN_AHEAD_START (R282). -/
  | runAheadStart (c i o : Nat)
  /-- ATS_COMPLETION (R274). -/
  | atsCompletion (addr size : Nat) (grant : AtsGrant)
  /-- PRI_RESPONSE (R274). -/
  | priResponse (addr code : Nat)
  /-- ATS_INVALIDATE_REQUEST (R275). -/
  | atsInvalidateRequest (addr size : Nat)
  /-- XLATE_INVAL (R271). -/
  | xlateInval (path : Path) (w : Nat)
  /-- INVALIDATION_DONE (R271). -/
  | invalidationDone
  /-- FLT_RESP_RETRY (R292). -/
  | fltRespRetry (id : Nat)
  /-- FLT_RESP_CANCEL (R292). -/
  | fltRespCancel (id : Nat)
  /-- FLT_HEAD_DB (R291). -/
  | fltHeadDb (v : Nat)
  /-- FAULT_TIMEOUT (R293). -/
  | faultTimeout (id : Nat)
  /-- PEER_READ_TIMEOUT (R355). -/
  | peerReadTimeout (u : FltUnit) (miss : PeerMiss)
  /-- D2D_RETRAIN (R37). -/
  | d2dRetrain (link : Nat)
  /-- D2D_RETRAIN_DONE (R37). -/
  | d2dRetrainDone (link : Nat) (ok : Bool)
  /-- LINK_EN_WRITE (R334). -/
  | linkEnWrite (l : Nat) (v : Bool)
  /-- LASERS_LOCKED (R318). -/
  | lasersLocked (l : Nat)
  /-- LIGHT_DETECTED (R318). -/
  | lightDetected (l : Nat)
  /-- NO_LIGHT_TIMEOUT (R318). -/
  | noLightTimeout (l : Nat)
  /-- ACQUIRE_DONE (R318). -/
  | acquireDone (l : Nat)
  /-- ALIGN_DONE (R318). -/
  | alignDone (l : Nat)
  /-- VERIFY_DONE (R318). -/
  | verifyDone (l lanes rx tx : Nat)
  /-- MARKER_LOCK_LOSS (R317). -/
  | markerLockLoss (l : Nat)
  /-- RETRAIN_TIMEOUT (R319). -/
  | retrainTimeout (l : Nat)
  /-- EYELET_FAIL (R319). -/
  | eyeletFail (e : Nat)
  /-- FRAME_WRITE (R353). -/
  | frameWrite (l : Nat) (f : Bytes)
  /-- FRAME_READ_REQ (R353). -/
  | frameReadReq (l : Nat) (f : Bytes)
  /-- FRAME_READ_RESP (R353). -/
  | frameReadResp (l : Nat) (f : Bytes)
  /-- FRAME_COLL (R359). -/
  | frameColl (l : Nat) (f : Bytes)
  /-- FRAME_KEEPALIVE (R356). -/
  | frameKeepalive (l : Nat) (f : Bytes)
  /-- FRAME_CTRL (R310). -/
  | frameCtrl (l : Nat) (f : Bytes)
  /-- FRAME_IDLE (R314). -/
  | frameIdle (l : Nat) (f : Bytes)
  /-- ACK_TIMEOUT_REPLAY (R314). -/
  | ackTimeoutReplay (l : Nat)
  /-- LANE_MARKER (R313). -/
  | laneMarker (l : Nat) (m : Bytes)
  /-- LANE_OP_DROP (R320). -/
  | laneOpDrop (l w : Nat)
  /-- LANE_OP_ADD (R320). -/
  | laneOpAdd (l w : Nat)
  /-- LANE_OP_DUP_START (R320). -/
  | laneOpDupStart (l w : Nat)
  /-- LANE_OP_DUP_SWITCHED (R324). -/
  | laneOpDupSwitched (l w : Nat)
  /-- LANE_OP_DROP_NOW (R326). -/
  | laneOpDropNow (l w : Nat)
  /-- SUDDEN_LANE_FAILURE (R326). -/
  | suddenLaneFailure (l w : Nat)
  /-- CAL_SLOT_START (R321). -/
  | calSlotStart (e : Nat)
  /-- CAL_SLOT_END (R321). -/
  | calSlotEnd (e power : Nat)
  /-- CAL_OVERDUE (R322). -/
  | calOverdue (e x : Nat)
  /-- LASER_FADE_SAMPLE (R323). -/
  | laserFadeSample (e x power fade : Nat)
  /-- SPARE_LOCKED (R324). -/
  | spareLocked (e : Nat)
  /-- SWITCHOVER_TIMEOUT (R324). -/
  | switchoverTimeout (e : Nat)
  /-- SWITCHOVER_RETRY (R324). -/
  | switchoverRetry (e : Nat)
  /-- RESTORE_LASER_LOCKED (R325). -/
  | restoreLaserLocked (e : Nat)
  /-- RESTORE_MARGIN_TIMEOUT (R325). -/
  | restoreMarginTimeout (e : Nat)
  /-- LINK_CMD_RETHREAD (R328). -/
  | linkCmdRethread (l port : Nat)
  /-- LINK_CMD_RETRAIN (R317). -/
  | linkCmdRetrain (l : Nat)
  /-- LINK_CMD_DROP_LANE (R320). -/
  | linkCmdDropLane (l w : Nat)
  /-- LINK_CMD_RESTORE_LANE (R325). -/
  | linkCmdRestoreLane (l w : Nat)
  /-- LINK_CMD_SPARE_LANE (R323). -/
  | linkCmdSpareLane (l w : Nat)
  /-- RETHREAD_START (R328). -/
  | rethreadStart (l : Nat)
  /-- STEERING_MOVE_DONE (R328). -/
  | steeringMoveDone (l : Nat)
  /-- REACQUIRE_DONE (R328). -/
  | reacquireDone (l : Nat)
  /-- RETHREAD_MARKER_TIMEOUT (R328). -/
  | rethreadMarkerTimeout (l : Nat)
  /-- TOPO_ENABLE (R338). -/
  | topoEnable
  /-- LIF_RECEIVE (R347). -/
  | lifReceive (l : Nat) (lif : Bytes)
  /-- LIF_RETRY (R347). -/
  | lifRetry (l : Nat)
  /-- REMAP_WAIT_EXPIRY (R348). -/
  | remapWaitExpiry (l : Nat)
  /-- PORT_WAIT_EXPIRY (R348). -/
  | portWaitExpiry (l : Nat)
  /-- DISC_TMO_EXPIRY (R349). -/
  | discTmoExpiry
  /-- KEEPALIVE_SEND (R356). -/
  | keepaliveSend
  /-- KEEPALIVE_MISS (R356). -/
  | keepaliveMiss (chip : Nat)
  /-- COLL_REDUCE_SCATTER (R360). -/
  | collReduceScatter (eng : Nat)
  /-- COLL_ALL_GATHER (R361). -/
  | collAllGather (eng : Nat)
  /-- COLL_ALL_REDUCE (R360). -/
  | collAllReduce (eng : Nat)
  /-- COLL_ALL_TO_ALL (R361). -/
  | collAllToAll (eng : Nat)
  /-- COLL_BROADCAST (R361). -/
  | collBroadcast (eng : Nat)
  /-- COLL_STEP_DONE (R362). -/
  | collStepDone (c i : Nat)
  /-- COLL_COMPLETE (R360). -/
  | collComplete (c i : Nat) (peers : List Bytes)
  /-- COLL_TIMEOUT (R363). -/
  | collTimeout (c i pos : Nat)
  /-- ABSENT_SCAN (R385). -/
  | absentScan
  /-- RELAX_CLR (R387). -/
  | relaxClr
  /-- SNAP_FREEZE (R402). -/
  | snapFreeze
  /-- SNAP_SLOT_CLEARED (R402). -/
  | snapSlotCleared
  /-- GUARDED_WRITE_RELEASE (R404). -/
  | guardedWriteRelease (block : Nat)
  /-- SNAP_DATA_ACKED (R402). -/
  | snapDataAcked
  /-- SNAP_COMMIT (R402). -/
  | snapCommit
  /-- NVME_COMPLETION (R407). -/
  | nvmeCompletion (status : Nat)
  /-- NVME_TIMEOUT (R406). -/
  | nvmeTimeout
  /-- RESTORE_PULL_DONE (R411). -/
  | restorePullDone (data : Bytes) (poison : List Nat)
  /-- MB_DB_WAKE (R430). -/
  | mbDbWake (c : Nat) (path : Path)
  /-- MB_DB_SEND (R432). -/
  | mbDbSend (c : Nat) (path : Path)
  /-- MB_BUFFER_WRITE (R435). -/
  | mbBufferWrite (c : Nat) (path : Path) (off : Nat) (bytes : Bytes)
  /-- TRANSPORT_WAKE (R425). -/
  | transportWake (c : Nat)
  /-- TRANSPORT_WRITE_SEND (R425). -/
  | transportWriteSend (c sid : Nat) (buf : Bytes)
  /-- TRANSPORT_READ_STATUS (R425). -/
  | transportReadStatus (c : Nat)
  /-- TRANSPORT_READ_BUFFER (R425). -/
  | transportReadBuffer (c sid : Nat)
  /-- DEV_IDENTIFY (R441). -/
  | devIdentify (ch seq : Nat) (p : Bytes)
  /-- DEV_STATUS (R441). -/
  | devStatus (ch seq : Nat) (p : Bytes)
  /-- DEV_RESET_PART (R441). -/
  | devResetPart (ch seq : Nat) (p : Bytes)
  /-- DEV_RESET_JOB (R562). -/
  | devResetJob (ch seq : Nat) (p : Bytes)
  /-- DEV_WRITE_IN (R442). -/
  | devWriteIn (ch seq : Nat) (p : Bytes)
  /-- DEV_READ_OUT (R442). -/
  | devReadOut (ch seq : Nat) (p : Bytes)
  /-- IMG_INFO (R443). -/
  | imgInfo (ch seq : Nat) (p : Bytes)
  /-- IMG_ERASE (R467). -/
  | imgErase (ch seq : Nat) (p : Bytes)
  /-- IMG_WRITE (R443). -/
  | imgWrite (ch seq : Nat) (p : Bytes)
  /-- IMG_COMMIT (R467). -/
  | imgCommit (ch seq : Nat) (p : Bytes)
  /-- IMG_CFG_GET (R443). -/
  | imgCfgGet (ch seq : Nat) (p : Bytes)
  /-- IMG_CFG_SET (R475). -/
  | imgCfgSet (ch seq : Nat) (p : Bytes)
  /-- IMG_CFG_DEFAULT (R443). -/
  | imgCfgDefault (ch seq : Nat) (p : Bytes)
  /-- PWR_STATUS (R444). -/
  | pwrStatus (ch seq : Nat) (p : Bytes)
  /-- PWR_CLOCK_CAP (R444). -/
  | pwrClockCap (ch seq : Nat) (p : Bytes)
  /-- PWR_STANDBY (R444). -/
  | pwrStandby (ch seq : Nat) (p : Bytes)
  /-- PWR_DOMAIN (R444). -/
  | pwrDomain (ch seq : Nat) (p : Bytes)
  /-- JOB_SET_KEY (R445). -/
  | jobSetKey (ch seq : Nat) (p : Bytes)
  /-- JOB_SET_BINDING (R445). -/
  | jobSetBinding (ch seq : Nat) (p : Bytes)
  /-- JOB_SET_BASES (R445). -/
  | jobSetBases (ch seq : Nat) (p : Bytes)
  /-- JOB_ENABLE (R446). -/
  | jobEnable (ch seq : Nat) (p : Bytes)
  /-- JOB_QUIESCE (R446). -/
  | jobQuiesce (ch seq : Nat) (p : Bytes)
  /-- JOB_QUIESCED (R562). -/
  | jobQuiesced
  /-- JOB_TAPE_GET (R445). -/
  | jobTapeGet (ch seq : Nat) (p : Bytes)
  /-- JOB_TAPE_SET (R446). -/
  | jobTapeSet (ch seq : Nat) (p : Bytes)
  /-- TOPO_SET_COORD (R336). -/
  | topoSetCoord (ch seq : Nat) (p : Bytes)
  /-- TOPO_LOAD_PLAN (R338). -/
  | topoLoadPlan (ch seq : Nat) (p : Bytes)
  /-- TOPO_STATUS (R447). -/
  | topoStatus (ch seq : Nat) (p : Bytes)
  /-- TOPO_PEER (R447). -/
  | topoPeer (ch seq : Nat) (p : Bytes)
  /-- LINK_ENABLE (R448). -/
  | linkEnable (ch seq : Nat) (p : Bytes)
  /-- LINK_STATUS (R448). -/
  | linkStatus (ch seq : Nat) (p : Bytes)
  /-- LINK_LASER_FACTORY (R448). -/
  | linkLaserFactory (ch seq : Nat) (p : Bytes)
  /-- MEM_RETRAIN (R449). -/
  | memRetrain (ch seq : Nat) (p : Bytes)
  /-- MEM_MARGIN (R250). -/
  | memMargin (ch seq : Nat) (p : Bytes)
  /-- MEM_MARGIN_RESULT (R449). -/
  | memMarginResult (ch seq : Nat) (p : Bytes)
  /-- MEM_STACK_STATE (R251). -/
  | memStackState (ch seq : Nat) (p : Bytes)
  /-- MEM_MAPOUT (R257). -/
  | memMapout (ch seq : Nat) (p : Bytes)
  /-- MEM_MAPOUT_CLEAR (R449). -/
  | memMapoutClear (ch seq : Nat) (p : Bytes)
  /-- MEM_REGION (R450). -/
  | memRegion (ch seq : Nat) (p : Bytes)
  /-- MEM_MAP (R450). -/
  | memMap (ch seq : Nat) (p : Bytes)
  /-- MEM_UNMAP (R450). -/
  | memUnmap (ch seq : Nat) (p : Bytes)
  /-- MEM_PEER_WINDOW (R273). -/
  | memPeerWindow (ch seq : Nat) (p : Bytes)
  /-- MEM_HOST_WINDOW (R274). -/
  | memHostWindow (ch seq : Nat) (p : Bytes)
  /-- MEM_LEND (R450). -/
  | memLend (ch seq : Nat) (p : Bytes)
  /-- MEM_INVAL (R271). -/
  | memInval (ch seq : Nat) (p : Bytes)
  /-- MEM_FAULT_RESP (R292). -/
  | memFaultResp (ch seq : Nat) (p : Bytes)
  /-- Q_CTX_CTL (R564). -/
  | qCtxCtl (ch seq : Nat) (p : Bytes)
  /-- Q_QUEUE_CTL (R564). -/
  | qQueueCtl (ch seq : Nat) (p : Bytes)
  /-- SNAP_SET_BASE (R452). -/
  | snapSetBase (ch seq : Nat) (p : Bytes)
  /-- SNAP_LEND (R397). -/
  | snapLend (ch seq : Nat) (p : Bytes)
  /-- SNAP_WITHDRAW (R397). -/
  | snapWithdraw (ch seq : Nat) (p : Bytes)
  /-- SNAP_SUCCESSOR (R397). -/
  | snapSuccessor (ch seq : Nat) (p : Bytes)
  /-- SNAP_BIND_BUDDY (R398). -/
  | snapBindBuddy (ch seq : Nat) (p : Bytes)
  /-- SNAP_BIND_NVME (R407). -/
  | snapBindNvme (ch seq : Nat) (p : Bytes)
  /-- SNAP_SLOTS (R452). -/
  | snapSlots (ch seq : Nat) (p : Bytes)
  /-- SNAP_UNBIND (R453). -/
  | snapUnbind (ch seq : Nat) (p : Bytes)
  /-- SNAP_BUDDY_LOST (R453). -/
  | snapBuddyLost (ch seq : Nat) (p : Bytes)
  /-- SNAP_RESTORE (R411). -/
  | snapRestore (ch seq : Nat) (p : Bytes)
  /-- SEC_GET_ID (R454). -/
  | secGetId (ch seq : Nat) (p : Bytes)
  /-- SEC_QUOTE (R483). -/
  | secQuote (ch seq : Nat) (p : Bytes)
  /-- SEC_ENROL (R486). -/
  | secEnrol (ch seq : Nat) (p : Bytes)
  /-- DIAG_CHERVIL (R372). -/
  | diagChervil (ch seq : Nat) (p : Bytes)
  /-- DIAG_REG_READ (R455). -/
  | diagRegRead (ch seq : Nat) (p : Bytes)
  /-- DIAG_REG_WRITE (R455). -/
  | diagRegWrite (ch seq : Nat) (p : Bytes)
  /-- DIAG_ENGINE_MAP (R455). -/
  | diagEngineMap (ch seq : Nat) (p : Bytes)
  /-- DIAG_LOOPBACK (R455). -/
  | diagLoopback (ch seq : Nat) (p : Bytes)
  /-- EVT_RING (R459). -/
  | evtRing (ch seq : Nat) (p : Bytes)
  /-- EVT_READ (R556). -/
  | evtRead (ch seq : Nat) (p : Bytes)
  /-- EVT_FILTER (R459). -/
  | evtFilter (ch seq : Nat) (p : Bytes)
  /-- SAGE_SENSORS (R457). -/
  | sageSensors (ch seq : Nat) (p : Bytes)
  /-- SAGE_PINS (R457). -/
  | sagePins (ch seq : Nat) (p : Bytes)
  /-- SAGE_SET_THRESH (R507). -/
  | sageSetThresh (ch seq : Nat) (p : Bytes)
  /-- SAGE_LASER (R457). -/
  | sageLaser (ch seq : Nat) (p : Bytes)
  /-- EVENT_RING_WRITE (R459). -/
  | eventRingWrite
  /-- EVT_HEAD_DB (R461). -/
  | evtHeadDb (v : Nat)
  /-- AON_POWER_UP (R518). -/
  | aonPowerUp
  /-- AON_POWER_LOSS (R489). -/
  | aonPowerLoss
  /-- VIN_WINDOW_MET (R491). -/
  | vinWindowMet
  /-- PLL_LOCK (R518). -/
  | pllLock
  /-- BOOT_ROM_RUN (R472). -/
  | bootRomRun (tries : Nat) (recovery : Bool)
  /-- FIRMWARE_READY (R472). -/
  | firmwareReady
  /-- BOOT_WATCHDOG (R472). -/
  | bootWatchdog
  /-- PANEL_BRINGUP_DONE (R518). -/
  | panelBringupDone (bad : List Nat)
  /-- PERST_OUT_RELEASE (R528). -/
  | perstOutRelease
  /-- SAGE_SAMPLE (R499). -/
  | sageSample (temps : List Nat) (vin iin : Nat)
  /-- THROTTLE_EVENT_FLUSH (R501). -/
  | throttleEventFlush
  /-- VIN_RESET (R491). -/
  | vinReset
  /-- VIN_OV (R491). -/
  | vinOv
  /-- PLL_LOSS (R493). -/
  | pllLoss
  /-- THERMTRIP (R502). -/
  | thermtrip (sensor : Nat)
  /-- FORCE_THROTTLE_N (R504). -/
  | forceThrottleN (level : Bool)
  /-- PWR_BRAKE_N (R504). -/
  | pwrBrakeN (level : Bool)
  /-- EXT_THERMTRIP_N (R504). -/
  | extThermtripN (level : Bool)
  /-- RESET_REQ_N (R504). -/
  | resetReqN (level : Bool)
  /-- SNAP_REQ_N (R506). -/
  | snapReqN (level : Bool)
  /-- PIN_STUCK (R503). -/
  | pinStuck (pin : Nat)
  /-- PERST_N (R521). -/
  | perstN
  /-- FUNCTION_LEVEL_RESET (R521). -/
  | functionLevelReset
  /-- HOT_RESET (R521). -/
  | hotReset
  /-- LINK_DISABLE (R521). -/
  | linkDisable
  /-- D3HOT_ENTRY (R526). -/
  | d3hotEntry
  /-- D0_RETURN (R526). -/
  | d0Return
  /-- ASPM_L1_ENTRY (R526). -/
  | aspmL1Entry
  /-- BAR2_REQUEST (R524). -/
  | bar2Request (addr : Nat) (write : Bool) (ep : Bool) (bytes : Bytes) (n : Nat)
  /-- BAR2_ENABLE_TIMEOUT (R524). -/
  | bar2EnableTimeout
  /-- IDE_KM_KEY_PROG (R527). -/
  | ideKmKeyProg (sid stream : Nat) (keys : Bytes)
  /-- IDE_INTEGRITY_FAIL (R527). -/
  | ideIntegrityFail (stream : Nat)
  /-- SPDM_GET_MEASUREMENTS (R484). -/
  | spdmGetMeasurements (nonce : Bytes)
  /-- SPDM_KEY_EXCHANGE (R484). -/
  | spdmKeyExchange (session : SpdmOpen) (nonce : Bytes)
  /-- SPDM_END_SESSION (R484). -/
  | spdmEndSession (id : Nat)
  /-- SPDM_HEARTBEAT_TIMEOUT (R484). -/
  | spdmHeartbeatTimeout (id : Nat)
  /-- MCTP_SET_ENDPOINT_ID (R529). -/
  | mctpSetEndpointId (eid : Nat)
  /-- I3C_ENTDAA (R529). -/
  | i3cEntdaa (addr : Nat)
  /-- PLDM_SENSOR_READ (R531). -/
  | pldmSensorRead (id : Nat)
  /-- PLDM_REQUEST_UPDATE (R532). -/
  | pldmRequestUpdate (sid : Nat) (image : Bytes)
  /-- PLDM_ACTIVATE_FIRMWARE (R532). -/
  | pldmActivateFirmware (sid : Nat)
  /-- REGISTER_WRITE (R541). -/
  | registerWrite (path : Path) (off size v : Nat)
  /-- COUNTER_LOW_HALF_READ (R539). -/
  | counterLowHalfRead (path : Path) (off : Nat)
  /-- VOTE_SWEEP (R545). -/
  | voteSweep (upsets : List (Nat × Nat × Nat))
  /-- MMA_LAST_PROMOTION (R86). -/
  | mmaLastPromotion (c i : Nat)
  /-- REGISTER_READ (R546). -/
  | registerRead (path : Path) (off size : Nat)
  /-- PART_RESET (R441). -/
  | partReset
  /-- FRAME_NOT_DELIVERED (R314). -/
  | frameNotDelivered (l : Nat) (crc : Bool)
  /-- PCIE_LINK_DOWN (R533). -/
  | pcieLinkDown
  /-- PCIE_LINK_UP (R521). -/
  | pcieLinkUp (speed width : Nat) (ats : Bool)
  /-- PCIE_COMPLETION_TIMEOUT (R522). -/
  | pcieCompletionTimeout (u : FltUnit) (miss : HostMiss)
  /-- PRI_REENABLE (R274). -/
  | priReenable
  /-- PIN_FLAG_CLEAR (R503). -/
  | pinFlagClear (pin : Nat)
  /-- TREQ_RESERVED_OP (R215). -/
  | treqReservedOp (ext : Bytes)
  /-- SPDM_HEARTBEAT (R484). -/
  | spdmHeartbeat (id : Nat)
  /-- SPDM_FINISH (R484). -/
  | spdmFinish (id : Nat) (key : Bytes) (sig : Bytes)
  /-- SPDM_CHALLENGE (R484). -/
  | spdmChallenge (nonce : Bytes)
  /-- SPDM_GET_CERTIFICATE (R479). -/
  | spdmGetCertificate
  /-- SPDM_KEY_UPDATE (R484). -/
  | spdmKeyUpdate (id : Nat)
  deriving DecidableEq, Repr

end Sys2Proof
end

