-- ==== Sys2Proof/Machine/Control.lean ====
section
/-!
DEFINITION. Machine/Control.lean: the state of the mailboxes (chapter 13), boot and security (chapter 14), Sage (chapter 15) and the host
and sideband connections (chapter 16), beside their registers.
-/

namespace Sys2Proof.Machine

/-! ### Mailboxes -/

/-- A response (R427): RC, payload, OP_ID. -/
structure Resp where
  rc : Nat
  payload : Bytes := []
  op : Nat := 0
  deriving DecidableEq, Repr

/-- A mailbox channel beside its registers (R429). -/
structure Chan where
  /-- The message buffer, 256 bytes. -/
  buf : Bytes := List.replicate 256 0
  /-- The last request, header and payload, with its response (R434). -/
  last : Option (Bytes × Resp) := none
  /-- EV_MB_DROPPED with KIND 1 was posted in this BUSY period (R435). -/
  busyDrop : Bool := false
  /-- The channel dropped a write or refused a SEND while the domain was off (R431). -/
  offDrop : Bool := false
  /-- The session that claims the channel (R425). -/
  session : Option Nat := none
  /-- Input and output staging areas: the bytes staged (R442). -/
  inp : Bytes := []
  outp : Bytes := []
  deriving DecidableEq, Repr

/-- A quiesce or JOB reset that runs (R562): the blocks, the OP_ID each joined command or reset waits under; whether it ends with the reset of
step 3. -/
structure Quiesce where
  blocks : Nat
  reset : Bool
  ops : List Nat
  deriving DecidableEq, Repr

/-- The mailboxes. -/
structure Mb where
  chans : Tab Chan := []
  /-- Counter that gives OP_ID (R433). -/
  nextOp : Nat := 1
  /-- Channels whose SEND waits to be executed. -/
  todo : List Nat := []
  /-- A PWR_STANDBY was accepted and waits for busy channels (R437). -/
  standby : Bool := false
  /-- A DEV_RESET of scope PART was acknowledged, or an IMG_COMMIT in recovery (R441, R471). -/
  partReset : Bool := false
  /-- For the host path YOKE counts as off (R431). -/
  hostOff : Bool := false
  quiesce : Option Quiesce := none
  deriving DecidableEq, Repr

/-! ### Boot and security -/

/-- A secure session (R484): identifier, established by FINISH, what KEY_EXCHANGE carried, key updates, whether DOE or MCTP carries it. -/
structure Sess where
  id : Nat
  est : Bool
  transcript : Bytes
  keyGen : Nat
  doe : Bool
  deriving DecidableEq, Repr

/-- A component of a bundle (R466): slot (0 Factory, 1 A, 2 B) and entry. -/
structure Comp where
  slot : Nat
  typ : Nat
  steppings : Nat
  proto : Nat
  ver : Nat
  off : Nat
  size : Nat
  digest : Bytes
  /-- MIN and MAX by TYPE, in order of TYPE. -/
  range : List (Nat × Nat)
  /-- The entry must be zero there. -/
  ownRange : Nat × Nat
  deriving DecidableEq, Repr

/-- Security. -/
structure Sec where
  sessions : List Sess := []
  /-- Quotes since boot (R483). -/
  quotes : Nat := 0
  /-- The components that run, in order of TYPE. -/
  comps : List Comp := []
  /-- BOOT_SLOT (R441). -/
  bootSlot : Nat := 0
  /-- Bytes 0x000 to 0x0FF of the valid owner record in force, with RELEASE 0 (R486). -/
  owner : Option Bytes := none
  /-- The boot ROM has run since YOKE reset was released; Thimble is to mark its channels ready (R472 step 8). -/
  booted : Bool := false
  /-- AON storage: DIGEST of the THIMBLE component marked bad for the next boot, and boots in a row that failed step 8 (R471, R472). -/
  bad : Option Bytes := none
  fails : Nat := 0
  deriving DecidableEq, Repr

/-! ### Sage -/

/-- A demand source (R499): its rung; samples since it last engaged or stepped; samples its release condition has held. -/
structure Src where
  rung : Nat := 0
  engaged : Bool := false
  since : Nat := 0
  calm : Nat := 0
  deriving DecidableEq, Repr

/-- A pin's filter (R503): accepted edges by CYC_SAGE time, newest first; treated as asserted while chattering (R505). -/
structure PinSt where
  edges : List Nat := []
  held : Bool := false
  deriving DecidableEq, Repr

/-- Sage beside its registers. -/
structure Sage where
  /-- The last 8 samples of the 64 sensors, in 0.1 °C, newest first (R500). -/
  hist : List (List Int) := []
  /-- Samples in a row outside −40 to 150 °C, by sensor (R498). -/
  outRuns : Tab Nat := []
  /-- Sensors whose last slope was above SLOPE_TH (R500). -/
  slopeHi : List Nat := []
  /-- Samples since the last SLOPE trigger; none before the first. -/
  slopeAge : Option Nat := none
  /-- The window of R491 was met since VIN was last reset or AON powered up. -/
  vinOk : Bool := false
  /-- VIN samples in a row below 42.0 V, and at or above 43.0 V (R490). -/
  vinLow : Nat := 0
  vinHigh : Nat := 0
  /-- IIN samples in a row above IIN_MAX (R499). -/
  iinHigh : Nat := 0
  /-- PIN of the last 40 samples, in µW, newest first. -/
  power : List Nat := []
  srcs : Tab Src := []
  /-- DIV and CAUSE of the last EV_THROTTLE, whether the 1 ms after it runs, whether a change waits for its end (R501). -/
  evLast : Option (Nat × Nat) := none
  evHold : Bool := false
  evWait : Bool := false
  pins : Tab PinSt := []
  deriving DecidableEq, Repr

/-! ### Host and sideband -/

/-- A BAR2 request that waits for MEM_CFG ENABLE (R524): address, write, bytes, length. -/
structure Bar2 where
  addr : Nat
  write : Bool
  ep : Bool
  bytes : Bytes
  n : Nat
  deriving DecidableEq, Repr

/-- An IDE stream (R527): keys, Secure, key sets programmed. -/
structure Ide where
  keys : Bytes
  secure : Bool
  sets : Nat
  deriving DecidableEq, Repr

/-- The PCIe port beside its registers. -/
structure Pcie where
  /-- Requests that wait until D0, oldest first (R526). -/
  wait : List Out := []
  bar2 : List Bar2 := []
  ide : Tab Ide := []
  /-- Level of PERST_OUT_N (R528). -/
  perstOut : Bool := false
  deriving DecidableEq, Repr

/-- Sideband: I3C dynamic address, MCTP endpoint (R529), the slot whose bundle a PLDM update verified (R532). -/
structure Side where
  i3c : Option Nat := none
  eid : Option Nat := none
  update : Option Nat := none
  deriving DecidableEq, Repr

end Sys2Proof.Machine
end

