-- ==== Sys2Proof/Machine/Fabric.lean ====
section
/-!
DEFINITION. Machine/Fabric.lean: the state of the optical links (chapter 09), the topology and the collectives (chapter 10) beside
their registers.
-/

namespace Sys2Proof.Machine

/-- A frame (R310): its fields and data bytes. -/
structure Frm where
  ftype : Nat
  vl : Nat
  last : Bool
  poison : Bool
  len : Nat
  lseq : Nat
  ack : Nat
  nak : Bool
  crVl : Nat
  crCnt : Nat
  dst : Nat
  src : Nat
  tag : Nat
  addr : Nat
  aux : Nat
  data : Bytes
  /-- Replays in a row without acknowledgement (R314). -/
  tries : Nat
  deriving DecidableEq, Repr

/-- A lane operation announced by the sender (R320): 1 DROP, 2 ADD, 3 DUP_START; lane, slot, block; why: 0 a command or the far margin,
1 the laser retires, 2 it retires and a spare is to restore the lane, 3 calibration, 4 a restore. -/
structure LaneOp where
  op : Nat
  lane : Nat
  slot : Nat
  at_ : Nat
  why : Nat
  deriving DecidableEq, Repr

/-- A link beside its registers. -/
structure LinkSt where
  /-- Sent and not acknowledged, ascending LSEQ (R314). -/
  retry : List Frm := []
  /-- Waiting for the link or for credits, oldest first (R315, R317). -/
  queue : List Frm := []
  nextTx : Nat := 0
  rxNext : Nat := 0
  /-- Discarding until LSEQ = rxNext arrives (R314). -/
  discarding : Bool := false
  /-- Frame credits held, and credits to return, by virtual lane (R315). -/
  credits : Tab Nat := []
  owed : Tab Nat := []
  /-- VL_FREE of the last marker or CTRL frame (R313). -/
  vlFree : Tab Nat := []
  blockCnt : Nat := 0
  /-- EV_LINK_NO_LIGHT was posted in this wait (R318). -/
  noLight : Bool := false
  /-- The port held last, and whether a plan was loaded since the link last came UP (R318, R339). -/
  lastPort : Option Nat := none
  planFresh : Bool := false
  /-- Home port of a remapped link (R339). -/
  home : Option Nat := none
  /-- The move of discovery is under way: the link enters IDENTIFY on its new port (R339). -/
  toIdent : Bool := false
  ops : List LaneOp := []
  /-- Step of RETRAIN: 0 acquire, 1 align, 2 verify (R319). -/
  rtStep : Nat := 0
  /-- Version of the far end, once exchanged in IDENTIFY (R345). -/
  farVer : Option (Nat × Nat) := none
  /-- Slots of the far end's lanes that its markers gave; otherwise lane w is on slot w (R305). -/
  farSlot : Tab Nat := []
  /-- A LIF received that fits no row yet: CHIP and PLINK (R348). -/
  lifPend : Option (Nat × Nat) := none
  /-- Re-thread: target port, and 0 requested, 1 moving, 2 re-acquiring, 3 waiting for the marker (R328). -/
  rethread : Option (Nat × Nat) := none
  /-- Frames held until the marker check passes (R328), and for collectives not yet issued (R359). -/
  held : List Frm := []
  collHeld : List Frm := []
  /-- KEEPALIVE seen in this period (R356). -/
  kaSeen : Bool := false
  /-- Arrival of the first COLL frame of a SEQ, in FAB_CLK cycles (R364). -/
  collFirst : Tab Nat := []
  deriving DecidableEq, Repr

/-- A switch-over or restore (R324, R325): link, lane, laser, slot, whether a switch-over, step (0 tuning, 1 announced or training,
2 carrying), attempt. -/
structure SwOp where
  link : Nat
  lane : Nat
  laser : Nat
  slot : Nat
  switchover : Bool
  step : Nat
  attempt : Nat
  deriving DecidableEq, Repr

/-- An Eyelet beside its registers. -/
structure EyeSt where
  /-- The wavelength index in a calibration slot (R321). -/
  calOn : Option Nat
  /-- Indices whose slot was aborted, served again after index 31 (R329). -/
  calAgain : List Nat
  sw : Option SwOp
  /-- A switch-over that failed once, to be tried again: link and lane (R324). -/
  retry : Option (Nat × Nat)
  /-- Indices whose second switch-over failed: R323 acts as if no spare were free. -/
  noSpare : List Nat
  /-- EV_SPARE_EXHAUSTED was posted (R323). -/
  exhausted : Bool
  failed : Bool
  deriving DecidableEq, Repr

/-- Optical links. -/
structure Opt where
  links : Tab LinkSt
  eyes : Tab EyeSt
  deriving DecidableEq, Repr

/-- A collective in progress (R357 to R364). -/
structure Coll where
  ctx : Nat
  index : Nat
  seq : Nat
  paxis : Nat
  cfn : Nat
  fmt : Nat
  /-- Bytes of a chunk. -/
  chunk : Nat
  /-- Steps of the algorithm, and steps ended (R360 to R362). -/
  steps : Nat
  step : Nat
  /-- Pieces received: step, sender, byte offset (R359). -/
  rx : List (Nat × Nat × Nat)
  /-- CYC_FAB at issue (R364). -/
  issued : Nat
  /-- Panel of the lead Seam engine (R358). -/
  lead : Nat
  deriving DecidableEq, Repr

/-- A rank of the plan: CHIP, SPARE, KEY_TAG (R340). -/
structure Rank where
  chip : Nat
  spare : Bool
  keyTag : Nat
  deriving DecidableEq, Repr

/-- An axis of the plan (R340). -/
structure Axis where
  type : Nat
  algo : Nat
  size : Nat
  b : Nat
  minB : Nat
  tmo : Nat
  deriving DecidableEq, Repr

/-- A plan link (R340). -/
structure PLink where
  role : Nat
  axis : Nat
  idx : Nat
  home : Nat
  step : Nat
  deriving DecidableEq, Repr

/-- The running plan (R338, R340). -/
structure Plan where
  image : Bytes
  nRanks : Nat
  nSpares : Nat
  discTmo : Nat
  tokenCheck : Bool
  solo : Bool
  remapOk : Bool
  degradedOk : Bool
  axes : List Axis
  links : List PLink
  tokens : List Bytes
  ranks : List Rank
  digest : Bytes
  deriving DecidableEq, Repr

/-- Topology and collectives beside their registers. -/
structure Topo where
  plan : Option Plan
  /-- What a neighbour's last KEEPALIVE brought, by chip: SHUTTLE_EPOCH, TOPO_STATE, mask of its UP board links (R356). -/
  far : Tab (Nat × Nat × Nat)
  /-- Periods in a row without a KEEPALIVE, by chip of the neighbour (R356). -/
  miss : Tab Nat
  /-- Senders whose LIF was verified: CHIP (R346). -/
  verified : List (Nat × Bytes)
  /-- DISC_TMO has passed since discovery started (R349). -/
  discOver : Bool
  colls : List Coll
  /-- SEQ of the last collective issued, by axis (R357, R363). -/
  lastSeq : Tab Nat
  /-- TOPO_CFG ENABLE was written 0 with collectives active (R365). -/
  draining : Bool
  deriving DecidableEq, Repr

end Sys2Proof.Machine
end

