-- ==== Sys2Proof/Machine/Fields.lean ====
section
/-!
DEFINITION. Machine/Fields.lean: every named field of the register block, as the manual's register tables give it.

A field is the BAR0 offset of its register and its bits [hi:lo] (R12). The names are the manual's; a name that several registers
share (ENABLE, CFG_WHILE_ENABLED, CFG_WE_COUNT, STATE, …) carries its register's or block's name in front.
-/

namespace Sys2Proof.Machine

/-- A field of a register: BAR0 offset, most and least significant bit. -/
structure Fld where
  off : Nat
  hi : Nat
  lo : Nat
  deriving DecidableEq, Repr

namespace F

/-! ### R109 -/
def ARRAY_CFG_ENABLE : Fld := ⟨0x400000, 31, 31⟩
def LONGSUM_POLICY : Fld := ⟨0x400000, 1, 0⟩

/-! ### R110 -/
def ARRAY_STATUS_CFG_WHILE_ENABLED : Fld := ⟨0x400004, 31, 31⟩
def ARRAY_STATUS_CFG_WE_COUNT : Fld := ⟨0x400004, 15, 0⟩

/-! ### R111 -/
def ARR_TILES (a : Nat) : Fld := ⟨0x401000 + a * 0x100, 63, 0⟩
def ARR_BUSY_CYC (a : Nat) : Fld := ⟨0x401000 + a * 0x100 + 0x8, 63, 0⟩
def ARR_MACS (a : Nat) : Fld := ⟨0x401000 + a * 0x100 + 0x10, 63, 0⟩
def ARR_FEED_GAP (a : Nat) : Fld := ⟨0x401000 + a * 0x100 + 0x18, 63, 0⟩
def ARR_LONGSUM_CNT (a : Nat) : Fld := ⟨0x401000 + a * 0x100 + 0x20, 63, 0⟩
def ARR_OVF_CNT (a : Nat) : Fld := ⟨0x401000 + a * 0x100 + 0x28, 63, 0⟩
def TAGS_HELD (a : Nat) : Fld := ⟨0x401000 + a * 0x100 + 0x30, 41, 32⟩
def DRAIN_BYTES (a : Nat) : Fld := ⟨0x401000 + a * 0x100 + 0x30, 18, 0⟩

/-! ### R140 -/
def VEC_CFG_ENABLE : Fld := ⟨0x440000, 31, 31⟩
def PLEAT_OVF_MODE : Fld := ⟨0x440000, 1, 1⟩
def EMPTY_EVENT : Fld := ⟨0x440000, 0, 0⟩

/-! ### R141 -/
def VEC_STATUS_CFG_WHILE_ENABLED : Fld := ⟨0x440004, 31, 31⟩
def VEC_STATUS_CFG_WE_COUNT : Fld := ⟨0x440004, 15, 0⟩

/-! ### R142 -/
def VEC_INSNS (v : Nat) : Fld := ⟨0x441000 + v * 0x100, 63, 0⟩
def VEC_BUSY_CYC (v : Nat) : Fld := ⟨0x441000 + v * 0x100 + 0x8, 63, 0⟩
def VEC_ELEMS (v : Nat) : Fld := ⟨0x441000 + v * 0x100 + 0x10, 63, 0⟩
def VEC_EMPTY_CNT (v : Nat) : Fld := ⟨0x441000 + v * 0x100 + 0x18, 63, 0⟩
def VEC_PLEAT_OVF_CNT (v : Nat) : Fld := ⟨0x441000 + v * 0x100 + 0x20, 63, 0⟩
def VEC_IDX_RANGE_CNT (v : Nat) : Fld := ⟨0x441000 + v * 0x100 + 0x28, 63, 0⟩
def VEC_POISON_CNT (v : Nat) : Fld := ⟨0x441000 + v * 0x100 + 0x30, 63, 0⟩

/-! ### R189 -/
def SHUTTLE_CFG_ENABLE : Fld := ⟨0x480000, 31, 31⟩
def EVT_ON_FAIL : Fld := ⟨0x480000, 0, 0⟩

/-! ### R190 -/
def SHUTTLE_STATUS_CFG_WHILE_ENABLED : Fld := ⟨0x480004, 31, 31⟩
def CTX_ACTIVE : Fld := ⟨0x480004, 25, 16⟩
def SHUTTLE_STATUS_CFG_WE_COUNT : Fld := ⟨0x480004, 15, 0⟩
def DESC_BASE : Fld := ⟨0x480008, 51, 0⟩
def TAPE_BASE : Fld := ⟨0x480010, 51, 0⟩
def SHUTTLE_EPOCH : Fld := ⟨0x480018, 63, 0⟩

/-! ### R191 -/
def VSTAGE_EN (v : Nat) : Fld := ⟨0x480100 + v * 4, 31, 31⟩
def VSTAGE_MAX_CTX (v : Nat) : Fld := ⟨0x480100 + v * 4, 9, 0⟩

/-! ### R192 -/
def Q_ENABLE (q : Nat) : Fld := ⟨0x481000 + q * 0x40, 31, 31⟩
def Q_PRIO (q : Nat) : Fld := ⟨0x481000 + q * 0x40, 30, 28⟩
def Q_VS_EN (q : Nat) : Fld := ⟨0x481000 + q * 0x40, 27, 27⟩
def Q_QCLASS (q : Nat) : Fld := ⟨0x481000 + q * 0x40, 26, 24⟩
def Q_IRQ_EN (q : Nat) : Fld := ⟨0x481000 + q * 0x40, 23, 23⟩
def Q_MAX_CTX (q : Nat) : Fld := ⟨0x481000 + q * 0x40, 19, 10⟩
def Q_SQ_LOG2 (q : Nat) : Fld := ⟨0x481000 + q * 0x40, 9, 5⟩
def Q_CQ_LOG2 (q : Nat) : Fld := ⟨0x481000 + q * 0x40, 4, 0⟩
def Q_SQ_BASE (q : Nat) : Fld := ⟨0x481000 + q * 0x40 + 0x8, 63, 0⟩
def Q_CQ_BASE (q : Nat) : Fld := ⟨0x481000 + q * 0x40 + 0x10, 63, 0⟩
def Q_CQ_HEAD (q : Nat) : Fld := ⟨0x481000 + q * 0x40 + 0x18, 63, 48⟩
def Q_CQ_TAIL (q : Nat) : Fld := ⟨0x481000 + q * 0x40 + 0x18, 47, 32⟩
def Q_SQ_TAIL (q : Nat) : Fld := ⟨0x481000 + q * 0x40 + 0x18, 31, 16⟩
def Q_SQ_HEAD (q : Nat) : Fld := ⟨0x481000 + q * 0x40 + 0x18, 15, 0⟩
def Q_CFG_WHILE_ENABLED (q : Nat) : Fld := ⟨0x481000 + q * 0x40 + 0x20, 31, 31⟩
def Q_ERR (q : Nat) : Fld := ⟨0x481000 + q * 0x40 + 0x20, 30, 28⟩
def Q_CQ_FULL (q : Nat) : Fld := ⟨0x481000 + q * 0x40 + 0x20, 27, 27⟩
def Q_CFG_WE_COUNT (q : Nat) : Fld := ⟨0x481000 + q * 0x40 + 0x20, 15, 0⟩
def Q_CTX_CNT (q : Nat) : Fld := ⟨0x481000 + q * 0x40 + 0x28, 9, 0⟩
def Q_ADMITTED (q : Nat) : Fld := ⟨0x481000 + q * 0x40 + 0x30, 63, 0⟩

/-! ### R193 -/
def CTX_STATE (c : Nat) : Fld := ⟨0x484000 + c * 0x20, 31, 28⟩
def CTX_QUEUE (c : Nat) : Fld := ⟨0x484000 + c * 0x20, 27, 22⟩
def CTX_STAGED (c : Nat) : Fld := ⟨0x484000 + c * 0x20, 21, 21⟩
def CTX_VSTAGE (c : Nat) : Fld := ⟨0x484000 + c * 0x20, 20, 18⟩
def CTX_INFLIGHT (c : Nat) : Fld := ⟨0x484000 + c * 0x20, 17, 12⟩
def CTX_TAGS_OPEN (c : Nat) : Fld := ⟨0x484000 + c * 0x20, 6, 0⟩
def CTX_TAG (c : Nat) : Fld := ⟨0x484000 + c * 0x20 + 0x4, 31, 0⟩
def CTX_PC (c : Nat) : Fld := ⟨0x484000 + c * 0x20 + 0x8, 31, 0⟩
def CTX_DONE (c : Nat) : Fld := ⟨0x484000 + c * 0x20 + 0xC, 31, 0⟩
def CTX_CTL (c : Nat) : Fld := ⟨0x484000 + c * 0x20 + 0x10, 1, 0⟩
def CTX_STEP (c : Nat) : Fld := ⟨0x484000 + c * 0x20 + 0x14, 31, 0⟩
def CTX_DIR (c : Nat) : Fld := ⟨0x484000 + c * 0x20 + 0x18, 31, 31⟩
def CTX_MB (c : Nat) : Fld := ⟨0x484000 + c * 0x20 + 0x18, 15, 0⟩

/-! ### R194 -/
def STL_NOT_RESIDENT (e : Nat) : Fld := ⟨0x490000 + e * 0x80, 63, 0⟩
def STL_DRAIN (e : Nat) : Fld := ⟨0x490000 + e * 0x80 + 0x8, 63, 0⟩
def STL_TOKEN (e : Nat) : Fld := ⟨0x490000 + e * 0x80 + 0x10, 63, 0⟩
def STL_XLATE (e : Nat) : Fld := ⟨0x490000 + e * 0x80 + 0x18, 63, 0⟩
def STL_HBM_BUSY (e : Nat) : Fld := ⟨0x490000 + e * 0x80 + 0x20, 63, 0⟩
def STL_LINK_CREDIT (e : Nat) : Fld := ⟨0x490000 + e * 0x80 + 0x28, 63, 0⟩
def STL_PREEMPT (e : Nat) : Fld := ⟨0x490000 + e * 0x80 + 0x30, 63, 0⟩
def STL_THROTTLE (e : Nat) : Fld := ⟨0x490000 + e * 0x80 + 0x38, 63, 0⟩
def STL_IDLE (e : Nat) : Fld := ⟨0x490000 + e * 0x80 + 0x40, 63, 0⟩

/-! ### R229 -/
def SPAD_CFG_ENABLE : Fld := ⟨0x540000, 31, 31⟩
def STAGE_RES : Fld := ⟨0x540000, 23, 16⟩
def SCRUB_PERIOD : Fld := ⟨0x540000, 15, 4⟩
def SPAD_CFG_CORR_WB : Fld := ⟨0x540000, 3, 3⟩

/-! ### R230 -/
def SPAD_STATUS_CFG_WHILE_ENABLED : Fld := ⟨0x540004, 31, 31⟩
def SPAD_STATUS_CFG_WE_COUNT : Fld := ⟨0x540004, 15, 0⟩

/-! ### R231 -/
def SPAD_CE1_CNT (p : Nat) : Fld := ⟨0x541000 + p * 0x100, 63, 0⟩
def SPAD_CE2_CNT (p : Nat) : Fld := ⟨0x541000 + p * 0x100 + 0x8, 63, 0⟩
def SPAD_UE_CNT (p : Nat) : Fld := ⟨0x541000 + p * 0x100 + 0x10, 63, 0⟩
def SPAD_LAST_UE_ADDR (p : Nat) : Fld := ⟨0x541000 + p * 0x100 + 0x18, 63, 0⟩
def SPAD_SCRUB_PASSES (p : Nat) : Fld := ⟨0x541000 + p * 0x100 + 0x20, 63, 0⟩
def SPAD_STAGE_BYTES (p : Nat) : Fld := ⟨0x541000 + p * 0x100 + 0x28, 63, 0⟩
def SPAD_STAGE_USED (p : Nat) : Fld := ⟨0x541000 + p * 0x100 + 0x30, 31, 0⟩
def SPAD_FREE (p : Nat) : Fld := ⟨0x541000 + p * 0x100 + 0x38, 31, 0⟩

/-! ### R232 -/
def TAILOR_CFG_ENABLE : Fld := ⟨0x580000, 31, 31⟩
def TREQ_LOG2 : Fld := ⟨0x580000, 8, 4⟩
def PROMOTE_EN : Fld := ⟨0x580000, 3, 3⟩
def SPILL_EVENT : Fld := ⟨0x580000, 2, 2⟩

/-! ### R233 -/
def TAILOR_STATUS_CFG_WHILE_ENABLED : Fld := ⟨0x580004, 31, 31⟩
def TREQ_ERR : Fld := ⟨0x580004, 30, 28⟩
def TAILOR_STATUS_CFG_WE_COUNT : Fld := ⟨0x580004, 15, 0⟩
def TREQ_BASE : Fld := ⟨0x580008, 51, 0⟩
def TREC_BASE : Fld := ⟨0x580010, 51, 0⟩
def TREQ_HEAD : Fld := ⟨0x580018, 31, 16⟩
def TREQ_TAIL : Fld := ⟨0x580018, 15, 0⟩
def TREQ_TAIL_DB_REG : Fld := ⟨0x580020, 15, 0⟩
def SPILL_HBM_CNT : Fld := ⟨0x580100, 63, 0⟩
def SPILL_PEER_CNT : Fld := ⟨0x580108, 63, 0⟩
def SPILL_HOST_CNT : Fld := ⟨0x580110, 63, 0⟩
def SPILL_BYTES : Fld := ⟨0x580118, 63, 0⟩
def EVICT_CNT : Fld := ⟨0x580120, 63, 0⟩
def PROMOTE_CNT : Fld := ⟨0x580128, 63, 0⟩
def MIGRATE_BYTES : Fld := ⟨0x580130, 63, 0⟩
def PENDING_NOW : Fld := ⟨0x580138, 16, 0⟩

/-! ### R262 -/
def MEM_CFG_ENABLE : Fld := ⟨0x5C0000, 31, 31⟩
def AUTO_RETRAIN : Fld := ⟨0x5C0000, 30, 30⟩
def AUTO_MAPOUT : Fld := ⟨0x5C0000, 29, 29⟩
def MEM_CFG_CORR_WB : Fld := ⟨0x5C0000, 28, 28⟩
def DARN_AGE : Fld := ⟨0x5C0000, 15, 4⟩
def SCRUB_LOG2 : Fld := ⟨0x5C0000, 3, 0⟩

/-! ### R263 -/
def MEM_STATUS_CFG_WHILE_ENABLED : Fld := ⟨0x5C0004, 31, 31⟩
def MEM_STATUS_CFG_WE_COUNT : Fld := ⟨0x5C0004, 15, 0⟩
def UE_MAPOUT_THRESH : Fld := ⟨0x5C0008, 23, 16⟩
def TEMP_RETRAIN : Fld := ⟨0x5C0008, 15, 8⟩
def CE_RETRAIN_THRESH : Fld := ⟨0x5C0008, 7, 0⟩

/-! ### R264 -/
def STK_STATE (s : Nat) : Fld := ⟨0x5C1000 + s * 0x1000, 31, 28⟩
def STK_RETRAINING (s : Nat) : Fld := ⟨0x5C1000 + s * 0x1000, 27, 27⟩
def STK_RETRAIN_CH (s : Nat) : Fld := ⟨0x5C1000 + s * 0x1000, 26, 22⟩
def N_ACTIVE (s : Nat) : Fld := ⟨0x5C1000 + s * 0x1000, 21, 16⟩
def MAPOUT_CH (s : Nat) : Fld := ⟨0x5C1000 + s * 0x1000, 4, 0⟩
def STK_MAPOUT (s : Nat) : Fld := ⟨0x5C1000 + s * 0x1000 + 0x4, 31, 0⟩
def STK_SIZE (s : Nat) : Fld := ⟨0x5C1000 + s * 0x1000 + 0x8, 36, 0⟩
def RELAYOUT_W (s : Nat) : Fld := ⟨0x5C1000 + s * 0x1000 + 0x10, 19, 0⟩
def DARN_USED (s : Nat) : Fld := ⟨0x5C1000 + s * 0x1000 + 0x18, 26, 16⟩
def TAGS_USED (s : Nat) : Fld := ⟨0x5C1000 + s * 0x1000 + 0x18, 13, 0⟩
def STK_CE1_CNT (s : Nat) : Fld := ⟨0x5C1000 + s * 0x1000 + 0x20, 63, 0⟩
def STK_CE2_CNT (s : Nat) : Fld := ⟨0x5C1000 + s * 0x1000 + 0x28, 63, 0⟩
def STK_UE_CNT (s : Nat) : Fld := ⟨0x5C1000 + s * 0x1000 + 0x30, 63, 0⟩
def STK_LAST_UE_ADDR (s : Nat) : Fld := ⟨0x5C1000 + s * 0x1000 + 0x38, 63, 0⟩
def STK_POISON_READS (s : Nat) : Fld := ⟨0x5C1000 + s * 0x1000 + 0x40, 63, 0⟩
def DARN_MERGES (s : Nat) : Fld := ⟨0x5C1000 + s * 0x1000 + 0x48, 63, 0⟩
def DARN_RMW (s : Nat) : Fld := ⟨0x5C1000 + s * 0x1000 + 0x50, 63, 0⟩
def STK_SCRUB_PASSES (s : Nat) : Fld := ⟨0x5C1000 + s * 0x1000 + 0x58, 63, 0⟩

/-! ### R265 -/
def CH_STATE (s c : Nat) : Fld := ⟨0x5C1800 + s * 0x1000 + c * 0x40, 31, 29⟩
def CH_RECOMMEND (s c : Nat) : Fld := ⟨0x5C1800 + s * 0x1000 + c * 0x40, 28, 28⟩
def RETRAIN_FAILS (s c : Nat) : Fld := ⟨0x5C1800 + s * 0x1000 + c * 0x40, 27, 24⟩
def CH_TAGS (s c : Nat) : Fld := ⟨0x5C1800 + s * 0x1000 + c * 0x40, 10, 0⟩
def CH_CE1_CNT (s c : Nat) : Fld := ⟨0x5C1800 + s * 0x1000 + c * 0x40 + 0x8, 63, 0⟩
def CH_CE2_CNT (s c : Nat) : Fld := ⟨0x5C1800 + s * 0x1000 + c * 0x40 + 0x10, 63, 0⟩
def CH_UE_CNT (s c : Nat) : Fld := ⟨0x5C1800 + s * 0x1000 + c * 0x40 + 0x18, 63, 0⟩
def CH_RETRAIN_CNT (s c : Nat) : Fld := ⟨0x5C1800 + s * 0x1000 + c * 0x40 + 0x20, 63, 0⟩
def CH_HOLD_CYC (s c : Nat) : Fld := ⟨0x5C1800 + s * 0x1000 + c * 0x40 + 0x28, 63, 0⟩
def CH_TRAIN_TEMP (s c : Nat) : Fld := ⟨0x5C1800 + s * 0x1000 + c * 0x40 + 0x30, 7, 0⟩

/-! ### R300 -/
def XLATE_CFG_ENABLE : Fld := ⟨0x600000, 31, 31⟩
def STALE_MODE : Fld := ⟨0x600000, 4, 4⟩
def RA_EN : Fld := ⟨0x600000, 3, 3⟩
def FLT_IRQ_EN : Fld := ⟨0x600000, 2, 2⟩

/-! ### R301 -/
def XLATE_STATUS_CFG_WHILE_ENABLED : Fld := ⟨0x600004, 31, 31⟩
def FLT_HELD : Fld := ⟨0x600004, 30, 30⟩
def INVAL_BUSY : Fld := ⟨0x600004, 29, 29⟩
def FLT_OPEN : Fld := ⟨0x600004, 26, 16⟩
def XLATE_STATUS_CFG_WE_COUNT : Fld := ⟨0x600004, 15, 0⟩
def MMU_ROOT : Fld := ⟨0x600008, 51, 13⟩
def CSA_BASE : Fld := ⟨0x600010, 51, 16⟩
def FLT_BASE : Fld := ⟨0x600018, 51, 12⟩
def FLT_LOG2 : Fld := ⟨0x600020, 20, 16⟩
def FLT_TMO : Fld := ⟨0x600020, 15, 0⟩
def FLT_TAIL : Fld := ⟨0x600028, 31, 16⟩
def FLT_HEAD : Fld := ⟨0x600028, 15, 0⟩
def FLT_HEAD_DB_REG : Fld := ⟨0x60002C, 15, 0⟩
def SQ_TAIL_DB_REG (q : Nat) : Fld := ⟨0x500000 + q * 0x1000, 31, 0⟩
def CQ_HEAD_DB_REG (q : Nat) : Fld := ⟨0x500004 + q * 0x1000, 31, 0⟩
def XLATE_INVAL_REG : Fld := ⟨0x600038, 63, 0⟩
def FLT_RESP_ACTION : Fld := ⟨0x600030, 31, 30⟩
def FAULT_ID : Fld := ⟨0x600030, 15, 0⟩
def FLT_RESP_RESULT : Fld := ⟨0x600034, 31, 30⟩
def RESP_ID : Fld := ⟨0x600034, 15, 0⟩
def INVAL_ALL : Fld := ⟨0x600038, 63, 63⟩
def VA_PAGE : Fld := ⟨0x600038, 51, 16⟩
def INVAL_LEN : Fld := ⟨0x600040, 31, 0⟩
def FLT_POSTED : Fld := ⟨0x600100, 63, 0⟩
def FLT_JOINED : Fld := ⟨0x600108, 63, 0⟩
def FLT_CANCELLED : Fld := ⟨0x600110, 63, 0⟩
def ATS_REQS : Fld := ⟨0x600118, 63, 0⟩
def PRI_REQS : Fld := ⟨0x600120, 63, 0⟩
def PRI_FAILS : Fld := ⟨0x600128, 63, 0⟩
def ATS_INVALS : Fld := ⟨0x600130, 63, 0⟩

/-! ### R302 -/
def PTC_LOOKUPS (p : Nat) : Fld := ⟨0x601000 + p * 0x100, 63, 0⟩
def PTC_MISSES (p : Nat) : Fld := ⟨0x601000 + p * 0x100 + 0x8, 63, 0⟩
def RA_BYTES (p : Nat) : Fld := ⟨0x601000 + p * 0x100 + 0x10, 63, 0⟩
def RA_DROPPED (p : Nat) : Fld := ⟨0x601000 + p * 0x100 + 0x18, 63, 0⟩
def STALE_MARKS (p : Nat) : Fld := ⟨0x601000 + p * 0x100 + 0x20, 63, 0⟩
def STALE_REFETCH (p : Nat) : Fld := ⟨0x601000 + p * 0x100 + 0x28, 63, 0⟩
def WIN_USED (p : Nat) : Fld := ⟨0x601000 + p * 0x100 + 0x30, 8, 0⟩

/-! ### R303 -/
def DMA_STATE (d : Nat) : Fld := ⟨0x602000 + d * 0x100, 31, 28⟩
def ACTIVE_JOBS (d : Nat) : Fld := ⟨0x602000 + d * 0x100, 27, 25⟩
def DMA_PARKED (d : Nat) : Fld := ⟨0x602000 + d * 0x100, 24, 21⟩
def DMA_CHUNKS (d : Nat) : Fld := ⟨0x602000 + d * 0x100, 20, 16⟩
def JOB_VALID (d j : Nat) : Fld := ⟨0x602000 + d * 0x100 + 0x20 + j * 0x20, 63, 63⟩
def JOB_KIND (d j : Nat) : Fld := ⟨0x602000 + d * 0x100 + 0x20 + j * 0x20, 62, 60⟩
def JOB_CTX (d j : Nat) : Fld := ⟨0x602000 + d * 0x100 + 0x20 + j * 0x20, 59, 51⟩
def JOB_INDEX (d j : Nat) : Fld := ⟨0x602000 + d * 0x100 + 0x20 + j * 0x20, 31, 0⟩
def DMA_CURSOR (d j : Nat) : Fld := ⟨0x602000 + d * 0x100 + 0x28 + j * 0x20, 63, 0⟩
def JOB_SRC (d j : Nat) : Fld := ⟨0x602000 + d * 0x100 + 0x30 + j * 0x20, 63, 0⟩
def JOB_DST (d j : Nat) : Fld := ⟨0x602000 + d * 0x100 + 0x38 + j * 0x20, 63, 0⟩
def DMA_BYTES_RD (d : Nat) : Fld := ⟨0x602000 + d * 0x100 + 0xA0, 63, 0⟩
def DMA_BYTES_WR (d : Nat) : Fld := ⟨0x602000 + d * 0x100 + 0xA8, 63, 0⟩
def DTC_MISSES (d : Nat) : Fld := ⟨0x602000 + d * 0x100 + 0xB0, 63, 0⟩
def DMA_FAULTS (d : Nat) : Fld := ⟨0x602000 + d * 0x100 + 0xB8, 63, 0⟩

/-! ### R331 -/
def OPT_CFG_ENABLE : Fld := ⟨0x640000, 31, 31⟩
def CAL_EN : Fld := ⟨0x640000, 30, 30⟩
def AUTO_SPARE : Fld := ⟨0x640000, 29, 29⟩
def CAL_INTERVAL : Fld := ⟨0x640000, 7, 0⟩
def OPT_STATUS_CFG_WHILE_ENABLED : Fld := ⟨0x640004, 31, 31⟩
def OPT_STATUS_CFG_WE_COUNT : Fld := ⟨0x640004, 15, 0⟩
def ACK_TMO : Fld := ⟨0x640008, 31, 24⟩
def RETRY_LIMIT : Fld := ⟨0x640008, 23, 16⟩
def RETRAIN_TMO : Fld := ⟨0x640008, 15, 0⟩

/-! ### R332 -/
def EYE_STATE (e : Nat) : Fld := ⟨0x641000 + e * 0x1000, 31, 30⟩
def SPARES_FREE (e : Nat) : Fld := ⟨0x641000 + e * 0x1000, 29, 27⟩
def SWITCH_BUSY (e : Nat) : Fld := ⟨0x641000 + e * 0x1000, 26, 26⟩
def CAL_NEXT (e : Nat) : Fld := ⟨0x641000 + e * 0x1000, 25, 21⟩
def PATH_TRAINED (e : Nat) : Fld := ⟨0x641000 + e * 0x1000, 11, 0⟩
def CAL_SLOTS (e : Nat) : Fld := ⟨0x641000 + e * 0x1000 + 0x8, 63, 0⟩
def CAL_SKIPS (e : Nat) : Fld := ⟨0x641000 + e * 0x1000 + 0x10, 63, 0⟩
def CAL_ABORTS (e : Nat) : Fld := ⟨0x641000 + e * 0x1000 + 0x18, 63, 0⟩
def SPARE_SWITCHES (e : Nat) : Fld := ⟨0x641000 + e * 0x1000 + 0x20, 63, 0⟩
def RETHREAD_SLOW (e : Nat) : Fld := ⟨0x641000 + e * 0x1000 + 0x28, 63, 0⟩

/-! ### R333 -/
def LSTATE (e l : Nat) : Fld := ⟨0x641100 + e * 0x1000 + l * 8, 63, 61⟩
def LAS_LINK (e l : Nat) : Fld := ⟨0x641100 + e * 0x1000 + l * 8, 60, 58⟩
def LAS_LANE (e l : Nat) : Fld := ⟨0x641100 + e * 0x1000 + l * 8, 57, 56⟩
def LAS_SLOT (e l : Nat) : Fld := ⟨0x641100 + e * 0x1000 + l * 8, 55, 53⟩
def LAS_WARN (e l : Nat) : Fld := ⟨0x641100 + e * 0x1000 + l * 8, 52, 52⟩
def LAS_FADE (e l : Nat) : Fld := ⟨0x641100 + e * 0x1000 + l * 8, 47, 32⟩
def LAS_BASELINE (e l : Nat) : Fld := ⟨0x641100 + e * 0x1000 + l * 8, 31, 16⟩
def LAS_POWER (e l : Nat) : Fld := ⟨0x641100 + e * 0x1000 + l * 8, 15, 0⟩

/-! ### R334 -/
def LINK_EN (l : Nat) : Fld := ⟨0x641400 + l / 8 * 0x1000 + l % 8 * 0x80, 31, 31⟩
def LNK_OP (l : Nat) : Fld := ⟨0x641400 + l / 8 * 0x1000 + l % 8 * 0x80 + 0x4, 31, 28⟩
def LNK_PORT (l : Nat) : Fld := ⟨0x641400 + l / 8 * 0x1000 + l % 8 * 0x80 + 0x4, 27, 24⟩
def LNK_LANE (l : Nat) : Fld := ⟨0x641400 + l / 8 * 0x1000 + l % 8 * 0x80 + 0x4, 23, 22⟩
def LNK_STATE (l : Nat) : Fld := ⟨0x641400 + l / 8 * 0x1000 + l % 8 * 0x80 + 0x8, 31, 28⟩
def LNK_WIDTH (l : Nat) : Fld := ⟨0x641400 + l / 8 * 0x1000 + l % 8 * 0x80 + 0x8, 27, 25⟩
def LNK_LANE_MASK (l : Nat) : Fld := ⟨0x641400 + l / 8 * 0x1000 + l % 8 * 0x80 + 0x8, 24, 21⟩
def CAL_ACTIVE (l : Nat) : Fld := ⟨0x641400 + l / 8 * 0x1000 + l % 8 * 0x80 + 0x8, 20, 20⟩
def LNK_SWITCHOVER (l : Nat) : Fld := ⟨0x641400 + l / 8 * 0x1000 + l % 8 * 0x80 + 0x8, 19, 19⟩
def LNK_CUR_PORT (l : Nat) : Fld := ⟨0x641400 + l / 8 * 0x1000 + l % 8 * 0x80 + 0x8, 15, 12⟩
def LNK_CMD_ERR (l : Nat) : Fld := ⟨0x641400 + l / 8 * 0x1000 + l % 8 * 0x80 + 0xC, 31, 31⟩
def LNK_PEER_CHIP (l : Nat) : Fld := ⟨0x641400 + l / 8 * 0x1000 + l % 8 * 0x80 + 0xC, 15, 0⟩
def LNK_LANE_MAP (l : Nat) : Fld := ⟨0x641400 + l / 8 * 0x1000 + l % 8 * 0x80 + 0x10, 63, 0⟩
def RX_MARGIN (l : Nat) : Fld := ⟨0x641400 + l / 8 * 0x1000 + l % 8 * 0x80 + 0x18, 39, 0⟩
def TX_MARGIN (l : Nat) : Fld := ⟨0x641400 + l / 8 * 0x1000 + l % 8 * 0x80 + 0x20, 31, 0⟩
def FRAMES_TX (l : Nat) : Fld := ⟨0x641400 + l / 8 * 0x1000 + l % 8 * 0x80 + 0x28, 63, 0⟩
def FRAMES_RX (l : Nat) : Fld := ⟨0x641400 + l / 8 * 0x1000 + l % 8 * 0x80 + 0x30, 63, 0⟩
def FEC_CORR (l : Nat) : Fld := ⟨0x641400 + l / 8 * 0x1000 + l % 8 * 0x80 + 0x38, 63, 0⟩
def FEC_UNCORR (l : Nat) : Fld := ⟨0x641400 + l / 8 * 0x1000 + l % 8 * 0x80 + 0x40, 63, 0⟩
def CRC_ERR (l : Nat) : Fld := ⟨0x641400 + l / 8 * 0x1000 + l % 8 * 0x80 + 0x48, 63, 0⟩
def REPLAYS (l : Nat) : Fld := ⟨0x641400 + l / 8 * 0x1000 + l % 8 * 0x80 + 0x50, 63, 0⟩
def RETRAINS (l : Nat) : Fld := ⟨0x641400 + l / 8 * 0x1000 + l % 8 * 0x80 + 0x58, 63, 0⟩
def RETHREADS (l : Nat) : Fld := ⟨0x641400 + l / 8 * 0x1000 + l % 8 * 0x80 + 0x60, 63, 0⟩
def LANE_DROPS (l : Nat) : Fld := ⟨0x641400 + l / 8 * 0x1000 + l % 8 * 0x80 + 0x68, 63, 0⟩
def DOWN_CYC (l : Nat) : Fld := ⟨0x641400 + l / 8 * 0x1000 + l % 8 * 0x80 + 0x70, 63, 0⟩

/-! ### R366 -/
def TOPO_CFG_ENABLE : Fld := ⟨0x680000, 31, 31⟩
def KA_EN : Fld := ⟨0x680000, 30, 30⟩
def STRAG_FRAC : Fld := ⟨0x680000, 15, 8⟩
def STRAG_N : Fld := ⟨0x680000, 7, 0⟩

/-! ### R367 -/
def TOPO_STATUS_CFG_WHILE_ENABLED : Fld := ⟨0x680004, 31, 31⟩
def TOPO_STATE : Fld := ⟨0x680004, 30, 28⟩
def TOPO_STATUS_CFG_WE_COUNT : Fld := ⟨0x680004, 15, 0⟩
def TOPO_VALID : Fld := ⟨0x680008, 31, 31⟩
def TOPO_POD : Fld := ⟨0x680008, 14, 10⟩
def TOPO_BOARD : Fld := ⟨0x680008, 9, 4⟩
def TOPO_SLOT : Fld := ⟨0x680008, 3, 0⟩
def KA_MISSES : Fld := ⟨0x68000C, 31, 24⟩
def PEER_TMO : Fld := ⟨0x68000C, 15, 0⟩
def IS_SPARE : Fld := ⟨0x680010, 31, 31⟩
def MY_RANK : Fld := ⟨0x680010, 15, 0⟩
def YELYEL_VER_major : Fld := ⟨0x680014, 15, 8⟩
def YELYEL_VER_minor : Fld := ⟨0x680014, 7, 0⟩
def FWD_DROP : Fld := ⟨0x680040, 63, 0⟩

/-! ### R368 -/
def DISC_OUT (l : Nat) : Fld := ⟨0x681000 + l * 0x40, 31, 28⟩
def DISC_REASON (l : Nat) : Fld := ⟨0x681000 + l * 0x40, 27, 24⟩
def PLINK (l : Nat) : Fld := ⟨0x681000 + l * 0x40, 23, 18⟩
def FAR_CHIP (l : Nat) : Fld := ⟨0x681000 + l * 0x40, 15, 0⟩
def FAR_LINK (l : Nat) : Fld := ⟨0x681000 + l * 0x40 + 0x4, 31, 26⟩
def FAR_PLINK (l : Nat) : Fld := ⟨0x681000 + l * 0x40 + 0x4, 25, 20⟩
def FAR_FPORT (l : Nat) : Fld := ⟨0x681000 + l * 0x40 + 0x4, 19, 16⟩
def RUN_MINOR (l : Nat) : Fld := ⟨0x681000 + l * 0x40 + 0x4, 15, 8⟩
def FAR_MAJOR (l : Nat) : Fld := ⟨0x681000 + l * 0x40 + 0x4, 7, 0⟩
def LATE_RUN (l : Nat) : Fld := ⟨0x681000 + l * 0x40 + 0x8, 15, 0⟩
def SKEW_LAST (l : Nat) : Fld := ⟨0x681000 + l * 0x40 + 0x10, 63, 0⟩
def SKEW_MAX (l : Nat) : Fld := ⟨0x681000 + l * 0x40 + 0x18, 63, 0⟩
def SKEW_SUM (l : Nat) : Fld := ⟨0x681000 + l * 0x40 + 0x20, 63, 0⟩
def COLL_MEASURED (l : Nat) : Fld := ⟨0x681000 + l * 0x40 + 0x28, 63, 0⟩
def KA_RX (l : Nat) : Fld := ⟨0x681000 + l * 0x40 + 0x30, 63, 0⟩
def FWD_FRAMES (l : Nat) : Fld := ⟨0x681000 + l * 0x40 + 0x38, 63, 0⟩

/-! ### R369 -/
def SEAM_COLLS (s : Nat) : Fld := ⟨0x683000 + s * 0x100, 63, 0⟩
def SEAM_FAILS (s : Nat) : Fld := ⟨0x683000 + s * 0x100 + 0x8, 63, 0⟩
def SEAM_BYTES_TX (s : Nat) : Fld := ⟨0x683000 + s * 0x100 + 0x10, 63, 0⟩
def SEAM_BYTES_RX (s : Nat) : Fld := ⟨0x683000 + s * 0x100 + 0x18, 63, 0⟩
def SEAM_DUPS (s : Nat) : Fld := ⟨0x683000 + s * 0x100 + 0x20, 63, 0⟩

/-! ### R389 -/
def TRAIN_CFG_ENABLE : Fld := ⟨0x700000, 31, 31⟩
def RELAX_CLR_TRG : Fld := ⟨0x700000, 3, 3⟩
def BIND_EN : Fld := ⟨0x700000, 2, 2⟩
def ABSENT_SCAN_EN : Fld := ⟨0x700000, 1, 1⟩
def STARVE_EVT : Fld := ⟨0x700000, 0, 0⟩

/-! ### R390 -/
def TRAIN_STATUS_CFG_WHILE_ENABLED : Fld := ⟨0x700004, 31, 31⟩
def SKEWED : Fld := ⟨0x700004, 30, 30⟩
def TRAIN_STATUS_CFG_WE_COUNT : Fld := ⟨0x700004, 15, 0⟩
def STREAM_SALT : Fld := ⟨0x700020, 31, 0⟩
def STEP_BASE : Fld := ⟨0x700024, 31, 0⟩
def CURSOR_PER_STEP : Fld := ⟨0x700028, 31, 0⟩
def CURSOR_BASE : Fld := ⟨0x700030, 63, 0⟩
def DATA_CURSOR : Fld := ⟨0x700038, 63, 0⟩
def MARK_STEP : Fld := ⟨0x700040, 31, 0⟩
def CHERVIL_STEP : Fld := ⟨0x700044, 31, 0⟩
def MARK_CURSOR : Fld := ⟨0x700048, 63, 0⟩
def BIND_CHECK : Fld := ⟨0x700050, 31, 0⟩
def SKEW_DELTA : Fld := ⟨0x700058, 63, 0⟩
def GRAD_STARVE_CNT : Fld := ⟨0x700100, 63, 0⟩
def UF_TRIP_CNT : Fld := ⟨0x700108, 63, 0⟩
def ABSENT_CNT : Fld := ⟨0x700110, 63, 0⟩
def CURSOR_SKEW_CNT : Fld := ⟨0x700118, 63, 0⟩
def WATCH_RELAX_CNT : Fld := ⟨0x700120, 63, 0⟩
def RELAX_EPOCH : Fld := ⟨0x700128, 63, 0⟩
def STARVE_N_MAX : Fld := ⟨0x700130, 15, 0⟩

/-! ### R419 -/
def BAST_CFG_ENABLE : Fld := ⟨0x740000, 31, 31⟩
def REALIGN_DEF : Fld := ⟨0x740000, 30, 30⟩
def LINING_FRAC : Fld := ⟨0x740000, 29, 28⟩
def SNAP_EVT : Fld := ⟨0x740000, 0, 0⟩

/-! ### R420 -/
def BAST_STATUS_CFG_WHILE_ENABLED : Fld := ⟨0x740004, 31, 31⟩
def BAST_STATE : Fld := ⟨0x740004, 30, 28⟩
def LAST_ABORT : Fld := ⟨0x740004, 27, 24⟩
def BAST_STATUS_CFG_WE_COUNT : Fld := ⟨0x740004, 15, 0⟩
def SET_BASE : Fld := ⟨0x740008, 51, 0⟩
def BUDDY_VALID : Fld := ⟨0x740010, 31, 31⟩
def BUDDY_FRAC : Fld := ⟨0x740010, 29, 28⟩
def BUDDY_CHIP : Fld := ⟨0x740010, 15, 0⟩
def GUEST_VALID : Fld := ⟨0x740014, 31, 31⟩
def SUCC_VALID : Fld := ⟨0x740014, 30, 30⟩
def GUEST_CHIP : Fld := ⟨0x740014, 15, 0⟩
def SUCC_CHIP : Fld := ⟨0x740018, 15, 0⟩
def KEEP_EPOCH : Fld := ⟨0x740020, 63, 0⟩
def RESTORE_STATUS : Fld := ⟨0x740080, 31, 24⟩
def RESTORE_CAUSE : Fld := ⟨0x740080, 23, 16⟩
def RESTORE_ENTRY : Fld := ⟨0x740080, 15, 0⟩
def RESTORE_EPOCH : Fld := ⟨0x740088, 63, 0⟩

/-! ### R422 -/
def SLOT_STATE (i : Nat) : Fld := ⟨0x740040 + i * 0x10, 31, 30⟩
def SLOT_SETID (i : Nat) : Fld := ⟨0x740040 + i * 0x10, 15, 0⟩
def SLOT_EPOCH (i : Nat) : Fld := ⟨0x740040 + i * 0x10 + 0x8, 63, 0⟩

/-! ### R423 -/
def SNAP_DONE_CNT : Fld := ⟨0x740200, 63, 0⟩
def SNAP_ABORT_CNT : Fld := ⟨0x740208, 63, 0⟩
def SNAP_BYTES : Fld := ⟨0x740210, 63, 0⟩
def HOLD_WRITES : Fld := ⟨0x740218, 63, 0⟩
def HOLD_CYC : Fld := ⟨0x740220, 63, 0⟩
def RESTORE_CNT : Fld := ⟨0x740228, 63, 0⟩
def RESTORE_FAIL_CNT : Fld := ⟨0x740230, 63, 0⟩
def VERIFY_MISMATCH_CNT : Fld := ⟨0x740238, 63, 0⟩

/-! ### R429 -/
def MB_OP (c : Nat) : Fld := ⟨0x781000 + c * 0x10, 31, 30⟩
def RX_POWERED (c : Nat) : Fld := ⟨0x781000 + c * 0x10 + 0x4, 31, 31⟩
def WAKING (c : Nat) : Fld := ⟨0x781000 + c * 0x10 + 0x4, 30, 30⟩
def MB_ASTATE (c : Nat) : Fld := ⟨0x781000 + c * 0x10 + 0x4, 29, 28⟩
def MB_OVERRUN (c : Nat) : Fld := ⟨0x781000 + c * 0x10 + 0x4, 27, 27⟩
def MB_DROPPED (c : Nat) : Fld := ⟨0x781000 + c * 0x10 + 0x4, 26, 26⟩
def MB_SESSION (c : Nat) : Fld := ⟨0x781000 + c * 0x10 + 0x4, 25, 25⟩
def ACK_SEQ (c : Nat) : Fld := ⟨0x781000 + c * 0x10 + 0x8, 31, 16⟩
def MB_RC (c : Nat) : Fld := ⟨0x781000 + c * 0x10 + 0x8, 15, 0⟩
def MB_CMDS (c : Nat) : Fld := ⟨0x781000 + c * 0x10 + 0xC, 31, 0⟩

/-! ### R461 -/
def RING_EN : Fld := ⟨0x782000, 31, 31⟩
def RING_FULL : Fld := ⟨0x782000, 30, 30⟩
def EVT_LOST : Fld := ⟨0x782000, 29, 29⟩
def RING_LOG2 : Fld := ⟨0x782000, 4, 0⟩
def EVT_SEQ : Fld := ⟨0x782004, 31, 0⟩
def EVT_TAIL : Fld := ⟨0x782008, 31, 16⟩
def EVT_HEAD : Fld := ⟨0x782008, 15, 0⟩
def EVT_HEAD_DB_REG : Fld := ⟨0x78200C, 15, 0⟩
def EVT_LOST_CNT : Fld := ⟨0x782010, 63, 0⟩
def MB_DROP_CNT : Fld := ⟨0x782018, 63, 0⟩
def MB_IRQ_EN : Fld := ⟨0x782020, 31, 31⟩

/-! ### R488 -/
def SEC_OWNED : Fld := ⟨0x7C0000, 31, 31⟩
def SEC_RECOVERY : Fld := ⟨0x7C0000, 30, 30⟩
def CERT_MISMATCH : Fld := ⟨0x7C0000, 29, 29⟩
def THIMBLE_SLOT : Fld := ⟨0x7C0000, 27, 26⟩
def SAGE_SLOT : Fld := ⟨0x7C0000, 25, 24⟩
def EYELET_SLOT : Fld := ⟨0x7C0000, 23, 22⟩
def GUSSET_SLOT : Fld := ⟨0x7C0000, 21, 20⟩
def PUF_TRIES : Fld := ⟨0x7C0000, 19, 16⟩
def CFG_BAD_KEYS : Fld := ⟨0x7C0000, 15, 8⟩
def SEC_SESSIONS : Fld := ⟨0x7C0000, 2, 0⟩
def SVN_CTR : Fld := ⟨0x7C0004, 31, 0⟩
def CFG_GEN : Fld := ⟨0x7C0008, 31, 0⟩
def OWNER_GEN : Fld := ⟨0x7C000C, 31, 0⟩
def KEY_FLOOR : Fld := ⟨0x7C0010, 31, 0⟩
def BOOT_ID : Fld := ⟨0x7C0018, 63, 0⟩

/-! ### R509 -/
def ROOT_LOCK : Fld := ⟨0x800000, 31, 31⟩
def VIN_WARN : Fld := ⟨0x800000, 30, 30⟩
def THERMTRIP_LATCH : Fld := ⟨0x800000, 29, 29⟩
def ARRAY_DIV : Fld := ⟨0x800000, 28, 24⟩
def VEC_DIV : Fld := ⟨0x800000, 20, 16⟩
def CAP_DIV : Fld := ⟨0x800000, 12, 8⟩
def SNAP_PENDING : Fld := ⟨0x800000, 7, 7⟩
def SAGE_CAUSE : Fld := ⟨0x800000, 3, 0⟩
def RESET_CAUSE : Fld := ⟨0x800004, 3, 0⟩
def VIN_MV : Fld := ⟨0x800008, 31, 0⟩
def IIN_MA : Fld := ⟨0x80000C, 31, 0⟩
def TJ_MAX : Fld := ⟨0x800010, 31, 16⟩
def PIN_AVG_W : Fld := ⟨0x800010, 15, 0⟩
def SENSOR_FAIL : Fld := ⟨0x800018, 63, 0⟩
def PIN_CHATTER_BITS : Fld := ⟨0x800020, 20, 16⟩
def PIN_STUCK_BITS : Fld := ⟨0x800020, 12, 8⟩
def PIN_LEVEL : Fld := ⟨0x800020, 4, 0⟩

/-! ### R510 -/
def CYC_ARRAY : Fld := ⟨0x800040, 63, 0⟩
def CYC_VEC : Fld := ⟨0x800048, 63, 0⟩
def CYC_SPAD : Fld := ⟨0x800050, 63, 0⟩
def CYC_FAB : Fld := ⟨0x800058, 63, 0⟩
def CYC_MEM : Fld := ⟨0x800060, 63, 0⟩
def CYC_CTRL : Fld := ⟨0x800068, 63, 0⟩
def CYC_SAGE : Fld := ⟨0x800070, 63, 0⟩

/-! ### R511 -/
def SLOPE_STEPS : Fld := ⟨0x800300, 63, 0⟩
def THERMAL_STEPS : Fld := ⟨0x800308, 63, 0⟩
def POWER_STEPS : Fld := ⟨0x800310, 63, 0⟩
def VIN_WARN_CNT : Fld := ⟨0x800318, 63, 0⟩
def VIN_RESET_CNT : Fld := ⟨0x800320, 63, 0⟩
def PIN_STUCK_CNT : Fld := ⟨0x800328, 63, 0⟩
def PIN_CHATTER_CNT : Fld := ⟨0x800330, 63, 0⟩
def SNAP_REQ_CNT : Fld := ⟨0x800338, 63, 0⟩

/-! ### R534 -/
def LINK_UP : Fld := ⟨0x840000, 31, 31⟩
def PCIE_SPEED : Fld := ⟨0x840000, 30, 28⟩
def PCIE_WIDTH : Fld := ⟨0x840000, 27, 23⟩
def PCIE_FLIT : Fld := ⟨0x840000, 22, 22⟩
def DSTATE : Fld := ⟨0x840000, 21, 20⟩
def PCIE_L1 : Fld := ⟨0x840000, 19, 19⟩
def PCIE_ROOT : Fld := ⟨0x840000, 18, 18⟩
def IDE_SECURE : Fld := ⟨0x840000, 17, 17⟩
def PCIE_POISON_TX : Fld := ⟨0x840010, 63, 0⟩
def PCIE_POISON_RX : Fld := ⟨0x840018, 63, 0⟩
def PCIE_CA_SENT : Fld := ⟨0x840020, 63, 0⟩
def PCIE_CPL_TMO : Fld := ⟨0x840028, 63, 0⟩
def PCIE_LINK_DOWN_CNT : Fld := ⟨0x840030, 63, 0⟩
def PCIE_HOST_RESETS : Fld := ⟨0x840038, 63, 0⟩

/-! ### R548 -/
def GBL_VENDOR : Fld := ⟨0x0, 31, 16⟩
def GBL_DEVICE : Fld := ⟨0x0, 15, 0⟩
def GBL_STEPPING : Fld := ⟨0x4, 31, 24⟩
def GBL_PROFILE : Fld := ⟨0x4, 19, 16⟩
def ROINO_VER : Fld := ⟨0x4, 15, 8⟩
def MAP_VER : Fld := ⟨0x4, 7, 0⟩
def BLOCK_EN : Fld := ⟨0x8, 10, 0⟩
def GBL_DOMAINS : Fld := ⟨0xC, 29, 0⟩
def GBL_ERR_BITS : Fld := ⟨0x10, 12, 0⟩
def CFG_WE_QUEUE : Fld := ⟨0x14, 11, 11⟩
def CFG_WE_BLOCK : Fld := ⟨0x14, 10, 0⟩
def DRV_GEN : Fld := ⟨0x18, 63, 0⟩
def VOTE_CORRECTED : Fld := ⟨0x20, 31, 31⟩
def VOTE_LAST_OFFSET : Fld := ⟨0x24, 31, 0⟩
def VOTE_CORR_CNT : Fld := ⟨0x28, 63, 0⟩
def BUSERR_VALID : Fld := ⟨0x40, 31, 31⟩
def BUSERR_SOURCE : Fld := ⟨0x40, 30, 28⟩
def BUSERR_WRITE : Fld := ⟨0x40, 27, 27⟩
def BUSERR_REASON : Fld := ⟨0x40, 26, 24⟩
def BUSERR_SIZE : Fld := ⟨0x40, 3, 0⟩
def BUSERR_ADDR : Fld := ⟨0x44, 31, 0⟩
def BUSERR_CNT : Fld := ⟨0x48, 63, 0⟩
/-! ### Entries given as ranges in the tables -/
def JOB_KEY (i : Nat) : Fld := ⟨0x700010 + i * 4, 31, 0⟩
def BUDDY_BASE (s : Nat) : Fld := ⟨0x740100 + s * 8, 51, 0⟩
def SENSOR_SLOPE (i : Nat) : Fld := ⟨0x800100 + i * 4, 31, 16⟩
def SENSOR_TEMP (i : Nat) : Fld := ⟨0x800100 + i * 4, 15, 0⟩
def THRESH_VALUE (id : Nat) : Fld := ⟨0x800200 + id * 4, 15, 0⟩
def TOKEN (t : Nat) : Fld := ⟨0x488000 + t * 4, 31, 0⟩
def PEER_ENTRY (i : Nat) : Fld := ⟨0x6A0000 + i * 8, 63, 0⟩
def CHIP_MAP (chip : Nat) : Fld := ⟨0x6D0000 + chip / 4 * 8, 16 * (chip % 4) + 15, 16 * (chip % 4)⟩

/-! ### R551: Roino state readback -/
def HW_PCIE_BASE (w : Nat) : Fld := ⟨0x880000 + w * 0x10, 63, 0⟩
def HW_SIZE (w : Nat) : Fld := ⟨0x880008 + w * 0x10, 63, 0⟩
def PW_CHIP (w : Nat) : Fld := ⟨0x890000 + w * 0x20, 15, 0⟩
def PW_BASE (w : Nat) : Fld := ⟨0x890008 + w * 0x20, 63, 0⟩
def PW_SIZE (w : Nat) : Fld := ⟨0x890010 + w * 0x20, 63, 0⟩
def LEND_WR (i : Nat) : Fld := ⟨0x8B0000 + i * 0x20, 16, 16⟩
def LEND_CHIP (i : Nat) : Fld := ⟨0x8B0000 + i * 0x20, 15, 0⟩
def LEND_BASE (i : Nat) : Fld := ⟨0x8B0008 + i * 0x20, 63, 0⟩
def LEND_SIZE (i : Nat) : Fld := ⟨0x8B0010 + i * 0x20, 63, 0⟩
def REG_BASE (r : Nat) : Fld := ⟨0x8B4000 + r * 0x10, 63, 0⟩
def REG_SIZE (r : Nat) : Fld := ⟨0x8B4008 + r * 0x10, 63, 0⟩
def EVR_IRQ_EN : Fld := ⟨0x8B8000, 63, 63⟩
def EVR_BASE : Fld := ⟨0x8B8000, 51, 0⟩
def EVF_CLASS_MASK (sub : Nat) : Fld := ⟨0x8B8008 + sub * 8, 63, 32⟩
def EVF_MIN_SEV (sub : Nat) : Fld := ⟨0x8B8008 + sub * 8, 2, 0⟩
def NVME_VALID : Fld := ⟨0x8B9000, 63, 63⟩
def NVME_DEPTH_LOG2 : Fld := ⟨0x8B9000, 55, 48⟩
def NVME_QID : Fld := ⟨0x8B9000, 47, 32⟩
def NVME_NSID : Fld := ⟨0x8B9000, 31, 0⟩
/-- SQ_BASE, CQ_BASE, SQ_DB, CQ_DB, SLOT0_LBA, SLOT1_LBA, SLOT_BLOCKS, for i = 0 to 6. -/
def NVME_WORD (i : Nat) : Fld := ⟨0x8B9008 + i * 8, 63, 0⟩

/-! ### R525: MSI-X table (vector i) and pending bits -/
def MSIX_ADDR (i : Nat) : Fld := ⟨0x3F00000 + i * 0x10, 63, 0⟩
def MSIX_DATA (i : Nat) : Fld := ⟨0x3F00008 + i * 0x10, 31, 0⟩
def MSIX_MASK (i : Nat) : Fld := ⟨0x3F0000C + i * 0x10, 0, 0⟩
def MSIX_PBA (i : Nat) : Fld := ⟨0x3F80000 + i / 64 * 8, i % 64, i % 64⟩

end F

end Sys2Proof.Machine
end

