-- ==== Sys2Proof/Machine/RegMap.lean ====
section
/-!
DEFINITION. Machine/RegMap.lean: which addresses of the register block are implemented, and which bits of each register
software can write (R15, R546, R550), from the register tables of the chapters that R550 names.
-/

namespace Sys2Proof.Machine

/-- Registers base + i × s1 + j × s2 (i < n1, j < n2) of `w` bytes; masks of the RW and RV bits, the W1C bits, the RT bits and
the configuration fields; `own` is the ENABLE that owns the configuration fields, by its bit of R446, 11 for the queue's own,
12 for none, 13 for the mailbox buffers. -/
structure RegRow where
  base : Nat
  n1 : Nat
  s1 : Nat
  n2 : Nat
  s2 : Nat
  w : Nat
  rw : Nat
  w1c : Nat
  rt : Nat
  cfg : Nat
  own : Nat
  deriving DecidableEq, Repr

/-- Registers from 0x400000. -/
def regsArrays : List RegRow :=
  [
   ⟨0x400000, 1, 0, 1, 0, 4, 0x80000003, 0, 0, 3, 5⟩, -- R109 ARRAY_CFG_ENABLE
   ⟨0x400004, 1, 0, 1, 0, 4, 0, 0x80000000, 0, 0, 5⟩, -- R110 ARRAY_STATUS_CFG_WHILE_ENABLED
   ⟨0x401000, 192, 0x100, 1, 0, 8, 0, 0, 0, 0, 12⟩, -- R111 ARR_TILES
   ⟨0x401008, 192, 0x100, 1, 0, 8, 0, 0, 0, 0, 12⟩, -- R111 ARR_BUSY_CYC
   ⟨0x401010, 192, 0x100, 1, 0, 8, 0, 0, 0, 0, 12⟩, -- R111 ARR_MACS
   ⟨0x401018, 192, 0x100, 1, 0, 8, 0, 0, 0, 0, 12⟩, -- R111 ARR_FEED_GAP
   ⟨0x401020, 192, 0x100, 1, 0, 8, 0, 0, 0, 0, 12⟩, -- R111 ARR_LONGSUM_CNT
   ⟨0x401028, 192, 0x100, 1, 0, 8, 0, 0, 0, 0, 12⟩, -- R111 ARR_OVF_CNT
   ⟨0x401030, 192, 0x100, 1, 0, 8, 0, 0, 0, 0, 12⟩ -- R111 TAGS_HELD
  ]

/-- Registers from 0x440000. -/
def regsVec : List RegRow :=
  [
   ⟨0x440000, 1, 0, 1, 0, 4, 0x80000003, 0, 0, 3, 6⟩, -- R140 VEC_CFG_ENABLE
   ⟨0x440004, 1, 0, 1, 0, 4, 0, 0x80000000, 0, 0, 6⟩, -- R141 VEC_STATUS_CFG_WHILE_ENABLED
   ⟨0x441000, 64, 0x100, 1, 0, 8, 0, 0, 0, 0, 12⟩, -- R142 VEC_INSNS
   ⟨0x441008, 64, 0x100, 1, 0, 8, 0, 0, 0, 0, 12⟩, -- R142 VEC_BUSY_CYC
   ⟨0x441010, 64, 0x100, 1, 0, 8, 0, 0, 0, 0, 12⟩, -- R142 VEC_ELEMS
   ⟨0x441018, 64, 0x100, 1, 0, 8, 0, 0, 0, 0, 12⟩, -- R142 VEC_EMPTY_CNT
   ⟨0x441020, 64, 0x100, 1, 0, 8, 0, 0, 0, 0, 12⟩, -- R142 VEC_PLEAT_OVF_CNT
   ⟨0x441028, 64, 0x100, 1, 0, 8, 0, 0, 0, 0, 12⟩, -- R142 VEC_IDX_RANGE_CNT
   ⟨0x441030, 64, 0x100, 1, 0, 8, 0, 0, 0, 0, 12⟩ -- R142 VEC_POISON_CNT
  ]

/-- Registers from 0x480000. -/
def regsShuttle : List RegRow :=
  [
   ⟨0x480000, 1, 0, 1, 0, 4, 0x80000001, 0, 0, 1, 10⟩, -- R189 SHUTTLE_CFG_ENABLE
   ⟨0x480004, 1, 0, 1, 0, 4, 0, 0x80000000, 0, 0, 10⟩, -- R190 SHUTTLE_STATUS_CFG_WHILE_ENABLED
   ⟨0x480008, 1, 0, 1, 0, 8, 0xFFFFFFFFFFFFF, 0, 0, 0xFFFFFFFFFFFFF, 10⟩, -- R190 DESC_BASE
   ⟨0x480010, 1, 0, 1, 0, 8, 0, 0, 0, 0, 10⟩, -- R190 TAPE_BASE
   ⟨0x480018, 1, 0, 1, 0, 8, 0, 0, 0, 0, 10⟩, -- R190 SHUTTLE_EPOCH
   ⟨0x480100, 8, 4, 1, 0, 4, 0x800003FF, 0, 0, 0x800003FF, 10⟩, -- R191 VSTAGE_EN
   ⟨0x481000, 64, 0x40, 1, 0, 4, 0xFF8FFFFF, 0, 0, 0x7F8FFFFF, 11⟩, -- R192 Q_ENABLE
   ⟨0x481008, 64, 0x40, 1, 0, 8, 0xFFFFFFFFFFFFF, 0, 0, 0xFFFFFFFFFFFFF, 11⟩, -- R192 Q_SQ_BASE
   ⟨0x481010, 64, 0x40, 1, 0, 8, 0xFFFFFFFFFFFFF, 0, 0, 0xFFFFFFFFFFFFF, 11⟩, -- R192 Q_CQ_BASE
   ⟨0x481018, 64, 0x40, 1, 0, 8, 0, 0, 0, 0, 11⟩, -- R192 Q_CQ_HEAD
   ⟨0x481020, 64, 0x40, 1, 0, 4, 0, 0x80000000, 0, 0, 11⟩, -- R192 Q_CFG_WHILE_ENABLED
   ⟨0x481028, 64, 0x40, 1, 0, 4, 0, 0, 0, 0, 11⟩, -- R192 Q_CTX_CNT
   ⟨0x481030, 64, 0x40, 1, 0, 8, 0, 0, 0, 0, 11⟩, -- R192 Q_ADMITTED
   ⟨0x484000, 512, 0x20, 1, 0, 4, 0, 0, 0, 0, 12⟩, -- R193 CTX_STATE
   ⟨0x484004, 512, 0x20, 1, 0, 4, 0, 0, 0, 0, 12⟩, -- R193 CTX_TAG
   ⟨0x484008, 512, 0x20, 1, 0, 4, 0, 0, 0, 0, 12⟩, -- R193 CTX_PC
   ⟨0x48400C, 512, 0x20, 1, 0, 4, 0, 0, 0, 0, 12⟩, -- R193 CTX_DONE
   ⟨0x484010, 512, 0x20, 1, 0, 4, 0, 0, 3, 0, 12⟩, -- R193 CTX_CTL
   ⟨0x484014, 512, 0x20, 1, 0, 4, 0, 0, 0, 0, 12⟩, -- R193 CTX_STEP
   ⟨0x484018, 512, 0x20, 1, 0, 4, 0, 0, 0, 0, 12⟩, -- R193 CTX_DIR
   ⟨0x490000, 292, 0x80, 1, 0, 8, 0, 0, 0, 0, 12⟩, -- R194 STL_NOT_RESIDENT
   ⟨0x490008, 292, 0x80, 1, 0, 8, 0, 0, 0, 0, 12⟩, -- R194 STL_DRAIN
   ⟨0x490010, 292, 0x80, 1, 0, 8, 0, 0, 0, 0, 12⟩, -- R194 STL_TOKEN
   ⟨0x490018, 292, 0x80, 1, 0, 8, 0, 0, 0, 0, 12⟩, -- R194 STL_XLATE
   ⟨0x490020, 292, 0x80, 1, 0, 8, 0, 0, 0, 0, 12⟩, -- R194 STL_HBM_BUSY
   ⟨0x490028, 292, 0x80, 1, 0, 8, 0, 0, 0, 0, 12⟩, -- R194 STL_LINK_CREDIT
   ⟨0x490030, 292, 0x80, 1, 0, 8, 0, 0, 0, 0, 12⟩, -- R194 STL_PREEMPT
   ⟨0x490038, 292, 0x80, 1, 0, 8, 0, 0, 0, 0, 12⟩, -- R194 STL_THROTTLE
   ⟨0x490040, 292, 0x80, 1, 0, 8, 0, 0, 0, 0, 12⟩, -- R194 STL_IDLE
   ⟨0x488000, 4096, 4, 1, 0, 4, 0xFFFFFFFF, 0, 0, 0, 12⟩ -- TOKEN
  ]

/-- Registers from 0x540000. -/
def regsSpad : List RegRow :=
  [
   ⟨0x540000, 1, 0, 1, 0, 4, 0x80FFFFF8, 0, 0, 0xFFFFF8, 2⟩, -- R229 SPAD_CFG_ENABLE
   ⟨0x540004, 1, 0, 1, 0, 4, 0, 0x80000000, 0, 0, 2⟩, -- R230 SPAD_STATUS_CFG_WHILE_ENABLED
   ⟨0x541000, 4, 0x100, 1, 0, 8, 0, 0, 0, 0, 12⟩, -- R231 SPAD_CE1_CNT
   ⟨0x541008, 4, 0x100, 1, 0, 8, 0, 0, 0, 0, 12⟩, -- R231 SPAD_CE2_CNT
   ⟨0x541010, 4, 0x100, 1, 0, 8, 0, 0, 0, 0, 12⟩, -- R231 SPAD_UE_CNT
   ⟨0x541018, 4, 0x100, 1, 0, 8, 0, 0, 0, 0, 12⟩, -- R231 SPAD_LAST_UE_ADDR
   ⟨0x541020, 4, 0x100, 1, 0, 8, 0, 0, 0, 0, 12⟩, -- R231 SPAD_SCRUB_PASSES
   ⟨0x541028, 4, 0x100, 1, 0, 8, 0, 0, 0, 0, 12⟩, -- R231 SPAD_STAGE_BYTES
   ⟨0x541030, 4, 0x100, 1, 0, 8, 0, 0, 0, 0, 12⟩, -- R231 SPAD_STAGE_USED
   ⟨0x541038, 4, 0x100, 1, 0, 8, 0, 0, 0, 0, 12⟩ -- R231 SPAD_FREE
  ]

/-- Registers from 0x580000. -/
def regsTailor : List RegRow :=
  [
   ⟨0x580000, 1, 0, 1, 0, 4, 0x800001FC, 0, 0, 0x1FC, 4⟩, -- R232 TAILOR_CFG_ENABLE
   ⟨0x580004, 1, 0, 1, 0, 4, 0, 0x80000000, 0, 0, 4⟩, -- R233 TAILOR_STATUS_CFG_WHILE_ENABLED
   ⟨0x580008, 1, 0, 1, 0, 8, 0xFFFFFFFFFFFFF, 0, 0, 0xFFFFFFFFFFFFF, 4⟩, -- R233 TREQ_BASE
   ⟨0x580010, 1, 0, 1, 0, 8, 0xFFFFFFFFFFFFF, 0, 0, 0xFFFFFFFFFFFFF, 4⟩, -- R233 TREC_BASE
   ⟨0x580018, 1, 0, 1, 0, 4, 0, 0, 0, 0, 4⟩, -- R233 TREQ_HEAD
   ⟨0x580020, 1, 0, 1, 0, 4, 0, 0, 0xFFFF, 0, 4⟩, -- R233 TREQ_TAIL_DB
   ⟨0x580100, 1, 0, 1, 0, 8, 0, 0, 0, 0, 4⟩, -- R233 SPILL_HBM_CNT
   ⟨0x580108, 1, 0, 1, 0, 8, 0, 0, 0, 0, 4⟩, -- R233 SPILL_PEER_CNT
   ⟨0x580110, 1, 0, 1, 0, 8, 0, 0, 0, 0, 4⟩, -- R233 SPILL_HOST_CNT
   ⟨0x580118, 1, 0, 1, 0, 8, 0, 0, 0, 0, 4⟩, -- R233 SPILL_BYTES
   ⟨0x580120, 1, 0, 1, 0, 8, 0, 0, 0, 0, 4⟩, -- R233 EVICT_CNT
   ⟨0x580128, 1, 0, 1, 0, 8, 0, 0, 0, 0, 4⟩, -- R233 PROMOTE_CNT
   ⟨0x580130, 1, 0, 1, 0, 8, 0, 0, 0, 0, 4⟩, -- R233 MIGRATE_BYTES
   ⟨0x580138, 1, 0, 1, 0, 8, 0, 0, 0, 0, 4⟩ -- R233 PENDING_NOW
  ]

/-- Registers from 0x5C0000. -/
def regsHbm : List RegRow :=
  [
   ⟨0x5C0000, 1, 0, 1, 0, 4, 0xF000FFFF, 0, 0, 0x7000FFFF, 1⟩, -- R262 MEM_CFG_ENABLE
   ⟨0x5C0004, 1, 0, 1, 0, 4, 0, 0x80000000, 0, 0, 1⟩, -- R263 MEM_STATUS_CFG_WHILE_ENABLED
   ⟨0x5C0008, 1, 0, 1, 0, 4, 0xFFFFFF, 0, 0, 0xFFFFFF, 1⟩, -- R263 UE_MAPOUT_THRESH
   ⟨0x5C1000, 16, 0x1000, 1, 0, 4, 0, 0, 0, 0, 1⟩, -- R264 STK_STATE
   ⟨0x5C1004, 16, 0x1000, 1, 0, 4, 0xFFFFFFFF, 0, 0, 0xFFFFFFFF, 1⟩, -- R264 STK_MAPOUT
   ⟨0x5C1008, 16, 0x1000, 1, 0, 8, 0, 0, 0, 0, 1⟩, -- R264 STK_SIZE
   ⟨0x5C1010, 16, 0x1000, 1, 0, 8, 0, 0, 0, 0, 1⟩, -- R264 RELAYOUT_W
   ⟨0x5C1018, 16, 0x1000, 1, 0, 4, 0, 0, 0, 0, 1⟩, -- R264 DARN_USED
   ⟨0x5C1020, 16, 0x1000, 1, 0, 8, 0, 0, 0, 0, 1⟩, -- R264 STK_CE1_CNT
   ⟨0x5C1028, 16, 0x1000, 1, 0, 8, 0, 0, 0, 0, 1⟩, -- R264 STK_CE2_CNT
   ⟨0x5C1030, 16, 0x1000, 1, 0, 8, 0, 0, 0, 0, 1⟩, -- R264 STK_UE_CNT
   ⟨0x5C1038, 16, 0x1000, 1, 0, 8, 0, 0, 0, 0, 1⟩, -- R264 STK_LAST_UE_ADDR
   ⟨0x5C1040, 16, 0x1000, 1, 0, 8, 0, 0, 0, 0, 1⟩, -- R264 STK_POISON_READS
   ⟨0x5C1048, 16, 0x1000, 1, 0, 8, 0, 0, 0, 0, 1⟩, -- R264 DARN_MERGES
   ⟨0x5C1050, 16, 0x1000, 1, 0, 8, 0, 0, 0, 0, 1⟩, -- R264 DARN_RMW
   ⟨0x5C1058, 16, 0x1000, 1, 0, 8, 0, 0, 0, 0, 1⟩, -- R264 STK_SCRUB_PASSES
   ⟨0x5C1800, 16, 0x1000, 32, 0x40, 4, 0, 0, 0, 0, 12⟩, -- R265 CH_STATE
   ⟨0x5C1808, 16, 0x1000, 32, 0x40, 8, 0, 0, 0, 0, 12⟩, -- R265 CH_CE1_CNT
   ⟨0x5C1810, 16, 0x1000, 32, 0x40, 8, 0, 0, 0, 0, 12⟩, -- R265 CH_CE2_CNT
   ⟨0x5C1818, 16, 0x1000, 32, 0x40, 8, 0, 0, 0, 0, 12⟩, -- R265 CH_UE_CNT
   ⟨0x5C1820, 16, 0x1000, 32, 0x40, 8, 0, 0, 0, 0, 12⟩, -- R265 CH_RETRAIN_CNT
   ⟨0x5C1828, 16, 0x1000, 32, 0x40, 8, 0, 0, 0, 0, 12⟩, -- R265 CH_HOLD_CYC
   ⟨0x5C1830, 16, 0x1000, 32, 0x40, 8, 0, 0, 0, 0, 12⟩ -- R265 CH_TRAIN_TEMP
  ]

/-- Registers from 0x600000. -/
def regsXlate : List RegRow :=
  [
   ⟨0x600000, 1, 0, 1, 0, 4, 0x8000001C, 0, 0, 0x1C, 3⟩, -- R300 XLATE_CFG_ENABLE
   ⟨0x600004, 1, 0, 1, 0, 4, 0, 0x80000000, 0, 0, 3⟩, -- R301 XLATE_STATUS_CFG_WHILE_ENABLED
   ⟨0x600008, 1, 0, 1, 0, 8, 0xFFFFFFFFFE000, 0, 0, 0xFFFFFFFFFE000, 3⟩, -- R301 MMU_ROOT
   ⟨0x600010, 1, 0, 1, 0, 8, 0xFFFFFFFFF0000, 0, 0, 0xFFFFFFFFF0000, 3⟩, -- R301 CSA_BASE
   ⟨0x600018, 1, 0, 1, 0, 8, 0xFFFFFFFFFF000, 0, 0, 0xFFFFFFFFFF000, 3⟩, -- R301 FLT_BASE
   ⟨0x600020, 1, 0, 1, 0, 4, 0x1FFFFF, 0, 0, 0x1FFFFF, 3⟩, -- R301 FLT_LOG2
   ⟨0x600028, 1, 0, 1, 0, 4, 0, 0, 0, 0, 3⟩, -- R301 FLT_TAIL
   ⟨0x60002C, 1, 0, 1, 0, 4, 0, 0, 0xFFFF, 0, 3⟩, -- R301 FLT_HEAD_DB
   ⟨0x600030, 1, 0, 1, 0, 4, 0, 0, 0xC000FFFF, 0, 3⟩, -- R301 XLATE_STATUS_ACTION
   ⟨0x600034, 1, 0, 1, 0, 4, 0, 0, 0, 0, 3⟩, -- R301 XLATE_STATUS_RESULT
   ⟨0x600038, 1, 0, 1, 0, 8, 0, 0, 0x800FFFFFFFFF0000, 0, 3⟩, -- R301 XLATE_STATUS_ALL
   ⟨0x600040, 1, 0, 1, 0, 4, 0xFFFFFFFF, 0, 0, 0, 3⟩, -- R301 INVAL_LEN
   ⟨0x600100, 1, 0, 1, 0, 8, 0, 0, 0, 0, 3⟩, -- R301 FLT_POSTED
   ⟨0x600108, 1, 0, 1, 0, 8, 0, 0, 0, 0, 3⟩, -- R301 FLT_JOINED
   ⟨0x600110, 1, 0, 1, 0, 8, 0, 0, 0, 0, 3⟩, -- R301 FLT_CANCELLED
   ⟨0x600118, 1, 0, 1, 0, 8, 0, 0, 0, 0, 3⟩, -- R301 ATS_REQS
   ⟨0x600120, 1, 0, 1, 0, 8, 0, 0, 0, 0, 3⟩, -- R301 PRI_REQS
   ⟨0x600128, 1, 0, 1, 0, 8, 0, 0, 0, 0, 3⟩, -- R301 PRI_FAILS
   ⟨0x600130, 1, 0, 1, 0, 8, 0, 0, 0, 0, 3⟩, -- R301 ATS_INVALS
   ⟨0x601000, 4, 0x100, 1, 0, 8, 0, 0, 0, 0, 12⟩, -- R302 PTC_LOOKUPS
   ⟨0x601008, 4, 0x100, 1, 0, 8, 0, 0, 0, 0, 12⟩, -- R302 PTC_MISSES
   ⟨0x601010, 4, 0x100, 1, 0, 8, 0, 0, 0, 0, 12⟩, -- R302 RA_BYTES
   ⟨0x601018, 4, 0x100, 1, 0, 8, 0, 0, 0, 0, 12⟩, -- R302 RA_DROPPED
   ⟨0x601020, 4, 0x100, 1, 0, 8, 0, 0, 0, 0, 12⟩, -- R302 STALE_MARKS
   ⟨0x601028, 4, 0x100, 1, 0, 8, 0, 0, 0, 0, 12⟩, -- R302 STALE_REFETCH
   ⟨0x601030, 4, 0x100, 1, 0, 8, 0, 0, 0, 0, 12⟩, -- R302 WIN_USED
   ⟨0x602000, 32, 0x100, 1, 0, 4, 0, 0, 0, 0, 12⟩, -- R303 DMA_STATE
   ⟨0x602020, 32, 0x100, 4, 0x20, 8, 0, 0, 0, 0, 12⟩, -- R303 JOB_VALID
   ⟨0x602028, 32, 0x100, 4, 0x20, 8, 0, 0, 0, 0, 12⟩, -- R303 DMA_CURSOR
   ⟨0x602030, 32, 0x100, 4, 0x20, 8, 0, 0, 0, 0, 12⟩, -- R303 JOB_SRC
   ⟨0x602038, 32, 0x100, 4, 0x20, 8, 0, 0, 0, 0, 12⟩, -- R303 JOB_DST
   ⟨0x6020A0, 32, 0x100, 1, 0, 8, 0, 0, 0, 0, 12⟩, -- R303 DMA_BYTES_RD
   ⟨0x6020A8, 32, 0x100, 1, 0, 8, 0, 0, 0, 0, 12⟩, -- R303 DMA_BYTES_WR
   ⟨0x6020B0, 32, 0x100, 1, 0, 8, 0, 0, 0, 0, 12⟩, -- R303 DTC_MISSES
   ⟨0x6020B8, 32, 0x100, 1, 0, 8, 0, 0, 0, 0, 12⟩ -- R303 DMA_FAULTS
  ]

/-- Registers from 0x640000. -/
def regsOpt : List RegRow :=
  [
   ⟨0x640000, 1, 0, 1, 0, 4, 0xE00000FF, 0, 0, 0x600000FF, 0⟩, -- R331 OPT_ENABLE
   ⟨0x640004, 1, 0, 1, 0, 4, 0, 0x80000000, 0, 0, 0⟩, -- R331 OPT_CFG_WHILE_ENABLED
   ⟨0x640008, 1, 0, 1, 0, 4, 0xFFFFFFFF, 0, 0, 0xFFFFFFFF, 0⟩, -- R331 ACK_TMO
   ⟨0x641000, 8, 0x1000, 1, 0, 4, 0, 0, 0, 0, 12⟩, -- R332 EYE_STATE
   ⟨0x641008, 8, 0x1000, 1, 0, 8, 0, 0, 0, 0, 12⟩, -- R332 CAL_SLOTS
   ⟨0x641010, 8, 0x1000, 1, 0, 8, 0, 0, 0, 0, 12⟩, -- R332 CAL_SKIPS
   ⟨0x641018, 8, 0x1000, 1, 0, 8, 0, 0, 0, 0, 12⟩, -- R332 CAL_ABORTS
   ⟨0x641020, 8, 0x1000, 1, 0, 8, 0, 0, 0, 0, 12⟩, -- R332 SPARE_SWITCHES
   ⟨0x641028, 8, 0x1000, 1, 0, 8, 0, 0, 0, 0, 12⟩, -- R332 RETHREAD_SLOW
   ⟨0x641100, 8, 0x1000, 36, 8, 8, 0, 0, 0, 0, 12⟩, -- R333 LSTATE
   ⟨0x641400, 8, 0x1000, 8, 0x80, 4, 0x80000000, 0, 0, 0, 12⟩, -- R334 LINK_EN
   ⟨0x641404, 8, 0x1000, 8, 0x80, 4, 0, 0, 0xFFC00000, 0, 12⟩, -- R334 LNK_OP
   ⟨0x641408, 8, 0x1000, 8, 0x80, 4, 0, 0, 0, 0, 12⟩, -- R334 LNK_STATE
   ⟨0x64140C, 8, 0x1000, 8, 0x80, 4, 0, 0x80000000, 0, 0, 12⟩, -- R334 LNK_CMD_ERR
   ⟨0x641410, 8, 0x1000, 8, 0x80, 8, 0, 0, 0, 0, 12⟩, -- R334 LNK_LANE_MAP
   ⟨0x641418, 8, 0x1000, 8, 0x80, 8, 0, 0, 0, 0, 12⟩, -- R334 RX_MARGIN
   ⟨0x641420, 8, 0x1000, 8, 0x80, 4, 0, 0, 0, 0, 12⟩, -- R334 TX_MARGIN
   ⟨0x641428, 8, 0x1000, 8, 0x80, 8, 0, 0, 0, 0, 12⟩, -- R334 FRAMES_TX
   ⟨0x641430, 8, 0x1000, 8, 0x80, 8, 0, 0, 0, 0, 12⟩, -- R334 FRAMES_RX
   ⟨0x641438, 8, 0x1000, 8, 0x80, 8, 0, 0, 0, 0, 12⟩, -- R334 FEC_CORR
   ⟨0x641440, 8, 0x1000, 8, 0x80, 8, 0, 0, 0, 0, 12⟩, -- R334 FEC_UNCORR
   ⟨0x641448, 8, 0x1000, 8, 0x80, 8, 0, 0, 0, 0, 12⟩, -- R334 CRC_ERR
   ⟨0x641450, 8, 0x1000, 8, 0x80, 8, 0, 0, 0, 0, 12⟩, -- R334 REPLAYS
   ⟨0x641458, 8, 0x1000, 8, 0x80, 8, 0, 0, 0, 0, 12⟩, -- R334 RETRAINS
   ⟨0x641460, 8, 0x1000, 8, 0x80, 8, 0, 0, 0, 0, 12⟩, -- R334 RETHREADS
   ⟨0x641468, 8, 0x1000, 8, 0x80, 8, 0, 0, 0, 0, 12⟩, -- R334 LANE_DROPS
   ⟨0x641470, 8, 0x1000, 8, 0x80, 8, 0, 0, 0, 0, 12⟩ -- R334 DOWN_CYC
  ]

/-- Registers from 0x680000. -/
def regsTopo : List RegRow :=
  [
   ⟨0x680000, 1, 0, 1, 0, 4, 0xC000FFFF, 0, 0, 0x4000FFFF, 8⟩, -- R366 TOPO_CFG_ENABLE
   ⟨0x680004, 1, 0, 1, 0, 4, 0, 0x80000000, 0, 0, 8⟩, -- R367 TOPO_CFG_WHILE_ENABLED
   ⟨0x680008, 1, 0, 1, 0, 4, 0, 0, 0, 0, 8⟩, -- R367 TOPO_VALID
   ⟨0x68000C, 1, 0, 1, 0, 4, 0xFF00FFFF, 0, 0, 0xFF00FFFF, 8⟩, -- R367 KA_MISSES
   ⟨0x680010, 1, 0, 1, 0, 4, 0, 0, 0, 0, 8⟩, -- R367 IS_SPARE
   ⟨0x680014, 1, 0, 1, 0, 4, 0, 0, 0, 0, 8⟩, -- R367 YELYEL_VER_major
   ⟨0x680040, 1, 0, 1, 0, 8, 0, 0, 0, 0, 8⟩, -- R367 FWD_DROP
   ⟨0x681000, 64, 0x40, 1, 0, 4, 0, 0, 0, 0, 12⟩, -- R368 DISC_OUT
   ⟨0x681004, 64, 0x40, 1, 0, 4, 0, 0, 0, 0, 12⟩, -- R368 FAR_LINK
   ⟨0x681008, 64, 0x40, 1, 0, 4, 0, 0, 0, 0, 12⟩, -- R368 LATE_RUN
   ⟨0x681010, 64, 0x40, 1, 0, 8, 0, 0, 0, 0, 12⟩, -- R368 SKEW_LAST
   ⟨0x681018, 64, 0x40, 1, 0, 8, 0, 0, 0, 0, 12⟩, -- R368 SKEW_MAX
   ⟨0x681020, 64, 0x40, 1, 0, 8, 0, 0, 0, 0, 12⟩, -- R368 SKEW_SUM
   ⟨0x681028, 64, 0x40, 1, 0, 8, 0, 0, 0, 0, 12⟩, -- R368 COLL_MEASURED
   ⟨0x681030, 64, 0x40, 1, 0, 8, 0, 0, 0, 0, 12⟩, -- R368 KA_RX
   ⟨0x681038, 64, 0x40, 1, 0, 8, 0, 0, 0, 0, 12⟩, -- R368 FWD_FRAMES
   ⟨0x683000, 4, 0x100, 1, 0, 8, 0, 0, 0, 0, 12⟩, -- R369 SEAM_COLLS
   ⟨0x683008, 4, 0x100, 1, 0, 8, 0, 0, 0, 0, 12⟩, -- R369 SEAM_FAILS
   ⟨0x683010, 4, 0x100, 1, 0, 8, 0, 0, 0, 0, 12⟩, -- R369 SEAM_BYTES_TX
   ⟨0x683018, 4, 0x100, 1, 0, 8, 0, 0, 0, 0, 12⟩, -- R369 SEAM_BYTES_RX
   ⟨0x683020, 4, 0x100, 1, 0, 8, 0, 0, 0, 0, 12⟩, -- R369 SEAM_DUPS
   ⟨0x680020, 8, 4, 1, 0, 4, 0, 0, 0, 0, 12⟩, -- PLAN_DIGEST
   ⟨0x6A0000, 24576, 8, 1, 0, 8, 0, 0, 0, 0, 12⟩, -- peer table (R370)
   ⟨0x6D0000, 16384, 4, 1, 0, 4, 0, 0, 0, 0, 12⟩ -- chip map (R370)
  ]

/-- Registers from 0x700000. -/
def regsTrain : List RegRow :=
  [
   ⟨0x700000, 1, 0, 1, 0, 4, 0x80000007, 0, 8, 0xF, 7⟩, -- R389 TRAIN_CFG_ENABLE
   ⟨0x700004, 1, 0, 1, 0, 4, 0, 0x80000000, 0, 0, 7⟩, -- R390 TRAIN_STATUS_CFG_WHILE_ENABLED
   ⟨0x700020, 1, 0, 1, 0, 4, 0xFFFFFFFF, 0, 0, 0xFFFFFFFF, 7⟩, -- R390 STREAM_SALT
   ⟨0x700024, 1, 0, 1, 0, 4, 0xFFFFFFFF, 0, 0, 0xFFFFFFFF, 7⟩, -- R390 STEP_BASE
   ⟨0x700028, 1, 0, 1, 0, 4, 0xFFFFFFFF, 0, 0, 0xFFFFFFFF, 7⟩, -- R390 CURSOR_PER_STEP
   ⟨0x700030, 1, 0, 1, 0, 8, 0xFFFFFFFFFFFFFFFF, 0, 0, 0xFFFFFFFFFFFFFFFF, 7⟩, -- R390 CURSOR_BASE
   ⟨0x700038, 1, 0, 1, 0, 8, 0xFFFFFFFFFFFFFFFF, 0, 0, 0, 7⟩, -- R390 DATA_CURSOR
   ⟨0x700040, 1, 0, 1, 0, 4, 0, 0, 0, 0, 7⟩, -- R390 MARK_STEP
   ⟨0x700044, 1, 0, 1, 0, 4, 0, 0, 0, 0, 7⟩, -- R390 CHERVIL_STEP
   ⟨0x700048, 1, 0, 1, 0, 8, 0, 0, 0, 0, 7⟩, -- R390 MARK_CURSOR
   ⟨0x700050, 1, 0, 1, 0, 4, 0, 0, 0, 0, 7⟩, -- R390 BIND_CHECK
   ⟨0x700058, 1, 0, 1, 0, 8, 0, 0, 0, 0, 7⟩, -- R390 SKEW_DELTA
   ⟨0x700100, 1, 0, 1, 0, 8, 0, 0, 0, 0, 7⟩, -- R390 GRAD_STARVE_CNT
   ⟨0x700108, 1, 0, 1, 0, 8, 0, 0, 0, 0, 7⟩, -- R390 UF_TRIP_CNT
   ⟨0x700110, 1, 0, 1, 0, 8, 0, 0, 0, 0, 7⟩, -- R390 ABSENT_CNT
   ⟨0x700118, 1, 0, 1, 0, 8, 0, 0, 0, 0, 7⟩, -- R390 CURSOR_SKEW_CNT
   ⟨0x700120, 1, 0, 1, 0, 8, 0, 0, 0, 0, 7⟩, -- R390 WATCH_RELAX_CNT
   ⟨0x700128, 1, 0, 1, 0, 8, 0, 0, 0, 0, 7⟩, -- R390 RELAX_EPOCH
   ⟨0x700130, 1, 0, 1, 0, 8, 0, 0, 0, 0, 7⟩, -- R390 STARVE_N_MAX
   ⟨0x700010, 4, 4, 1, 0, 4, 0xFFFFFFFF, 0, 0, 0xFFFFFFFF, 7⟩ -- JOB_KEY0 to JOB_KEY3
  ]

/-- Registers from 0x740000. -/
def regsBast : List RegRow :=
  [
   ⟨0x740000, 1, 0, 1, 0, 4, 0xF0000001, 0, 0, 0x70000001, 9⟩, -- R419 BAST_CFG_ENABLE
   ⟨0x740004, 1, 0, 1, 0, 4, 0, 0x80000000, 0, 0, 9⟩, -- R420 BAST_STATUS_CFG_WHILE_ENABLED
   ⟨0x740008, 1, 0, 1, 0, 8, 0xFFFFFFFFFFFFF, 0, 0, 0xFFFFFFFFFFFFF, 9⟩, -- R420 SET_BASE
   ⟨0x740010, 1, 0, 1, 0, 4, 0, 0, 0, 0, 9⟩, -- R420 BUDDY_VALID
   ⟨0x740014, 1, 0, 1, 0, 4, 0, 0, 0, 0, 9⟩, -- R420 GUEST_VALID
   ⟨0x740018, 1, 0, 1, 0, 4, 0, 0, 0, 0, 9⟩, -- R420 SUCC_CHIP
   ⟨0x740020, 1, 0, 1, 0, 8, 0xFFFFFFFFFFFFFFFF, 0, 0, 0, 9⟩, -- R420 KEEP_EPOCH
   ⟨0x740080, 1, 0, 1, 0, 4, 0, 0, 0, 0, 9⟩, -- R420 RESTORE_STATUS
   ⟨0x740088, 1, 0, 1, 0, 8, 0, 0, 0, 0, 9⟩, -- R420 RESTORE_EPOCH
   ⟨0x740040, 4, 0x10, 1, 0, 4, 0, 0, 0, 0, 12⟩, -- R422 SLOT_STATE
   ⟨0x740048, 4, 0x10, 1, 0, 8, 0, 0, 0, 0, 12⟩, -- R422 SLOT_EPOCH
   ⟨0x740200, 1, 0, 1, 0, 8, 0, 0, 0, 0, 12⟩, -- R423 SNAP_DONE_CNT
   ⟨0x740208, 1, 0, 1, 0, 8, 0, 0, 0, 0, 12⟩, -- R423 SNAP_ABORT_CNT
   ⟨0x740210, 1, 0, 1, 0, 8, 0, 0, 0, 0, 12⟩, -- R423 SNAP_BYTES
   ⟨0x740218, 1, 0, 1, 0, 8, 0, 0, 0, 0, 12⟩, -- R423 HOLD_WRITES
   ⟨0x740220, 1, 0, 1, 0, 8, 0, 0, 0, 0, 12⟩, -- R423 HOLD_CYC
   ⟨0x740228, 1, 0, 1, 0, 8, 0, 0, 0, 0, 12⟩, -- R423 RESTORE_CNT
   ⟨0x740230, 1, 0, 1, 0, 8, 0, 0, 0, 0, 12⟩, -- R423 RESTORE_FAIL_CNT
   ⟨0x740238, 1, 0, 1, 0, 8, 0, 0, 0, 0, 12⟩, -- R423 VERIFY_MISMATCH_CNT
   ⟨0x740100, 16, 8, 1, 0, 8, 0, 0, 0, 0, 12⟩ -- BUDDY_BASE
  ]

/-- Registers from 0x780000. -/
def regsMbox : List RegRow :=
  [
   ⟨0x781000, 16, 0x10, 1, 0, 4, 0, 0, 0xC0000000, 0, 12⟩, -- R429 MB_OP
   ⟨0x781004, 16, 0x10, 1, 0, 4, 0, 0xC000000, 0, 0, 12⟩, -- R429 RX_POWERED
   ⟨0x781008, 16, 0x10, 1, 0, 4, 0, 0, 0, 0, 12⟩, -- R429 ACK_SEQ
   ⟨0x78100C, 16, 0x10, 1, 0, 4, 0, 0, 0, 0, 12⟩, -- R429 MB_CMDS
   ⟨0x782000, 1, 0, 1, 0, 4, 0, 0x20000000, 0, 0, 12⟩, -- R461 RING_EN
   ⟨0x782004, 1, 0, 1, 0, 4, 0, 0, 0, 0, 12⟩, -- R461 EVT_SEQ
   ⟨0x782008, 1, 0, 1, 0, 4, 0, 0, 0, 0, 12⟩, -- R461 EVT_TAIL
   ⟨0x78200C, 1, 0, 1, 0, 4, 0, 0, 0xFFFF, 0, 12⟩, -- R461 EVT_HEAD_DB
   ⟨0x782010, 1, 0, 1, 0, 8, 0, 0, 0, 0, 12⟩, -- R461 EVT_LOST_CNT
   ⟨0x782018, 1, 0, 1, 0, 8, 0, 0, 0, 0, 12⟩, -- R461 MB_DROP_CNT
   ⟨0x782020, 1, 0, 1, 0, 4, 0x80000000, 0, 0, 0, 12⟩, -- R461 MB_IRQ_EN
   ⟨0x780000, 1024, 4, 1, 0, 4, 0, 0, 0, 0, 13⟩ -- message buffers (R427)
  ]

/-- Registers from 0x7C0000. -/
def regsSec : List RegRow :=
  [
   ⟨0x7C0000, 1, 0, 1, 0, 4, 0, 0, 0, 0, 12⟩, -- R488 SEC_OWNED
   ⟨0x7C0004, 1, 0, 1, 0, 4, 0, 0, 0, 0, 12⟩, -- R488 SVN_CTR
   ⟨0x7C0008, 1, 0, 1, 0, 4, 0, 0, 0, 0, 12⟩, -- R488 CFG_GEN
   ⟨0x7C000C, 1, 0, 1, 0, 4, 0, 0, 0, 0, 12⟩, -- R488 OWNER_GEN
   ⟨0x7C0010, 1, 0, 1, 0, 4, 0, 0, 0, 0, 12⟩, -- R488 KEY_FLOOR
   ⟨0x7C0018, 1, 0, 1, 0, 8, 0, 0, 0, 0, 12⟩, -- R488 BOOT_ID
   ⟨0x7C0020, 8, 4, 1, 0, 4, 0, 0, 0, 0, 12⟩, -- ATTEST_TOKEN
   ⟨0x7C0040, 8, 4, 1, 0, 4, 0, 0, 0, 0, 12⟩, -- ID_HASH
   ⟨0x7C0100, 128, 4, 1, 0, 4, 0, 0, 0, 0, 12⟩ -- M0 to M15
  ]

/-- Registers from 0x800000. -/
def regsSage : List RegRow :=
  [
   ⟨0x800000, 1, 0, 1, 0, 4, 0, 0, 0, 0, 12⟩, -- R509 ROOT_LOCK
   ⟨0x800004, 1, 0, 1, 0, 4, 0, 0, 0, 0, 12⟩, -- R509 RESET_CAUSE
   ⟨0x800008, 1, 0, 1, 0, 4, 0, 0, 0, 0, 12⟩, -- R509 VIN_MV
   ⟨0x80000C, 1, 0, 1, 0, 4, 0, 0, 0, 0, 12⟩, -- R509 IIN_MA
   ⟨0x800010, 1, 0, 1, 0, 4, 0, 0, 0, 0, 12⟩, -- R509 TJ_MAX
   ⟨0x800018, 1, 0, 1, 0, 8, 0, 0, 0, 0, 12⟩, -- R509 SENSOR_FAIL
   ⟨0x800020, 1, 0, 1, 0, 4, 0, 0, 0, 0, 12⟩, -- R509 SAGE_CHATTER
   ⟨0x800040, 1, 0, 1, 0, 8, 0, 0, 0, 0, 12⟩, -- R510 CYC_ARRAY
   ⟨0x800048, 1, 0, 1, 0, 8, 0, 0, 0, 0, 12⟩, -- R510 CYC_VEC
   ⟨0x800050, 1, 0, 1, 0, 8, 0, 0, 0, 0, 12⟩, -- R510 CYC_SPAD
   ⟨0x800058, 1, 0, 1, 0, 8, 0, 0, 0, 0, 12⟩, -- R510 CYC_FAB
   ⟨0x800060, 1, 0, 1, 0, 8, 0, 0, 0, 0, 12⟩, -- R510 CYC_MEM
   ⟨0x800068, 1, 0, 1, 0, 8, 0, 0, 0, 0, 12⟩, -- R510 CYC_CTRL
   ⟨0x800070, 1, 0, 1, 0, 8, 0, 0, 0, 0, 12⟩, -- R510 CYC_SAGE
   ⟨0x800300, 1, 0, 1, 0, 8, 0, 0, 0, 0, 12⟩, -- R511 SLOPE_STEPS
   ⟨0x800308, 1, 0, 1, 0, 8, 0, 0, 0, 0, 12⟩, -- R511 THERMAL_STEPS
   ⟨0x800310, 1, 0, 1, 0, 8, 0, 0, 0, 0, 12⟩, -- R511 POWER_STEPS
   ⟨0x800318, 1, 0, 1, 0, 8, 0, 0, 0, 0, 12⟩, -- R511 VIN_WARN_CNT
   ⟨0x800320, 1, 0, 1, 0, 8, 0, 0, 0, 0, 12⟩, -- R511 VIN_RESET_CNT
   ⟨0x800328, 1, 0, 1, 0, 8, 0, 0, 0, 0, 12⟩, -- R511 PIN_STUCK_CNT
   ⟨0x800330, 1, 0, 1, 0, 8, 0, 0, 0, 0, 12⟩, -- R511 PIN_CHATTER_CNT
   ⟨0x800338, 1, 0, 1, 0, 8, 0, 0, 0, 0, 12⟩, -- R511 SNAP_REQ_CNT
   ⟨0x800100, 64, 4, 1, 0, 4, 0, 0, 0, 0, 12⟩, -- SENSOR
   ⟨0x800200, 10, 4, 1, 0, 4, 0, 0, 0, 0, 12⟩ -- THRESH
  ]

/-- Registers from 0x840000. -/
def regsPcie : List RegRow :=
  [
   ⟨0x840000, 1, 0, 1, 0, 4, 0, 0, 0, 0, 12⟩, -- R534 LINK_UP
   ⟨0x840010, 1, 0, 1, 0, 8, 0, 0, 0, 0, 12⟩, -- R534 PCIE_POISON_TX
   ⟨0x840018, 1, 0, 1, 0, 8, 0, 0, 0, 0, 12⟩, -- R534 PCIE_POISON_RX
   ⟨0x840020, 1, 0, 1, 0, 8, 0, 0, 0, 0, 12⟩, -- R534 PCIE_CA_SENT
   ⟨0x840028, 1, 0, 1, 0, 8, 0, 0, 0, 0, 12⟩, -- R534 PCIE_CPL_TMO
   ⟨0x840030, 1, 0, 1, 0, 8, 0, 0, 0, 0, 12⟩, -- R534 PCIE_LINK_DOWN
   ⟨0x840038, 1, 0, 1, 0, 8, 0, 0, 0, 0, 12⟩ -- R534 PCIE_HOST_RESETS
  ]

/-- Registers from 0x0. -/
def regsGbl : List RegRow :=
  [
   ⟨0, 1, 0, 1, 0, 4, 0, 0, 0, 0, 12⟩, -- R548 GBL_VENDOR
   ⟨4, 1, 0, 1, 0, 4, 0, 0, 0, 0, 12⟩, -- R548 GBL_STEPPING
   ⟨8, 1, 0, 1, 0, 4, 0, 0, 0, 0, 12⟩, -- R548 BLOCK_EN
   ⟨0xC, 1, 0, 1, 0, 4, 0, 0, 0, 0, 12⟩, -- R548 GBL_DOMAINS
   ⟨0x10, 1, 0, 1, 0, 4, 0, 0, 0, 0, 12⟩, -- R548 GBL_ERR
   ⟨0x14, 1, 0, 1, 0, 4, 0, 0, 0, 0, 12⟩, -- R548 CFG_WE_QUEUE
   ⟨0x18, 1, 0, 1, 0, 8, 0xFFFFFFFFFFFFFFFF, 0, 0, 0, 12⟩, -- R548 DRV_GEN
   ⟨0x20, 1, 0, 1, 0, 4, 0, 0x80000000, 0, 0, 12⟩, -- R548 VOTE_CORRECTED
   ⟨0x24, 1, 0, 1, 0, 4, 0, 0, 0, 0, 12⟩, -- R548 VOTE_LAST_OFFSET
   ⟨0x28, 1, 0, 1, 0, 8, 0, 0, 0, 0, 12⟩, -- R548 VOTE_CORR_CNT
   ⟨0x40, 1, 0, 1, 0, 4, 0, 0x80000000, 0, 0, 12⟩, -- R548 BUSERR_VALID
   ⟨0x44, 1, 0, 1, 0, 4, 0, 0, 0, 0, 12⟩, -- R548 BUSERR_ADDR
   ⟨0x48, 1, 0, 1, 0, 8, 0, 0, 0, 0, 12⟩ -- R548 BUSERR_CNT
  ]

/-- Doorbell mirror (R187). -/
def regsDoorbell : List RegRow :=
  [⟨0x500000, 64, 0x1000, 1, 0, 4, 0, 0, 0xFFFFFFFF, 0, 12⟩,
   ⟨0x500004, 64, 0x1000, 1, 0, 4, 0, 0, 0xFFFFFFFF, 0, 12⟩]

/-- Roino state readback (R551). -/
def regsReadback : List RegRow :=
  [⟨0x880000, 4096, 0x10, 2, 8, 8, 0, 0, 0, 0, 12⟩,
   ⟨0x890000, 4096, 0x20, 3, 8, 8, 0, 0, 0, 0, 12⟩,
   ⟨0x8B0000, 256, 0x20, 3, 8, 8, 0, 0, 0, 0, 12⟩,
   ⟨0x8B4000, 1024, 0x10, 2, 8, 8, 0, 0, 0, 0, 12⟩,
   ⟨0x8B8000, 1, 0, 4, 8, 8, 0, 0, 0, 0, 12⟩,
   ⟨0x8B9000, 1, 0, 8, 8, 8, 0, 0, 0, 0, 12⟩]

/-- MSI-X table and pending bits (R524, R525): address, data, vector control. -/
def regsMsix : List RegRow :=
  [⟨0x3F00000, 68, 0x10, 1, 0, 8, 0xFFFFFFFFFFFFFFFC, 0, 0, 0, 12⟩,
   ⟨0x3F00008, 68, 0x10, 1, 0, 4, 0xFFFFFFFF, 0, 0, 0, 12⟩,
   ⟨0x3F0000C, 68, 0x10, 1, 0, 4, 0x1, 0, 0, 0, 12⟩,
   ⟨0x3F80000, 1, 0, 2, 8, 8, 0, 0, 0, 0, 12⟩]

/-- The rows of the chapter that owns an address (R550). -/
def rowsFor (o : Nat) : List RegRow :=
  if o < 0x1000 then regsGbl
  else if o < 0x440000 then regsArrays
  else if o < 0x480000 then regsVec
  else if o < 0x500000 then regsShuttle
  else if o < 0x540000 then regsDoorbell
  else if o < 0x580000 then regsSpad
  else if o < 0x5C0000 then regsTailor
  else if o < 0x600000 then regsHbm
  else if o < 0x640000 then regsXlate
  else if o < 0x680000 then regsOpt
  else if o < 0x700000 then regsTopo
  else if o < 0x740000 then regsTrain
  else if o < 0x780000 then regsBast
  else if o < 0x7C0000 then regsMbox
  else if o < 0x800000 then regsSec
  else if o < 0x840000 then regsSage
  else if o < 0x880000 then regsPcie
  else if o < 0x3F00000 then regsReadback
  else regsMsix

/-- The register of a row that holds the byte at `o`: its first byte's offset. -/
def RegRow.find (r : RegRow) (o : Nat) : Option Nat :=
  if o < r.base then none
  else
    let d := o - r.base
    let i := if r.s1 = 0 then 0 else min (d / r.s1) (r.n1 - 1)
    let d₁ := d - i * r.s1
    let j := if r.s2 = 0 then 0 else min (d₁ / r.s2) (r.n2 - 1)
    if d₁ - j * r.s2 < r.w then some (r.base + i * r.s1 + j * r.s2) else none

/-- The register that holds the byte at `o`, if the address is implemented (R546): its row and first byte. -/
def findReg (o : Nat) : Option (RegRow × Nat) :=
  (rowsFor o).findSome? (fun r => (r.find o).map (fun b => (r, b)))

/-- The bits of the field values in `v` that lie outside the range the description states (R543, R229, R419, R420). -/
def rangeBad (o v : Nat) : Nat :=
  let f (hi lo : Nat) (ok : Nat → Bool) : Nat :=
    let x := v / 2 ^ lo % 2 ^ (hi + 1 - lo)
    if ok x then 0 else (2 ^ (hi + 1 - lo) - 1) * 2 ^ lo
  let log2ok : Nat → Bool := fun x => 4 ≤ x && x ≤ 16
  if 0x481000 ≤ o && o < 0x482000 then
    if o % 0x40 = 0 then
      f 19 10 (fun x => x ≤ 512) + f 9 5 log2ok + f 4 0 log2ok
    else if o % 0x40 = 8 || o % 0x40 = 0x10 then f 51 0 (fun x => x % 0x1000 = 0)
    else 0
  else if 0x480100 ≤ o && o < 0x480120 then f 9 0 (fun x => x ≤ 512)
  else if o = 0x480008 then f 51 0 (fun x => x % 0x10000 = 0)
  else if o = 0x540000 then f 23 16 (fun x => 1 ≤ x && x ≤ 16)
  else if o = 0x580000 then f 8 4 log2ok
  else if o = 0x580008 then f 51 0 (fun x => x % 0x1000 = 0)
  else if o = 0x580010 then f 51 0 (fun x => x % 0x400000 = 0)
  else if o = 0x600020 then f 20 16 (fun x => 4 ≤ x && x ≤ 12)
  else if o = 0x740000 then f 29 28 (fun x => x ≠ 3)
  else if o = 0x740008 then f 51 0 (fun x => x % 0x2000 = 0)
  else 0

/-- The voted fields of the aligned 64-bit word at `o` (R544). -/
def votedFields (o : Nat) : List Fld :=
  if o = 0 then [F.GBL_PROFILE]
  else if o = 0x540000 then [F.STAGE_RES]
  else if 0x5C1000 ≤ o && o < 0x5D1000 && o % 0x1000 = 0 then [F.STK_MAPOUT (o / 0x1000 - 0x5C1)]
  else if o = 0x600008 then [F.MMU_ROOT]
  else if o = 0x600010 then [F.CSA_BASE]
  else if 0x641000 ≤ o && o < 0x649000 && 0x400 ≤ o % 0x1000 && o % 0x1000 < 0x800 && o % 0x80 = 0 then [⟨o, 31, 31⟩]
  else if o = 0x740000 then [F.LINING_FRAC]
  else if o = 0x800000 then [F.ARRAY_DIV, F.VEC_DIV, F.CAP_DIV]
  else if 0x800200 ≤ o && o < 0x800228 then [⟨o, 15, 0⟩, ⟨o + 4, 15, 0⟩]
  else []

/-- The value of the aligned 64-bit word at `o` after reset, by the Reset columns; NV entries stand at their factory default until
the boot ROM applies the Config image (R16, R476). Words not named here are 0. -/
def resetWord (o : Nat) : Nat :=
  if 0x481000 ≤ o && o < 0x482000 then (if o % 0x40 = 0 then 0x70000084 else 0)
  else if 0x641000 ≤ o && o < 0x649000 then
    (if 0x400 ≤ o % 0x1000 && o % 0x1000 < 0x800 && o % 0x80 = 8 then 0xF000 else 0)
  else if 0x8B8008 ≤ o && o < 0x8B8018 then 0xFFFFFFFF00000000
  else if o = 0x8B8018 then 0xFFFFFFFF00000003
  else if 0x3F00000 ≤ o && o < 0x3F00440 && o % 16 = 8 then 0x100000000
  else
    match o with
    | 0x0 => 0x00000001_1F5C7480
    | 0x480000 => 0x1
    | 0x540000 => 0x00040408
    | 0x580000 => 0x00000048
    | 0x5C0000 => 0x50000404
    | 0x5C0008 => 0x00080F40
    | 0x600000 => 0x00000008
    | 0x600020 => 0x00040000
    | 0x600040 => 0x1
    | 0x640000 => 0x60000004
    | 0x640008 => 0x14080014
    | 0x680000 => 0x40004008
    | 0x680008 => 0x1E00000A_00000000
    | 0x700000 => 0x00000007
    | 0x700130 => 0x20
    | 0x740000 => 0x10000001
    | 0x800000 => 0x04040400
    | 0x800200 => 0x0000041A_000003E8
    | 0x800208 => 0x00000050_000003B6
    | 0x800210 => 0x00000334_00000E10
    | 0x800218 => 0x00000008_00000008
    | 0x800220 => 0x00000000_000003E8
    | _ => 0

end Sys2Proof.Machine
end

