-- ==== Sys2Proof/Machine/Hw.lean ====
section
/-!
DEFINITION. Machine/Hw.lean: everything the part holds but the queue of waiting commands.
-/

namespace Sys2Proof.Machine

/-- An entry of a Darning buffer (R240): its line (address / 256), and the bytes whose mask bit is set, by offset in the line. -/
structure Darn where
  line : Nat
  bytes : Tab Byte
  deriving DecidableEq, Repr

/-- A request that holds a tag (R238): stack, channel, line; a write whose channel is in a window, or a read with what its line held, poison
included, as it was accepted (R239). -/
structure HbmReq where
  stack : Nat
  ch : Nat
  line : Nat
  write : Bool
  data : Bytes
  bad : Bool
  deriving DecidableEq, Repr

/-- A window of a stack (R253, R250): its channel, whether it is a margining window, the operation of the retrain, whether the retrain is the
one retry (R255). -/
structure HbmWin where
  ch : Nat
  margin : Bool
  op : Nat
  again : Bool
  deriving DecidableEq, Repr

/-- A margin scan (R250): parameter, offsets still to do, results so far (offset, counts of the lanes), operation. -/
structure Scan where
  stack : Nat
  ch : Nat
  param : Nat
  todo : List Int
  done : List (Int × List Nat)
  opId : Nat
  deriving DecidableEq, Repr

/-- HBM (chapter 07). -/
structure Hbm where
  /-- DRAM data bytes by device physical address. -/
  mem : Memory
  /-- Poisoned lines (address / 256). -/
  poison : List Nat
  /-- Bits flipped in the stored 80-bit codeword of a word since it was written, by word address. -/
  flips : Tab Nat
  /-- Darning entries of all stacks, in order of allocation. -/
  darn : List Darn
  /-- Requests that hold a tag, in order of acceptance. -/
  reqs : List HbmReq
  /-- Open windows by stack. -/
  wins : Tab HbmWin
  /-- Channels waiting for a retrain, as stack × 32 + channel: the operation that asked, or 0, and whether it is the one retry. -/
  trig : Tab (Nat × Bool)
  /-- Channels whose failed retrain is to be tried again (R255). -/
  retry : List Nat
  /-- Channels that firmware is to map out (R255 with AUTO_MAPOUT). -/
  autoMap : List Nat
  /-- Corrected errors in the current window of 1 ms: window number, count, by channel (R252). -/
  ceWin : Tab (Nat × Nat)
  scans : List Scan
  /-- Finished scans (R250 step 5). -/
  scanRes : List Scan
  /-- Map-outs running: stack, channel and operation (R257); `relay` once evacuated. -/
  mapout : Tab (Nat × Nat)
  relay : List Nat
  /-- Next line of the scrub pass, by stack; lines passed over, of channels in a window (R248). -/
  scrub : Tab Nat
  scrubSkip : List Nat
  /-- Stacks that lost their contents, and when by freeCtr (log entry 26). -/
  lost : Tab Nat
  deriving DecidableEq, Repr

/-- Training support (chapter 11) beside its registers. -/
structure Train where
  /-- Slots that posted a FRACTION in the current step (R384). -/
  fracMark : List Nat
  /-- Slots that posted an ABSENT since they were last written (R385). -/
  absMark : List Nat
  /-- A MARK started an absence scan that has not run (R385). -/
  scan : Bool
  /-- TRAIN_CFG ENABLE was written 0 with contexts in use (R373). -/
  draining : Bool
  /-- What DATA_CURSOR held before each of the job's writes to it, oldest first (R377). -/
  curLog : List Nat := []
  deriving DecidableEq, Repr

/-- Die-to-die links (R33, R37): 0 to 3 the ring, 4 to 7 the Yoke links. -/
structure D2d where
  /-- Links in a retrain. -/
  training : List Nat
  /-- Flits replayed, by link, and retrains. -/
  replays : Tab Nat
  retrains : Tab Nat
  failed : Bool
  deriving DecidableEq, Repr

/-- The four monotonic counters of NOR (R464). -/
structure Rpmc where
  svn : Nat
  cfgGen : Nat
  ownerGen : Nat
  keyFloor : Nat
  deriving DecidableEq, Repr

/-- The hardware. -/
structure Hw where
  /-- Register words by aligned BAR0 offset; an unlisted word holds its reset value. -/
  regs : Tab Word64
  /-- Bits in which the second and third copies of a voted word differ from the first (R544). -/
  votes : Tab (Word64 × Word64)
  latch : List Latch
  heldRt : List HeldRt
  /-- Powered domains, in the bit order of DEV_STATUS (R441). -/
  dom : Nat
  evt : Evt
  shut : Shuttle
  spad : Spad
  tailor : Tailor
  hbm : Hbm
  xl : Xlate
  train : Train
  opt : Opt
  topo : Topo
  d2d : D2d
  bast : Bast
  mb : Mb
  sec : Sec
  sage : Sage
  pcie : Pcie
  side : Side
  /-- Thimble local SRAM (R38), and when by freeCtr it lost its contents (log entry 26). -/
  sram : Memory
  sramLost : Option Nat
  /-- NOR flash by address (R462); an unlisted byte is erased or as the factory left it. -/
  nor : Memory
  rpmc : Rpmc
  /-- What left the part, newest first. -/
  out : List Out
  /-- Counter of open values: every command advances it (log entry 3). -/
  freeCtr : Nat
  deriving DecidableEq, Repr

end Sys2Proof.Machine
end

