-- ==== Sys2Proof/Machine/Bank.lean ====
section
/-!
DEFINITION. Machine/Bank.lean: reading and writing fields of the register bank, counters, events and outputs.
-/

namespace Sys2Proof.Machine

/-- The aligned word that holds a field. -/
def Fld.word (f : Fld) : Nat := f.off / 8 * 8

/-- The field's least significant bit in its word. -/
def Fld.sh (f : Fld) : Nat := f.lo + f.off % 8 * 8

/-- The field's width. -/
def Fld.width (f : Fld) : Nat := f.hi + 1 - f.lo

/-- Ones in the field's bits. -/
def Fld.mask (f : Fld) : Word64 := BitVec.ofNat 64 (2 ^ f.width - 1) <<< f.sh

/-- A field of a word. -/
def Fld.ofWord (f : Fld) (w : Word64) : Nat := ((w &&& f.mask) >>> f.sh).toNat

/-- A word with a field replaced. -/
def Fld.into (f : Fld) (v : Nat) (w : Word64) : Word64 := (w &&& ~~~f.mask) ||| ((BitVec.ofNat 64 v <<< f.sh) &&& f.mask)

/-- The stored word at an aligned offset: its first copy. -/
def Hw.raw (h : Hw) (o : Nat) : Word64 := (h.regs.find? o).getD (BitVec.ofNat 64 (resetWord o))

/-- Where the other two copies differ from the first in the same way, the majority differs from the first (R544). -/
def Hw.vmask (h : Hw) (o : Nat) : Word64 :=
  match h.votes.find? o with
  | none => 0
  | some (a, b) => a &&& b

/-- The word at an aligned offset: the majority of its copies (R544). -/
def Hw.word (h : Hw) (o : Nat) : Word64 := h.raw o ^^^ h.vmask o

/-- A field's value. -/
def Hw.get (h : Hw) (f : Fld) : Nat := f.ofWord (h.word f.word)

/-- A one-bit field. -/
def Hw.flag (h : Hw) (f : Fld) : Bool := h.get f != 0

/-- Store a word in all three copies. -/
def Hw.setWord (h : Hw) (o : Nat) (w : Word64) : Hw :=
  { h with regs := h.regs.set o w, votes := h.votes.del o }

/-- Store the bits of a mask of a word in all three copies (R15, R545); the other bits of the word keep their copies. -/
def Hw.putBits (h : Hw) (o : Nat) (m w : Word64) : Hw :=
  { h with
    regs := h.regs.set o ((h.raw o &&& ~~~m) ||| (w &&& m))
    votes := h.votes.upd o (fun d => (d.1 &&& ~~~m, d.2 &&& ~~~m)) }

/-- Write a field; every write stores all three copies of the field (R15, R545). -/
def Hw.set (h : Hw) (f : Fld) (v : Nat) : Hw := h.putBits f.word f.mask (BitVec.ofNat 64 v <<< f.sh)

/-- Write a flag. -/
def Hw.setB (h : Hw) (f : Fld) (b : Bool) : Hw := h.set f b.toNat

/-- Count, saturating at the field's greatest value. -/
def Hw.inc (h : Hw) (f : Fld) (n : Nat := 1) : Hw := h.set f (min (h.get f + n) (2 ^ f.width - 1))

/-- Clear a range of the bank to its reset values. -/
def Hw.resetRange (h : Hw) (a b : Nat) : Hw :=
  { h with regs := h.regs.drop (fun o => a ≤ o && o < b), votes := h.votes.drop (fun o => a ≤ o && o < b) }

/-- A fresh open value for a use within the command. -/
def Hw.free (h : Hw) (site : Nat) : Nat := Config.freeNat h.freeCtr site

/-- A fresh open choice for a use within the command. -/
def Hw.choice (h : Hw) (site : Nat) : Bool := Config.freeBool h.freeCtr site

/-- Whether a message goes upstream over PCIe: it waits while the port is in D3hot (R526). -/
def Out.upstream : Out → Bool
  | .msix .. | .hostWrite .. | .ats .. | .nvme .. => true
  | _ => false

/-- Traffic takes the link out of ASPM L1 (R526). -/
def Hw.l1Exit (h : Hw) : Hw := if h.flag F.PCIE_L1 && h.get F.DSTATE = 0 then h.set F.PCIE_L1 0 else h

/-- Send something outside; what goes upstream waits until D0 (R526). -/
def Hw.send (h : Hw) (x : Out) : Hw :=
  if x.upstream && h.get F.DSTATE = 3 then { h with pcie := { h.pcie with wait := h.pcie.wait ++ [x] } }
  else
    let h := if x.upstream then h.l1Exit else h
    { h with out := x :: h.out }

/-- Whether a domain is powered, by its bit of R441. -/
def Hw.domOn (h : Hw) (d : Nat) : Bool := h.dom.testBit d

def domAON : Nat := 0
def domYOKE : Nat := 1
def domPANEL (p : Nat) : Nat := 2 + p
def domEYELET (e : Nat) : Nat := 6 + e
def domSTACK (s : Nat) : Nat := 14 + s

/-- The domain that a domain other than AON depends on (R41). -/
def domParent (d : Nat) : Nat :=
  if d = domYOKE then domAON else if d < 6 then domYOKE else if d < 14 then domPANEL ((d - 6) / 2) else domPANEL ((d - 14) / 4)

/-- A domain below YOKE powers on: only while the domain it depends on is powered (R41). -/
def Hw.domUp (h : Hw) (d : Nat) : Hw := if 2 ≤ d && d < 30 && h.domOn (domParent d) then { h with dom := h.dom ||| 2 ^ d } else h

/-- An Eyelet or a stack powers off; nothing depends on it (R41). -/
def Hw.domDown (h : Hw) (d : Nat) : Hw := if 6 ≤ d then { h with dom := h.dom &&& (2 ^ 30 - 1 ^^^ 2 ^ d) } else h

/-- The latched profile is Solo (R3 to R5). -/
def Hw.solo (h : Hw) : Bool := h.get F.GBL_PROFILE == 1

/-- Raise an MSI-X vector: a masked one sets its pending bit, another sends its message (R525);
in D3hot messages are held in the pending bits (R526). In Solo profile the Thimble cores are
interrupted instead (R185, R291). -/
def Hw.msix (h : Hw) (v : Nat) : Hw :=
  if h.solo then h.send (.irq v)
  else if h.flag (F.MSIX_MASK v) || h.get F.DSTATE = 3 then h.set (F.MSIX_PBA v) 1
  else h.send (.msix v (h.get (F.MSIX_ADDR v)) (h.get (F.MSIX_DATA v)))

/-- An argument of an event or a field of a payload: its size in bytes, its value (R428). -/
structure Arg where
  size : Nat
  val : Nat
  deriving DecidableEq, Repr

def u8 (v : Nat) : Arg := ⟨1, v⟩
def u16 (v : Nat) : Arg := ⟨2, v⟩
def u32 (v : Nat) : Arg := ⟨4, v⟩
def u64 (v : Nat) : Arg := ⟨8, v⟩

/-- A signed value as two's complement bits of a width. -/
def twos (w : Nat) (x : Int) : Nat := (x % (2 ^ w : Nat)).toNat

/-- Two's complement bits of a width as a signed value. -/
def untwos (w : Nat) (x : Nat) : Int := if x % 2 ^ w < 2 ^ (w - 1) then (x % 2 ^ w : Nat) else (x % 2 ^ w : Nat) - (2 ^ w : Nat)

/-- Pack fields in order, each at the next multiple of its size, gaps 0 (R428). -/
def pack : List Arg → Bytes → Bytes
  | [], acc => acc
  | a :: r, acc =>
    let padN := (a.size - acc.length % a.size) % a.size
    pack r (acc ++ List.replicate padN 0 ++ natLE a.size a.val)

/-- Pad a byte list with zeros to a length. -/
def padTo (n : Nat) (b : Bytes) : Bytes := (b ++ List.replicate (n - b.length) 0).take n

/-- The 32 bytes of an event record (R458). -/
def EvRec.bytes (e : EvRec) : Bytes :=
  natLE 2 e.code ++ natLE 1 e.sev ++ [0] ++ natLE 4 e.seq ++ natLE 8 e.time ++ padTo 16 e.args

/-- Whether a filter (0 host ring, 1 EVT_READ, 2 NOR log) passes an event (R459). -/
def Hw.evFilter (h : Hw) (sub code sev : Nat) : Bool :=
  decide (h.get (F.EVF_MIN_SEV sub) ≤ sev) && (h.get (F.EVF_CLASS_MASK sub)).testBit (code / 256)

/-- Records the NOR log region holds (R462). -/
def norLogSlots : Nat := 3145728

/-- The product of a list. -/
def prodList (l : List Nat) : Nat := l.foldl (· * ·) 1

end Sys2Proof.Machine
end

