-- ==== Sys2Proof/Machine/Events.lean ====
section
/-!
DEFINITION. Machine/Events.lean: posting events and their records (R458 to R460).
-/

namespace Sys2Proof.Machine

/-- An event's code and severity (R460). -/
structure EvCode where
  code : Nat
  sev : Nat
  deriving DecidableEq, Repr

namespace Ev

def evProfileInvalid : EvCode := ⟨0x0101, 2⟩ -- EV_PROFILE_INVALID (u8 STORED)
def evD2dRetrain : EvCode := ⟨Config.d2dRetrainCode % 65536, Config.d2dRetrainSev % 5⟩ -- R37, in no table
def evD2dFail : EvCode := ⟨0x0102, 4⟩ -- EV_D2D_FAIL (u8 LINK)
def evVoteCorrected : EvCode := ⟨0x0103, 1⟩ -- EV_VOTE_CORRECTED (u32 OFFSET)
def evMbDropped : EvCode := ⟨0x0104, 1⟩ -- EV_MB_DROPPED (u8 CHANNEL, u8 KIND)
def evEvtLost : EvCode := ⟨0x0105, 2⟩ -- EV_EVT_LOST (u32 COUNT)
def evFwError : EvCode := ⟨0x0106, 3⟩ -- EV_FW_ERROR (u16 OPCODE, u32 DETAIL)
def evBootFallback : EvCode := ⟨0x0201, 2⟩ -- EV_BOOT_FALLBACK (u8 SLOT, u8 REASON)
def evRecovery : EvCode := ⟨0x0202, 3⟩ -- EV_RECOVERY (u8 REASON)
def evImageCommitted : EvCode := ⟨0x0203, 0⟩ -- EV_IMAGE_COMMITTED (u8 SLOT, u32 BUNDLE_VER)
def evVinWarn : EvCode := ⟨0x0301, 2⟩ -- EV_VIN_WARN (u32 VIN_MV)
def evVinReset : EvCode := ⟨0x0302, 3⟩ -- EV_VIN_RESET (u32 VIN_MV)
def evThermalSlope : EvCode := ⟨0x0303, 2⟩ -- EV_THERMAL_SLOPE (u8 SENSOR, s16 SLOPE)
def evThrottle : EvCode := ⟨0x0304, 1⟩ -- EV_THROTTLE (u8 DIV, u8 CAUSE)
def evThermtrip : EvCode := ⟨0x0305, 4⟩ -- EV_THERMTRIP (u8 SENSOR, s16 TEMP)
def evPinStuck : EvCode := ⟨0x0306, 2⟩ -- EV_PIN_STUCK (u8 PIN)
def evPinChatter : EvCode := ⟨0x0307, 2⟩ -- EV_PIN_CHATTER (u8 PIN)
def evMmaPoison : EvCode := ⟨0x0401, 3⟩ -- EV_MMA_POISON (u16 ARRAY, u64 ADDR)
def evVecEmpty : EvCode := ⟨0x0402, 0⟩ -- EV_VEC_EMPTY (u8 ENGINE, u16 DESC)
def evVecPoison : EvCode := ⟨0x0403, 3⟩ -- EV_VEC_POISON (u8 ENGINE, u64 ADDR)
def evCtxFail : EvCode := ⟨0x0404, 3⟩ -- EV_CTX_FAIL (u16 CTX, u16 STATUS, u32 INDEX)
def evQueueErr : EvCode := ⟨0x0405, 3⟩ -- EV_QUEUE_ERR (u8 QUEUE, u8 Q_ERR)
def evSpadUe : EvCode := ⟨0x0406, 3⟩ -- EV_SPAD_UE (u64 ADDR)
def evTailorRingErr : EvCode := ⟨0x0407, 3⟩ -- EV_TAILOR_RING_ERR (u8 TREQ_ERR)
def evTailorPending : EvCode := ⟨0x0408, 1⟩ -- EV_TAILOR_PENDING (u16 OBJ)
def evTailorSpill : EvCode := ⟨0x0409, 0⟩ -- EV_TAILOR_SPILL (u16 OBJ, u8 TIER)
def evFaultRingFull : EvCode := ⟨0x040A, 2⟩ -- EV_FAULT_RING_FULL ()
def evFaultTimeout : EvCode := ⟨0x040B, 3⟩ -- EV_FAULT_TIMEOUT (u16 FAULT_ID, u16 CTX)
def evCtxRestorePoison : EvCode := ⟨0x040C, 3⟩ -- EV_CTX_RESTORE_POISON (u16 CTX)
def evCursorSkew : EvCode := ⟨0x040D, 2⟩ -- EV_CURSOR_SKEW (u32 MARK_STEP, u64 SKEW_DELTA)
def evGradStarve : EvCode := ⟨0x040E, 2⟩ -- EV_GRAD_STARVE (u16 SLOT, u8 KIND, u16 CTX, u32 STEP, u32 VALUE)
def evGradWatchRelaxed : EvCode := ⟨0x040F, 1⟩ -- EV_GRAD_WATCH_RELAXED (u16 SLOT, u8 WATCH_EN, u16 STARVE_N)
def evJobQuiesced : EvCode := ⟨0x0410, 0⟩ -- EV_JOB_QUIESCED (u32 BLOCK_EN)
def evTopoMismatch : EvCode := ⟨0x0501, 2⟩ -- EV_TOPO_MISMATCH (u8 LINK, u8 REASON, u8 PLINK, u16 CHIP)
def evTopoExtra : EvCode := ⟨0x0502, 1⟩ -- EV_TOPO_EXTRA (u8 LINK, u8 REASON, u8 PLINK, u16 CHIP)
def evTopoReady : EvCode := ⟨0x0503, 0⟩ -- EV_TOPO_READY ()
def evTopoDegraded : EvCode := ⟨0x0504, 2⟩ -- EV_TOPO_DEGRADED (u64 MISSING)
def evTopoShort : EvCode := ⟨0x0505, 3⟩ -- EV_TOPO_SHORT (u64 SHORT)
def evPeerDead : EvCode := ⟨0x0506, 3⟩ -- EV_PEER_DEAD (u16 CHIP)
def evPeerAlive : EvCode := ⟨0x0507, 1⟩ -- EV_PEER_ALIVE (u16 CHIP)
def evCollFail : EvCode := ⟨0x0508, 3⟩ -- EV_COLL_FAIL (u32 SEQ, u8 PAXIS, u8 REASON, u16 POSITION)
def evStraggler : EvCode := ⟨0x0509, 2⟩ -- EV_STRAGGLER (u8 LINK, u16 CHIP, u64 SKEW)
def evLinkUp : EvCode := ⟨0x0601, 0⟩ -- EV_LINK_UP (u8 LINK, u8 WIDTH)
def evLinkNoLight : EvCode := ⟨0x0602, 2⟩ -- EV_LINK_NO_LIGHT (u8 LINK)
def evLaneFail : EvCode := ⟨0x0603, 2⟩ -- EV_LANE_FAIL (u8 LINK, u8 LANE)
def evLinkFail : EvCode := ⟨0x0604, 3⟩ -- EV_LINK_FAIL (u8 LINK)
def evEyeletFail : EvCode := ⟨0x0605, 3⟩ -- EV_EYELET_FAIL (u8 EYELET)
def evCalOverdue : EvCode := ⟨0x0606, 1⟩ -- EV_CAL_OVERDUE (u8 EYELET, u8 WAVELENGTH)
def evLaneMargin : EvCode := ⟨0x0607, 2⟩ -- EV_LANE_MARGIN (u8 LINK, u8 LANE, s8 MARGIN)
def evLaneDropped : EvCode := ⟨0x0608, 2⟩ -- EV_LANE_DROPPED (u8 LINK, u8 LANE, u8 LASER)
def evSpareExhausted : EvCode := ⟨0x0609, 2⟩ -- EV_SPARE_EXHAUSTED (u8 EYELET)
def evLaserFadeWarn : EvCode := ⟨0x060A, 1⟩ -- EV_LASER_FADE_WARN (u8 EYELET, u8 LASER, s16 FADE)
def evLaserSpared : EvCode := ⟨0x060B, 1⟩ -- EV_LASER_SPARED (u8 EYELET, u8 OLD, u8 NEW, u8 SPARES_FREE)
def evSpareFail : EvCode := ⟨0x060C, 2⟩ -- EV_SPARE_FAIL (u8 EYELET, u8 LASER)
def evRethreadMismatch : EvCode := ⟨0x060D, 3⟩ -- EV_RETHREAD_MISMATCH (u8 LINK, u8 PORT, u16 CHIP)
def evHbmUe : EvCode := ⟨0x0701, 3⟩ -- EV_HBM_UE (u8 STACK, u8 CH, u64 ADDR)
def evHbmRetrain : EvCode := ⟨0x0702, 0⟩ -- EV_HBM_RETRAIN (u8 STACK, u8 CH, u8 RESULT)
def evHbmRetrainFail : EvCode := ⟨0x0703, 3⟩ -- EV_HBM_RETRAIN_FAIL (u8 STACK, u8 CH)
def evHbmMapoutRecommend : EvCode := ⟨0x0704, 2⟩ -- EV_HBM_MAPOUT_RECOMMEND (u8 STACK, u8 CH, u8 CAUSE)
def evHbmMapoutDone : EvCode := ⟨0x0705, 1⟩ -- EV_HBM_MAPOUT_DONE (u8 STACK, u8 CH, u8 N_ACTIVE)
def evHbmTrainFail : EvCode := ⟨0x0706, 3⟩ -- EV_HBM_TRAIN_FAIL (u8 STACK, u8 CH)
def evMemMarginDone : EvCode := ⟨0x0707, 0⟩ -- EV_MEM_MARGIN_DONE (u8 STACK, u8 CH, u8 PARAM, u8 POINTS)
def evSnapDone : EvCode := ⟨0x0901, 0⟩ -- EV_SNAP_DONE (u64 EPOCH, u16 SETID, u8 SLOT)
def evSnapAbort : EvCode := ⟨0x0902, 3⟩ -- EV_SNAP_ABORT (u64 EPOCH, u16 SETID, u8 REASON)
def evLiningLost : EvCode := ⟨0x0903, 3⟩ -- EV_LINING_LOST (u16 BUDDY)
def evRestoreDone : EvCode := ⟨0x0904, 1⟩ -- EV_RESTORE_DONE (u64 EPOCH, u8 STATUS)
def evRestoreFail : EvCode := ⟨0x0905, 3⟩ -- EV_RESTORE_FAIL (u8 STATUS, u8 CAUSE, u16 ENTRY)

end Ev

/-- What a byte of NOR that is not listed reads as (R462): in the regions written only at manufacture the factory's content, elsewhere erased
(log entry 6). -/
def norBlank (a : Nat) : Byte :=
  if a < 0x20000 || (0x1000000 ≤ a && a < 0x9000000) then Config.factoryByte a else 0xFF

/-- Append a record to the NOR log region, circular (R459, R462). -/
def Hw.norLog (h : Hw) (b : Bytes) : Hw :=
  { h with
    nor := Mem.write norBlank h.nor (0x1A000000 + h.evt.norNext % norLogSlots * 32) b
    evt := { h.evt with norNext := (h.evt.norNext + 1) % 2 ^ 32 } }

/-- Whether the live log is full and its oldest record has not reached the host ring (R459; log entry 11). -/
def Hw.evOverwrites (h : Hw) : Bool :=
  match h.evt.log.drop 4095 with
  | [] => false
  | e :: _ => h.flag F.RING_EN && h.evFilter 0 e.code e.sev && (e.seq + 2 ^ 32 - h.evt.ringNext) % 2 ^ 32 < 2 ^ 31

/-- Enter one record into the live log and, where its severity or filter says so, the NOR log (R459). -/
def Hw.evAppend (h : Hw) (e : EvCode) (time : Nat) (args : Bytes) : Hw :=
  let seq := h.get F.EVT_SEQ
  let r : EvRec := ⟨e.code, e.sev, seq, time, padTo 16 args⟩
  let lose := h.evOverwrites
  let h := (if lose then (h.inc F.EVT_LOST_CNT).set F.EVT_LOST 1 else h).set F.EVT_SEQ ((seq + 1) % 2 ^ 32)
  let h := { h with evt := { h.evt with log := (r :: h.evt.log).take 4096 } }
  if 3 ≤ e.sev || h.evFilter 2 e.code e.sev then h.norLog r.bytes else h

/-- Enter a record, and EV_EVT_LOST after it if it overwrote one not delivered (R459; log entry 11). -/
def Hw.evRecord (h : Hw) (e : EvCode) (time : Nat) (args : Bytes) : Hw :=
  let lose := h.evOverwrites
  let h := h.evAppend e time args
  if lose then h.evAppend Ev.evEvtLost (h.get F.CYC_CTRL) (pack [u32 (h.get F.EVT_LOST_CNT)] []) else h

/-- Post an event (R459). While YOKE is off Sage keeps it, up to 64 records, with TIME 0 (R458). -/
def Hw.post (h : Hw) (e : EvCode) (args : List Arg) : Hw :=
  if h.domOn domYOKE then h.evRecord e (h.get F.CYC_CTRL) (pack args [])
  else { h with evt := { h.evt with aon := (h.evt.aon ++ [({ code := e.code, sev := e.sev, seq := 0, time := 0, args := padTo 16 (pack args []) } : EvRec)]).take 64 } }

/-- Post an event that Sage records: bit 63 of TIME is set (R458). -/
def Hw.postSage (h : Hw) (e : EvCode) (args : List Arg) : Hw :=
  if h.domOn domYOKE then h.evRecord e (2 ^ 63 + h.get F.CYC_CTRL % 2 ^ 63) (pack args [])
  else h.post e args

/-- Post an event that completes an asynchronous command: OP_ID in bytes 12 to 15 (R458). -/
def Hw.postOp (h : Hw) (e : EvCode) (args : List Arg) (op : Nat) : Hw :=
  if h.domOn domYOKE then h.evRecord e (h.get F.CYC_CTRL) (padTo 12 (pack args []) ++ natLE 4 op) else h

/-- Thimble posts the records Sage kept (R459). -/
def Hw.postKept (h : Hw) : Hw :=
  let kept := h.evt.aon
  let h := { h with evt := { h.evt with aon := [] } }
  kept.foldl (fun h r => h.evRecord ⟨r.code, r.sev⟩ 0 r.args) h

end Sys2Proof.Machine
end

