-- ==== Sys2Proof/Machine/Nor.lean ====
section
/-!
DEFINITION. Machine/Nor.lean: the Config image in NOR (R475, R476).
-/

namespace Sys2Proof.Machine

/-- Base of Config copy 0 or 1 (R462). -/
def cfgBase (i : Nat) : Nat := 0x19000000 + i * 0x800000

/-- Read n bytes of NOR. -/
def Hw.norRead (h : Hw) (a n : Nat) : Bytes := Mem.read norBlank h.nor a n

/-- Program bytes of NOR. -/
def Hw.norWrite (h : Hw) (a : Nat) (bs : Bytes) : Hw := { h with nor := Mem.write norBlank h.nor a bs }

/-- A Config key with its value. -/
structure CfgKey where
  key : Nat
  val : Bytes
  deriving DecidableEq, Repr

/-- Bytes a value takes, padded. -/
def pad4 (n : Nat) : Nat := (n + 3) / 4 * 4

/-- Read the entries of a copy. -/
def parseCfg : Nat → Bytes → List CfgKey
  | 0, _ => []
  | n + 1, b => ⟨fieldLE b 0 2, (b.drop 4).take (fieldLE b 2 2)⟩ :: parseCfg n (b.drop (4 + pad4 (fieldLE b 2 2)))

/-- Whether keys rise strictly. -/
def keysRise : List CfgKey → Bool
  | a :: b :: r => a.key < b.key && keysRise (b :: r)
  | _ => true

/-- The entries of a copy, if it is valid (R475). -/
def Hw.cfgCopy (h : Hw) (i : Nat) : Option (List CfgKey) :=
  let hd := h.norRead (cfgBase i) 0x30
  let len := fieldLE hd 12 4
  if fieldLE hd 0 4 = 0x47464E43 && fieldLE hd 4 2 = 1 && fieldLE hd 8 4 = h.rpmc.cfgGen && 0x30 ≤ len && len ≤ 0x800000 then
    let body := h.norRead (cfgBase i + 0x30) (len - 0x30)
    let es := parseCfg (fieldLE hd 6 2) body
    if sha256 body = (hd.drop 16).take 32 && keysRise es then some es else none
  else none

/-- The valid copy: its number and entries. -/
def Hw.cfgValid (h : Hw) : Option (Nat × List CfgKey) :=
  match h.cfgCopy 0 with
  | some es => some (0, es)
  | none => (h.cfgCopy 1).map (fun es => (1, es))

/-- The bytes of a copy (R475). -/
def cfgBytes (gen : Nat) (es : List CfgKey) : Bytes :=
  let body := (es.map (fun e => natLE 2 e.key ++ natLE 2 e.val.length ++ padTo (pad4 e.val.length) e.val)).flatten
  natLE 4 0x47464E43 ++ natLE 2 1 ++ natLE 2 es.length ++ natLE 4 gen ++ natLE 4 (0x30 + body.length) ++ sha256 body ++ body

/-- Replace the entries of the Config image, in the three steps of R475; a counter at its greatest value lets nothing change (R464). The register
CFG_GEN changes only at a boot (R488; log entry 59). -/
def Hw.cfgReplace (h : Hw) (es : List CfgKey) : Hw :=
  if h.rpmc.cfgGen = 0xFFFFFFFF then h
  else
    let i := match h.cfgValid with
      | some (0, _) => 1
      | _ => 0
    let h := h.norWrite (cfgBase i) (cfgBytes (h.rpmc.cfgGen + 1) es)
    { h with rpmc := { h.rpmc with cfgGen := h.rpmc.cfgGen + 1 } }

/-- The entries stored. -/
def Hw.cfgEntries (h : Hw) : List CfgKey := ((h.cfgValid).map (·.2)).getD []

/-- Insert an entry in key order. -/
def cfgInsert : List CfgKey → CfgKey → List CfgKey
  | [], e => [e]
  | a :: r, e => if e.key < a.key then e :: a :: r else if e.key = a.key then e :: r else a :: cfgInsert r e

/-- Store a key (R475). -/
def Hw.cfgPut (h : Hw) (key : Nat) (val : Bytes) : Hw := h.cfgReplace (cfgInsert h.cfgEntries ⟨key, val⟩)

/-- Remove keys. -/
def Hw.cfgDrop (h : Hw) (p : Nat → Bool) : Hw := h.cfgReplace (h.cfgEntries.filter (fun e => !p e.key))

/-- The stored value of a key. -/
def Hw.cfgGet (h : Hw) (key : Nat) : Option Bytes := ((h.cfgEntries.find? (·.key == key))).map (·.val)

/-- The length of a key's value; none for an unknown key (R476). -/
def cfgLen (k : Nat) : Option Nat :=
  if k = 1 then some 1
  else if 0x10 ≤ k && k ≤ 0x1F then some 4
  else if 0x20 ≤ k && k ≤ 0x27 then some 36
  else if 0x100 ≤ k && k ≤ 0x10E then some 4
  else if k = 0x110 then some 8
  else if 0x300 ≤ k && k ≤ 0x3FF then some 2
  else none

end Sys2Proof.Machine
end

