-- ==== Sys2Proof/Machine/Yel.lean ====
section
/-!
DEFINITION. Machine/Yel.lean: frames, retransmission and credits (R310 to R315), the topology plan (R338 to R344), the outcome of
discovery (R349), the peer table and routes (R351 to R353), the part's own requests to peers (R273).
-/

namespace Sys2Proof.Machine

/-! ### Frames -/

/-- One bit of CRC-64/ECMA-182. -/
def crc64Bit (c : Nat) (b : Bool) : Nat :=
  let top := c.testBit 63 != b
  let s := c * 2 % 2 ^ 64
  if top then s ^^^ 0x42F0E1EBA9EA3693 else s

/-- CRC-64/ECMA-182 of a byte string (R310). -/
def crc64 (bs : Bytes) : Nat :=
  bs.foldl (fun c b => (List.range 8).foldl (fun c i => crc64Bit c (b.toNat.testBit (7 - i))) c) 0

def ftIDLE : Nat := 0
def ftWRITE : Nat := 1
def ftREADREQ : Nat := 2
def ftREADRESP : Nat := 3
def ftCOLL : Nat := 4
def ftLIF : Nat := 5
def ftKEEPALIVE : Nat := 6
def ftCTRL : Nat := 7

/-- The 632 bytes of a frame that its CRC covers (R310). -/
def Frm.body (f : Frm) : Bytes :=
  natLE 8 (f.ftype * 2 ^ 60 + f.vl * 2 ^ 56 + f.last.toNat * 2 ^ 55 + f.poison.toNat * 2 ^ 54 + f.len * 2 ^ 32 + f.lseq) ++
  natLE 8 (f.ack * 2 ^ 32 + f.nak.toNat * 2 ^ 31 + f.crVl * 2 ^ 16 + f.crCnt) ++
  natLE 8 (f.dst * 2 ^ 48 + f.src * 2 ^ 32 + f.tag) ++ natLE 8 f.addr ++ natLE 8 f.aux ++ padTo 592 f.data

/-- The 640 bytes of a frame (R310). -/
def Frm.bytes (f : Frm) : Bytes := f.body ++ natLE 8 (crc64 f.body)

/-- The fields of a frame's bytes (R310). -/
def frmOf (b : Bytes) : Frm :=
  let w (i : Nat) : Nat := fieldLE b (8 * i) 8
  { ftype := bitsOf (w 0) 63 60, vl := bitsOf (w 0) 59 56, last := bitOf (w 0) 55, poison := bitOf (w 0) 54
    len := bitsOf (w 0) 47 32, lseq := bitsOf (w 0) 31 0, ack := bitsOf (w 1) 63 32, nak := bitOf (w 1) 31
    crVl := bitsOf (w 1) 19 16, crCnt := bitsOf (w 1) 15 0, dst := bitsOf (w 2) 63 48, src := bitsOf (w 2) 47 32
    tag := bitsOf (w 2) 31 0, addr := w 3, aux := w 4, data := (b.drop 0x28).take 592, tries := 0 }

/-- Read a frame; none unless it is 640 bytes with a matching CRC (R312). -/
def parseFrm (b : Bytes) : Option Frm := if b.length = 640 && fieldLE b 0x278 8 = crc64 (b.take 0x278) then some (frmOf b) else none

/-- A frame with its header fields, the rest 0. -/
def mkFrm (ftype vl dst src tag addr aux : Nat) (data : Bytes) : Frm :=
  ⟨ftype, vl, true, false, data.length, 0, 0, false, 0, 0, dst, src, tag, addr, aux, data, 0⟩


def EyeSt.fresh : EyeSt := ⟨none, [], none, none, [], false, false⟩

def Hw.lk (h : Hw) (l : Nat) : LinkSt := h.opt.links.getD l {}

def Hw.updLk (h : Hw) (l : Nat) (f : LinkSt → LinkSt) : Hw := { h with opt := { h.opt with links := h.opt.links.set l (f (h.lk l)) } }

def Hw.eye (h : Hw) (e : Nat) : EyeSt := h.opt.eyes.getD e EyeSt.fresh

def Hw.updEye (h : Hw) (e : Nat) (f : EyeSt → EyeSt) : Hw := { h with opt := { h.opt with eyes := h.opt.eyes.set e (f (h.eye e)) } }

def lsOFF : Nat := 0
def lsTUNING : Nat := 1
def lsWAITLIGHT : Nat := 2
def lsACQUIRE : Nat := 3
def lsALIGN : Nat := 4
def lsVERIFY : Nat := 5
def lsIDENTIFY : Nat := 6
def lsUP : Nat := 7
def lsRETRAIN : Nat := 8
def lsRETHREAD : Nat := 9
def lsHELD : Nat := 10
def lsDARK : Nat := 11
def lsFAILED : Nat := 12

def Hw.lkState (h : Hw) (l : Nat) : Nat := h.get (F.LNK_STATE l)

def Hw.lkUp (h : Hw) (l : Nat) : Bool := h.lkState l == lsUP

/-- Chip number of the part (R24, R336). -/
def Hw.myChip (h : Hw) : Nat := h.get F.TOPO_POD * 1024 + h.get F.TOPO_BOARD * 16 + h.get F.TOPO_SLOT

/-- The plan link that a physical link serves (R348). -/
def Hw.plinkOf (h : Hw) (l : Nat) : Nat := h.get (F.PLINK l)

/-- The physical link that serves a plan link. -/
def Hw.physOf (h : Hw) (p : Nat) : Nat := ((List.range 64).find? (fun l => h.plinkOf l = p)).getD p

/-- The credits that the next frame returns: those owed for the lowest virtual lane (R315). -/
def LinkSt.owing (s : LinkSt) : Nat × Nat := ((s.owed.head?).map (fun e => (e.1, min e.2 0xFFFF))).getD (0, 0)

/-- Take the credits that a frame returned out of those owed. -/
def LinkSt.repaid (s : LinkSt) : LinkSt := { s with owed := s.owed.drop (· == s.owing.1) }

/-- Put one frame on the fiber: it takes the next LSEQ and stays in the retry buffer (R314). -/
def Hw.txFrame (h : Hw) (l : Nat) (f : Frm) : Hw :=
  let s := h.lk l
  let f := { f with lseq := s.nextTx, ack := (s.rxNext + 2 ^ 32 - 1) % 2 ^ 32, crVl := s.owing.1, crCnt := s.owing.2 }
  let h := h.updLk l (fun s => { s.repaid with
    retry := s.retry ++ [f], nextTx := (s.nextTx + 1) % 2 ^ 32, credits := s.credits.set f.vl (s.credits.getD f.vl 0 - 1) })
  (h.inc (F.FRAMES_TX l)).send (.frame l f.ftype f.bytes)

/-- Whether a link deals frames: UP, and not stopped for a re-thread until step 4 (R317, R328). -/
def Hw.deals (h : Hw) (l : Nat) : Bool :=
  h.lkUp l && (match (h.lk l).rethread with
    | some (_, k) => k == 3
    | none => true)

/-- Whether a link can send a frame now: room in the retry buffer, a credit of the lane; while TOPO_CFG ENABLE is 0 only lane 0 goes
(R314, R315, R338). -/
def Hw.canTx (h : Hw) (l vl : Nat) : Bool :=
  h.deals l && (vl == 0 || h.flag F.TOPO_CFG_ENABLE) && (h.lk l).retry.length < 1024 && 0 < (h.lk l).credits.getD vl 0

/-- Send what waits, in order on each virtual lane. -/
def Hw.pump : Nat → Nat → Hw → Hw
  | 0, _, h => h
  | n + 1, l, h =>
    match (h.lk l).queue.find? (fun f => h.canTx l f.vl) with
    | none => h
    | some f => Hw.pump n l ((h.updLk l (fun s => { s with queue := s.queue.erase f })).txFrame l f)

/-- Queue a frame on a link and send what can be sent. -/
def Hw.sendFrame (h : Hw) (l : Nat) (f : Frm) : Hw :=
  let h := h.updLk l (fun s => { s with queue := s.queue ++ [f] })
  h.pump (h.lk l).queue.length l

/-- Send an IDLE frame, with NAK if lost frames are to be replayed (R314). -/
def Hw.sendIdle (h : Hw) (l : Nat) (nak : Bool) : Hw :=
  let s := h.lk l
  let f : Frm := { mkFrm ftIDLE 0 0 0 0 0 0 [] with
    lseq := s.nextTx, ack := (s.rxNext + 2 ^ 32 - 1) % 2 ^ 32, nak := nak, crVl := s.owing.1, crCnt := s.owing.2 }
  (h.updLk l LinkSt.repaid).send (.frame l ftIDLE f.bytes)

/-- Low 64 bits of the running plan digest (R313). -/
def Hw.planTag (h : Hw) : Nat := (h.topo.plan.map (fun p => fieldLE p.digest 0 8)).getD 0

/-- The fields of a lane marker (R313), which a CTRL frame carries at the same offsets (R310). VL_FREE tells what the buffer has room for:
the lane's 32 frames and the 1,024 shared ones, less what it holds (R315). -/
def Hw.markerBytes (h : Hw) (l lane slot op opLane opSlot opAt : Nat) : Bytes :=
  let s := h.lk l
  let ver := h.get F.YELYEL_VER_major * 256 + h.get F.YELYEL_VER_minor
  let used := s.held.length + s.collHeld.length
  natLE 8 (0x4D4B * 2 ^ 48 + l * 2 ^ 42 + lane * 2 ^ 40 + slot * 2 ^ 37 + s.blockCnt) ++
    natLE 8 (s.nextTx * 2 ^ 32 + (s.rxNext + 2 ^ 32 - 1) % 2 ^ 32) ++
    natLE 8 (op * 2 ^ 60 + opLane * 2 ^ 58 + opSlot * 2 ^ 55 + opAt) ++ natLE 8 (h.get (F.RX_MARGIN l)) ++
    ((List.range 16).map (fun v => natLE 2 (32 - min 32 ((s.held ++ s.collHeld).filter (fun f => f.vl = v)).length + (1024 - min 1024 used)))).flatten ++
    natLE 8 (h.myChip * 2 ^ 48 + ver * 2 ^ 32) ++ natLE 8 h.planTag

/-- Send CTRL frames, outside the sequence (R310, R318): one with an urgent operation, otherwise an open number of like frames
(R334 FRAMES_TX, log entry 162). -/
def Hw.sendCtrl (h : Hw) (l op lane slot at_ : Nat) : Hw :=
  (h.inc (F.FRAMES_TX l) (if op = 0 then 1 + h.free (300 + l) else 1)).send (.frame l ftCTRL (mkFrm ftCTRL 0 (h.get (F.LNK_PEER_CHIP l)) h.myChip 0 0 0 (h.markerBytes l 0 0 op lane slot at_)).bytes)

/-- Announce a lane operation in the markers, two blocks ahead (R320). -/
def Hw.announce (h : Hw) (l op lane slot why : Nat) : Hw :=
  let at_ := ((h.lk l).blockCnt + 2) % 2 ^ 35
  let h := h.updLk l (fun s => { s with ops := s.ops ++ [⟨op, lane, slot, at_, why⟩] })
  let body := padTo 0x278 (h.markerBytes l lane slot op lane slot at_)
  h.send (.frame l 16 (body ++ natLE 8 (crc64 body)))

/-! ### The plan -/

def parseAxis (b : Bytes) : Axis := ⟨fieldLE b 0 1, fieldLE b 1 1, fieldLE b 2 2, fieldLE b 4 1, fieldLE b 5 1, fieldLE b 6 2⟩

def parsePLink (w : Nat) : PLink := ⟨bitsOf w 63 60, bitsOf w 59 57, bitsOf w 56 52, bitsOf w 51 48, bitsOf w 31 0⟩

/-- Read a plan image (R340). -/
def parsePlan (b : Bytes) : Plan :=
  let nr := fieldLE b 8 2
  let ns := fieldLE b 10 2
  let fl := fieldLE b 7 1
  { image := b, nRanks := nr, nSpares := ns, discTmo := fieldLE b 12 2
    tokenCheck := bitOf fl 3, solo := bitOf fl 2, remapOk := bitOf fl 1, degradedOk := bitOf fl 0
    axes := (List.range (min (fieldLE b 6 1) 6)).map (fun a => parseAxis (slice b (0x40 + 32 * a) 32))
    links := (List.range 64).map (fun l => parsePLink (fieldLE b (0x100 + 8 * l) 8))
    tokens := (List.range (min (fieldLE b 14 1) 8)).map (fun t => slice b (0x300 + 32 * t) 32)
    ranks := (List.range (nr + ns)).map (fun r =>
      ⟨fieldLE b (0x400 + 16 * r) 2, bitOf (fieldLE b (0x402 + 16 * r) 2) 0, fieldLE b (0x408 + 16 * r) 8⟩)
    digest := sha256 b }

/-- Links of a RING, LINE or TREE bundle in a role (R342). -/
def Axis.bundleSize (a : Axis) (role : Nat) : Nat := if a.type = 3 && role = 4 then 2 * a.b else a.b

/-- Product of the sizes of the axes below a (R341). -/
def Plan.radix (p : Plan) (a : Nat) : Nat := prodList ((p.axes.take a).map (·.size))

/-- Coordinate of a rank on an axis (R341). -/
def Plan.coord (p : Plan) (r a : Nat) : Nat := r / p.radix a % ((p.axes[a]?).map (·.size)).getD 1

/-- The rank with coordinate c on axis a and the others of rank r. -/
def Plan.withCoord (p : Plan) (r a c : Nat) : Nat := r - p.coord r a * p.radix a + c * p.radix a

/-- Index of a chip in the rank table. -/
def Plan.find (p : Plan) (chip : Nat) : Option Nat := p.ranks.findIdx? (fun x => x.chip = chip)

def Plan.chip (p : Plan) (r : Nat) : Nat := ((p.ranks[r]?).map (·.chip)).getD 0

def noDup (l : List Nat) : Bool :=
  match l with
  | [] => true
  | x :: r => !r.contains x && noDup r

/-- Plan links of a role on an axis, in ascending IDX. -/
def Plan.bundle (p : Plan) (a role : Nat) : List Nat :=
  let es := p.links.zipIdx.filter (fun e => e.1.role = role && e.1.axis = a)
  (List.range 32).filterMap (fun i => (es.find? (fun e => e.1.idx = i)).map (·.2))

/-- The 1-based position in R343's list of the first reason to refuse a plan image; 0 if there is none. -/
def Hw.planCheck (h : Hw) (p : Plan) : Nat :=
  let b := p.image
  let zero (o n : Nat) : Bool := (slice b o n).all (· = 0)
  let nAx := fieldLE b 6 1
  let used := p.links.zipIdx.filter (fun e => e.1.role ≠ 0)
  let bundles : List (Nat × Nat) := (p.axes.zipIdx.map (fun e => if e.1.type = 4 then [] else [(e.2, 3), (e.2, 4)])).flatten
  let entries (a role : Nat) : List Nat := (used.filter (fun e => e.1.role = role && e.1.axis = a)).map (·.1.idx)
  let size (a role : Nat) : Nat := ((p.axes[a]?).map (·.bundleSize role)).getD 0
  let me := h.myChip
  let r := (p.find me).getD 0
  let resvBad := fieldLE b 0 4 ≠ 0x4E414C50 || fieldLE b 4 2 ≠ 1 || fieldLE b 7 1 / 16 ≠ 0 || !zero 0xF 0x31 ||
    !zero (0x40 + 32 * nAx) (32 * (6 - nAx)) || (List.range (min nAx 6)).any (fun a => !zero (0x48 + 32 * a) 24) ||
    (List.range 64).any (fun l => fieldLE b (0x104 + 8 * l) 2 ≠ 0) || p.links.any (fun e => 4 < e.role) ||
    (List.range p.ranks.length).any (fun r => fieldLE b (0x402 + 16 * r) 2 ≠ (if r < p.nRanks then 0 else 1) || !zero (0x404 + 16 * r) 4)
  let rangeBad := p.nRanks = 0 || 20480 < p.nRanks || 4096 < p.nSpares || 8 < fieldLE b 14 1 || p.discTmo = 0 || 6 < nAx ||
    p.axes.any (fun a => a.type = 0 || 4 < a.type || 1 < a.algo || a.size = 0 || 20480 < a.size ||
      (if a.type = 4 then a.b ≠ 0 else a.b = 0 || 24 < a.b || a.minB = 0 || a.b < a.minB))
  let boardAxes := p.axes.filter (fun a => a.type = 4)
  let halv := p.axes.zipIdx.filter (fun a => a.1.algo = 1)
  let portsAt (s e : Nat) (hx : Nat) : List Nat :=
    (used.filter (fun x => x.2 / 8 = e)).map (fun x => if (x.1.role = 3 || x.1.role = 4) && x.1.axis = hx then bitsOf x.1.step (4 * s + 3) (4 * s) else x.1.home)
  if resvBad then 1
  else if rangeBad then 2
  else if prodList (p.axes.map (·.size)) ≠ p.nRanks then 3
  else if 1 < boardAxes.length || boardAxes.any (fun a => 16 < a.size) then 4
  else if bundles.any (fun g => !noDup (entries g.1 g.2) || (List.range (size g.1 g.2)).any (fun i => !(entries g.1 g.2).contains i)) then 5
  else if bundles.any (fun g => (entries g.1 g.2).length ≠ size g.1 g.2) ||
      used.any (fun e => (e.1.role = 3 || e.1.role = 4) && ((p.axes[e.1.axis]?).map (fun a => a.type == 4)).getD true) then 6
  else if used.any (fun e => ((e.1.role = 3 || e.1.role = 4) && e.2 < 16) || (e.1.role = 2 && (e.2 = 0 || 15 < e.2)) || (e.1.role = 1 && e.2 ≠ 0)) then 7
  else if used.any (fun e => e.2 < 16 && e.1.home ≠ e.2 % 8) then 8
  else if (List.range 8).any (fun e => !noDup ((used.filter (fun x => x.2 / 8 = e)).map (·.1.home))) then 9
  else if halv.any (fun a => a.1.type ≠ 1 || !(List.range 8).any (fun s => a.1.size = 2 ^ (s + 1)) ||
      (List.range a.1.size.log2).any (fun s => (List.range 8).any (fun e => !noDup (portsAt s e a.2)))) then 10
  else if (p.ranks.filter (fun x => x.chip = me)).length ≠ 1 then 11
  else if p.axes.zipIdx.any (fun a => a.1.type = 4 && r < p.nRanks &&
      (List.range a.1.size).any (fun c => p.chip (p.withCoord r a.2 c) / 16 ≠ me / 16)) then 12
  else if p.solo ≠ h.solo || (p.solo && (16 < p.nRanks || p.nSpares ≠ 0 || 1 < p.axes.length || p.axes.any (fun a => a.type ≠ 4) ||
      used.any (fun e => e.1.role = 3 || e.1.role = 4))) then 13
  else 0

/-- Position a neighbour has along an axis, by R344; `plus` is the direction of the link, idx its index, n the size. -/
def farPos (a : Axis) (plus : Bool) (idx c : Nat) : Option Nat :=
  match a.type with
  | 1 => some (if plus then (c + 1) % a.size else (c + a.size - 1) % a.size)
  | 2 => if plus then (if c + 1 < a.size then some (c + 1) else none) else (if 0 < c then some (c - 1) else none)
  | 3 =>
    if plus then (if c = 0 then none else some ((c - 1) / 2))
    else
      let k := if idx < a.b then 2 * c + 1 else 2 * c + 2
      if k < a.size then some k else none
  | _ => none

/-- Far chip and far plan link expected of a plan link (R344). -/
def Hw.expected (h : Hw) (pl : Nat) : Option (Nat × Nat) :=
  match h.topo.plan with
  | none => none
  | some p =>
    match p.links[pl]? with
    | none => none
    | some e =>
      let me := h.myChip
      let r := h.get F.MY_RANK
      match e.role with
      | 1 => some (me, 0)
      | 2 => some (me / 16 * 16 + (me % 16 + pl) % 16, 16 - pl)
      | 3 | 4 =>
        if h.flag F.IS_SPARE then none
        else
          match p.axes[e.axis]? with
          | none => none
          | some a =>
            (farPos a (e.role = 3) e.idx (p.coord r e.axis)).bind (fun c =>
              let farIdx := if a.type = 3 then (if e.role = 3 then ((p.coord r e.axis - 1) % 2) * a.b + e.idx else e.idx % a.b) else e.idx
              let farRole := if e.role = 3 then 4 else 3
              (p.links.zipIdx.find? (fun x => x.1.role = farRole && x.1.axis = e.axis && x.1.idx = farIdx)).map (fun x =>
                (p.chip (p.withCoord r e.axis c), x.2)))
      | _ => none

/-! ### Discovery's outcome (R349) -/

/-- The bundles that expect a neighbour: their plan links, and the links they need. A board link is a bundle of one, and counts only with a
BOARD axis; the links of a TREE's − bundle to either child count apart. -/
def Hw.bundlesExpected (h : Hw) : List (List Nat × Nat × Bool) :=
  match h.topo.plan with
  | none => []
  | some p =>
    let exp (l : Nat) : Bool := (h.expected l).isSome
    let up := (p.axes.zipIdx.map (fun a =>
      if a.1.type = 4 then []
      else
        let minus := p.bundle a.2 4
        let groups := if a.1.type = 3 then [p.bundle a.2 3, minus.take a.1.b, minus.drop a.1.b] else [p.bundle a.2 3, minus]
        groups.map (fun g => (g, a.1.minB, false)))).flatten
    let board := if p.axes.any (fun a => a.type = 4) then
      (p.links.zipIdx.filter (fun e => e.1.role = 2)).map (fun e => ([e.2], 1, true)) else []
    (up ++ board).filter (fun g => g.1.any exp)

/-- Whether a plan link's physical link is UP. -/
def Hw.plinkUp (h : Hw) (pl : Nat) : Bool := h.lkUp (h.physOf pl)

/-- The bits of the plan links of short bundles (R349). -/
def Hw.shortMask (h : Hw) : Nat :=
  (h.bundlesExpected.filter (fun g => (g.1.filter h.plinkUp).length < g.2.1)).foldl (fun m g => g.1.foldl (fun m l => m ||| 2 ^ l) m) 0

/-- Evaluate the bundles and set TOPO_STATE, with the event of a change (R349). Before DISC_TMO the state stays. -/
def Hw.topoEval (h : Hw) : Hw :=
  if !h.topo.discOver || !h.flag F.TOPO_CFG_ENABLE then h
  else
    let gs := h.bundlesExpected
    let missing : Nat := gs.foldl (fun m g => g.1.foldl (fun m l => if h.plinkUp l || (h.expected l).isNone then m else m ||| 2 ^ l) m) 0
    let short := gs.filter (fun g => (g.1.filter h.plinkUp).length < g.2.1)
    let deg := ((h.topo.plan).map (·.degradedOk)).getD false
    let st := if missing = 0 then 3 else if deg && short.all (fun g => g.2.2) then 4 else 5
    if st = h.get F.TOPO_STATE then h
    else
      let h := h.set F.TOPO_STATE st
      if st = 3 then h.post Ev.evTopoReady [] else if st = 4 then h.post Ev.evTopoDegraded [u64 missing] else h.post Ev.evTopoShort [u64 h.shortMask]

/-! ### Peer table and routes -/

def PEER_PSTATE (i : Nat) : Fld := ⟨0x6A0000 + 8 * i, 61, 59⟩

/-- The first hop of a route: axis (7 for a board link to a chip that is on no axis), direction, and the number of links (R351, R353). -/
def Plan.route (p : Plan) (r d : Nat) : Option (Nat × Bool × Nat) :=
  if p.nRanks ≤ d || p.nRanks ≤ r then
    if p.chip r / 16 = p.chip d / 16 then some (7, true, 1) else none
  else
    let hop (a : Nat) : Option (Bool × Nat) :=
      let c := p.coord r a
      let t := p.coord d a
      if c = t then none
      else
        match p.axes[a]? with
        | none => none
        | some x =>
          match x.type with
          | 1 =>
            let f := (t + x.size - c) % x.size
            some (f ≤ x.size - f, min f (x.size - f))
          | 2 => some (c < t, if c < t then t - c else c - t)
          | 3 =>
            let up (n : Nat) : List Nat := (List.range 16).foldl (fun l _ => match l with
              | [] => []
              | k :: _ => if k = 0 then l else (k - 1) / 2 :: l) [n]
            let pc := up c
            let pt := up t
            let common := ((pc.zip pt).takeWhile (fun q => q.1 = q.2)).length
            some (pc.length ≠ common, pc.length + pt.length - 2 * common)
          | _ => some (true, 1)
    let hops := (List.range p.axes.length).filterMap (fun a => (hop a).map (fun x => (a, x)))
    match hops with
    | [] => none
    | (a, dir, _) :: _ => some (a, dir, (hops.map (fun x => x.2.2)).foldl (· + ·) 0)

/-- The links of a bundle in ascending IDX. For a TREE's links to the children, those to the child on the way. -/
def Hw.hopLinks (h : Hw) (p : Plan) (a : Nat) (plus : Bool) (d : Nat) : List Nat :=
  let g := p.bundle a (if plus then 3 else 4)
  let g := match p.axes[a]? with
    | some x =>
      if x.type = 3 && !plus then
        let c := p.coord (h.get F.MY_RANK) a
        let rec under (f n : Nat) : Bool := match f with
          | 0 => false
          | f + 1 => n = 2 * c + 1 || (2 * c + 2 < n && under f ((n - 1) / 2))
        if under 16 (p.coord d a) then g.take x.b else g.drop x.b
      else g
    | none => g
  g.map h.physOf

/-- Whether a link that is not UP may carry frames again by itself: one that brings up, trains again, moves or exchanges (R317, R318). -/
def Hw.lkPending (h : Hw) (l : Nat) : Bool := h.lkState l ≠ lsOFF && h.lkState l ≠ lsDARK && h.lkState l ≠ lsFAILED

/-- The links a frame is dealt over at a hop: the UP links of the bundle (R353); with none UP those it waits for (R362); with none of these
either, on a RING axis, the same of the other direction (R354; log entry 163). -/
def Hw.dealLinks (h : Hw) (p : Plan) (a : Nat) (plus : Bool) (d : Nat) : List Nat :=
  let usable (ls : List Nat) : List Nat := if ls.any h.lkUp then ls.filter h.lkUp else ls.filter h.lkPending
  let ls := usable (h.hopLinks p a plus d)
  if ls.isEmpty && ((p.axes[a]?).map (fun x => x.type == 1)).getD false then usable (h.hopLinks p a (!plus) d) else ls

/-- The board link towards a slot: direct if UP, else the detour through the lowest board peer whose links to both are UP (R353). -/
def Hw.boardHop (h : Hw) (dst : Nat) : Option Nat :=
  let me := h.myChip
  let link (slot : Nat) : Nat := h.physOf ((slot + 16 - me % 16) % 16)
  if h.lkUp (link (dst % 16)) then some (link (dst % 16))
  else
    ((List.range 16).find? (fun s =>
      s ≠ me % 16 && s ≠ dst % 16 && h.lkUp (link s) &&
      match h.topo.far.find? (me / 16 * 16 + s) with
      | some (_, _, mask) => mask.testBit ((dst % 16 + 16 - s) % 16)
      | none => false)).map link

/-- The link a frame to a chip leaves by (R353); none where there is no route. -/
def Hw.nextLink (h : Hw) (dst src addr : Nat) : Option Nat :=
  match h.topo.plan with
  | none => none
  | some p =>
    match p.find dst with
    | none => none
    | some d =>
      let r := h.get F.MY_RANK
      match p.route r d with
      | none => none
      | some (a, dir, _) =>
        let isBoard := a = 7 || ((p.axes[a]?).map (fun x => x.type == 4)).getD false
        if isBoard then h.boardHop (if a = 7 then dst else p.chip (p.withCoord r a (p.coord d a)))
        else
          let ls := h.dealLinks p a dir d
          ls[(src + dst + addr / 4096) % (max ls.length 1)]?

/-- The part's position on an axis (R341). -/
def Hw.myPos (h : Hw) (a : Nat) : Nat := (h.topo.plan.map (fun p => p.coord (h.get F.MY_RANK) a)).getD 0

/-- The virtual lane of a frame on its next link (R352, R353): the first lane of its kind, the second after a dateline crossing on the same axis
or on the second hop of a board detour. -/
def Hw.laneFor (h : Hw) (f : Frm) (inl : Option Nat) (out : Nat) : Nat :=
  let base := if f.ftype = ftREADRESP then 3 else 1
  match h.topo.plan with
  | none => base
  | some p =>
    match p.links[h.plinkOf out]? with
    | none => base
    | some e =>
      let came := inl.bind (fun l => p.links[h.plinkOf l]?)
      let crossed := match came with
        | some c => (c.role = 2 && e.role = 2) || ((c.role = 3 || c.role = 4) && (e.role = 3 || e.role = 4) && c.axis = e.axis && f.vl = base + 1)
        | none => false
      let pos := h.myPos e.axis
      let dateline := match p.axes[e.axis]? with
        | some a => a.type = 1 && ((e.role = 3 && pos + 1 = a.size) || (e.role = 4 && pos = 0))
        | none => false
      if crossed || dateline then base + 1 else base

/-- Send a frame on towards its destination; `inl` is the link it came by, none for the part's own (R353). -/
def Hw.route (h : Hw) (f : Frm) (inl : Option Nat) : Hw :=
  match h.nextLink f.dst f.src f.addr with
  | none => h.inc F.FWD_DROP
  | some l =>
    let h := if inl.isSome then h.inc (F.FWD_FRAMES l) else h
    h.sendFrame l { f with vl := h.laneFor f inl l, tries := 0 }

/-- The pieces of a request's range that a frame each carries: at most 592 bytes, and within one 4 KiB granule (R310, R353; log entry 150). -/
def framePieces : Nat → Nat → Nat → List (Nat × Nat)
  | 0, _, _ => []
  | f + 1, a, n =>
    let k := min n (min 592 (4096 - a % 4096))
    if k = 0 then [] else (a, k) :: framePieces f (a + k) (n - k)

/-- The part's own write to a peer: WRITE frames on its route (R273, R353). -/
def Hw.peerWrite (h : Hw) (chip addr : Nat) (bs : Bytes) : Hw :=
  (framePieces (bs.length + 1) addr bs.length).foldl (fun h p =>
    h.route (mkFrm ftWRITE 1 chip h.myChip 0 p.1 0 (slice bs (p.1 - addr) p.2)) none) (h.send (.peerWrite chip addr bs))

/-- The part's own read of a peer: READ_REQ frames on its route (R273, R353); their tags are open (log entry 107). -/
def Hw.peerRead (h : Hw) (chip addr n : Nat) : Hw :=
  (framePieces (n + 1) addr n).foldl (fun h p => h.route { mkFrm ftREADREQ 1 chip h.myChip (h.free (7100 + p.1) % 2 ^ 32) p.1 0 [] with len := p.2 } none) h

/-- Whether every WRITE of the part's own has been acknowledged (R176, R314). -/
def Hw.peerWritesDone (h : Hw) : Bool :=
  (List.range 64).all (fun l => ((h.lk l).queue ++ (h.lk l).retry).all (fun f => f.ftype ≠ ftWRITE || f.src ≠ h.myChip))

end Sys2Proof.Machine
end

