-- ==== Sys2Proof/Machine/Ops.lean ====
section
/-!
DEFINITION. Machine/Ops.lean: local memory with its protection, translation, and faults: the operations the commands share.
-/

namespace Sys2Proof.Machine

/-! ### HBM address map (R234, R235, R259) -/

def stackSize : Nat := 0x1000000000
def spadBase : Nat := 0x10000000000
def panelSize : Nat := 0x40000000

/-- The stack of an HBM address (R18). -/
def stackOf (pa : Nat) : Nat := pa / stackSize

/-- The Panel of a scratchpad address (R38). -/
def panelOf (pa : Nat) : Nat := (pa - spadBase) / panelSize

/-- Where a byte of a Panel's scratchpad lies: one of 64 banks of 64 sub-banks each, the line within the sub-bank, the byte of the line (R196,
R200). -/
structure SpadAt where
  bank : Nat
  sub_bank : Nat
  row : Nat
  byte : Nat
  deriving DecidableEq, Repr

/-- The bias layout's decode of a Panel-local offset (R200). -/
def spadDecode (x : Nat) : SpadAt :=
  let l := x / 64
  let d (k : Nat) : Nat := l / 64 ^ k % 64
  { bank := (d 0 + d 1 + d 2 + d 3) % 64, sub_bank := d 1, row := d 2 + 64 * d 3, byte := x % 64 }

/-- The offset that decodes to a place: the decode is one to one (R200). -/
def spadEncode (p : SpadAt) : Nat :=
  let d2 := p.row % 64
  let d3 := p.row / 64
  let d0 := (p.bank + 192 - p.sub_bank - d2 - d3) % 64
  64 * (d0 + 64 * p.sub_bank + 4096 * d2 + 262144 * d3) + p.byte

/-- The global bank number of a scratchpad address (R28, R196). -/
def bankOf (pa : Nat) : Nat := 64 * panelOf pa + (spadDecode ((pa - spadBase) % panelSize)).bank

/-- Whether an address lies in the HBM range. -/
def inHbm (pa : Nat) : Bool := decide (pa < spadBase)

/-- Whether n bytes lie in mapped HBM (R38, R234). -/
def Hw.hbmMapped (h : Hw) (pa n : Nat) : Bool :=
  let s := stackOf pa
  decide (s < 16) && 2 ≤ h.get (F.STK_STATE s) && h.get (F.STK_STATE s) ≤ 4 && decide (pa % stackSize + n ≤ h.get (F.STK_SIZE s))

/-- Whether n bytes lie in scratchpad (R38). -/
def inSpad (pa n : Nat) : Bool := decide (spadBase ≤ pa) && decide (pa + n ≤ spadBase + 4 * panelSize)

/-- Whether n bytes lie in mapped HBM or scratchpad (R269). -/
def Hw.localMapped (h : Hw) (pa n : Nat) : Bool := h.hbmMapped pa n || inSpad pa n

/-- The active channels of a stack in ascending order (R235). -/
def Hw.activeCh (h : Hw) (s : Nat) : List Nat := (List.range 32).filter (fun c => !(h.get (F.STK_MAPOUT s)).testBit c)

/-- The swizzle of a slice (R235). -/
def swizzle (q : Nat) : Nat := (q ^^^ q / 32 ^^^ q / 1024 ^^^ q / 32768) % 32

/-- Channel and local address of an HBM address under a given list of active channels (R235). -/
def decodeWith (act : List Nat) (pa : Nat) : Option (Nat × Nat) :=
  let n := act.length
  let off := pa % stackSize
  let g := off / 4096
  if n = 0 || g ≥ n * 524288 then none
  else
    let q := g / n
    (act[(g % n + swizzle q) % n]?).map (fun c => (c, q * 4096 + off % 4096))

/-- Channel and local address in force: a relayout chooses the map by its boundary (R235, R259). -/
def Hw.hbmDecode (h : Hw) (pa : Nat) : Option (Nat × Nat) :=
  let s := stackOf pa
  let act := h.activeCh s
  if h.get (F.STK_STATE s) = 3 && h.hbm.relay.contains s then
    let new := act.filter (· ≠ h.get (F.MAPOUT_CH s))
    if pa % stackSize / 4096 ≥ new.length * h.get (F.RELAYOUT_W s) then decodeWith new pa else decodeWith act pa
  else decodeWith act pa

/-- The channel of an HBM address, 0 where it is unmapped. -/
def Hw.chanOf (h : Hw) (pa : Nat) : Nat := ((h.hbmDecode pa).map (·.1)).getD 0

/-- Whether a channel is in a retrain or margining window (R254). -/
def Hw.chHeld (h : Hw) (s c : Nat) : Bool :=
  match h.hbm.wins.find? s with
  | some w => w.ch == c
  | none => false

/-! ### The codeword (R245) -/

/-- Remainder of p, a polynomial of degree below 15 + k, by G(x) = 0xC599. -/
def polyRem : Nat → Nat → Nat
  | 0, p => p
  | k + 1, p => polyRem k (if p.testBit (15 + k) then p ^^^ (0xC599 <<< k) else p)

/-- The 80-bit codeword of a word (R245, R202). -/
def codeword (d : Nat) : Nat :=
  let c := polyRem 64 (d % 2 ^ 64 * 2 ^ 15)
  let w := d % 2 ^ 64 + c * 2 ^ 64
  let par := ((List.range 79).foldl (fun a i => a + (w.testBit i).toNat) 0) % 2
  w + par * 2 ^ 79

/-- The poison marker (R247): the all-zero codeword with CW[79:77] set. -/
def poisonMarker : Nat := 7 * 2 ^ 77

/-- Number of ones among the low n bits. -/
def ones (w n : Nat) : Nat := (List.range n).foldl (fun a i => a + (w.testBit i).toNat) 0

/-! ### DRAM, Darning buffer, scratchpad content -/

/-- What a byte of HBM that is not listed reads as: 0 from the first power-on (log entry 2), an open byte after its stack lost its contents
(log entry 26). -/
def Hw.hbmBlank (h : Hw) (a : Nat) : Byte :=
  match h.hbm.lost.find? (stackOf a) with
  | some n => Config.lostByte n a
  | none => 0

/-- What a byte of scratchpad that is not listed reads as, by Panel. -/
def Hw.spadBlank (h : Hw) (a : Nat) : Byte :=
  match h.spad.lost.find? (panelOf a) with
  | some n => Config.lostByte n a
  | none => 0

/-- A stack loses its contents. -/
def Hw.loseStack (h : Hw) (s : Nat) : Hw :=
  { h with hbm := { h.hbm with
    mem := Mem.clear h.hbm.mem (s * stackSize) stackSize
    lost := h.hbm.lost.set s h.freeCtr
    poison := h.hbm.poison.filter (fun l => stackOf (l * 256) ≠ s)
    flips := h.hbm.flips.filter (fun e => stackOf e.1 ≠ s)
    darn := h.hbm.darn.filter (fun e => stackOf (e.line * 256) ≠ s) } }

/-- What a byte of the Thimble SRAM that is not listed reads as (log entry 26). -/
def Hw.sramBlank (h : Hw) (a : Nat) : Byte :=
  match h.sramLost with
  | some n => Config.lostByte n a
  | none => 0

/-- A Panel's scratchpad loses its contents. -/
def Hw.losePanel (h : Hw) (p : Nat) : Hw :=
  { h with spad := { h.spad with
    mem := Mem.clear h.spad.mem (spadBase + p * panelSize) panelSize
    lost := h.spad.lost.set p h.freeCtr
    poison := h.spad.poison.filter (fun w => panelOf w ≠ p)
    flips := h.spad.flips.filter (fun e => panelOf e.1 ≠ p) } }

/-- The bytes an entry holds over a range laid over the bytes of DRAM (R241). -/
def Darn.over (e : Darn) (a : Nat) (bs : Bytes) : Bytes :=
  (bs.zipIdx).map (fun (b, i) => if (a + i) / 256 = e.line then (e.bytes.find? ((a + i) % 256)).getD b else b)

/-- Content of local memory with writes held in Darning buffers, without any check (R239). -/
def Hw.peek (h : Hw) (a n : Nat) : Bytes :=
  if inHbm a then
    (h.hbm.darn.filter (fun e => a < (e.line + 1) * 256 && e.line * 256 < a + n)).foldl (fun bs e => e.over a bs) (Mem.read h.hbmBlank h.hbm.mem a n)
  else Mem.read h.spadBlank h.spad.mem a n

/-- Whether some of n bytes are poisoned. -/
def Hw.poisoned (h : Hw) (a n : Nat) : Bool :=
  if inHbm a then h.hbm.poison.any (fun l =>
    a < (l + 1) * 256 && l * 256 < a + n && !h.hbm.darn.any (fun e => e.line == l && e.bytes.length == 256))
  else h.spad.poison.any (fun w => a < w + 8 && w < a + n)

/-- Set a channel's RECOMMEND flag and post the recommendation (R255); cause 1 retrains, 2 uncorrectable. With AUTO_MAPOUT firmware is to
map the channel out. -/
def Hw.recommend (h : Hw) (s c cause : Nat) : Hw :=
  if h.flag (F.CH_RECOMMEND s c) then h
  else
    let h := (h.set (F.CH_RECOMMEND s c) 1).post Ev.evHbmMapoutRecommend [u8 s, u8 c, u8 cause]
    if h.flag F.AUTO_MAPOUT then { h with hbm := { h.hbm with autoMap := h.hbm.autoMap ++ [s * 32 + c] } } else h

/-- Rewrite a line as poison markers, count it and post EV_HBM_UE (R246, R247). -/
def Hw.hbmUe (h : Hw) (line : Nat) : Hw :=
  let pa := line * 256
  let s := stackOf pa
  let c := h.chanOf pa
  let h := { h with hbm := { h.hbm with poison := insNat h.hbm.poison line, flips := h.hbm.flips.filter (fun e => e.1 / 256 ≠ line), mem := Mem.write h.hbmBlank h.hbm.mem pa (List.replicate 256 0) } }
  let h := (((h.inc (F.CH_UE_CNT s c)).inc (F.STK_UE_CNT s)).set (F.STK_LAST_UE_ADDR s) pa).post Ev.evHbmUe [u8 s, u8 c, u64 pa]
  let th := h.get F.UE_MAPOUT_THRESH
  if th ≠ 0 && th ≤ h.get (F.CH_UE_CNT s c) then h.recommend s c 2 else h

/-- Ask for a retrain of a channel, unless it already waits for one: a trigger that arrives during a window waits (R252, R254); op is the
operation that asked. -/
def Hw.retrainTrigger (h : Hw) (s c op : Nat) : Hw :=
  if (h.hbm.trig.find? (s * 32 + c)).isSome then h
  else { h with hbm := { h.hbm with trig := h.hbm.trig.set (s * 32 + c) (op, false) } }

/-- Count a corrected error on a channel in its window of 1 ms and trigger a retrain (R252). -/
def Hw.ceCount (h : Hw) (s c : Nat) : Hw :=
  let ms := h.get F.CYC_CTRL / 500000
  let n := match h.hbm.ceWin.find? (s * 32 + c) with
    | some (m, k) => if m = ms then k + 1 else 1
    | none => 1
  let h := { h with hbm := { h.hbm with ceWin := h.hbm.ceWin.set (s * 32 + c) (ms, n) } }
  let th := h.get F.CE_RETRAIN_THRESH
  if th ≠ 0 && n = th && h.flag F.AUTO_RETRAIN then h.retrainTrigger s c 0 else h

/-- Check one flipped word of HBM as it is read (R246). An error of four or more bits is detected or miscorrected, openly. -/
def Hw.hbmCheckWord (h : Hw) (w flips : Nat) : Hw :=
  let s := stackOf w
  let c := h.chanOf w
  let fix (h : Hw) : Hw := if h.flag F.MEM_CFG_CORR_WB then { h with hbm := { h.hbm with flips := h.hbm.flips.del w } } else h
  match ones flips 80 with
  | 0 => h
  | 1 => ((fix h).inc (F.CH_CE1_CNT s c)).inc (F.STK_CE1_CNT s) |>.ceCount s c
  | 2 => ((fix h).inc (F.CH_CE2_CNT s c)).inc (F.STK_CE2_CNT s) |>.ceCount s c
  | 3 => h.hbmUe (w / 256)
  | _ =>
    if h.choice (1000 + w) then h.hbmUe (w / 256)
    else
      let h := { h with hbm := { h.hbm with mem := Mem.write h.hbmBlank h.hbm.mem w (natLE 8 (h.free (2000 + w))), flips := h.hbm.flips.del w } }
      (h.inc (F.CH_CE2_CNT s c)).inc (F.STK_CE2_CNT s) |>.ceCount s c

/-- Check one flipped word of a poisoned line: a marker with a further error is a pattern of four errors, which is detected or
miscorrected, openly; the other words of the line stay markers (R247). -/
def Hw.hbmCheckMarker (h : Hw) (w : Nat) : Hw :=
  if h.choice (1000 + w) then h.hbmUe (w / 256)
  else
    let h := { h with hbm := { h.hbm with flips := h.hbm.flips.del w } }
    (h.inc (F.CH_CE2_CNT (stackOf w) (h.chanOf w))).inc (F.STK_CE2_CNT (stackOf w))

/-- Check the words of the lines that cover n bytes (R246, R247). A word that poisons its line leaves no other word of it to check. -/
def Hw.hbmCheck (h : Hw) (a n : Nat) : Hw :=
  let lo := a / 256 * 256
  let hi := (a + n + 255) / 256 * 256
  (h.hbm.flips.filter (fun e => lo ≤ e.1 && e.1 < hi)).foldl (fun h e =>
    if (h.hbm.flips.find? e.1).isNone then h else if h.hbm.poison.contains (e.1 / 256) then h.hbmCheckMarker e.1 else h.hbmCheckWord e.1 e.2) h

/-- Count the poisoned lines that a read of n bytes finds (R247). -/
def Hw.poisonReads (h : Hw) (a n : Nat) : Hw :=
  (h.hbm.poison.filter (fun l => a < (l + 1) * 256 && l * 256 < a + n)).foldl (fun h l => h.inc (F.STK_POISON_READS (stackOf (l * 256)))) h

/-- Check one flipped scratchpad word as it is read (R203). -/
def Hw.spadCheckWord (h : Hw) (w flips : Nat) : Hw :=
  let p := panelOf w
  let fix (h : Hw) : Hw := if h.flag F.SPAD_CFG_CORR_WB then { h with spad := { h.spad with flips := h.spad.flips.del w } } else h
  let ue (h : Hw) : Hw :=
    let h := { h with spad := { h.spad with poison := insNat h.spad.poison w, flips := h.spad.flips.del w } }
    ((h.inc (F.SPAD_UE_CNT p)).set (F.SPAD_LAST_UE_ADDR p) w).post Ev.evSpadUe [u64 w]
  match ones flips 80 with
  | 0 => h
  | 1 => (fix h).inc (F.SPAD_CE1_CNT p)
  | 2 => (fix h).inc (F.SPAD_CE2_CNT p)
  | 3 => ue h
  | _ =>
    if h.choice (1000 + w) then ue h
    else
      let h := { h with spad := { h.spad with mem := Mem.write h.spadBlank h.spad.mem w (natLE 8 (h.free (2000 + w))), flips := h.spad.flips.del w } }
      h.inc (F.SPAD_CE2_CNT p)

/-- Check the scratchpad words that cover n bytes (R203). -/
def Hw.spadCheck (h : Hw) (a n : Nat) : Hw :=
  (h.spad.flips.filter (fun e => a < e.1 + 8 && e.1 < a + n)).foldl (fun h e => h.spadCheckWord e.1 e.2) h

/-- The checks and counts of a read of local memory (R246, R247, R203): a line counts as a poison read only if it held the marker before. -/
def Hw.readCheck (h : Hw) (a n : Nat) : Hw :=
  if n = 0 then h else if inHbm a then (h.poisonReads a n).hbmCheck a n else h.spadCheck a n

/-! ### Writes -/

/-- The pieces of a byte string by aligned unit u: address and bytes. -/
def pieces (u : Nat) : Nat → Nat → Bytes → List (Nat × Bytes)
  | 0, _, _ => []
  | f + 1, a, bs =>
    let k := u - a % u
    if bs.length ≤ k then (if bs.isEmpty then [] else [(a, bs)])
    else (a, bs.take k) :: pieces u f (a + k) (bs.drop k)

/-- The flush of one entry (R243): a full mask, or a read-modify-write that a poisoned or uncorrectable line swallows. -/
def Hw.darnFlushOne (h : Hw) (e : Darn) : Hw :=
  let pa := e.line * 256
  let h := { h with hbm := { h.hbm with darn := h.hbm.darn.filter (·.line ≠ e.line) } }
  let put (h : Hw) : Hw :=
    { h with hbm := { h.hbm with mem := e.bytes.foldl (fun m b => Mem.put h.hbmBlank m (pa + b.1) b.2) h.hbm.mem } }
  if e.bytes.length = 256 then
    let h := put h
    { h with hbm := { h.hbm with poison := h.hbm.poison.filter (· ≠ e.line), flips := h.hbm.flips.filter (fun f => f.1 / 256 ≠ e.line) } }
  else
    let h := h.inc (F.DARN_RMW (stackOf pa))
    let h := h.hbmCheck pa 256
    if h.hbm.poison.contains e.line then h
    else
      let h := put h
      { h with hbm := { h.hbm with flips := h.hbm.flips.filter (fun f => f.1 / 256 ≠ e.line) } }

/-- The entries of a stack. -/
def Hw.darnOf (h : Hw) (s : Nat) : List Darn := h.hbm.darn.filter (fun e => stackOf (e.line * 256) == s)

/-- The oldest entry of a stack that no window holds (R242). -/
def Hw.darnOldest (h : Hw) (s : Nat) : Option Darn := (h.darnOf s).find? (fun e => !h.chHeld s (h.chanOf (e.line * 256)))

/-- Flush every entry of a stack that no window holds (R242). -/
def Hw.darnFlushAll (h : Hw) (s : Nat) : Hw :=
  (h.darnOf s).foldl (fun h e => if h.chHeld s (h.chanOf (e.line * 256)) then h else h.darnFlushOne e) h

/-- Merge bytes into an entry's (R240). -/
def darnMerge (t : Tab Byte) (bs : List (Nat × Byte)) : Tab Byte := bs.foldl (fun t b => t.set b.1 b.2) t

/-- Tags a channel holds (R238, R265). -/
def Hw.chTags (h : Hw) (s c : Nat) : Nat := (h.hbm.reqs.filter (fun r => r.stack = s && r.ch = c)).length

/-- Tags a stack holds (R238, R264). -/
def Hw.stkTags (h : Hw) (s : Nat) : Nat := (h.hbm.reqs.filter (fun r => r.stack = s)).length

/-- Entries of a stack held for a channel in a window. -/
def Hw.heldEntries (h : Hw) (s c : Nat) : Nat := ((h.darnOf s).filter (fun e => h.chanOf (e.line * 256) = c)).length

/-- A full line goes to DRAM and clears its poison (R243). For a channel in a window it is held in the tag pool until the window closes
(R253); what it stores is seen by no one before. -/
def Hw.hbmWriteFull (h : Hw) (line : Nat) (bs : Bytes) : Hw :=
  let pa := line * 256
  let s := stackOf pa
  let c := h.chanOf pa
  let h := { h with hbm := { h.hbm with
    mem := Mem.write h.hbmBlank h.hbm.mem pa bs
    poison := h.hbm.poison.filter (· ≠ line), flips := h.hbm.flips.filter (fun f => f.1 / 256 ≠ line) } }
  if h.chHeld s c then { h with hbm := { h.hbm with reqs := h.hbm.reqs ++ [⟨s, c, line, true, [], false⟩] } } else h

/-- A write of some bytes of one line, by their offsets in it (R237, R240 to R242). -/
def Hw.hbmWriteLine (h : Hw) (line : Nat) (bs : List (Nat × Byte)) : Hw :=
  let s := stackOf (line * 256)
  let held := h.chHeld s (h.chanOf (line * 256))
  match h.hbm.darn.find? (·.line == line) with
  | some e =>
    let e : Darn := { e with bytes := darnMerge e.bytes bs }
    let h := { h with hbm := { h.hbm with darn := h.hbm.darn.map (fun x => if x.line = line then e else x) } }
    let h := if bs.length = 256 then h else h.inc (F.DARN_MERGES s)
    if e.bytes.length = 256 && !held then h.darnFlushOne e else h
  | none =>
    if bs.length = 256 then h.hbmWriteFull line ((darnMerge [] bs).map (·.2))
    else
      let h := { h with hbm := { h.hbm with darn := h.hbm.darn ++ [⟨line, darnMerge [] bs⟩] } }
      if (h.darnOf s).length > 896 then
        match h.darnOldest s with
        | some o => h.darnFlushOne o
        | none => h
      else h

/-- Bytes with their offsets in the line. -/
def offsets (a : Nat) (bs : Bytes) : List (Nat × Byte) := bs.zipIdx.map (fun b => (a % 256 + b.2, b.1))

/-- A write of scratchpad: whole words clear poison, part words of a poisoned word are discarded (R204). -/
def Hw.spadWriteWord (h : Hw) (a : Nat) (bs : Bytes) : Hw :=
  let w := a / 8 * 8
  if bs.length = 8 then
    { h with spad := { h.spad with mem := Mem.write h.spadBlank h.spad.mem a bs, poison := h.spad.poison.filter (· ≠ w), flips := h.spad.flips.del w } }
  else
    let h := h.spadCheck w 8
    if h.spad.poison.contains w then h
    else { h with spad := { h.spad with mem := Mem.write h.spadBlank h.spad.mem a bs, flips := h.spad.flips.del w } }

/-- Mark stale the windows that a write of n bytes overlaps (R285). -/
def Hw.staleMark (h : Hw) (a n : Nat) : Hw :=
  let hit (w : Win) : Bool := !w.stale && decide (a < w.hi) && decide (w.lo < a + n)
  let h := h.xl.wins.foldl (fun h w => if hit w then h.inc (F.STALE_MARKS w.panel) else h) h
  { h with xl := { h.xl with wins := h.xl.wins.map (fun w => if hit w then { w with stale := true, marks := w.marks + 1 } else w) } }

/-- Instructions that run while n bytes of a region they name are written: their result is not defined (R108, R116). -/
def Hw.breachMark (h : Hw) (a n : Nat) : Hw :=
  let hit (e : Ent) : Bool := e.ph == .issued && e.res.regs.any (fun g => a < g.1 + g.2 && g.1 < a + n)
  if h.shut.ctxs.all (fun c => !c.2.window.any hit) then h
  else
    { h with shut := { h.shut with ctxs := h.shut.ctxs.map (fun c =>
      (c.1, { c.2 with window := c.2.window.map (fun e => if hit e then { e with res := { e.res with breach := true } } else e) })) } }

/-- Blocks of the image under capture that n bytes of local memory touch and that are not copied yet (R404). -/
def Hw.guardHits (h : Hw) (a n : Nat) : List Nat :=
  match h.bast.cap with
  | none => []
  | some k =>
    let hit := k.guard.filter (fun g => a < g.pa + g.n && g.pa < a + n)
    (hit.map (fun g =>
      let lo := (g.off + (max a g.pa - g.pa)) / 65536
      let hi := (g.off + (min (a + n) (g.pa + g.n) - g.pa) + 65535) / 65536
      (List.range (hi - lo)).map (· + lo))).flatten.filter (fun b => (k.copied.find? b).isNone)

/-- An engine's writes that meet the guard wait: the blocks are noted, to be copied next (R404). -/
def Hw.guardWait (h : Hw) (ws : List (Nat × Nat)) : Option Hw :=
  let hits := (ws.map (fun w => h.guardHits w.1 w.2)).flatten
  if hits.isEmpty then none
  else if hits.all (fun b => h.bast.wanted.contains b) then some h
  else some (({ h with bast := { h.bast with wanted := hits.foldl insNat h.bast.wanted } } : Hw).inc F.HOLD_WRITES)

/-- A write of local memory that no guard holds: the staleness filter (R285), then HBM or scratchpad. -/
def Hw.pokeRaw (h : Hw) (a : Nat) (bs : Bytes) : Hw :=
  let h := (h.staleMark a bs.length).breachMark a bs.length
  if inHbm a then (pieces 256 (bs.length / 256 + 2) a bs).foldl (fun h p => h.hbmWriteLine (p.1 / 256) (offsets p.1 p.2)) h
  else (pieces 8 (bs.length / 8 + 2) a bs).foldl (fun h p => h.spadWriteWord p.1 p.2) h

/-- A write of local memory: held by the guard, or behind a write of the same bytes that is (R404), or made at once. -/
def Hw.poke (h : Hw) (a : Nat) (bs : Bytes) : Hw :=
  if bs.isEmpty then h
  else if (h.guardHits a bs.length).isEmpty && !h.bast.held.any (fun w => a < w.1 + w.2.length && w.1 < a + bs.length) then h.pokeRaw a bs
  else ({ h with bast := { h.bast with held := h.bast.held ++ [(a, bs)] } } : Hw).inc F.HOLD_WRITES

/-- Write the segments of a result. -/
def Hw.pokeSegs (h : Hw) (l : List Seg) : Hw := l.foldl (fun h g => h.poke g.pa g.bytes) h

/-- A checked read of local memory: the state after, the bytes, whether poison was met. -/
def Hw.readLocal (h : Hw) (a n : Nat) : Hw × Bytes × Bool :=
  let h := h.readCheck a n
  (h, h.peek a n, h.poisoned a n)

/-- Whether an access of local memory waits (R238, R242, R253, R254): a read of a line whose channel is in a window; a partial write that finds
no room for one more held entry, a full-line write that finds no tag. -/
def Hw.memWaits (h : Hw) (acc : Acc) (pa n : Nat) : Bool :=
  inHbm pa && !h.hbm.wins.isEmpty && n ≠ 0 &&
  (let s := stackOf pa
   let lines := ((List.range ((pa + n - 1) / 256 - pa / 256 + 1)).map (· + pa / 256)).filter (fun l => h.chHeld s (h.chanOf (l * 256)))
   let new := lines.filter (fun l => !h.hbm.darn.any (fun e => e.line = l))
   let whole := new.filter (fun l => pa ≤ l * 256 && (l + 1) * 256 ≤ pa + n)
   match acc, lines with
   | _, [] => false
   | .write, l :: _ =>
     let c := h.chanOf (l * 256)
     decide (512 < h.heldEntries s c + (new.length - whole.length)) || decide (1024 < (h.darnOf s).length + (new.length - whole.length)) ||
       decide (1024 < h.chTags s c + whole.length) || decide (8192 < h.stkTags s + whole.length)
   | _, _ :: _ => true)

/-- The die-to-die links between two dies, Panels 0 to 3 and the Yoke, 4: ring link p from Panel p, link 4 + p from Panel p to the Yoke (R33,
R34). -/
def d2dPath (a b : Nat) : List Nat :=
  if a = b then []
  else if b = 4 then [4 + a]
  else if a = 4 then [4 + b]
  else if (a + 1) % 4 = b then [a]
  else if (b + 1) % 4 = a then [b]
  else [4 + a, 4 + b]

/-- Whether traffic between two dies is held: a link on its way retrains (R37). -/
def Hw.d2dHeld (h : Hw) (a b : Nat) : Bool := (d2dPath a b).any (fun l => h.d2d.training.contains l)

/-- The die of a local address (R28, R38). -/
def dieOf (pa : Nat) : Nat := if inHbm pa then stackOf pa / 4 else panelOf pa

/-- Whether an access of local memory from a die waits, for HBM or for a die-to-die link (R37, R254). -/
def Hw.localWaits (h : Hw) (die : Nat) (acc : Acc) (pa n : Nat) : Bool := h.memWaits acc pa n || h.d2dHeld die (dieOf pa)

/-! ### The page table (R266 to R269) -/

def pteV (e : Nat) : Bool := e.testBit 0
def pteLeaf (e : Nat) : Bool := e.testBit 1
def pteTgt (e : Nat) : Nat := bitsOf e 3 2
def pteRd (e : Nat) : Bool := e.testBit 5
def pteWr (e : Nat) : Bool := e.testBit 6
def pteNra (e : Nat) : Bool := e.testBit 7
def pteAddr (e : Nat) : Nat := bitsOf e 51 16 * 0x10000
def pteWin (e : Nat) : Nat := bitsOf e 63 52

/-- Level-0 table base (R301). -/
def Hw.mmuRoot (h : Hw) : Nat := h.get F.MMU_ROOT * 0x2000

/-- What a walk reads of a table word: none where it is poisoned or uncorrectable; an error of four or more bits is detected or
miscorrected, openly (R246, R269). Two bits or fewer are corrected. -/
def Hw.entryWord (h : Hw) (pa : Nat) : Option Nat :=
  if h.poisoned pa 8 then none
  else
    match h.hbm.flips.find? (pa / 8 * 8) with
    | none => some (leNat (h.peek pa 8))
    | some f =>
      if ones f 80 < 3 then some (leNat (h.peek pa 8))
      else if ones f 80 = 3 || h.choice (1000 + pa / 8 * 8) then none
      else some (h.free (2000 + pa / 8 * 8) % 2 ^ 64)

/-- Read a table entry: the entry, or the type of the fault (R269). -/
def Hw.readEntry (h : Hw) (pa : Nat) : Except FType Nat :=
  if !h.hbmMapped pa 8 then .error .badPte
  else
    match h.entryWord pa with
    | none => .error .walkPoison
    | some e => .ok e

/-- Check of a non-leaf entry (R269). -/
def checkTable (e : Nat) : Option FType :=
  if !pteV e then some .notPresent
  else if pteLeaf e || e ≠ 1 + pteAddr e then some .badPte
  else none

/-- Host target of a window (R274). -/
def Hw.hostTarget (h : Hw) (win off : Nat) : Except FType Target :=
  if h.solo || h.get (F.HW_SIZE win) ≤ off then .error .hostWindow else .ok (.host win off)

/-- Whether a chip is in the peer table in state DEAD or NO_ROUTE (R351, R355). -/
def Hw.peerGone (h : Hw) (chip : Nat) : Bool :=
  let e := h.get (F.PEER_ENTRY (h.get (F.CHIP_MAP chip)))
  bitOf e 63 && bitsOf e 55 40 = chip && (bitsOf e 61 59 = 2 || bitsOf e 61 59 = 3)

/-- Peer target of a window (R273, R355). -/
def Hw.peerTarget (h : Hw) (win off : Nat) : Except FType Target :=
  if h.get (F.PW_SIZE win) ≤ off then .error .peerWindow
  else if h.peerGone (h.get (F.PW_CHIP win)) then .error .peerUnreachable else .ok (.peer win off)

/-- Check of a leaf (R269). -/
def Hw.checkLeaf (h : Hw) (e off : Nat) (acc : Acc) (lvl : Nat) : XRes :=
  if pteTgt e = 3 || bitsOf e 15 8 ≠ 0 || e.testBit 4 then .fault .badPte lvl e
  else if pteTgt e = 0 && pteWin e ≠ 0 then .fault .badPte lvl e
  else if acc ≠ .write && !pteRd e then .fault .perm lvl e
  else if acc = .write && !pteWr e then .fault .perm lvl e
  else
    let a := pteAddr e + off
    match pteTgt e with
    | 0 => if h.localMapped a 1 then .ok (.loc a) (pteNra e) else .fault .localUnmapped lvl e
    | 1 => match h.peerTarget (pteWin e) a with
      | .ok t => .ok t (pteNra e)
      | .error f => .fault f lvl e
    | _ => match h.hostTarget (pteWin e) a with
      | .ok t => .ok t (pteNra e)
      | .error f => .fault f lvl e

/-- A leaf found by a walk: entry, page base, page size, level; or a fault. -/
inductive Leaf where
  | leaf (pte page size lvl : Nat)
  | fault (ty : FType) (lvl pte : Nat)
  deriving DecidableEq, Repr

/-- The rest of a walk from the entry that level 1 gave (R269). -/
def Hw.walk2 (h : Hw) (e1 va : Nat) : Leaf :=
  if !pteV e1 then .fault .notPresent 1 e1
  else if pteLeaf e1 then
    if pteAddr e1 % 2 ^ 29 ≠ 0 then .fault .badPte 1 e1 else .leaf e1 (va / 2 ^ 29 * 2 ^ 29) (2 ^ 29) 1
  else
    match checkTable e1 with
    | some f => .fault f 1 e1
    | none =>
      match h.readEntry (pteAddr e1 + 8 * (va / 2 ^ 16 % 8192)) with
      | .error f => .fault f 2 0
      | .ok e2 =>
        if !pteV e2 then .fault .notPresent 2 e2
        else if !pteLeaf e2 then .fault .badPte 2 e2
        else .leaf e2 (va / 2 ^ 16 * 2 ^ 16) (2 ^ 16) 2

/-- The rest of a walk from the entry that level 0 gave (R269). -/
def Hw.walk1 (h : Hw) (e0 va : Nat) : Leaf :=
  match checkTable e0 with
  | some f => .fault f 0 e0
  | none =>
    match h.readEntry (pteAddr e0 + 8 * (va / 2 ^ 29 % 8192)) with
    | .error f => .fault f 1 0
    | .ok e1 => h.walk2 e1 va

/-- Address of the level-0 entry of a virtual address. -/
def Hw.l0 (h : Hw) (va : Nat) : Nat := h.mmuRoot + 8 * (va / 2 ^ 42 % 1024)

/-- The walk to the leaf of an address (R269). -/
def Hw.walk (h : Hw) (va : Nat) : Leaf :=
  match h.readEntry (h.l0 va) with
  | .error f => .fault f 0 0
  | .ok e0 => h.walk1 e0 va

/-- The entries that the walk of an address reads: level, address. -/
def Hw.walkReads (h : Hw) (va : Nat) : List (Nat × Nat) :=
  let a0 := h.l0 va
  match h.readEntry a0 with
  | .error _ => [(0, a0)]
  | .ok e0 =>
    if (checkTable e0).isSome then [(0, a0)]
    else
      let a1 := pteAddr e0 + 8 * (va / 2 ^ 29 % 8192)
      match h.readEntry a1 with
      | .error _ => [(0, a0), (1, a1)]
      | .ok e1 => if (checkTable e1).isSome then [(0, a0), (1, a1)] else [(0, a0), (1, a1), (2, pteAddr e1 + 8 * (va / 2 ^ 16 % 8192))]

/-- Of what a unit may use, one from its cache and one from the tables: openly, where they differ (R270, R271). -/
def Hw.pick (h : Hw) (site : Nat) (cached fresh : Leaf) : Leaf :=
  if cached = fresh then fresh else if h.choice site then cached else fresh

/-- The walk that a unit's cache starts: a Panel's may go on from an entry that its walk cache holds (R270, R271). -/
def Hw.walkVia (h : Hw) (cache va : Nat) : Leaf :=
  let held (lvl key : Nat) : Option Node := h.xl.nodes.find? (fun x => x.panel = cache && x.lvl = lvl && x.key = key)
  let w := h.walk va
  let w := match held 0 (va / 2 ^ 42) with
    | some x => h.pick (3200 + va / 2 ^ 42) (h.walk1 x.pte va) w
    | none => w
  match held 1 (va / 2 ^ 29) with
  | some x => h.pick (3300 + va / 2 ^ 29) (h.walk2 x.pte va) w
  | none => w

/-- The leaf that a unit uses for an address: that of its translation cache, or of a walk (R270, R271). -/
def Hw.leafOf (h : Hw) (cache va : Nat) : Leaf :=
  let w := h.walkVia cache va
  match h.xl.tlbs.find? (fun t => t.cache = cache && t.page ≤ va && va < t.page + t.size) with
  | none => w
  | some t => h.pick (3000 + va / 0x10000) (.leaf t.pte t.page t.size (if t.size = 2 ^ 16 then 2 else 1)) w

/-- A unit's translation of an address (R269 to R271). -/
def Hw.translate (h : Hw) (cache va : Nat) (acc : Acc) : XRes :=
  match h.leafOf cache va with
  | .leaf e page _ lvl => h.checkLeaf e (va - page) acc lvl
  | .fault f lvl e => .fault f lvl e

/-- The number of a unit that holds no translations: the Tape unit, the rings, the Tailor. -/
def noCache : Nat := 40

/-- Leaves that a cache holds (R270): 0 to 3 a Panel's, 8 + d that of DMA engine d. -/
def leafRoom (cache : Nat) : Nat := if cache < 4 then 4096 else if 8 ≤ cache && cache < 40 then 512 else 0

/-- Put an entry into a cache of a size; which one leaves a full one is open. -/
def Hw.cachePut {α : Type} [BEq α] (h : Hw) (room : Nat) (mine : α → Bool) (t : α) (l : List α) : List α :=
  if l.contains t || room = 0 then l
  else if (l.filter mine).length < room then t :: l
  else
    match (l.filter mine)[h.free 79 % room]? with
    | some o => t :: l.erase o
    | none => t :: l

/-- The checks of the reads of a walk (R246). -/
def Hw.walkCheck (h : Hw) (va : Nat) : Hw := (h.walkReads va).foldl (fun h r => if h.hbmMapped r.2 8 then h.readCheck r.2 8 else h) h

/-- A unit's access makes its cache hold the leaf, and the walk cache of a Panel the entries above it, where they were not held: a walk, with
its reads (R270). Entries whose V is 0 are never held (R271). -/
def Hw.noteLeaf (h : Hw) (cache va : Nat) : Hw :=
  match h.leafOf cache va with
  | .fault .. => h
  | .leaf e page size _ =>
    let t : Tlb := ⟨cache, page, size, e⟩
    if h.xl.tlbs.contains t then h
    else
      let ups : List Node := if 4 ≤ cache then [] else (h.walkReads va).filterMap (fun r =>
        match h.readEntry r.2 with
        | .ok e => if r.1 < 2 && (checkTable e).isNone then some ⟨cache, r.1, va / (if r.1 = 0 then 2 ^ 42 else 2 ^ 29), e⟩ else none
        | .error _ => none)
      let h' := h.walkCheck va
      { h' with xl := { h'.xl with
        tlbs := h.cachePut (leafRoom cache) (fun x => x.cache == cache) t h.xl.tlbs
        nodes := ups.foldl (fun l n => h.cachePut 256 (fun x => x.panel == cache) n l) h.xl.nodes } }

/-- The parts of [va, va + n) by 64 KiB page. -/
def pageParts (va n : Nat) : List (Nat × Nat) :=
  (List.range ((va % 0x10000 + n + 0xFFFF) / 0x10000)).map (fun i =>
    let a := if i = 0 then va else va / 0x10000 * 0x10000 + i * 0x10000
    let e := min (va + n) (va / 0x10000 * 0x10000 + (i + 1) * 0x10000)
    (a, e - a))

/-- A fault of an access: address, type, level, entry. One that only `waits` is no fault yet: an ATS translation, a channel's window or a
disabled block holds the access (R274, R254, R559). -/
structure XFault where
  va : Nat
  ty : FType
  lvl : Nat
  pte : Nat
  waits : Bool := false
  deriving DecidableEq, Repr

/-- PCIe address of a host target. -/
def Hw.hostAddr (h : Hw) (win off : Nat) : Nat := h.get (F.HW_PCIE_BASE win) + off

/-- The ATC's entry for a host address (R270, R274). -/
def Hw.atcFind (h : Hw) (a : Nat) : Option Atc := h.xl.atc.find? (fun t => t.page ≤ a && a < t.page + t.size)

/-- Whether the ATC lets an access of a host address go: ATS is not enabled, or it holds a translation that grants it (R274). -/
def Hw.atcHas (h : Hw) (acc : Acc) (a : Nat) : Bool :=
  !h.xl.atsOn || ((h.atcFind a).map (fun t => if acc = .write then t.wr else t.rd)).getD false

/-- The die of a unit by the number of its cache: a Panel, or the Yoke. -/
def cacheDie (cache : Nat) : Nat := if cache < 4 then cache else if 8 ≤ cache && cache < 40 then (cache - 8) / 8 else 4

/-- Whether a unit's access of a target must wait (R37, R254, R274). -/
def Hw.targetWaits (h : Hw) (cache : Nat) (acc : Acc) (n : Nat) : Target → Bool
  | .loc pa => h.localWaits (cacheDie cache) acc pa n
  | .host w off => !h.atcHas acc (h.hostAddr w off)
  | .peer .. => false

/-- Whether the walk of an address that a unit's cache does not hold waits for one of its reads (R37, R254). -/
def Hw.walkWaits (h : Hw) (cache va : Nat) : Bool :=
  !(h.d2d.training.isEmpty && h.hbm.wins.isEmpty) && !h.xl.tlbs.any (fun t => t.cache = cache && t.page ≤ va && va < t.page + t.size) &&
  (h.walkReads va).any (fun r => h.localWaits (cacheDie cache) .read r.2 8)

/-- Translate a range for a unit: targets with lengths, or the first fault. -/
def Hw.xlateRange (h : Hw) (cache : Nat) (acc : Acc) (va n : Nat) : Except XFault (List (Target × Nat)) :=
  (pageParts va n).foldr (fun p r =>
    if h.walkWaits cache p.1 then .error ⟨p.1, .stale, 0, 0, true⟩
    else match h.translate cache p.1 acc with
    | .fault ty lvl pte => .error ⟨p.1, ty, lvl, pte, false⟩
    | .ok t _ => if h.targetWaits cache acc p.2 t then .error ⟨p.1, .stale, 0, 0, true⟩ else r.map ((t, p.2) :: ·)) (.ok [])

/-- The local ranges of a translated range. -/
def locals (l : List (Target × Nat)) : List (Nat × Nat) :=
  l.filterMap (fun t => match t.1 with
    | .loc pa => some (pa, t.2)
    | _ => none)

/-- The local ranges that virtual writes reach. -/
def Hw.localsOf (h : Hw) (cache : Nat) (ws : List (Nat × Nat)) : List (Nat × Nat) :=
  (ws.map (fun w => match h.xlateRange cache .write w.1 w.2 with
    | .ok l => locals l
    | .error _ => [])).flatten

/-- An instruction's results wait for the guard (R404): the writes it is about to make, physical and virtual. -/
def Hw.resultWait (h : Hw) (cache : Nat) (segs : List Seg) (ws : List (Nat × Nat)) : Option Hw :=
  h.guardWait (segs.map (fun g => (g.pa, g.bytes.length)) ++ (if h.bast.cap.isSome then h.localsOf cache ws else []))

/-- Remember the leaves of a range. -/
def Hw.noteRange (h : Hw) (cache va n : Nat) : Hw := (pageParts va n).foldl (fun h p => h.noteLeaf cache p.1) h

/-- The n bytes that a peer or the host answers, before the rest of a read; where `ext` ends, open bytes. -/
def Hw.readFar (h : Hw) (n : Nat) (ext : Bytes) (rest : Hw → Hw × Bytes × Bool) : Hw × Bytes × Bool :=
  let got := ext.take n
  let out := rest h
  (out.1, got ++ (List.range (n - got.length)).map (fun i => Config.freeByte h.freeCtr (4000 + i)) ++ out.2.1, out.2.2)

/-- Read the parts of a translated range. `ext` supplies, in order, what peers and the host answer; where it ends, open bytes. -/
def Hw.readParts (h : Hw) : List (Target × Nat) → Bytes → Hw × Bytes × Bool
  | [], _ => (h, [], false)
  | (.loc a, n) :: r, ext =>
    let (h, bs, p) := h.readLocal a n
    let (h, bs', p') := Hw.readParts h r ext
    (h, bs ++ bs', p || p')
  | (.peer w off, n) :: r, ext => Hw.readFar (h.peerRead (h.get (F.PW_CHIP w)) (h.get (F.PW_BASE w) + off) n) n ext (fun h => Hw.readParts h r (ext.drop n))
  | (.host _ _, n) :: r, ext => Hw.readFar h n ext (fun h => Hw.readParts h r (ext.drop n))

/-- Physical segments of bytes over a translated range. -/
def segsOf : List (Target × Nat) → Bytes → List (Target × Bytes)
  | [], _ => []
  | (t, n) :: r, bs => (t, bs.take n) :: segsOf r (bs.drop n)

/-- Write to a target: local memory, or out to a peer, or to the host: a Translated request where the ATC has the address (R273, R274). -/
def Hw.writeTarget (h : Hw) : Target × Bytes → Hw
  | (.loc a, bs) => h.poke a bs
  | (.peer w off, bs) => h.peerWrite (h.get (F.PW_CHIP w)) (h.get (F.PW_BASE w) + off) bs
  | (.host w off, bs) =>
    let a := h.hostAddr w off
    match h.atcFind a with
    | some t => h.send (.hostWrite true (t.addr + (a - t.page)) bs)
    | none => h.send (.hostWrite false a bs)

/-- Engines, DMA and rings reach memory only while translation and the controllers are enabled (R559). -/
def Hw.xlOn (h : Hw) : Bool := h.flag F.XLATE_CFG_ENABLE && h.flag F.MEM_CFG_ENABLE

/-- Whether an access of n bytes can go (R559): XLATE_CFG ENABLE is 1, and MEM_CFG ENABLE too unless the unit holds the translations and no
byte lies in HBM. -/
def Hw.canReach (h : Hw) (cache : Nat) (acc : Acc) (va n : Nat) : Bool :=
  h.flag F.XLATE_CFG_ENABLE && (h.flag F.MEM_CFG_ENABLE || (pageParts va n).all (fun p =>
    h.xl.tlbs.any (fun t => t.cache = cache && t.page ≤ p.1 && p.1 < t.page + t.size) &&
    match h.translate cache p.1 acc with
    | .ok (.loc pa) _ => !inHbm pa
    | _ => true))

/-- Whether accesses of some virtual ranges, each with its length, can go (R559). -/
def Hw.canReachAll (h : Hw) (cache : Nat) (acc : Acc) (rs : List (Nat × Nat)) : Bool := rs.all (fun g => h.canReach cache acc g.1 g.2)

/-- Read virtual bytes, remembering the leaves in a cache; the access waits while a block it needs is disabled (R559). -/
def Hw.vread (h : Hw) (cache : Nat) (acc : Acc) (va n : Nat) (ext : Bytes) : Except XFault (Hw × Bytes × Bool) :=
  if !h.canReach cache acc va n then .error ⟨va, .stale, 0, 0, true⟩
  else (h.xlateRange cache acc va n).map (fun l => Hw.readParts (h.noteRange cache va n) l ext)

/-- Write virtual bytes, remembering the leaves in a cache; the access waits while a block it needs is disabled (R559). -/
def Hw.vwrite (h : Hw) (cache : Nat) (va : Nat) (bs : Bytes) : Except XFault Hw :=
  if !h.canReach cache .write va bs.length then .error ⟨va, .stale, 0, 0, true⟩
  else (h.xlateRange cache .write va bs.length).map (fun l => (segsOf l bs).foldl Hw.writeTarget (h.noteRange cache va bs.length))

end Sys2Proof.Machine
end

