-- ==== Sys2Proof/Machine/Bar2.lean ====
section
/-!
DEFINITION. Machine/Bar2.lean: requests to the HBM window BAR2 (R39, R280, R404, R524), or to its image below the root port (R528).
-/

namespace Sys2Proof.Machine

/-- Complete a read of BAR2: status 2 Completer Abort, 3 Unsupported Request. -/
def Hw.bar2Fail (h : Hw) (b : Bar2) (status : Nat) : Hw :=
  if b.write then h
  else (if status = 2 then h.inc F.PCIE_CA_SENT else h).send (.bar2 b.addr status [])

/-- Perform a request that waits for nothing more: an unmapped address is aborted (R39), in Solo profile unsupported (R528). The data of a poisoned
line are open; its completion has EP set. -/
def Hw.bar2One (h : Hw) (b : Bar2) : Hw :=
  let n := if b.write then b.bytes.length else b.n
  if !h.hbmMapped b.addr n then h.bar2Fail b (if h.solo then 3 else 2)
  else if b.write then h.poke b.addr b.bytes
  else
    match h.readLocal b.addr n with
    | (h, bs, false) => h.send (.bar2 b.addr 0 bs)
    | (h, _, true) => (h.inc F.PCIE_POISON_TX).send (.bar2 b.addr 1 ((List.range n).map (fun i => Config.freeByte h.freeCtr (0xE80 + i))))

/-- BAR2 requests go ahead in order (R280): each waits while MEM_CFG ENABLE is 0 (R262) or the channel of a line is in a window (R253, R254) or a
die-to-die link retrains (R37), a write too while the guard of a capture holds it (R404). -/
def Hw.bar2Steps : Nat → Hw → Hw
  | 0, h => h
  | n + 1, h =>
    match h.pcie.bar2 with
    | [] => h
    | b :: rest =>
      if !h.flag F.MEM_CFG_ENABLE || h.localWaits 4 (if b.write then .write else .read) b.addr (if b.write then b.bytes.length else b.n) then h
      else
        match (if b.write then h.guardWait [(b.addr, b.bytes.length)] else none) with
        | some h => h
        | none => Hw.bar2Steps n (({ h with pcie := { h.pcie with bar2 := rest } } : Hw).bar2One b)

def Hw.bar2Go (h : Hw) : Hw := Hw.bar2Steps h.pcie.bar2.length h

end Sys2Proof.Machine
end

