-- ==== Sys2Proof/Machine/Faults.lean ====
section
/-!
DEFINITION. Machine/Faults.lean: posting fault records and parking the work that faulted (R287 to R291).
-/

namespace Sys2Proof.Machine

/-- Change a context. -/
def Hw.updCtx (h : Hw) (c : Nat) (f : Ctx → Ctx) : Hw := { h with shut := { h.shut with ctxs := h.shut.ctxs.upd c f } }

/-- Change the window entry of an instruction of a context. -/
def Hw.updEnt (h : Hw) (c i : Nat) (f : Ent → Ent) : Hw :=
  h.updCtx c (fun x => { x with window := x.window.map (fun e => if e.index = i then f e else e) })

/-- A context. -/
def Hw.ctx? (h : Hw) (c : Nat) : Option Ctx := h.shut.ctxs.find? c

/-- The window entry of an instruction of a context. -/
def Hw.ent? (h : Hw) (c i : Nat) : Option Ent := (h.ctx? c).bind (fun x => x.window.find? (·.index == i))

/-- Whether the work of a DMA job is still to be done: a MOVE, a staging copy, a write-back, a Tailor move, a Basting copy, a context save or
restore (R276). -/
def Hw.jobAlive (h : Hw) (j : Job) : Bool :=
  match j.kind with
  | 0 => ((h.ent? j.ctx j.index).map (fun e => e.ph == .issued)).getD false
  | 1 => ((h.ent? j.ctx j.index).map (fun e => e.copies.any (fun k => k.opnd == j.opnd && !k.done))).getD false
  | 2 => ((h.ent? j.ctx j.index).map (fun e => e.ph == .writeback)).getD false
  | 3 => ((h.tailor.objs.find? j.index).map (fun o => o.st == .migrating)).getD false
  | 4 => (h.bast.cap.map (fun k => k.stage != 3)).getD false
  | 5 => ((h.ctx? j.ctx).map (fun x => x.st == .preempting && x.io = 1)).getD false
  | _ => ((h.ctx? j.ctx).map (fun x => x.st == .preempted && x.io = 3)).getD false

/-- The jobs of a DMA engine. -/
def Hw.jobsOn (h : Hw) (d : Nat) : List Job := (h.xl.jobs.getD d []).filter h.jobAlive

/-- Whether a job is parked on a fault (R287). -/
def Hw.jobParked (h : Hw) (j : Job) : Bool :=
  j.parked || ((j.kind = 1 || j.kind = 2) && ((h.ent? j.ctx j.index).map (fun e => e.flt.isSome)).getD false)

/-- Jobs of a DMA engine that are not parked (R276). -/
def Hw.activeJobs (h : Hw) (d : Nat) : List Job := (h.jobsOn d).filter (fun j => !h.jobParked j)

/-- The lowest job slot that is free. -/
def freeSlot (js : List Job) : Nat := ((List.range 12).find? (fun s => js.all (fun j => j.slot ≠ s))).getD 0

/-- The eight DMA engines of a Panel (R276). -/
def dmaOf (p : Nat) : List Nat := (List.range 8).map (fun k => 8 * p + k)

/-- The engine among some that takes a new job: an open one of those with fewer than 4 active jobs (R276, log entry 51). -/
def Hw.seat (h : Hw) (ds : List Nat) : Option Nat :=
  let l := ds.filter (fun d => (h.activeJobs d).length < 4)
  l[h.free 50 % max 1 l.length]?

/-- Give a job to an engine. -/
def Hw.jobAdd (h : Hw) (d : Nat) (j : Job) : Hw :=
  let js := h.jobsOn d
  { h with xl := { h.xl with jobs := h.xl.jobs.set d (js ++ [{ j with slot := freeSlot js }]) } }

/-- The engine that holds the staging job of a kind for an operand. -/
def Hw.jobEngine (h : Hw) (kind c i : Nat) (o : Option Nat) : Option Nat :=
  (List.range 32).find? (fun d => (h.jobsOn d).any (fun j => j.kind = kind && j.ctx = c && j.index = i && o.all (· = j.opnd)))

/-- Change the DMA jobs of an engine d. -/
def Hw.updJobs (h : Hw) (d : Nat) (f : List Job → List Job) : Hw :=
  { h with xl := { h.xl with jobs := h.xl.jobs.set d (f (h.xl.jobs.getD d [])) } }

/-- Where an access was made (R289): engine and job kind of the record, context and instruction, whether the fault is resumable. -/
structure Point where
  engine : Nat
  kind : Nat
  ctx : Option (Nat × Nat)
  resumable : Bool
  deriving DecidableEq, Repr

/-- The engine of an instruction, or the fetch number while it has none. -/
def Hw.entEngine (h : Hw) (c i : Nat) : Nat := ((h.ent? c i).bind (·.engine)).getD 292

/-- The DMA engine that stages for an instruction or writes back for it: the one that holds its job, else an open one of the Panel's eight. -/
def Hw.stageEngine (h : Hw) (kind c i o : Nat) : Nat :=
  let p := ((h.ent? c i).bind (fun e => (e.copies.find? (·.opnd == o)).map (·.panel))).getD 0
  256 + (h.jobEngine kind c i (if kind = 1 then some o else none)).getD (8 * p + h.free 50 % 8)

/-- The fault point of a unit (R289). -/
def Hw.point (h : Hw) : FltUnit → Point
  | .fetch c => ⟨292, 0, some (c, ((h.ctx? c).map (·.pc)).getD 0), true⟩
  | .desc c i _ => ⟨292, 0, some (c, i), true⟩
  | .region c i _ => ⟨h.entEngine c i, 0, some (c, i), true⟩
  | .staging c i o => ⟨h.stageEngine 1 c i o, 1, some (c, i), true⟩
  | .writeback c i o => ⟨h.stageEngine 2 c i o, 2, some (c, i), true⟩
  | .move c i => ⟨h.entEngine c i, 0, some (c, i), true⟩
  | .coll c i => ⟨h.entEngine c i, 0, some (c, i), true⟩
  | .tape c i _ => ⟨293, 0, some (c, i), true⟩
  | .ring _ _ => ⟨292, 0, none, false⟩
  | .treq => ⟨294, 0, none, false⟩
  | .bast => ⟨295, 0, none, false⟩
  | .tailor _ => ⟨294, 0, none, false⟩
  | .ahead c i _ => ⟨h.entEngine c i, 0, some (c, i), true⟩

/-- Bytes of a stream of ranges [lo, hi) that come before an address in it; all of them where it lies in none. -/
def bytesBefore (va : Nat) : List (Nat × Nat) → Nat
  | [] => 0
  | g :: r => if g.1 ≤ va && va < g.2 then va - g.1 else (g.2 - g.1) + bytesBefore va r

/-- The restart cursor of a unit that faulted at an address (R279, R289, R290): elements of a MOVE, bytes within the region of a staging copy
or write-back, step and element of a COLL. `pos` is how far the access lies into its region, which is worked in rising order. -/
def Hw.pointCursor (h : Hw) (u : FltUnit) (pos : Nat) : Nat :=
  match u with
  | .move c i => ((h.ent? c i).map (·.cursor)).getD 0
  | .coll c i => ((h.ent? c i).map (fun e =>
      let step := ((h.topo.colls.find? (fun k => k.ctx = c && k.index = i)).map (·.step)).getD e.part
      step % 0x10000 * 2 ^ 48 + pos % 2 ^ 48)).getD 0
  | .staging .. | .writeback .. => pos
  | _ => 0

/-- Whether host types join by 4 KiB page (R291). -/
def FType.isHost : FType → Bool
  | .hostWindow => true | .hostNopage => true | .hostPerm => true | .hostErr => true | _ => false

/-- ACCESS of a record: faults of a walk's own reads are accesses of kind walk (R290). -/
def accessCode (ty : FType) (acc : Acc) : Nat :=
  match ty with
  | .walkPoison => 3
  | _ => match acc with
    | .read => 0 | .write => 1 | .fetch => 2

/-- The next identifier that is not open (R291). -/
def nextFree (open_ : Nat → Bool) : Nat → Nat → Nat
  | 0, i => i
  | f + 1, i => if open_ i then nextFree open_ f ((i + 1) % 65536) else i

/-- Whether an address lies in an object in state PENDING (R290). -/
def Hw.objPending (h : Hw) (va : Nat) : Bool :=
  h.tailor.objs.any (fun o => o.2.st == .pending && o.2.va ≤ va && va < o.2.va + o.2.size)

/-- The 64 bytes of a fault record, PHASE 0 (R290). -/
def Hw.faultBytes (h : Hw) (id : Nat) (p : Point) (ty : FType) (acc : Acc) (va lvl desc pte cursor detail : Nat) : Bytes :=
  let c := (p.ctx.map (·.1)).getD 0
  let i := (p.ctx.map (·.2)).getD 0
  natLE 8 (va % 2 ^ 52) ++
  natLE 8 (id * 2 ^ 48 + ty.code * 2 ^ 40 + accessCode ty acc * 2 ^ 38 + p.resumable.toNat * 2 ^ 37
    + (h.objPending va).toNat * 2 ^ 36 + lvl * 2 ^ 34 + p.ctx.isSome.toNat * 2 ^ 33 + c * 2 ^ 24 + p.engine * 2 ^ 15 + p.kind * 2 ^ 12) ++
  natLE 8 (i * 2 ^ 32 + desc) ++ natLE 8 pte ++ natLE 8 cursor ++ natLE 8 detail ++
  natLE 8 (h.get F.CYC_CTRL % 2 ^ 63) ++ natLE 8 0

/-- Entries of the fault ring. -/
def Hw.fltRingSize (h : Hw) : Nat := 2 ^ h.get F.FLT_LOG2

/-- Write a record at FLT_TAIL with the ring's phase, and interrupt (R291). -/
def Hw.fltRingWrite (h : Hw) (bs : Bytes) : Hw :=
  let tail := h.get F.FLT_TAIL
  let bs := bs.take 7 ++ [BitVec.ofNat 8 ((leNat ((bs.drop 7).take 1)) % 128 + h.xl.fltPhase.toNat * 128)] ++ bs.drop 8
  let h := h.poke (h.get F.FLT_BASE * 0x1000 + tail * 64) bs
  let t' := (tail + 1) % h.fltRingSize
  let h := h.set F.FLT_TAIL t'
  let h := if t' = 0 then { h with xl := { h.xl with fltPhase := !h.xl.fltPhase } } else h
  if h.flag F.FLT_IRQ_EN then h.msix 64 else h

/-- Whether the fault ring is full (R291, R185). -/
def Hw.fltFull (h : Hw) : Bool := (h.get F.FLT_TAIL + 1) % h.fltRingSize == h.get F.FLT_HEAD % h.fltRingSize

/-- Write a record, or hold it behind a full ring (R291). -/
def Hw.fltEmit (h : Hw) (id : Nat) (bs : Bytes) : Hw :=
  if h.fltFull || !h.xl.heldFlt.isEmpty then
    ({ h with xl := { h.xl with heldFlt := h.xl.heldFlt ++ [(id, bs)] } }.set F.FLT_HELD 1).post Ev.evFaultRingFull []
  else h.fltRingWrite bs

/-- Write held records while the ring has room (R291). -/
def Hw.fltDrain : Nat → Hw → Hw
  | 0, h => h
  | n + 1, h =>
    match h.xl.heldFlt with
    | [] => h.set F.FLT_HELD 0
    | (_, bs) :: r => if h.fltFull then h else Hw.fltDrain n (({ h with xl := { h.xl with heldFlt := r } } : Hw).fltRingWrite bs)

/-- Park the work that faulted, with its cursor (R279, R287, R289). -/
def Hw.park (h : Hw) (u : FltUnit) (id pos : Nat) : Hw :=
  match u with
  | .fetch c => h.updCtx c (fun x => { x with fetchFlt := some id })
  | .staging c i o =>
    (h.updEnt c i (fun e => { e with flt := some id })).updJobs (h.stageEngine 1 c i o - 256)
      (fun js => js.map (fun j => if j.kind = 1 && j.ctx = c && j.index = i && j.opnd = o then { j with cursor := pos } else j))
  | .writeback c i o =>
    (h.updEnt c i (fun e => { e with flt := some id })).updJobs (h.stageEngine 2 c i o - 256)
      (fun js => js.map (fun j => if j.kind = 2 && j.ctx = c && j.index = i then { j with cursor := pos } else j))
  | .desc c i _ | .region c i _ | .coll c i | .tape c i _ => h.updEnt c i (fun e => { e with flt := some id })
  | .move c i =>
    let h := h.updEnt c i (fun e => { e with flt := some id })
    h.updJobs (h.entEngine c i - 256) (fun js => js.map (fun j => if j.kind = 0 && j.ctx = c && j.index = i then { j with parked := true } else j))
  | _ => h

/-- Count a fault on the DMA engine that met it (R303). -/
def Hw.countDmaFault (h : Hw) (engine : Nat) : Hw := if 256 ≤ engine && engine < 288 then h.inc (F.DMA_FAULTS (engine - 256)) else h

/-- Whether the unit has no room to park more work: 8 parked jobs on a DMA engine, a parked collective on a Seam engine (R287). -/
def Hw.parkFull (h : Hw) (u : FltUnit) : Bool :=
  let dma (d : Nat) : Bool := 8 ≤ ((h.jobsOn d).filter h.jobParked).length
  match u with
  | .staging c i o => dma (h.stageEngine 1 c i o - 256)
  | .writeback c i o => dma (h.stageEngine 2 c i o - 256)
  | .move c i => dma (h.entEngine c i - 256)
  | .coll c i => h.topo.colls.any (fun k => k.lead + 288 = h.entEngine c i && !(k.ctx = c && k.index = i) &&
      ((h.ent? k.ctx k.index).map (fun e => e.flt.isSome)).getD false)
  | _ => false

/-- Post a fault of a demand access, or join it to an open one that matches (R287, R291). The 1,025th open fault waits: nothing yet; so does a
fault whose work finds no room to park. `pos` is how far into its region the work has come (`pointCursor`). -/
def Hw.postFault (h : Hw) (u : FltUnit) (acc : Acc) (ty : FType) (va lvl desc pte detail : Nat) (pos : Nat := 0) : Hw :=
  if h.parkFull u then h else
  let p := h.point u
  let page := if ty.isHost then 0x1000 else 0x10000
  let same (f : Flt) : Bool := f.ctx == p.ctx.map (·.1) && f.ty == ty && f.acc == acc && f.va / page == va / page
  match (if p.resumable then List.find? (fun e => same e.2) h.xl.faults else none : Option (Nat × Flt)) with
  | some (id, f) =>
    let h := { h with xl := { h.xl with faults := h.xl.faults.set id { f with joined := f.joined ++ [u] } } }
    ((h.inc F.FLT_JOINED).countDmaFault p.engine).park u id pos
  | none =>
    if p.resumable && 1024 ≤ h.xl.faults.length then h
    else
      let id := nextFree (fun i => (h.xl.faults.find? i).isSome) 1025 h.xl.nextFlt
      let bs := h.faultBytes id p ty acc va lvl desc pte (h.pointCursor u pos) detail
      let h := { h with xl := { h.xl with nextFlt := (id + 1) % 65536 } }
      let h : Hw :=
        if p.resumable then
          { h with xl := { h.xl with faults := h.xl.faults.set id ⟨u, [], ty, acc, va, p.ctx.map (·.1), true⟩ } }
        else { h with xl := { h.xl with nonres := id :: h.xl.nonres.filter (· ≠ id) } }
      (((h.inc F.FLT_POSTED).countDmaFault p.engine).fltEmit id bs).park u id pos

end Sys2Proof.Machine
end

