-- ==== Sys2Proof/Machine/Operands.lean ====
section
/-!
DEFINITION. Machine/Operands.lean: instruction fields and their checks (R154 to R168), tensor descriptors (R149 to R152), where
the bits of an element lie (R151, R49), and footprints (R169).
-/

namespace Sys2Proof.Machine

/-! ### Descriptors -/

/-- A tensor descriptor (R150). -/
structure Desc where
  valid : Bool
  addr : Nat
  scaleAddr : Nat
  ext : List Nat
  stride : List Nat
  hem : Nat
  slot : Nat
  layer : Nat
  scaleEn : Bool
  blockAxis : Nat
  rank : Nat
  round : Nat
  cls : Nat
  fmtCode : Nat
  resvBad : Bool
  deriving DecidableEq, Repr

def clsACT : Nat := 0
def clsWGT : Nat := 1
def clsGRAD : Nat := 2
def clsOPT : Nat := 3
def clsHEM : Nat := 4
def clsAUX : Nat := 5

/-- Read a descriptor from its 512 bits (R150). -/
def parseDesc (c : Nat) : Desc :=
  let f (off hi lo : Nat) : Nat := bitsOf c (8 * off + hi) (8 * off + lo)
  { valid := f 0 63 63 = 1
    addr := f 0 51 0
    scaleAddr := f 8 51 0
    ext := [f 0x10 31 0, f 0x10 63 32, f 0x18 31 0, f 0x18 63 32]
    stride := [f 0x20 31 0, f 0x20 63 32, f 0x28 31 0]
    hem := f 0x28 47 32
    slot := f 0x28 63 48
    layer := f 0x30 47 32
    scaleEn := f 0x30 14 14 = 1
    blockAxis := f 0x30 13 12
    rank := f 0x30 11 10 + 1
    round := f 0x30 9 8
    cls := f 0x30 6 4
    fmtCode := f 0x30 3 0
    resvBad := f 0 62 52 ≠ 0 || f 8 63 52 ≠ 0 || f 0x30 63 48 ≠ 0 || f 0x30 31 15 ≠ 0 || f 0x30 7 7 ≠ 0 || f 0x38 63 0 ≠ 0 }

/-- Element format; reserved codes make the descriptor invalid (R45). -/
def Desc.fmt (d : Desc) : Fmt := (Fmt.ofCode d.fmtCode).getD .bf16

/-- Extents of the axes below the rank. -/
def Desc.shape (d : Desc) : List Nat := d.ext.take d.rank

/-- Number of elements. -/
def Desc.count (d : Desc) : Nat := prodList d.shape

/-- Elements between whole blocks along logical order: a part of a tensor that is handled by itself holds a multiple of these (R138, R357). -/
def Desc.blockRun (d : Desc) : Nat := if d.fmt.isBlock then 32 * prodList (d.shape.drop (d.blockAxis + 1)) else 1

/-- The contiguous axis (R151). -/
def Desc.contig (d : Desc) : Nat := if d.fmt.isBlock then d.blockAxis else d.rank - 1

/-- Bytes of an element, or of a block of FP6 or FP4 (R49, R151). -/
def Fmt.unitBytes : Fmt → Nat
  | .u32 => 4
  | .bf16 | .fp16 | .stat16 | .u16 => 2
  | .e4m3 | .e5m2 | .hem8 => 1
  | .e3m2 | .e2m3 => 24
  | .e2m1 => 16

/-- Whether a format may stand with a class (R45). -/
def classFits (cls : Nat) (f : Fmt) : Bool :=
  match f with
  | .hem8 => cls == clsHEM
  | .u16 | .u32 => cls == clsAUX
  | _ => cls < 6 && cls != clsHEM

/-- Validity of a descriptor by itself (R45, R49, R55, R149, R151). -/
def Desc.ok (d : Desc) : Bool :=
  d.valid && (Fmt.ofCode d.fmtCode).isSome && classFits d.cls d.fmt && d.round < 2 && !d.resvBad &&
  d.shape.all (· ≠ 0) && (d.ext.drop d.rank).all (· = 1) &&
  (d.stride.take (d.rank - 1)).all (fun s => s % d.fmt.unitBytes = 0) &&
  (if d.fmt.isBlock then d.blockAxis < d.rank && (d.ext.getD d.blockAxis 1) % 32 = 0 else d.scaleAddr = 0)

/-- Validity together with the Hem companion it names (R67). -/
def Desc.hemOk (d : Desc) (hem : Option Desc) : Bool :=
  d.hem = 0xFFFF ||
  (d.cls = clsWGT && d.fmt = .bf16 && match hem with
    | some h => h.ok && h.fmt = .hem8 && h.shape = d.shape
    | none => false)

/-- Whether two descriptors name the same region in the sense of R116: equal address, shape, strides, element size. -/
def Desc.sameRegion (a b : Desc) : Bool :=
  a.addr = b.addr && a.shape = b.shape && a.stride.take (a.rank - 1) = b.stride.take (b.rank - 1) && a.fmt.width = b.fmt.width && a.contig = b.contig

/-! ### Element order and place -/

/-- The index vector of a linear index, row-major (R151). -/
def unravel (shape : List Nat) (i : Nat) : List Nat :=
  (shape.foldr (fun n (st : Nat × List Nat) => if n = 0 then (st.1, 0 :: st.2) else (st.1 / n, st.1 % n :: st.2)) (i, [])).2

/-- The linear index of an index vector, row-major. -/
def ravel (shape idx : List Nat) : Nat := (shape.zip idx).foldl (fun a p => a * p.1 + p.2) 0

/-- Byte strides by axis: the contiguous axis has none; the others take STRIDE0, STRIDE1, STRIDE2 in ascending axis order (R151). -/
def Desc.axisStrides (d : Desc) : List Nat :=
  (List.range d.rank).map (fun a => if a = d.contig then 0 else d.stride.getD (if a < d.contig then a else a - 1) 0)

/-- Offset in bits from ADDR of an element (R151, R49). -/
def Desc.bitOff (d : Desc) (idx : List Nat) : Nat :=
  let j := idx.getD d.contig 0
  let base := ((d.axisStrides.zip idx).foldl (fun a p => a + p.1 * p.2) 0) * 8
  if d.fmt.isBlock then base + (j / 32) * d.fmt.unitBytes * 8 + (j % 32) * d.fmt.width else base + j * d.fmt.width

/-- The shape whose block axis is divided by 32 (R151). -/
def Desc.blockShape (d : Desc) : List Nat := d.shape.zipIdx.map (fun (n, a) => if a = d.blockAxis then n / 32 else n)

/-- Number of the block of an element, its offset in the scale array (R151). -/
def Desc.blockNum (d : Desc) (idx : List Nat) : Nat :=
  ravel d.blockShape (idx.zipIdx.map (fun (n, a) => if a = d.blockAxis then n / 32 else n))

/-- Bytes from ADDR to the end of the highest element of the sub-shape from `org` with extents `n`. -/
def Desc.spanOf (d : Desc) (org n : List Nat) : Nat × Nat :=
  let top := (org.zip n).map (fun p => p.1 + p.2 - 1)
  let lo := d.bitOff (org.zipIdx.map (fun (v, a) => if a = d.contig && d.fmt.isBlock then v / 32 * 32 else v))
  let hi := d.bitOff (top.zipIdx.map (fun (v, a) => if a = d.contig && d.fmt.isBlock then v / 32 * 32 + 31 else v)) + d.fmt.width
  (lo / 8, (hi + 7) / 8)

/-- The data range and the scale range of a sub-shape, as virtual addresses [lo, hi); an empty range is (0, 0). -/
def Desc.rangesOf (d : Desc) (org n : List Nat) : List (Nat × Nat) :=
  let (lo, hi) := d.spanOf org n
  (d.addr + lo, d.addr + hi) ::
    (if d.fmt.isBlock then
      let top := (org.zip n).map (fun p => p.1 + p.2 - 1)
      [(d.scaleAddr + d.blockNum org, d.scaleAddr + d.blockNum top + 1)]
    else [])

/-- The ranges of the whole tensor. -/
def Desc.ranges (d : Desc) : List (Nat × Nat) := d.rangesOf (d.shape.map (fun _ => 0)) d.shape

/-- The footprint: the range from the lowest to the highest byte, scales included (R169). -/
def hull : List (Nat × Nat) → Nat × Nat
  | [] => (0, 0)
  | r :: rs => rs.foldl (fun a b => (min a.1 b.1, max a.2 b.2)) r

def overlaps (a b : Nat × Nat) : Bool := a.1 < b.2 && b.1 < a.2

/-- Bytes of a tensor's ranges as read: address and bytes of each. -/
abbrev View := List (Nat × Bytes)

/-- n bytes at a virtual address of a view. -/
def viewBytes (v : View) (a n : Nat) : Bytes :=
  match v.find? (fun p => p.1 ≤ a && a + n ≤ p.1 + p.2.length) with
  | some p => (p.2.drop (a - p.1)).take n
  | none => List.replicate n 0

/-- The stored bits of an element. -/
def Desc.rawAt (d : Desc) (v : View) (idx : List Nat) : Nat :=
  let b := d.bitOff idx
  let w := d.fmt.width
  leNat (viewBytes v (d.addr + b / 8) ((b % 8 + w + 7) / 8)) / 2 ^ (b % 8) % 2 ^ w

/-- The block scale byte of an element. -/
def Desc.scaleByteAt (d : Desc) (v : View) (idx : List Nat) : Nat := leNat (viewBytes v (d.scaleAddr + d.blockNum idx) 1)

/-- The exact value of an element: its block scale and, for E4M3 and E5M2 with SCALE_EN, the tensor scale (R54, R63). -/
def Desc.valAt (d : Desc) (v : View) (scaleE : Nat) (idx : List Nat) : Val :=
  let x := d.fmt.decodeElem (d.rawAt v idx)
  if d.fmt.isBlock then scaleBlock x (d.scaleByteAt v idx)
  else if d.fmt.isScaled8 && d.scaleEn then x.scale (127 - (scaleE : Int))
  else x

/-- Join neighbouring writes. -/
def joinWrites : List (Nat × Bytes) → List (Nat × Bytes)
  | [] => []
  | (a, b) :: r =>
    match joinWrites r with
    | (a', b') :: r' => if a + b.length = a' then (a, b ++ b') :: r' else (a, b) :: (a', b') :: r'
    | [] => [(a, b)]

/-- The write of one element that is not of a block format. -/
def Desc.putElem (d : Desc) (idx : List Nat) (raw : Nat) : Nat × Bytes := (d.addr + d.bitOff idx / 8, natLE (d.fmt.width / 8) raw)

/-- The writes of one block: 32 elements and the scale byte (R49). -/
def Desc.putBlock (d : Desc) (idx0 : List Nat) (raws : List Nat) (scale : Nat) : List (Nat × Bytes) :=
  let w := d.fmt.width
  let n := (raws.zipIdx).foldl (fun a (r, i) => a + r % 2 ^ w * 2 ^ (w * i)) 0
  [(d.addr + d.bitOff idx0 / 8, natLE d.fmt.unitBytes n), (d.scaleAddr + d.blockNum idx0, natLE 1 scale)]

/-! ### Instructions -/

def insOpc (r : Nat) : Nat := bitsOf r 127 124
def insRec (r : Nat) : Bool := bitOf r 123

/-- A tensor operand of an instruction, in the order of its fields: descriptor index, whether it is read, written. -/
structure Opnd where
  desc : Nat
  rd : Bool
  wr : Bool
  deriving DecidableEq, Repr

def noDesc : Nat := 0xFFFF

/-- Number of sources of a VOP function that names descriptors (R120); none for the others. -/
def vopSrcs (vfn : Nat) : Option Nat :=
  if vfn ≤ 2 then some 1 else if vfn ≤ 7 then some 2 else if vfn = 8 then some 3
  else if 0x10 ≤ vfn && vfn ≤ 0x12 then some 2 else if vfn = 0x13 then some 3 else if vfn = 0x14 then some 2
  else if 0x20 ≤ vfn && vfn ≤ 0x2C then some 1 else none

/-- Moments of an OPT function (R158). -/
def optMoments (vfn : Nat) : Nat := vfn - 0x40

/-- Whether an instruction is free of reserved encodings and reserved bits (R154 to R168). A STAT REGISTER takes any CLASS, 6 and 7 too (R165;
log entry 149). -/
def insValid (r : Nat) : Bool :=
  let z (hi lo : Nat) : Bool := bitsOf r hi lo == 0
  match insOpc r with
  | 0x0 => bitsOf r 121 120 ≠ 3
  | 0x1 => z 90 0
  | 0x2 =>
    let vfn := bitsOf r 122 115
    match vopSrcs vfn with
    | some n => z 50 0 && (2 ≤ n || bitsOf r 82 67 = noDesc) && (3 ≤ n || bitsOf r 66 51 = noDesc)
    | none =>
      if vfn = 0x15 || vfn = 0x16 then z 18 0
      else if vfn = 0x30 then z 50 43
      else if 0x40 ≤ vfn && vfn ≤ 0x42 then
        z 34 0 && (1 ≤ optMoments vfn || bitsOf r 82 67 = noDesc) && (2 ≤ optMoments vfn || bitsOf r 66 51 = noDesc)
      else false
  | 0x3 => bitsOf r 122 120 ≠ 7 && z 69 0
  | 0x4 => z 22 0
  | 0x5 => bitsOf r 122 121 ≠ 3 && z 21 0 && (!bitOf r 118 || bitsOf r 69 54 = noDesc)
  | 0x6 => z 90 0
  | 0x7 => bitsOf r 122 120 ≤ 4 && bitsOf r 119 117 ≤ 5 && z 36 0
  | 0x8 => bitsOf r 122 120 ≤ 2 && z 20 0 && (bitsOf r 122 120 ≠ 2 || (z 84 77 && z 52 21))
  | 0x9 =>
    let sfn := bitsOf r 122 120
    let noDs := bitsOf r 103 88 = noDesc
    let cls0 := z 87 85
    z 84 32 && (match sfn with
      | 0 => noDs && z 31 0
      | 1 => cls0 && z 31 0
      | 2 => cls0 && noDs && z 31 8
      | 3 => cls0 && noDs && z 31 13
      | 4 => cls0 && noDs
      | 5 => cls0 && z 31 0
      | _ => false)
  | 0xA => z 104 32
  | 0xB => z 93 32
  | 0xC => z 119 110 && z 104 0
  | 0xD => z 105 0
  | _ => false

/-- The tensor operands of an instruction in field order (R155 to R165); an operand field that holds "no tensor" stays listed,
and makes the instruction fail (R149). -/
def insOpnds (r : Nat) : List Opnd :=
  let f (hi lo : Nat) : Nat := bitsOf r hi lo
  match insOpc r with
  | 0x0 =>
    let init := f 121 120 = 2
    let fin := bitOf r 122
    [⟨f 108 93, true, false⟩, ⟨f 92 77, true, false⟩] ++ (if init || fin then [⟨f 76 61, init, fin⟩] else [])
  | 0x1 => [⟨f 122 107, false, true⟩, ⟨f 106 91, true, false⟩]
  | 0x2 =>
    let vfn := f 122 115
    let d : Opnd := ⟨f 114 99, false, true⟩
    let a : Opnd := ⟨f 98 83, true, false⟩
    match vopSrcs vfn with
    | some n => d :: a :: ((if 2 ≤ n then [⟨f 82 67, true, false⟩] else []) ++ (if 3 ≤ n then [⟨f 66 51, true, false⟩] else []))
    | none =>
      if vfn < 0x40 then [d, a]
      else
        let m := optMoments vfn
        [⟨f 114 99, true, true⟩, a] ++ (if 1 ≤ m then [⟨f 82 67, true, true⟩] else []) ++ (if 2 ≤ m then [⟨f 66 51, true, true⟩] else [])
          ++ [⟨f 50 35, true, false⟩]
  | 0x3 => [⟨f 117 102, false, true⟩, ⟨f 101 86, true, false⟩] ++ (if f 85 70 = noDesc then [] else [⟨f 85 70, true, false⟩])
  | 0x4 => [⟨f 118 103, true, false⟩, ⟨f 102 87, true, false⟩, ⟨f 86 71, false, true⟩, ⟨f 70 55, false, true⟩, ⟨f 54 39, false, true⟩]
  | 0x5 =>
    [⟨f 117 102, f 122 121 = 2, true⟩, ⟨f 101 86, true, false⟩, ⟨f 85 70, true, false⟩] ++
      (if bitOf r 118 then [] else [⟨f 69 54, true, false⟩])
  | 0x6 => [⟨f 122 107, false, true⟩, ⟨f 106 91, true, false⟩]
  | 0x7 => [⟨f 116 101, false, true⟩, ⟨f 100 85, true, false⟩]
  | 0x8 => [⟨f 119 104, false, true⟩]
  | 0x9 =>
    match f 122 120 with
    | 1 => [⟨f 103 88, false, true⟩]
    | 5 => [⟨f 103 88, true, false⟩]
    | _ => []
  | _ => []

/-- The class bit of CMASK an instruction belongs to (R166). -/
def insClassBit (r : Nat) : Option Nat :=
  match insOpc r with
  | 0x0 => some 0
  | 0x1 | 0x2 | 0x3 | 0x4 | 0x5 | 0x8 => some 1
  | 0x6 => some 2
  | 0x7 => some 3
  | 0x9 => some 4
  | _ => none

/-- Whether an instruction runs on a vector engine. -/
def insIsVec (r : Nat) : Bool := insClassBit r == some 1

/-- Whether an instruction runs in the Shuttle itself (R147). -/
def insIsShuttle (r : Nat) : Bool := 9 ≤ insOpc r && insOpc r ≤ 0xD

/-! ### MMA tiles (R155, R156, R83) -/

/-- M and N of SHAPE (R155). -/
def shapeMN : Nat → Nat × Nat
  | 0 => (128, 128)
  | 1 => (128, 64)
  | 2 => (64, 64)
  | _ => (32, 32)

/-- Rows and columns of a descriptor's two innermost axes; rank 1 is one row (R156). -/
def Desc.innerDims (d : Desc) : Nat × Nat :=
  if d.rank = 1 then (1, d.ext.getD 0 1) else (d.ext.getD (d.rank - 2) 1, d.ext.getD (d.rank - 1) 1)

/-- The index vector of row i, column j of the two innermost axes. -/
def Desc.innerIdx (d : Desc) (i j : Nat) : List Nat :=
  if d.rank = 1 then [j] else List.replicate (d.rank - 2) 0 ++ [i, j]

/-- Whether every axis but the two innermost has extent 1 (R156). -/
def Desc.matOk (d : Desc) : Bool := (d.shape.take (d.rank - 2)).all (· = 1)

/-- The fields of an MMA (R155). -/
structure MmaF where
  fin : Bool
  mode : Nat
  shape : Nat
  ta : Bool
  tb : Bool
  fp24 : Bool
  tag : Nat
  k : Nat
  row : Nat
  col : Nat
  kOrg : Nat
  deriving DecidableEq, Repr

def mmaF (r : Nat) : MmaF :=
  { fin := bitOf r 122, mode := bitsOf r 121 120, shape := bitsOf r 119 118, ta := bitOf r 117, tb := bitOf r 116
    fp24 := bitOf r 115, tag := bitsOf r 114 109, k := bitsOf r 60 37 + 1, row := bitsOf r 36 25 * 32
    col := bitsOf r 24 13 * 32, kOrg := bitsOf r 12 0 * 16 }

/-- Origin and clipped extents of operand o (0 A, 1 B, 2 C or D) within its two innermost axes (R156, R83). -/
def mmaTile (f : MmaF) (d : Desc) (o : Nat) : (Nat × Nat) × (Nat × Nat) :=
  let (mm, nn) := shapeMN f.shape
  let (r0, rn, c0, cn) :=
    match o with
    | 0 => if f.ta then (f.kOrg, f.k, f.row, mm) else (f.row, mm, f.kOrg, f.k)
    | 1 => if f.tb then (f.col, nn, f.kOrg, f.k) else (f.kOrg, f.k, f.col, nn)
    | _ => (f.row, mm, f.col, nn)
  let (er, ec) := d.innerDims
  ((r0, c0), (min rn (er - r0), min cn (ec - c0)))

/-- The ranges of an instruction's operand o: the tile for MMA, else the whole tensor (R169). -/
def opndRanges (r : Nat) (d : Desc) (o : Nat) : List (Nat × Nat) :=
  if insOpc r = 0 then
    let ((r0, c0), (rn, cn)) := mmaTile (mmaF r) d o
    if rn = 0 || cn = 0 then [] else d.rangesOf (d.innerIdx r0 c0) (d.innerIdx rn cn |>.map (fun n => max n 1))
  else d.ranges

/-- The descriptor of an index among those an instruction read at its entry. -/
def descIn (ds : List (Nat × Nat)) (i : Nat) : Option Desc := (ds.find? (·.1 == i)).map (fun p => parseDesc p.2)

/-- The Hem companion of a descriptor, if it names one. -/
def hemIn (ds : List (Nat × Nat)) (d : Desc) : Option Desc := if d.hem = 0xFFFF then none else descIn ds d.hem

/-- Whether an operand's descriptor is valid (R149, R45, R67). -/
def opndOk (ds : List (Nat × Nat)) (o : Opnd) : Bool :=
  match descIn ds o.desc with
  | some d => o.desc ≠ noDesc && d.ok && d.hemOk (hemIn ds d)
  | none => false

/-- Footprints an instruction reads and writes (R169). A companion written or read counts (R68, R137). -/
def insFoot (r : Nat) (ds : List (Nat × Nat)) : List (Nat × Nat) × List (Nat × Nat) :=
  (insOpnds r).zipIdx.foldl (fun (acc : List (Nat × Nat) × List (Nat × Nat)) (o, i) =>
    match descIn ds o.desc with
    | none => acc
    | some d =>
      let main := hull (opndRanges r d i)
      let hem := match hemIn ds d with
        | some hd => [hull (if insOpc r = 0 then opndRanges r hd i else hd.ranges)]
        | none => []
      let isOpt := insOpc r = 2 && 0x40 ≤ bitsOf r 122 115
      let hemW := if o.wr && [0, 1, 2, 3, 7, 8].contains (insOpc r) then hem else []
      let hemR := if o.rd && isOpt then hem else []
      (acc.1 ++ (if o.rd then main :: hemR else []), acc.2 ++ (if o.wr then main :: hemW else []))) ([], [])

/-- The descriptor indices an instruction reads at its entry: its operands', then the companions they name. -/
def insDescs (r : Nat) : List Nat := ((insOpnds r).map (·.desc)).filter (· ≠ noDesc)

end Sys2Proof.Machine
end

