-- ==== Sys2Proof/Machine/Flags.lean ====
section
/-!
DEFINITION. Machine/Flags.lean: the flags of completion records (R181) and the statistics of a conversion (R69 to R72).
-/

namespace Sys2Proof.Machine

/-- Bits [8:0] of offset 0x06 of a record (R181). -/
def Flags.bits (f : Flags) : Nat :=
  f.longsum.toNat + f.nanSeen.toNat * 2 + f.accOvf.toNat * 4 + f.empty.toNat * 8 + f.pleatOvf.toNat * 16 + f.idxRange.toNat * 32
    + f.tagsDropped.toNat * 128 + f.preempted.toNat * 256

/-- The OR of two sets of flags (R181). -/
def Flags.or (a b : Flags) : Flags :=
  ⟨a.longsum || b.longsum, a.nanSeen || b.nanSeen, a.accOvf || b.accOvf, a.empty || b.empty, a.pleatOvf || b.pleatOvf,
   a.idxRange || b.idxRange, a.tagsDropped || b.tagsDropped, a.preempted || b.preempted⟩

/-- An empty statistic of a slot's conversion. -/
def TapeStat.zero (slot step : Nat) : TapeStat := ⟨slot, step, 0, false, false, false, 0, 0, 0, 0⟩

/-- A magnitude as BF16 rounded towards +∞; above the BF16 maximum it is +Inf (R70). -/
def amaxCode (v : Val) : Nat := ffBF16.encode .up v.abs

/-- Count one element: source value, scaled source, result value, largest finite magnitude of the destination (R69, R70).
`nanBlock`: the element lies in a block written as NaN, which counts neither underflow nor a finite saturation (log entry 13). -/
def TapeStat.note (t : TapeStat) (src scaled out : Val) (maxf : Val) (nanBlock : Bool) : TapeStat :=
  let fin := !src.isNan && !src.isInf
  { t with
    amax := if fin then max t.amax (amaxCode src) else t.amax
    nan := t.nan || src.isNan
    inf := t.inf || src.isInf
    nonzero := t.nonzero || !out.isZero
    elems := t.elems + 1
    zeros := t.zeros + src.isZero.toNat
    uflow := t.uflow + (fin && !src.isZero && out.isZero && !nanBlock).toNat
    sat := t.sat + (src.isInf || (fin && !nanBlock && maxf.lt scaled.abs)).toNat }

/-- Two statistics of one slot's conversion as one (R70): maximum, OR and sums. -/
def TapeStat.join (a b : TapeStat) : TapeStat :=
  { a with
    amax := max a.amax b.amax
    nan := a.nan || b.nan
    inf := a.inf || b.inf
    nonzero := a.nonzero || b.nonzero
    elems := a.elems + b.elems
    zeros := a.zeros + b.zeros
    uflow := a.uflow + b.uflow
    sat := a.sat + b.sat }

/-- The statistics of an instruction with one for each slot: an instruction is one conversion, whatever it writes there (R70). -/
def joinStats : List TapeStat → List TapeStat
  | [] => []
  | t :: ts => (ts.filter (·.slot = t.slot)).foldl TapeStat.join t :: (joinStats ts).filter (·.slot ≠ t.slot)

/-- Count an EMPTY result of a reduction (R129). -/
def TapeStat.noteEmpty (t : TapeStat) : TapeStat := { t with elems := t.elems + 1, zeros := t.zeros + 1 }

end Sys2Proof.Machine
end

