-- ==== Sys2Proof/Machine/Transcend.lean ====
section
/-!
DEFINITION. Machine/Transcend.lean: the functions of rate class T (R120 to R122).

R121 gives each function an accuracy and says it is a fixed deterministic procedure, but not which one.
So the result is the correctly placed value moved by a free whole number of units in the last place within the bound,
a number that depends on the function and its operand only (log entry 4).
The reference below is a fixed-point evaluation far finer than FP32.
-/

namespace Sys2Proof.Machine

/-- Fraction bits of the reference evaluation. -/
def fxP : Nat := 200

/-- ln 2 in units of 2^−200. -/
def fxLn2 : Nat := 0xb17217f7d1cf79abc9e3b39803f2f6af40f343267298b62d8a

/-- π in units of 2^−400. -/
def piP400 : Nat := 0x3243f6a8885a308d313198a2e03707344a4093822299f31d0082efa98ec4e6c89452821e638d01377be5466cf34e90c6cc0ac

/-- A finite value as a fixed-point integer in units of 2^−p, rounded down in magnitude. -/
def toFx (p : Nat) (n : Bool) (m : Nat) (e : Int) : Int :=
  let k := e + p
  signed n (if 0 ≤ k then m * 2 ^ k.toNat else m / 2 ^ (-k).toNat)

/-- A fixed-point integer in units of 2^−p as a value. -/
def ofFx (p : Nat) (x : Int) : Val :=
  if x = 0 then .zero else .fin (decide (x < 0)) x.natAbs (-(p : Int))

/-- Σ r^k / k! from term k on, `n` terms, in units of 2^−200; `t` is the present term. -/
def expSeries : Nat → Nat → Int → Int → Int
  | 0, _, _, _ => 0
  | n + 1, k, r, t => t + expSeries n (k + 1) r (t * r / 2 ^ fxP / ((k : Int) + 1))

/-- e^x for x in units of 2^−200: a mantissa in units of 2^−200 and a power of two. -/
def fxExp (x : Int) : Int × Int :=
  let k := x / (fxLn2 : Int)
  let r := x - k * fxLn2
  (expSeries 64 0 r (2 ^ fxP), k)

/-- Σ z^(2k+1) / (2k+1), `n` terms. -/
def atanhSeries : Nat → Nat → Int → Int → Int
  | 0, _, _, _ => 0
  | n + 1, k, z2, t => t / (2 * (k : Int) + 1) + atanhSeries n (k + 1) z2 (t * z2 / 2 ^ fxP)

/-- ln of m × 2^e, in units of 2^−200. -/
def fxLog (m : Nat) (e : Int) : Int :=
  let l := m.log2
  let y : Int := (m * 2 ^ fxP / 2 ^ l : Nat)
  let one : Int := 2 ^ fxP
  let z := (y - one) * 2 ^ fxP / (y + one)
  2 * atanhSeries 80 0 (z * z / 2 ^ fxP) z + (e + l) * fxLn2

/-- e^x as a value. -/
def refExp (x : Int) : Val :=
  let (m, k) := fxExp x
  (ofFx fxP m).scale k

/-- 1 / (1 + e^−x), for x in units of 2^−200. -/
def refSigmoid (x : Int) : Val :=
  if 600 * 2 ^ fxP < x then .ofNat 1
  else if x < -(600 * 2 ^ fxP) then .fin false 1 (-600)
  else
    let (m, k) := fxExp (if x < 0 then x else -x)
    let t : Int := m * 2 ^ fxP / 2 ^ (-k).toNat
    let den : Int := 2 ^ (2 * fxP) + t
    if x < 0 then (ofFx fxP (m * 2 ^ (2 * fxP) / den)).scale k
    else ofFx fxP (2 ^ (3 * fxP) / den)

/-- tanh x, odd in x. -/
def refTanh (x : Int) : Val :=
  let a : Int := x.natAbs
  let v :=
    if 100 * 2 ^ fxP < a then .ofNat 1
    else
      let (m, k) := fxExp (2 * a)
      let t : Int := m * 2 ^ k.toNat
      ofFx fxP ((t - 2 ^ fxP) * 2 ^ fxP / (t + 2 ^ fxP))
  if x < 0 then v.neg else v

/-- Alternating series of sine (from t = r, k = 1) or cosine (from t = 1, k = 0). -/
def trigSeries : Nat → Nat → Int → Int → Int
  | 0, _, _, _ => 0
  | n + 1, k, r2, t => t + trigSeries n (k + 2) r2 (-(t * r2 / 2 ^ fxP / (((k : Int) + 1) * ((k : Int) + 2))))

/-- The quadrant of a finite value and its remainder from −π/4 to π/4, in units of 2^−200. -/
def trigReduce (n : Bool) (m : Nat) (e : Int) : Int × Int :=
  let x := toFx 400 n m e
  let h := (piP400 : Int)
  let k := (2 * x + h / 2) / h
  (k % 4, (2 * x - k * h) / 2 ^ 201)

def fxSin (r : Int) : Int := trigSeries 40 1 (r * r / 2 ^ fxP) r
def fxCos (r : Int) : Int := trigSeries 40 0 (r * r / 2 ^ fxP) (2 ^ fxP)

def refSin (n : Bool) (m : Nat) (e : Int) : Val :=
  let (k, r) := trigReduce n m e
  let v := if k = 0 then fxSin r else if k = 1 then fxCos r else if k = 2 then -fxSin r else -fxCos r
  ofFx fxP v

def refCos (n : Bool) (m : Nat) (e : Int) : Val :=
  let (k, r) := trigReduce n m e
  let v := if k = 0 then fxCos r else if k = 1 then -fxSin r else if k = 2 then -fxCos r else fxSin r
  ofFx fxP v

/-- Move an FP32 value by d units in the last place, staying between the infinities. -/
def ulpMove (v : Val) (d : Int) : Val :=
  let b := f32bits v
  let o : Int := if b < 0x80000000 then b else -((b : Int) - 0x80000000)
  let o' := max (-0x7F800000) (min 0x7F800000 (o + d))
  if d = 0 then v else if o' < 0 then ffFP32.decode (0x80000000 + o'.natAbs) else ffFP32.decode o'.natAbs

/-- The correctly placed value moved by a free number of ULPs from −k to k (R121). -/
def withinUlp (fn k : Nat) (a v : Val) : Val :=
  ulpMove (f32 v) ((Config.vecUlp fn (f32bits a) % (2 * k + 1) : Nat) - (k : Int))

/-- SIN and COS beyond 2^16: a free absolute error of at most 2^−12 (R121). -/
def withinAbs (fn : Nat) (a v : Val) : Val :=
  let d : Int := (Config.vecUlp fn (f32bits a) % (2 ^ 25 - 4095) : Nat) - ((2 ^ 24 - 2048 : Nat) : Int)
  f32 (v.add (ofFx 36 d))

def bigAngle (m : Nat) (e : Int) : Bool := Val.lt (.fin false 1 16) (.fin false m e)

/-- The functions of rate class T on an FP32 value (R120 to R122). -/
def vecT (fn : Nat) (a : Val) : Val :=
  match a with
  | .nan n => .nan n
  | .inf n =>
    match fn with
    | 0x20 => if n then .zero else .inf false
    | 0x21 => if n then .zero else .inf false
    | 0x22 => if n then nanOf (0x100 + fn) n n else .inf false
    | 0x23 => if n then nanOf (0x100 + fn) n n else .inf false
    | 0x24 => f32sqrt a
    | 0x25 => if n then nanOf (0x100 + fn) n n else .zero
    | 0x26 => .fin n 0 0
    | 0x27 => .fin n 1 0
    | 0x28 => if n then .zero else .ofNat 1
    | 0x29 => if n then .fin true 0 0 else .inf false
    | 0x2A => if n then .fin true 0 0 else .inf false
    | _ => nanOf (0x100 + fn) n n
  | .fin n m e =>
    match fn with
    | 0x20 =>
      if Val.lt (.fin false 2 8) (.fin false m e) then (if n then .zero else .inf false)
      else withinUlp fn 2 a (refExp (toFx fxP n m e))
    | 0x21 =>
      if Val.lt (.fin false 2 8) (.fin false m e) then (if n then .zero else .inf false)
      else
        let x := toFx fxP n m e
        let k := x / 2 ^ fxP
        withinUlp fn 2 a ((refExp ((x - k * 2 ^ fxP) * fxLn2 / 2 ^ fxP)).scale k)
    | 0x22 =>
      if m = 0 then .inf true else if n then nanOf (0x100 + fn) n n else withinUlp fn 2 a (ofFx fxP (fxLog m e))
    | 0x23 =>
      if m = 0 then .inf true else if n then nanOf (0x100 + fn) n n
      else withinUlp fn 2 a (ofFx fxP (fxLog m e * 2 ^ fxP / fxLn2))
    | 0x24 => f32sqrt a
    | 0x25 =>
      if m = 0 then .inf n else if n then nanOf (0x100 + fn) n n
      else
        let (r, x) := sqrtSticky m e
        let (q, y) := quotSticky 1 r
        withinUlp fn 2 a (.fin false q (y - x))
    | 0x26 => f32div (.ofNat 1) a
    | 0x27 => if m = 0 then a else withinUlp fn 2 a (refTanh (toFx fxP n m e))
    | 0x28 => withinUlp fn 2 a (refSigmoid (toFx fxP n m e))
    | 0x29 =>
      if m = 0 then a
      else
        let x := toFx fxP n m e
        if 2 ^ (fxP + 8) < x.natAbs then (if n then .fin true 0 0 else f32 a)
        else
          let cube := x * x / 2 ^ fxP * x / 2 ^ fxP
          let z := 7978845608 * (1000000 * x + 44715 * cube) / (10000000000 * 1000000)
          withinUlp fn 4 a (f32 (a.mul (refSigmoid (2 * z))))
    | 0x2A => if m = 0 then a else withinUlp fn 4 a (a.mul (refSigmoid (toFx fxP n m e)))
    | 0x2B =>
      if m = 0 then a
      else if bigAngle m e then withinAbs fn a (refSin n m e) else withinUlp fn 2 a (refSin n m e)
    | _ => if bigAngle m e then withinAbs fn a (refCos n m e) else withinUlp fn 2 a (refCos n m e)

end Sys2Proof.Machine
end

