-- ==== Sys2Proof/Machine/Conv.lean ====
section
/-!
DEFINITION. Machine/Conv.lean: writing values into a tensor: rounding, scales, blocks, remainders and statistics (R51, R54 to R63, R68).
-/

namespace Sys2Proof.Machine

/-- The key fields of a context that a draw takes (R59, R371): the draw key with layer and stream still 0. -/
def Hw.drawKey (h : Hw) (step mb : Nat) : DrawKey :=
  { k0 := h.get (F.JOB_KEY 0), k1 := h.get (F.JOB_KEY 1), k2 := h.get (F.JOB_KEY 2), k3 := h.get (F.JOB_KEY 3)
    salt := h.get F.STREAM_SALT, step := step % 2 ^ 32, mb := mb % 2 ^ 16, layer := 0, stream := 0 }

/-- A draw of a stream of a descriptor's layer (R59, R134, R164). -/
def drawAt (k : DrawKey) (layer stream elem : Nat) : Nat := chervil { k with layer := layer, stream := stream } elem

/-- How values are rounded into a tensor (R56). -/
inductive Mode where
  | rne | sr
  deriving DecidableEq, Repr

/-- Rows 5 to 7 of R56: `opt` for an OPT function's writes, `grad` whether some source is of class GRAD. -/
def modeFor (d : Desc) (grad opt : Bool) : Mode :=
  if opt then (if d.round = 1 then .sr else .rne)
  else if grad || d.cls = clsGRAD then .sr
  else if d.round = 1 then .sr else .rne

/-- The rounding of element i of a tensor (R58, R59). -/
def Mode.rnd (m : Mode) (k : DrawKey) (d : Desc) (i : Nat) : Rnd :=
  match m with
  | .rne => .rne
  | .sr => .sr (drawAt k d.layer d.slot i)

/-- The exponent of the scale a write applies: SCALE_E − 127 for E4M3 and E5M2 with SCALE_EN, else 0 (R63, R152). -/
def Desc.wscale (d : Desc) (scaleE : Nat) : Int := if d.fmt.isScaled8 && d.scaleEn then (scaleE : Int) - 127 else 0

/-- The largest finite magnitude of a format. -/
def FF.maxVal (f : FF) : Val := .fin false f.maxSig f.emaxUlp

/-- Writes of a conversion: virtual writes and statistics. -/
structure Conv where
  writes : List (Nat × Bytes)
  stat : TapeStat
  deriving DecidableEq, Repr

/-- Write one element of a format that has no blocks: linear index, value (R57, R58, R61). -/
def convElem (d : Desc) (m : Mode) (k : DrawKey) (scaleE : Nat) (c : Conv) (iv : Nat × Val) : Conv :=
  let ff := d.fmt.ff.getD ffBF16
  let s := iv.2.scale (d.wscale scaleE)
  let raw := ff.encode (m.rnd k d iv.1) s
  { writes := d.putElem (unravel d.shape iv.1) raw :: c.writes
    stat := c.stat.note iv.2 s (ff.decode raw) ff.maxVal false }

/-- Write one block from its 32 elements: linear indices and values (R51). -/
def convBlock (d : Desc) (m : Mode) (k : DrawKey) (c : Conv) (b : List (Nat × Val)) : Conv :=
  let ff := d.fmt.ff.getD ffE2M1
  let sb := blockScale d.fmt (b.map (·.2))
  let nanB := sb == 0xFF
  let quot (v : Val) : Val := v.scale (127 - (sb : Int))
  let raws := b.map (fun p => if nanB then 0 else ff.encode (m.rnd k d p.1) (quot p.2))
  { writes := ((d.putBlock (unravel d.shape ((b.head?.map (·.1)).getD 0)) raws sb).reverse) ++ c.writes
    stat := (b.zip raws).foldl (fun t (p, r) => t.note p.2 (quot p.2) (if nanB then .nan false else ff.decode r) ff.maxVal nanB) c.stat }

/-- The linear indices of the elements of a block along the block axis, from its first. -/
def Desc.blockMembers (d : Desc) (bnum : Nat) : List Nat :=
  let bi := unravel d.blockShape bnum
  (List.range 32).map (fun j => ravel d.shape (bi.zipIdx.map (fun (n, a) => if a = d.blockAxis then n * 32 + j else n)))

/-- Look up a value among (linear index, value) pairs in rising order. -/
def valOf (l : List (Nat × Val)) (i : Nat) : Option Val := (l.find? (·.1 == i)).map (·.2)

/-- Write values at linear indices of a floating-point tensor. For FP6 and FP4 only blocks whose 32 elements are all given are
written; the instructions that write part of a tensor are checked to give whole blocks. -/
def convInto (d : Desc) (m : Mode) (k : DrawKey) (scaleE step : Nat) (vals : List (Nat × Val)) : Conv :=
  let c0 : Conv := ⟨[], TapeStat.zero d.slot step⟩
  let c :=
    if d.fmt.isBlock then
      (List.range (d.count / 32)).foldl (fun c b =>
        let mem := (d.blockMembers b).map (fun i => (valOf vals i).map (fun v => (i, v)))
        if mem.all Option.isSome then convBlock d m k c (mem.filterMap id) else c) c0
    else vals.foldl (convElem d m k scaleE) c0
  { c with writes := joinWrites c.writes.reverse }

/-- Write unsigned integers into an index tensor (R45, R555). -/
def indexInto (d : Desc) (vals : List (Nat × Nat)) : List (Nat × Bytes) :=
  joinWrites (vals.map (fun p => d.putElem (unravel d.shape p.1) (satIndex d.fmt p.2)))

/-- Zeros in the remainders of the elements written (R68). -/
def hemZero (hem : Option Desc) (idx : List Nat) : List (Nat × Bytes) :=
  match hem with
  | some h => joinWrites (idx.map (fun i => h.putElem (unravel h.shape i) 0))
  | none => []

/-- Every linear index of a tensor. -/
def Desc.all (d : Desc) : List Nat := List.range d.count

/-- The index vector of a source for a destination index vector, broadcasting extents of 1 (R119, axes aligned from axis 0; log entry 14). -/
def bcast (src : Desc) (idx : List Nat) : List Nat :=
  src.shape.zipIdx.map (fun (n, a) => if n = 1 then 0 else idx.getD a 0)

/-- Whether a source's shape fits a destination's, up to broadcasting (R119). -/
def bcastOk (src dst : Desc) : Bool := (src.ext.zip dst.ext).all (fun p => p.1 = p.2 || p.1 = 1)

/-- Whether SCALE_EN makes a destination's Tape slot follow a conversion (R557). -/
def Desc.taped (d : Desc) : Bool := d.scaleEn && d.fmt.ff.isSome

end Sys2Proof.Machine
end

