-- ==== Sys2Proof/Machine/Tape.lean ====
section
/-!
DEFINITION. Machine/Tape.lean: Tape records, their steps and the gradient watch (R69 to R73, R165, R383 to R387).
-/

namespace Sys2Proof.Machine

/-- A Tape record (R69). -/
structure TapeRec where
  amax : List Nat
  scaleE : Nat
  nan : Bool
  inf : Bool
  nonzero : Bool
  histValid : Nat
  histPtr : Nat
  lastStep : Nat
  watchEn : Bool
  margin : Nat
  amaxLen : Nat
  scaleFmt : Nat
  elem : Nat
  zero : Nat
  uflow : Nat
  sat : Nat
  starveRun : Nat
  starveN : Nat
  ufThresh : Nat
  deriving DecidableEq, Repr

/-- The 16-bit word at an offset. -/
def wordAt (b : Bytes) (o : Nat) : Nat := fieldLE b o 2

def parseTape (b : Bytes) : TapeRec :=
  { amax := (List.range 16).map (fun n => wordAt b (2 * n))
    scaleE := wordAt b 0x20 % 256
    nan := bitOf (wordAt b 0x22) 15, inf := bitOf (wordAt b 0x22) 14, nonzero := bitOf (wordAt b 0x22) 13
    histValid := bitsOf (wordAt b 0x22) 12 8, histPtr := bitsOf (wordAt b 0x22) 7 4
    lastStep := wordAt b 0x24
    watchEn := bitOf (wordAt b 0x26) 15, margin := bitsOf (wordAt b 0x26) 11 8, amaxLen := bitsOf (wordAt b 0x26) 7 4
    scaleFmt := bitsOf (wordAt b 0x26) 3 0
    elem := wordAt b 0x28, zero := wordAt b 0x2A, uflow := wordAt b 0x2C, sat := wordAt b 0x2E
    starveRun := wordAt b 0x30, starveN := wordAt b 0x32, ufThresh := wordAt b 0x34 }

def TapeRec.bytes (r : TapeRec) : Bytes :=
  (r.amax.map (natLE 2)).flatten ++ natLE 2 r.scaleE ++
  natLE 2 (r.nan.toNat * 2 ^ 15 + r.inf.toNat * 2 ^ 14 + r.nonzero.toNat * 2 ^ 13 + r.histValid * 256 + r.histPtr * 16) ++
  natLE 2 r.lastStep ++ natLE 2 (r.watchEn.toNat * 2 ^ 15 + r.margin * 256 + r.amaxLen * 16 + r.scaleFmt) ++
  natLE 2 r.elem ++ natLE 2 r.zero ++ natLE 2 r.uflow ++ natLE 2 r.sat ++ natLE 2 r.starveRun ++ natLE 2 r.starveN ++
  natLE 2 r.ufThresh ++ List.replicate 10 0

/-- The record of a slot after STAT REGISTER (R69, R165). -/
def TapeRec.fresh (grad : Bool) : TapeRec :=
  ⟨List.replicate 16 0, 0x7F, false, false, false, 0, 0, 0, grad, 0, 0, 2, 0, 0, 0, 0, 0, 0x20, 0xC000⟩

/-- Whether 64 bytes may be written as a record (R69). -/
def tapeBytesOk (b : Bytes) : Bool :=
  let r := parseTape b
  decide (b.length = 64) && wordAt b 0x20 / 256 = 0 && wordAt b 0x22 % 16 = 0 && bitsOf (wordAt b 0x26) 14 12 = 0 &&
  (b.drop 0x36).all (· = 0) && r.amax.all (· ≤ 0x7F80) && r.scaleE ≠ 0xFF && r.histValid ≤ 16 &&
  (r.scaleFmt = 2 || r.scaleFmt = 3) && r.starveN ≠ 0

/-- Virtual address of a slot's record (R69, R190). -/
def Hw.tapeVa (h : Hw) (slot : Nat) : Nat := h.get F.TAPE_BASE + 64 * slot

/-- Whether the Tape unit reaches a slot's record (R289). -/
def Hw.tapeReach (h : Hw) (slot : Nat) : Bool :=
  match h.translate noCache (h.tapeVa slot) .read, h.translate noCache (h.tapeVa slot) .write with
  | .ok (.loc _) _, .ok (.loc _) _ => h.xlOn
  | _, _ => false

/-- The bytes of a slot's record. -/
def Hw.tapeBytes (h : Hw) (slot : Nat) : Bytes :=
  match h.translate noCache (h.tapeVa slot) .read with
  | .ok (.loc a) _ => h.peek a 64
  | _ => List.replicate 64 0

def Hw.tapeRec (h : Hw) (slot : Nat) : TapeRec := parseTape (h.tapeBytes slot)

/-- Write a slot's record. -/
def Hw.tapePut (h : Hw) (slot : Nat) (b : Bytes) : Hw :=
  match h.translate noCache (h.tapeVa slot) .write with
  | .ok (.loc a) _ => h.poke a b
  | _ => h

/-- The scale of a history maximum (R71): a nonzero BF16 magnitude, SCALE_FMT, MARGIN. -/
def scaleFromAmax (m fmt margin : Nat) : Nat :=
  match ffBF16.decode m with
  | .fin _ ma e =>
    let ea := floorLog2 ma e
    let ef : Int := if fmt = 3 then 15 else 8
    let k := ef - ea - (if 7 * 2 ^ ma.log2 < 4 * ma then 1 else 0) - margin
    (max 0 (min 0xFE (k + 127))).toNat
  | _ => 0

/-- The largest of the newest entries that set the scale (R71). -/
def TapeRec.histMax (r : TapeRec) : Nat :=
  let n := if r.amaxLen = 0 then 16 else r.amaxLen
  (List.range (min n r.histValid)).foldl (fun a i => max a (r.amax.getD ((r.histPtr + 16 - i) % 16) 0)) 0

/-- Whether an instruction of a step opens a new step on the record (R71). -/
def TapeRec.opens (r : TapeRec) (step : Nat) : Bool := r.histValid = 0 || step % 65536 ≠ r.lastStep

/-- The record after tape_begin (R71). -/
def TapeRec.begin (r : TapeRec) (step : Nat) : TapeRec :=
  if !r.opens step then r
  else
    let m := r.histMax
    let ptr := (r.histPtr + 1) % 16
    { r with
      starveRun := if 0 < r.histValid && r.watchEn then (if r.nonzero then 0 else min (r.starveRun + 1) 0xFFFF) else r.starveRun
      scaleE := if 0 < r.histValid && 0 < m then scaleFromAmax m r.scaleFmt r.margin else r.scaleE
      histPtr := ptr
      amax := r.amax.set ptr 0
      histValid := min (r.histValid + 1) 16
      nan := false, inf := false, nonzero := false
      lastStep := step % 65536 }

/-- Whether the step close of tape_begin posts GRAD_STARVE of kind RUN (R383). -/
def TapeRec.starves (r : TapeRec) (step : Nat) : Bool :=
  r.opens step && decide (0 < r.histValid) && r.watchEn && !r.nonzero && r.starveRun < 0xFFFF && r.starveN ≠ 0 &&
    (r.starveRun + 1) % r.starveN = 0

/-- Count and, with STARVE_EVT, post a GRAD_STARVE (R386): kind 1 RUN, 2 FRACTION, 3 ABSENT. -/
def Hw.gradStarve (h : Hw) (slot kind ctx step value : Nat) : Hw :=
  let h := h.inc (match kind with
    | 1 => F.GRAD_STARVE_CNT
    | 2 => F.UF_TRIP_CNT
    | _ => F.ABSENT_CNT)
  if h.flag F.STARVE_EVT then h.post Ev.evGradStarve [u16 slot, u8 kind, u16 ctx, u32 step, u32 value] else h

/-- Start an instruction that writes a slot (R71, R383): open a step if due; the absence mark of the slot clears (R385). -/
def Hw.tapeBegin (h : Hw) (slot step ctx : Nat) : Hw :=
  let r := h.tapeRec slot
  let r' := r.begin step
  let h := h.tapePut slot r'.bytes
  let h := { h with train := { h.train with
    absMark := h.train.absMark.filter (· ≠ slot)
    fracMark := if r.opens step then h.train.fracMark.filter (· ≠ slot) else h.train.fracMark } }
  if r.starves step then h.gradStarve slot 1 ctx step r'.starveRun else h

/-- The scale in force for an instruction that writes the descriptor (R63). -/
def Hw.scaleOf (h : Hw) (d : Desc) : Nat := if d.scaleEn && d.fmt.isScaled8 then (h.tapeRec d.slot).scaleE else 0x7F

/-- The record after an instruction's completion (R72). -/
def TapeRec.complete (r : TapeRec) (t : TapeStat) : TapeRec :=
  { r with
    amax := if t.step % 65536 = r.lastStep then r.amax.set r.histPtr (max (r.amax.getD r.histPtr 0) t.amax) else r.amax
    nan := r.nan || t.nan, inf := r.inf || t.inf, nonzero := r.nonzero || t.nonzero
    elem := stat16Enc t.elems, zero := stat16Enc t.zeros, uflow := stat16Enc t.uflow, sat := stat16Enc t.sat }

/-- Whether the completion trips the underflow fraction (R384). -/
def fractionTrips (r : TapeRec) (t : TapeStat) : Bool :=
  let m := t.elems - t.zeros
  r.watchEn && r.ufThresh ≠ 0 && decide (0 < m) && decide (r.ufThresh * m < t.uflow * 65536)

/-- Complete an instruction that wrote a slot (R72, R384). -/
def Hw.tapeComplete (h : Hw) (ctx : Nat) (t : TapeStat) : Hw :=
  let r := h.tapeRec t.slot
  let h := h.tapePut t.slot (r.complete t).bytes
  let h := { h with train := { h.train with absMark := h.train.absMark.filter (· ≠ t.slot) } }
  if fractionTrips r t && !h.train.fracMark.contains t.slot then
    let h := { h with train := { h.train with fracMark := t.slot :: h.train.fracMark } }
    h.gradStarve t.slot 2 ctx t.step (t.uflow * 65536 / (t.elems - t.zeros))
  else h

/-- Record a relaxation of the watch if a write made one (R387). -/
def Hw.relaxation (h : Hw) (slot : Nat) (old new : TapeRec) : Hw :=
  if (old.watchEn && !new.watchEn) || (old.starveN < new.starveN && 0x20 < new.starveN) then
    let h := (h.inc F.WATCH_RELAX_CNT).set F.RELAX_EPOCH (h.get F.SHUTTLE_EPOCH)
    let h := h.set F.STARVE_N_MAX (max (h.get F.STARVE_N_MAX) new.starveN)
    h.post Ev.evGradWatchRelaxed [u16 slot, u8 new.watchEn.toNat, u16 new.starveN]
  else h

/-- A write of a record by STAT or a Roino command, other than REGISTER (R165, R387, R385). -/
def Hw.tapeSoftWrite (h : Hw) (slot : Nat) (b : Bytes) : Hw :=
  let old := h.tapeRec slot
  let h := h.tapePut slot b
  let h := { h with train := { h.train with absMark := h.train.absMark.filter (· ≠ slot) } }
  h.relaxation slot old (parseTape b)

end Sys2Proof.Machine
end

