-- ==== Sys2Proof/Machine/VecCalc.lean ====
section
/-!
DEFINITION. Machine/VecCalc.lean: what the vector instructions compute (chapter 04): from an instruction, its descriptors, the
content of its operands, the key of its draws and the scales in force, to writes, flags and statistics. Nothing else enters (R114).
-/

namespace Sys2Proof.Machine

/-- What an instruction computed: status and DETAIL, flags, virtual writes in order, statistics by slot, destination elements written,
elements computed, out-of-range indices, the operand and virtual address at which it met poison. -/
structure VRes where
  status : Nat := 0
  detail : Nat := 0
  flags : Flags := {}
  writes : List (Nat × Bytes) := []
  stats : List TapeStat := []
  elems : Nat := 0
  work : Nat := 0
  idxRange : Nat := 0
  pleatOvf : Bool := false
  badAt : Option (Nat × Nat) := none
  deriving DecidableEq, Repr

def stOK : Nat := 0
def stInvalidInstruction : Nat := 1
def stInvalidDescriptor : Nat := 2
def stInvalidSubmission : Nat := 3
def stPoisoned : Nat := 4
def stLongsumFault : Nat := 5
def stPleatOverflow : Nat := 6
def stWaitTimeout : Nat := 7
def stBadTapeValue : Nat := 8
def stFaultCancelled : Nat := 9
def stCollFailed : Nat := 10
def stNotRun : Nat := 11
def stCancelled : Nat := 12
def stFatal : Nat := 13

/-- A failing instruction that writes nothing. -/
def VRes.fail (st : Nat) : VRes := { status := st }

/-- The inputs of a vector instruction beside its 128 bits. -/
structure VecIn where
  ds : List (Nat × Nat)
  views : List View
  key : DrawKey
  step : Nat
  /-- SCALE_E in force by Tape slot (R63). -/
  scales : List (Nat × Nat)
  /-- Poisoned virtual ranges among the operands (R139). -/
  poison : List (Nat × Nat)
  /-- PLEAT_OVF_MODE (R132). -/
  ovfMode : Bool
  /-- The part to compute: elements, rows or products from `lo` up to but not `hi`, where work is cut at preemption boundaries (R138,
  R102). The default is all of them. -/
  lo : Nat := 0
  hi : Nat := 2 ^ 40
  deriving DecidableEq, Repr

/-- The descriptor of operand i of the instruction. -/
def VecIn.d (x : VecIn) (r i : Nat) : Desc := (((insOpnds r)[i]?).bind (fun o => descIn x.ds o.desc)).getD (parseDesc 0)

/-- The content of operand i. -/
def VecIn.v (x : VecIn) (i : Nat) : View := x.views.getD i []

def VecIn.scale (x : VecIn) (d : Desc) : Nat := ((x.scales.find? (·.1 == d.slot)).map (·.2)).getD 0x7F

/-- The value of an element of operand i. -/
def VecIn.val (x : VecIn) (r i : Nat) (idx : List Nat) : Val := (x.d r i).valAt (x.v i) (x.scale (x.d r i)) idx

def VecIn.raw (x : VecIn) (r i : Nat) (idx : List Nat) : Nat := (x.d r i).rawAt (x.v i) idx

/-- The address of the poison that an element of a tensor holds, its scale byte included. -/
def VecIn.badIn (x : VecIn) (d : Desc) (idx : List Nat) : Option Nat :=
  if x.poison.isEmpty then none
  else
  let a := d.addr + d.bitOff idx / 8
  let s := d.scaleAddr + d.blockNum idx
  (x.poison.find? (fun p => (a < p.2 && p.1 < a + (d.fmt.width + 7) / 8) || (d.fmt.isBlock && p.1 ≤ s && s < p.2))).map (·.1)

/-- The address of the poison that an element of operand i holds. -/
def VecIn.bad (x : VecIn) (r i : Nat) (idx : List Nat) : Option Nat := x.badIn (x.d r i) idx

/-- The first index of a list at which something is poisoned, with the operand and the address. -/
def firstBad (l : List Nat) (bad : Nat → Option (Nat × Nat)) : Option (Nat × Nat × Nat) :=
  l.findSome? (fun n => (bad n).map (fun b => (n, b.1, b.2)))

/-- A failure at poison: index, operand, address (R139). -/
def VRes.poisoned (b : Nat × Nat × Nat) : VRes := { status := stPoisoned, detail := b.1, badAt := some b.2 }

/-- The part of a list of indices below n that is computed: from `lo` up to `hi`. -/
def VecIn.span (x : VecIn) (n : Nat) : List Nat := (List.range (min x.hi n)).drop x.lo

/-! ### Element-wise functions (R120) -/

/-- 1 or 0 as a value. -/
def valB (b : Bool) : Val := .fin false b.toNat 0

def f32one : Val := .fin false 1 0

/-- Whether a value counts as true for SELECT: nonzero and not NaN (R120). -/
def truthy (c : Val) : Bool := !c.isZero && !c.isNan

/-- The value of a VOP function that names descriptors (R120 to R122). -/
def vopVal (vfn : Nat) (a b c : Val) : Val :=
  match vfn with
  | 0x00 => a
  | 0x01 => a.neg
  | 0x02 => a.abs
  | 0x03 => a.max2 b
  | 0x04 => a.min2 b
  | 0x05 => valB (a.eqv b)
  | 0x06 => valB (a.lt b)
  | 0x07 => valB (a.le b)
  | 0x08 => if truthy c then a else b
  | 0x10 => f32add a b
  | 0x11 => f32sub a b
  | 0x12 => f32mul a b
  | 0x13 => f32fma a b c
  | 0x14 => f32div a b
  | 0x24 => f32sqrt a
  | 0x26 => f32div f32one a
  | _ => vecT vfn a

/-- SCALE: two roundings (R120). -/
def scaleVal (a s1 s2 : Val) : Val := f32add (f32mul a s1) s2

/-- CLAMP: NaN stays NaN (R120); where [S1, S2] is no interval the result is open (log entry 146). -/
def clampVal (a s1 s2 : Val) : Val :=
  if a.isNan then a
  else if !s1.le s2 then ffFP32.decode (Config.clampOpen (f32bits a) (f32bits s1) (f32bits s2) % 2 ^ 32)
  else if a.lt s1 then s1 else if s2.lt a then s2 else a

/-- A scalar field: BF16 hi in [31:16], lo in [15:0] (R118, R158). -/
def scalarOf (f : Nat) : Val := pairScalar (f / 65536 % 65536) (f % 65536)

/-- Whether a descriptor is of a floating-point or STAT16 source format. -/
def Desc.srcFloat (d : Desc) : Bool := d.fmt.ff.isSome || d.fmt = .stat16

/-- Whether a descriptor may be a floating-point destination (R52, R53). -/
def Desc.dstFloat (d : Desc) : Bool := d.fmt.ff.isSome

/-- Formats a VOP may combine (R555, R52, R53). -/
def vopFormatsOk (vfn : Nat) (d : Desc) (srcs : List Desc) : Bool :=
  let noHem := srcs.all (fun s => s.fmt ≠ .hem8)
  if 5 ≤ vfn && vfn ≤ 7 then (d.fmt.isIndex || d.dstFloat) && noHem
  else if vfn = 0 || vfn = 3 || vfn = 4 || vfn = 8 then
    let ab := srcs.take 2
    noHem && ((d.fmt.isIndex && ab.all (·.fmt.isIndex)) || (d.dstFloat && ab.all Desc.srcFloat))
  else d.dstFloat && srcs.all Desc.srcFloat

/-- Result of writing element values into operand 0, up to the first poisoned element (R139). -/
def vecElementwise (x : VecIn) (r : Nat) (srcs : List Nat) (opt : Bool) (f : Nat → List Nat → Val) : VRes :=
  let d := x.d r 0
  let grad := srcs.any (fun i => (x.d r i).cls = clsGRAD)
  let bad := firstBad (x.span d.count) (fun n => srcs.findSome? (fun i => (x.bad r i (bcast (x.d r i) (unravel d.shape n))).map (fun a => (i, a))))
  let idx := match bad with
    | some b => x.span b.1
    | none => x.span d.count
  let vals := idx.map (fun n => (n, f n (unravel d.shape n)))
  let hem := hemIn x.ds d
  let res : VRes :=
    if d.fmt.isIndex then
      { writes := indexInto d (vals.map (fun p => (p.1, match p.2 with
          | .fin false m e => if 0 ≤ e then m * 2 ^ e.toNat else m / 2 ^ (-e).toNat
          | _ => 0))) }
    else
      let c := convInto d (modeFor d grad opt) x.key (x.scale d) x.step vals
      { writes := c.writes ++ (if opt then [] else hemZero hem idx), stats := if d.taped then [c.stat] else [] }
  let res := { res with elems := idx.length, work := idx.length }
  match bad with
  | some b => { res with status := stPoisoned, detail := b.1, badAt := some b.2 }
  | none => res

/-- CVT (R123, R45, R62). -/
def vecCvt (x : VecIn) (r : Nat) : VRes :=
  let d := x.d r 0
  let a := x.d r 1
  if !bcastOk a d then .fail stInvalidDescriptor
  else if !((d.dstFloat && a.srcFloat) || (d.fmt.isIndex && a.fmt.isIndex)) then .fail stInvalidDescriptor
  else vecElementwise x r [1] false (fun _ idx => x.val r 1 (bcast a idx))

/-- VOP functions over descriptors, SCALE and CLAMP (R120, R555). -/
def vecVop (x : VecIn) (r : Nat) : VRes :=
  let vfn := bitsOf r 122 115
  let d := x.d r 0
  let n := (insOpnds r).length
  let srcs := (List.range n).drop 1
  let sd := srcs.map (x.d r)
  if !sd.all (fun s => bcastOk s d) || !vopFormatsOk vfn d sd then .fail stInvalidDescriptor
  else
    let at_ (i : Nat) (idx : List Nat) : Val := if i < n then x.val r i (bcast (x.d r i) idx) else .zero
    vecElementwise x r srcs false (fun _ idx =>
      match vfn with
      | 0x15 => scaleVal (at_ 1 idx) (scalarOf (bitsOf r 82 51)) (scalarOf (bitsOf r 50 19))
      | 0x16 => clampVal (at_ 1 idx) (scalarOf (bitsOf r 82 51)) (scalarOf (bitsOf r 50 19))
      | _ => vopVal vfn (at_ 1 idx) (at_ 2 idx) (at_ 3 idx))

/-- DROPOUT (R134). -/
def vecDropout (x : VecIn) (r : Nat) : VRes :=
  let d := x.d r 0
  let a := x.d r 1
  let stream := bitsOf r 18 0
  if stream < 0x10000 || !bcastOk a d || !d.dstFloat || !a.srcFloat then .fail stInvalidDescriptor
  else
    vecElementwise x r [1] false (fun n idx =>
      if bitsOf r 42 19 ≤ drawAt x.key d.layer stream n % 2 ^ 24 then f32mul (x.val r 1 (bcast a idx)) (scalarOf (bitsOf r 82 51))
      else .zero)

/-! ### Optimizer kernels (R136, R137) -/

/-- A parameter pair of Q. -/
def VecIn.q (x : VecIn) (r qi n : Nat) : Val :=
  let d := x.d r qi
  pairScalar (x.raw r qi (unravel d.shape n)) (x.raw r qi (unravel d.shape (n + 1)))

/-- The new moments and the update of one element (R137): vfn, parameters, g, w, m, v. -/
def optElem (vfn : Nat) (q : Nat → Val) (g w m v : Val) : Val × Val × Val :=
  let lr := q 0
  let wd := q 8
  let upd (t : Val) : Val := (f32mul lr (f32add t (f32mul wd w))).neg
  match vfn with
  | 0x40 => (m, v, upd g)
  | 0x41 =>
    let m1 := f32add (f32mul (q 2) m) g
    (m1, v, upd m1)
  | _ =>
    let m1 := f32add (f32mul (q 2) m) (f32mul (f32sub f32one (q 2)) g)
    let v1 := f32add (f32mul (q 4) v) (f32mul (f32mul (f32sub f32one (q 4)) g) g)
    let t1 := f32div (f32div m1 (q 10)) (f32add (f32sqrt (f32div v1 (q 12))) (q 6))
    (m1, v1, upd t1)

/-- Whether the operands of an OPT instruction are as R136 says. -/
def optOk (x : VecIn) (r nm : Nat) : Bool :=
  let w := x.d r 0
  let g := x.d r 1
  let q := x.d r (2 + nm)
  w.cls = clsWGT && w.fmt = .bf16 && g.cls = clsGRAD && g.srcFloat && g.shape = w.shape &&
  ((List.range nm).all (fun i => let m := x.d r (2 + i); m.cls = clsOPT && m.dstFloat && m.shape = w.shape)) &&
  q.cls = clsAUX && q.fmt = .bf16 && q.count = 16

/-- One element of an OPT instruction: new moments, unrounded new weight value, and its Hem split. -/
structure OptOut where
  m1 : Val
  v1 : Val
  w : Val
  w2 : Nat
  h2 : Int
  deriving DecidableEq, Repr

/-- An OPT instruction (R136, R137): weight with remainder or rounded, and the moments. The Tape statistics of a weight written with its
remainder are those of the pair's value w + h, of which the BF16 element written is a part (R70; log entry 148). -/
def vecOpt (x : VecIn) (r : Nat) : VRes :=
  let vfn := bitsOf r 122 115
  let nm := optMoments vfn
  if !optOk x r nm then .fail stInvalidDescriptor
  else
    let w := x.d r 0
    let qi := 2 + nm
    let hem := hemIn x.ds w
    let hemView := x.views.getD (qi + 1) []
    let srcs := List.range (qi + 1)
    let badQ := (List.range 16).findSome? (fun j => (x.bad r qi (unravel (x.d r qi).shape j)).map (fun a => (qi, a)))
    let badHem (ix : List Nat) : Option (Nat × Nat) := (hem.bind (fun hd => x.badIn hd ix)).map (fun a => (16, a))
    let bad := firstBad (x.span w.count) (fun n =>
      let ix := unravel w.shape n
      (badQ.or ((srcs.take qi).findSome? (fun i => (x.bad r i ix).map (fun a => (i, a))))).or (badHem ix))
    let idx := match bad with
      | some b => x.span b.1
      | none => x.span w.count
    let q (n : Nat) : Val := x.q r qi n
    let one (n : Nat) : OptOut :=
      let ix := unravel w.shape n
      let we := x.raw r 0 ix
      let he : Int := match hem with
        | some h => byteInt (h.rawAt hemView ix)
        | none => 0
      let wv := match hem with
        | some _ => hemValue we he
        | none => ffBF16.decode we
      let m := if 1 ≤ nm then x.val r 2 ix else .zero
      let v := if 2 ≤ nm then x.val r 3 ix else .zero
      let (m1, v1, u) := optElem vfn q (x.val r 1 ix) wv m v
      let (w2, h2) := hemUpdate we he u
      ⟨m1, v1, f32add wv u, w2, h2⟩
    let outs := idx.map (fun n => (n, one n))
    let wIdx := outs.map (fun p => (p.1, p.2.w2))
    let wRes : List (Nat × Bytes) × List TapeStat :=
      match hem with
      | some h =>
        (joinWrites (wIdx.map (fun p => w.putElem (unravel w.shape p.1) p.2)) ++
          joinWrites (outs.map (fun p => h.putElem (unravel h.shape p.1) (intByte p.2.h2))),
         if w.taped then
           [outs.foldl (fun t p =>
             t.note p.2.w p.2.w (hemValue p.2.w2 p.2.h2) ffBF16.maxVal false) (TapeStat.zero w.slot x.step)]
         else [])
      | none =>
        let c := convInto w (modeFor w false true) x.key (x.scale w) x.step (outs.map (fun p => (p.1, p.2.w)))
        (c.writes, if w.taped then [c.stat] else [])
    let moment (i : Nat) (f : OptOut → Val) : List (Nat × Bytes) × List TapeStat :=
      let d := x.d r i
      let c := convInto d (modeFor d false true) x.key (x.scale d) x.step (outs.map (fun p => (p.1, f p.2)))
      (c.writes, if d.taped then [c.stat] else [])
    let ms := (if 1 ≤ nm then [moment 2 OptOut.m1] else []) ++ (if 2 ≤ nm then [moment 3 OptOut.v1] else [])
    let all := ms ++ [wRes]
    let res : VRes := { writes := (all.map (·.1)).flatten, stats := joinStats (all.map (·.2)).flatten, elems := idx.length, work := idx.length }
    match bad with
    | some b => { res with status := stPoisoned, detail := b.1, badAt := some b.2 }
    | none => res

/-! ### Reductions (R125 to R129) -/

/-- The largest power of two below n, for n ≥ 2. -/
def halfPow (n : Nat) : Nat := 2 ^ (n - 1).log2

/-- The fixed tree of R127 over a list, with fuel. -/
def redTree (op : Val → Val → Val) : Nat → List Val → Val
  | 0, _ => .zero
  | _, [] => .zero
  | _, [v] => v
  | f + 1, l =>
    let h := halfPow l.length
    op (redTree op f (l.take h)) (redTree op f (l.drop h))

/-- Whether element b goes before a under argmax; ties and zeros keep the lower index, +0 above −0 (R128; log entry 15). -/
def argBetter (max : Bool) (a b : Val) : Bool :=
  let lt (u v : Val) : Bool := u.lt v || (u.isZero && v.isZero && u.sign && !v.sign)
  if max then lt a b else lt b a

/-- The index along AXIS that argmax or argmin selects, from (index, value) pairs (R128). -/
def argPick (max : Bool) (l : List (Nat × Val)) : Nat :=
  match l.find? (·.2.isNan) with
  | some p => p.1
  | none => match l with
    | [] => 0xFFFFFFFF
    | p :: r => (r.foldl (fun a b => if argBetter max a.2 b.2 then b else a) p).1

/-- The stored encoding of an EMPTY result (R129). -/
def emptyEnc (rfn : Nat) (d : Desc) (scaleE : Nat) : Nat :=
  let ff := d.fmt.ff.getD ffBF16
  match rfn with
  | 0 => 0
  | 1 => ff.encode .rne ((Val.fin false 1 0).scale (d.wscale scaleE))
  | 2 => ff.bits (if ff.hasInf then .inf true else .fin true ff.maxSig ff.emaxUlp)
  | 3 => ff.bits (if ff.hasInf then .inf false else .fin false ff.maxSig ff.emaxUlp)
  | 4 => ff.bits (nanOf 7 false false)
  | _ => 0xFFFFFFFF

/-- The value of a reduction that is not an argmax or argmin, over the active elements in order (R127). -/
def redVal (rfn : Nat) (l : List Val) : Val :=
  match rfn with
  | 0 => redTree f32add l.length l
  | 1 => redTree f32mul l.length l
  | 2 => if l.any Val.isNan then .nan ((l.find? Val.isNan).map Val.sign |>.getD false) else redTree Val.max2 l.length l
  | 3 => if l.any Val.isNan then .nan ((l.find? Val.isNan).map Val.sign |>.getD false) else redTree Val.min2 l.length l
  | _ => f32div (redTree f32add l.length l) (.ofNat l.length)

/-- Whether the operands of a RED are as R125, R126 and R159 say. -/
def redOk (x : VecIn) (r : Nat) : Bool :=
  let rfn := bitsOf r 122 120
  let ax := bitsOf r 119 118
  let d := x.d r 0
  let a := x.d r 1
  let arg := 5 ≤ rfn
  let dFmt := if arg then d.fmt.isIndex else [Fmt.bf16, .fp16, .e4m3, .e5m2].contains d.fmt
  let aFmt := a.srcFloat || (arg && a.fmt.isIndex)
  let maskOk :=
    if (insOpnds r).length < 3 then true
    else
      let m := x.d r 2
      m.fmt = .u16 && m.rank = a.rank &&
        (m.shape = a.shape || m.shape = a.shape.zipIdx.map (fun (n, i) => if i = ax then n else 1))
  ax < a.rank && a.count ≤ 2 ^ 20 && d.rank = a.rank && d.shape = a.shape.zipIdx.map (fun (n, i) => if i = ax then 1 else n) &&
    dFmt && aFmt && maskOk

/-- RED (R125 to R129). -/
def vecRed (x : VecIn) (r : Nat) : VRes :=
  if !redOk x r then .fail stInvalidDescriptor
  else
    let rfn := bitsOf r 122 120
    let ax := bitsOf r 119 118
    let d := x.d r 0
    let a := x.d r 1
    let masked := 3 ≤ (insOpnds r).length
    let badN := firstBad a.all (fun n =>
      ((x.bad r 1 (unravel a.shape n)).map (fun v => (1, v))).or
        (if masked then (x.bad r 2 (bcast (x.d r 2) (unravel a.shape n))).map (fun v => (2, v)) else none))
    match badN with
    | some b => .poisoned b
    | none =>
      let line (n : Nat) : List (Nat × Val) :=
        let base := unravel d.shape n
        ((List.range (a.shape.getD ax 1)).map (fun j => (j, base.set ax j))).filterMap (fun (j, idx) =>
          if !masked || x.raw r 2 (bcast (x.d r 2) idx) ≠ 0 then some (j, x.val r 1 idx) else none)
      let lines := d.all.map (fun n => (n, line n))
      let anyEmpty := lines.any (·.2.isEmpty)
      let nan := [2, 3, 5, 6].contains rfn && lines.any (fun l => l.2.any (·.2.isNan))
      let fl : Flags := { empty := anyEmpty, nanSeen := nan }
      if 5 ≤ rfn then
        { writes := indexInto d (lines.map (fun l => (l.1, argPick (rfn = 5) l.2))), flags := fl, elems := a.count, work := a.count }
      else
        let m := modeFor d (a.cls = clsGRAD) false
        let c := lines.foldl (fun (c : Conv) l =>
          if l.2.isEmpty then
            { writes := d.putElem (unravel d.shape l.1) (emptyEnc rfn d (x.scale d)) :: c.writes, stat := c.stat.noteEmpty }
          else convElem d m x.key (x.scale d) c (l.1, redVal rfn (l.2.map (·.2)))) ⟨[], TapeStat.zero d.slot x.step⟩
        { writes := joinWrites c.writes.reverse ++ hemZero (hemIn x.ds d) d.all, stats := if d.taped then [c.stat] else [], flags := fl, elems := a.count, work := a.count }

/-! ### PLEAT and UNPLEAT (R130 to R133) -/

/-- The index vectors of a row of a tensor along an axis: its elements, or the first elements of its blocks. -/
def Desc.rowCells (d : Desc) (ax row : Nat) : List (List Nat) :=
  let sh := (if d.fmt.isBlock then d.blockShape else d.shape).set ax 1
  (List.range (prodList sh)).map (fun n =>
    ((unravel sh n).set ax row).zipIdx.map (fun (v, a) => if d.fmt.isBlock && a = d.blockAxis then v * 32 else v))

/-- The 32 index vectors of a block from its first. -/
def Desc.blockIdx (d : Desc) (i0 : List Nat) : List (List Nat) :=
  (List.range 32).map (fun j => i0.set d.blockAxis (i0.getD d.blockAxis 0 + j))

/-- Copy a row bit for bit, block scales included (R131). -/
def copyRow (s : Desc) (v : View) (t : Desc) (ax i k : Nat) : List (Nat × Bytes) :=
  (((s.rowCells ax i).zip (t.rowCells ax k)).map (fun (a, b) =>
    if t.fmt.isBlock then t.putBlock b ((s.blockIdx a).map (s.rawAt v)) (s.scaleByteAt v a) else [t.putElem b (s.rawAt v a)])).flatten

/-- Write +0 to a row; a block of zeros has the scale byte of R51. -/
def zeroRow (t : Desc) (ax k : Nat) : List (Nat × Bytes) :=
  ((t.rowCells ax k).map (fun b => if t.fmt.isBlock then t.putBlock b [] 0x7F else [t.putElem b 0])).flatten

/-- Whether two descriptors agree in every axis but one. -/
def sameButAxis (a b : Desc) (ax : Nat) : Bool := a.rank = b.rank && a.shape.set ax 0 = b.shape.set ax 0

/-- Whether the operands of a PLEAT are as R130 says. X and P in a block format have one block axis (log entry 149). -/
def pleatOk (x : VecIn) (r : Nat) : Bool :=
  let ax := bitsOf r 120 119
  let xd := x.d r 0
  let k := x.d r 1
  let p := x.d r 2
  let i := x.d r 3
  let n := x.d r 4
  ax < xd.rank && sameButAxis xd p ax && xd.fmt = p.fmt && xd.fmt ≠ .hem8 && k.fmt = .u16 && k.count = xd.shape.getD ax 1 &&
    i.fmt.isIndex && p.shape.getD ax 1 ≤ i.count && n.fmt = .u32 && n.count = 2 &&
    (!p.fmt.isBlock || (p.blockAxis ≠ ax && xd.blockAxis = p.blockAxis))

/-- PLEAT (R130 to R132). Poison in K is reported before poison in X, and poison in any row of X ends it, an inactive row too (R139; log entry
149). -/
def vecPleat (x : VecIn) (r : Nat) : VRes :=
  if !pleatOk x r then .fail stInvalidDescriptor
  else
    let ax := bitsOf r 120 119
    let xd := x.d r 0
    let k := x.d r 1
    let p := x.d r 2
    let i := x.d r 3
    let n := x.d r 4
    let rows := List.range (xd.shape.getD ax 1)
    let badK := firstBad k.all (fun j => (x.bad r 1 (unravel k.shape j)).map (fun a => (1, a)))
    let badX := firstBad xd.all (fun j => (x.bad r 0 (unravel xd.shape j)).map (fun a => (0, a)))
    match badK.or badX with
    | some b => .poisoned b
    | none =>
      let act := rows.filter (fun j =>
        let s := x.raw r 1 (unravel k.shape j)
        if bitOf r 122 then s ≠ 0 else s = bitsOf r 38 23)
      let t := act.length
      let c := p.shape.getD ax 1
      let w := min t c
      let nw (a b : Nat) : List (Nat × Bytes) := [n.putElem (unravel n.shape 0) a, n.putElem (unravel n.shape 1) b]
      let ovf := decide (c < t)
      if ovf && x.ovfMode then { VRes.fail stPleatOverflow with detail := t, writes := nw 0 t, pleatOvf := true }
      else
        let last := decide (rows.length ≤ x.hi)
        let kept := ((act.take w).zipIdx).filter (fun s => x.lo ≤ s.1 && s.1 < x.hi)
        let padRows := if bitOf r 121 && last then (List.range c).drop w else []
        { detail := t
          flags := { pleatOvf := ovf, empty := decide (t = 0) }
          pleatOvf := ovf
          elems := (kept.length + padRows.length) * prodList (p.shape.set ax 1)
          work := (kept.length + padRows.length) * prodList (p.shape.set ax 1)
          writes :=
            joinWrites ((kept.map (fun (row, j) => copyRow xd (x.v 0) p ax row j)).flatten) ++
            indexInto i (kept.map (fun (row, j) => (j, row))) ++
            joinWrites ((padRows.map (zeroRow p ax)).flatten) ++ indexInto i (padRows.map (fun j => (j, 0xFFFFFFFF))) ++
            (if last then nw w t else []) }

/-- Put bytes into a view. -/
def viewPut (v : View) (w : Nat × Bytes) : View :=
  v.map (fun p =>
    if p.1 ≤ w.1 && w.1 + w.2.length ≤ p.1 + p.2.length then
      (p.1, p.2.take (w.1 - p.1) ++ w.2 ++ p.2.drop (w.1 - p.1 + w.2.length))
    else p)

/-- Whether the operands of an UNPLEAT are as R133 says; a destination with blocks along AXIS is not (log entry 16). -/
def unpleatOk (x : VecIn) (r : Nat) : Bool :=
  let ax := bitsOf r 120 119
  let mode := bitsOf r 122 121
  let d := x.d r 0
  let p := x.d r 1
  let i := x.d r 2
  let fmts :=
    if mode = 2 then d.dstFloat && p.srcFloat
    else (d.dstFloat && p.srcFloat) || (d.fmt.isIndex && p.fmt.isIndex) || (d.fmt = .stat16 && p.fmt = .stat16)
  ax < d.rank && sameButAxis d p ax && fmts && i.fmt.isIndex && (bitOf r 118 || (x.d r 3).fmt.isIndex) &&
    (!d.fmt.isBlock || d.blockAxis ≠ ax)

/-- Whether an UNPLEAT in COPY or MERGE mode copies bits: formats and scales in force match (R133). -/
def unpleatCopies (d p : Desc) (sd sp : Nat) : Bool :=
  d.fmt = p.fmt && d.wscale sd = p.wscale sp && (!d.fmt.isBlock || d.blockAxis = p.blockAxis)

/-- The first poison that row k of an UNPLEAT meets: its index in I, its row of P, and with ADD the row of D it adds to (R139). -/
def VecIn.unpleatBad (x : VecIn) (r ax mode k : Nat) : Option (Nat × Nat × Nat) :=
  let d := x.d r 0
  let p := x.d r 1
  let i := x.d r 2
  let at_ (o : Nat) (t : Desc) (idx : List Nat) : Option (Nat × Nat × Nat) := (x.bad r o idx).map (fun a => (ravel t.shape idx, o, a))
  let row (o : Nat) (t : Desc) (n : Nat) : Option (Nat × Nat × Nat) :=
    let sh := t.shape.set ax 1
    (List.range (prodList sh)).findSome? (fun q => at_ o t ((unravel sh q).set ax n))
  let j := x.raw r 2 (unravel i.shape k)
  (at_ 2 i (unravel i.shape k)).or (if d.shape.getD ax 1 ≤ j then none else (row 1 p k).or (if mode = 2 then row 0 d j else none))

/-- What an UNPLEAT has done after some of its rows: writes, D as they leave it, statistics, indices out of range, rows written. -/
structure UnpleatSt where
  writes : List (Nat × Bytes)
  dv : View
  stat : TapeStat
  skipped : Nat
  rows : Nat
  deriving DecidableEq, Repr

/-- Row k of an UNPLEAT that does not copy bits unchanged if not `copies` (R133, R557). -/
def VecIn.unpleatRow (x : VecIn) (r ax mode : Nat) (copies : Bool) (st : UnpleatSt) (k : Nat) : UnpleatSt :=
  let d := x.d r 0
  let p := x.d r 1
  let i := x.d r 2
  let j := x.raw r 2 (unravel i.shape k)
  if d.shape.getD ax 1 ≤ j then { st with skipped := st.skipped + 1 }
  else
    let ws : List (Nat × Bytes) × TapeStat :=
      if copies then (copyRow p (x.v 1) d ax k j, st.stat)
      else if d.fmt.isIndex then
        (((d.rowCells ax j).zip (p.rowCells ax k)).map (fun (b, a) => d.putElem b (satIndex d.fmt (p.rawAt (x.v 1) a))), st.stat)
      else
        let sh := d.shape.set ax 1
        let vals := (List.range (prodList sh)).map (fun q =>
          let idx := unravel sh q
          let pv := p.valAt (x.v 1) (x.scale p) (idx.set ax k)
          let di := idx.set ax j
          (ravel d.shape di, if mode = 2 then f32add (d.valAt st.dv (x.scale d) di) pv else pv))
        let c := convInto d (modeFor d (p.cls = clsGRAD) false) x.key (x.scale d) x.step vals
        (c.writes, c.stat.join st.stat)
    { st with writes := st.writes ++ ws.1, dv := ws.1.foldl viewPut st.dv, stat := ws.2, rows := st.rows + 1 }

/-- UNPLEAT (R133): rows in ascending k until one meets poison (R139). The +0 that COPY writes first counts in VEC_ELEMS and in no Tape
statistic (log entry 148). -/
def vecUnpleat (x : VecIn) (r : Nat) : VRes :=
  if !unpleatOk x r then .fail stInvalidDescriptor
  else
    let ax := bitsOf r 120 119
    let mode := bitsOf r 122 121
    let d := x.d r 0
    let p := x.d r 1
    let i := x.d r 2
    let badN : Option Nat := if bitOf r 118 then none else x.bad r 3 (unravel (x.d r 3).shape 0)
    match badN with
    | some a => .poisoned (0, 3, a)
    | none =>
      let cnt := if bitOf r 118 then bitsOf r 53 22 else x.raw r 3 (unravel (x.d r 3).shape 0)
      let n := min cnt (min (p.shape.getD ax 1) i.count)
      let copies := mode ≠ 2 && unpleatCopies d p (x.scale d) (x.scale p)
      let bad := (x.span n).findSome? (fun k => (x.unpleatBad r ax mode k).map (fun b => (k, b)))
      let zeros := mode = 0 && x.lo = 0
      let start := if zeros then ((List.range (d.shape.getD ax 1)).map (zeroRow d ax)).flatten else []
      let out := (x.span ((bad.map (·.1)).getD n)).foldl (x.unpleatRow r ax mode copies) ⟨start, x.v 0, TapeStat.zero d.slot x.step, 0, 0⟩
      let size := prodList (d.shape.set ax 1)
      { status := if bad.isSome then stPoisoned else stOK
        detail := (bad.map (·.2.1)).getD 0
        badAt := bad.map (·.2.2)
        writes := joinWrites out.writes
        flags := { idxRange := out.skipped ≠ 0 || decide (n < cnt) }
        idxRange := out.skipped
        stats := if d.taped && !copies then [out.stat] else []
        elems := (if zeros then d.count else 0) + out.rows * size
        work := (out.rows + out.skipped) * size }

/-! ### RNG (R164) -/

/-- RNG (R164). -/
def vecRng (x : VecIn) (r : Nat) : VRes :=
  let d := x.d r 0
  let stream := bitsOf r 103 85
  let draw (n : Nat) : Nat := drawAt x.key d.layer stream n
  let mode := bitsOf r 122 120
  let fmtOk := match mode with
    | 0 => d.fmt.isIndex
    | 1 => [Fmt.bf16, .fp16, .e4m3, .e5m2].contains d.fmt
    | _ => d.fmt = .u16
  if stream < 0x10000 || !fmtOk then .fail stInvalidDescriptor
  else
    let idx := x.span d.count
    match mode with
    | 0 => { writes := joinWrites (idx.map (fun n => d.putElem (unravel d.shape n) (draw n))), elems := idx.length, work := idx.length }
    | 1 =>
      let s1 := scalarOf (bitsOf r 84 53)
      let s2 := scalarOf (bitsOf r 52 21)
      let vals := idx.map (fun n => (n, f32add (f32mul (.fin false (draw n / 256) (-24)) s2) s1))
      let c := convInto d (modeFor d false false) x.key (x.scale d) x.step vals
      { writes := c.writes ++ hemZero (hemIn x.ds d) idx, stats := if d.taped then [c.stat] else []
        elems := idx.length, work := idx.length }
    | _ =>
      { writes := joinWrites (idx.map (fun n => d.putElem (unravel d.shape n) (if bitsOf r 76 53 ≤ draw n % 2 ^ 24 then 1 else 0)))
        elems := idx.length, work := idx.length }

/-- Whether every tensor operand of a vector instruction is valid and the destination is not too large (R45, R149, R183). -/
def vecDescOk (x : VecIn) (r : Nat) : Bool :=
  (insOpnds r).all (opndOk x.ds) && (insOpnds r).zipIdx.all (fun (o, i) => !o.wr || (x.d r i).count ≤ 2 ^ 32)

/-- The units at which a vector instruction may be preempted (R138, R294): elements between boundaries, and its elements; rows of PLEAT and
UNPLEAT. A cut falls between whole blocks of every destination (log entry 147). None for RED. -/
def vecUnits (x : VecIn) (r : Nat) : Option (Nat × Nat) :=
  match insOpc r with
  | 3 => none
  | 4 => some (1, (x.d r 0).shape.getD (bitsOf r 120 119) 1)
  | 5 =>
    let cnt := if bitOf r 118 then bitsOf r 53 22 else x.raw r 3 (unravel (x.d r 3).shape 0)
    some (1, min cnt (min ((x.d r 1).shape.getD (bitsOf r 120 119) 1) (x.d r 2).count))
  | _ =>
    let runs := (insOpnds r).zipIdx.filterMap (fun o => if o.1.wr then some (x.d r o.2).blockRun else none)
    some (runs.foldl Nat.lcm 65536, (x.d r 0).count)

/-- The boundaries at which the rest of a vector instruction may be cut (R138). -/
def vecCuts (x : VecIn) (r : Nat) : List Nat :=
  match vecUnits x r with
  | none => []
  | some (u, n) => ((List.range ((n + u - 1) / u)).map (· * u)).filter (fun b => x.lo < b)

/-- What a vector instruction computes. -/
def vecRun (x : VecIn) (r : Nat) : VRes :=
  if !vecDescOk x r then .fail stInvalidDescriptor
  else
    match insOpc r with
    | 1 => vecCvt x r
    | 2 =>
      let vfn := bitsOf r 122 115
      if vfn = 0x30 then vecDropout x r else if 0x40 ≤ vfn then vecOpt x r else vecVop x r
    | 3 => vecRed x r
    | 4 => vecPleat x r
    | 5 => vecUnpleat x r
    | _ => vecRng x r

end Sys2Proof.Machine
end

