-- ==== Sys2Proof/Machine/MmaCalc.lean ====
section
/-!
DEFINITION. Machine/MmaCalc.lean: what an MMA instruction computes (R75 to R77, R82, R83, R93 to R99, R102).
-/

namespace Sys2Proof.Machine

/-- Operand pairs an array accepts (R75): formats of A and B, whether B is of class GRAD. -/
def mmaPairOk (a b : Fmt) (bGrad : Bool) : Bool :=
  let low (f : Fmt) : Bool := f.isScaled8 || f.isBlock
  (a = .bf16 && b = .bf16) || (a = .fp16 && b = .fp16) ||
  ((a = .bf16 || a = .fp16) && low b && bGrad) || (low a && low b)

/-- Whether an FP6 or FP4 operand's block axis is K (R76): o 0 for A, 1 for B. -/
def mmaBlockOk (f : MmaF) (d : Desc) (o : Nat) : Bool :=
  let kInner := if o = 0 then !f.ta else f.tb
  !d.fmt.isBlock || (if d.rank = 1 then kInner && d.blockAxis = 0 else d.blockAxis = (if kInner then d.rank - 1 else d.rank - 2))

/-- Whether C or D may be written or read by an MMA (R76). -/
def mmaDstOk (d : Desc) : Bool := d.fmt.ff.isSome

/-- The wide format (R98). -/
def wideFF (fp24 : Bool) : FF := if fp24 then ffFP24 else ffFP32

/-- Bytes a tile reserves in the drain buffer (R100). -/
def drainBytes (shape : Nat) (fp24 : Bool) : Nat := (shapeMN shape).1 * (shapeMN shape).2 * (if fp24 then 3 else 4)

/-- An accumulator with the marks of R97: its value, whether a ±Inf arose from finite inputs. -/
structure Accum where
  v : Val
  ovf : Bool
  deriving DecidableEq, Repr

/-- One rounding step of an accumulator. -/
def accRound (f : FF) (a : Accum) (x : Val) (finIn : Bool) : Accum :=
  let v := roundTo f .rne x
  ⟨v, a.ovf || (v.isInf && finIn)⟩

def Val.isFin (v : Val) : Bool := !v.isNan && !v.isInf

/-- One product into the narrow accumulator; the first of a group starts it (R94, R95). -/
def narrowStep (first : Bool) (n : Accum) (a b : Val) : Accum :=
  let p := a.mul b
  if first then accRound ffNarrow n p (a.isFin && b.isFin) else accRound ffNarrow n (n.v.add p) (a.isFin && b.isFin && n.v.isFin)

/-- Products of one output element in groups of 16: running (index in group, narrow), wide (R95, R96). -/
def mmaCell (wf : FF) (start : Accum) (ps : List (Val × Val)) : Accum :=
  let promote (w n : Accum) : Accum :=
    let v := roundTo wf .rne (w.v.add n.v)
    ⟨v, w.ovf || n.ovf || (v.isInf && w.v.isFin && n.v.isFin)⟩
  let out := ps.foldl (fun (st : Nat × Accum × Accum) ab =>
    let n := narrowStep (st.1 = 0) ⟨st.2.1.v, if st.1 = 0 then false else st.2.1.ovf⟩ ab.1 ab.2
    if st.1 = 15 then (0, n, promote st.2.2 n) else (st.1 + 1, n, st.2.2)) (0, ⟨.zero, false⟩, start)
  if out.1 = 0 then out.2.2 else promote out.2.2 out.2.1

/-- The element of operand o at row i, column j of its two innermost axes; outside the extent it is +0 (R83). -/
def mmaElem (d : Desc) (v : View) (scaleE : Nat) (i j : Nat) : Val :=
  let (er, ec) := d.innerDims
  if i < er && j < ec then d.valAt v scaleE (d.innerIdx i j) else .zero

/-- What an MMA computed. -/
structure MRes where
  status : Nat := 0
  wide : List Nat := []
  flags : Flags := {}
  segments : Nat := 1
  count : Nat := 0
  writes : List (Nat × Bytes) := []
  stats : List TapeStat := []
  macs : Nat := 0
  deriving DecidableEq, Repr

/-- The checks of the descriptors of an MMA (R76, R149, R156). -/
def mmaDescOk (x : VecIn) (r : Nat) : Bool :=
  let f := mmaF r
  let a := x.d r 0
  let b := x.d r 1
  let n := (insOpnds r).length
  (insOpnds r).all (opndOk x.ds) && a.matOk && b.matOk && mmaPairOk a.fmt b.fmt (b.cls = clsGRAD) &&
  mmaBlockOk f a 0 && mmaBlockOk f b 1 && (n < 3 || ((x.d r 2).matOk && mmaDstOk (x.d r 2)))

/-- Whether the instruction takes a chain's product count past 131,072 (R102): products accumulated before it. -/
def mmaLong (f : MmaF) (before : Nat) : Bool := decide (131072 < before + f.k)

/-- The wide values of an MMA after its products from `x.lo` up to `x.hi` (R95 to R99): `cont` holds the encodings they continue, where they
continue any. Rounding an element of C to the wide format may reach ±Inf from a finite value (R97). -/
def mmaWide (x : VecIn) (r : Nat) (cont : List Nat) : List Accum :=
  let f := mmaF r
  let (mm, nn) := shapeMN f.shape
  let wf := wideFF f.fp24
  let a := x.d r 0
  let b := x.d r 1
  let c := x.d r 2
  let av (i k : Nat) : Val := if f.ta then mmaElem a (x.v 0) (x.scale a) (f.kOrg + k) (f.row + i) else mmaElem a (x.v 0) (x.scale a) (f.row + i) (f.kOrg + k)
  let bv (k j : Nat) : Val := if f.tb then mmaElem b (x.v 1) (x.scale b) (f.col + j) (f.kOrg + k) else mmaElem b (x.v 1) (x.scale b) (f.kOrg + k) (f.col + j)
  (List.range (mm * nn)).map (fun ij =>
    let i := ij / nn
    let j := ij % nn
    let start : Accum :=
      if f.mode = 1 || x.lo ≠ 0 then ⟨wf.decode (cont.getD ij 0), false⟩
      else if f.mode = 0 then ⟨.zero, false⟩
      else
        let cv := mmaElem c (x.v 2) (x.scale c) (f.row + i) (f.col + j)
        accRound wf ⟨.zero, false⟩ cv cv.isFin
    mmaCell wf start (((List.range (min x.hi f.k)).drop x.lo).map (fun k => (av i k, bv k j))))

/-- The first poisoned element of the tiles an MMA reads, in the order A, B, C, row by row: operand and address of the poison (R107). -/
def mmaBad (x : VecIn) (r : Nat) : Option (Nat × Nat) :=
  if x.poison.isEmpty then none
  else
    ((insOpnds r).zipIdx.filter (fun o => o.1.rd)).findSome? (fun o =>
      let d := x.d r o.2
      let ((r0, c0), (rn, cn)) := mmaTile (mmaF r) d o.2
      (List.range rn).findSome? (fun i => (List.range cn).findSome? (fun j => (x.badIn d (d.innerIdx (r0 + i) (c0 + j))).map (fun a => (o.2, a)))))

/-- What an MMA computes with its products from `x.lo` on: `before` counts the chain's products at the start of the instruction, `cont` holds
the wide values it goes on from, POLICY of R102. The sources of D are A, B and, with INIT, C of the instruction that drains it (log
entry 148). -/
def mmaRun (x : VecIn) (r : Nat) (before : Nat) (cont : List Nat) (policy : Nat) : MRes :=
  let f := mmaF r
  let (mm, nn) := shapeMN f.shape
  let before := if f.mode = 1 then before else 0
  let long := mmaLong f before
  if !mmaDescOk x r then { status := stInvalidDescriptor }
  else if long && policy = 1 then { status := stLongsumFault }
  else
    let acc := mmaWide x r cont
    let wf := wideFF f.fp24
    let fl : Flags := { longsum := long, nanSeen := acc.any (fun a => a.v.isNan), accOvf := acc.any (·.ovf) }
    let seg := if long && policy = 2 then (f.k + 131071) / 131072 else 1
    let base : MRes := { wide := acc.map (fun a => wf.bits a.v), flags := fl, segments := seg, count := before + min x.hi f.k
                         macs := mm * nn * (min x.hi f.k - x.lo) }
    if !f.fin || x.hi < f.k then base
    else
      let d := x.d r 2
      let (er, ec) := d.innerDims
      let grad := (x.d r 0).cls = clsGRAD || (x.d r 1).cls = clsGRAD
      let vals := (acc.zipIdx).filterMap (fun (a, ij) =>
        let i := f.row + ij / nn
        let j := f.col + ij % nn
        if i < er && j < ec then some (ravel d.shape (d.innerIdx i j), a.v) else none)
      let c := convInto d (modeFor d grad false) x.key (x.scale d) x.step vals
      { base with
        writes := c.writes ++ hemZero (hemIn x.ds d) (vals.map (·.1))
        stats := if d.taped then [c.stat] else [] }

end Sys2Proof.Machine
end

