-- ==== Sys2Proof/Machine/Place.lean ====
section
/-!
DEFINITION. Machine/Place.lean: firmware regions, the writing of page tables (R267, R268), invalidation (R271), the Tailor's placement
of objects, its moves and records (R212 to R226).
-/

namespace Sys2Proof.Machine

/-- Bytes of a Panel's staging reserve (R207). -/
def Hw.stageSize (h : Hw) : Nat := h.get F.STAGE_RES * 0x1000000

/-! ### Firmware regions -/

/-- Bytes of the Lining extent at the base of each stack (R397). -/
def Hw.liningExt (h : Hw) : Nat := 2 ^ (32 + h.get F.LINING_FRAC)

/-- The firmware regions: base and end (R450, R551). -/
def Hw.regions (h : Hw) : List (Nat × Nat) :=
  (List.range 1024).filterMap (fun r => if h.get (F.REG_SIZE r) = 0 then none else some (h.get (F.REG_BASE r), h.get (F.REG_BASE r) + h.get (F.REG_SIZE r)))

/-- The place an object has or moves to: tier and location. -/
def Obj.target (o : Obj) : Nat × Nat :=
  match o.move with
  | some (t, l, _, _) => (t, l)
  | none => (o.tier, o.loc)

/-- Whether an object has a place, or is bound for one. -/
def Obj.hasPlace (o : Obj) : Bool := o.st != .pending || o.move.isSome

/-- The ranges of a tier that objects other than n take. -/
def Hw.objRanges (h : Hw) (tier n : Nat) : List (Nat × Nat) :=
  h.tailor.objs.filterMap (fun (o : Nat × Obj) =>
    if o.1 ≠ n && o.2.hasPlace && o.2.target.1 = tier then some (o.2.target.2, o.2.target.2 + o.2.size) else none)

def alignUp (a n : Nat) : Nat := (a + n - 1) / n * n

/-- The lowest aligned range of a size in [lo, hi) that meets no busy range. -/
def fit (lo hi size align : Nat) (busy : List (Nat × Nat)) : Option Nat :=
  ((lo :: busy.map (·.2)).map (alignUp · align)).foldl (fun (b : Option Nat) a =>
    if lo ≤ a && a + size ≤ hi && busy.all (fun r => r.2 ≤ a || a + size ≤ r.1) then
      (match b with
       | some x => some (min a x)
       | none => some a)
    else b) none

/-- Allocate a firmware region of a stack, or of any: at or above the Lining extent, below 56 GiB (R450). -/
def Hw.allocRegion (h : Hw) (stack : Option Nat) (size : Nat) : Hw × Option Nat :=
  let cand := (match stack with
    | some s => [s]
    | none => List.range 16).filter (fun s => s < 16 && h.get (F.STK_STATE s) = 2)
  let busy := h.regions ++ h.objRanges 1 65536
  let spot := cand.findSome? (fun s => fit (s * stackSize + h.liningExt) (s * stackSize + 56 * 2 ^ 30) size 0x10000 busy)
  match spot, (List.range 1024).find? (fun r => h.get (F.REG_SIZE r) = 0) with
  | some a, some r => (((h.set (F.REG_BASE r) a).set (F.REG_SIZE r) size), some a)
  | _, _ => (h, none)

/-! ### Page tables -/

/-- Write an entry of a table. -/
def Hw.writePte (h : Hw) (pa e : Nat) : Hw := h.poke pa (natLE 8 e)

/-- The entry at an address, without a check. -/
def Hw.pte (h : Hw) (pa : Nat) : Nat := leNat (h.peek pa 8)

/-- The table that an entry points to; a new one, cleared, is a firmware region of 64 KiB (R268). -/
def Hw.ensureTable (h : Hw) (pa : Nat) : Hw × Option Nat :=
  let e := h.pte pa
  if pteV e && !pteLeaf e then (h, some (pteAddr e))
  else
    match h.allocRegion none 0x10000 with
    | (h, none) => (h, none)
    | (h, some t) => ((h.poke t (List.replicate 0x10000 0)).writePte pa (1 + t), some t)

/-- A leaf (R267): target, window, page base, RD, WR, NRA. -/
def mkLeaf (tgt win addr : Nat) (rd wr nra : Bool) : Nat :=
  3 + 4 * tgt + 32 * rd.toNat + 64 * wr.toNat + 128 * nra.toNat + addr % 2 ^ 52 / 2 ^ 16 * 2 ^ 16 + win * 2 ^ 52

/-- Map a range with 512 MiB leaves where the addresses and what remains allow, 64 KiB leaves elsewhere (R212, R450); false where a table
finds no room. -/
def Hw.mapRange : Nat → Hw → Nat → Nat → Nat → (Nat → Nat) → Hw × Bool
  | 0, h, _, _, _, _ => (h, true)
  | f + 1, h, va, pa, n, leaf =>
    if n = 0 then (h, true)
    else
      match h.ensureTable (h.l0 va) with
      | (h, none) => (h, false)
      | (h, some t1) =>
        let e1 := t1 + 8 * (va / 2 ^ 29 % 8192)
        if va % 2 ^ 29 = 0 && pa % 2 ^ 29 = 0 && 2 ^ 29 ≤ n then
          Hw.mapRange f (h.writePte e1 (leaf pa)) (va + 2 ^ 29) (pa + 2 ^ 29) (n - 2 ^ 29) leaf
        else
          match h.ensureTable e1 with
          | (h, none) => (h, false)
          | (h, some t2) =>
            Hw.mapRange f (h.writePte (t2 + 8 * (va / 2 ^ 16 % 8192)) (leaf pa)) (va + 0x10000) (pa + 0x10000) (n - 0x10000) leaf

/-- Remove the leaves of a range; a 512 MiB leaf that the range covers only in part is removed whole. -/
def Hw.unmapRange : Nat → Hw → Nat → Nat → Hw
  | 0, h, _, _ => h
  | f + 1, h, va, n =>
    if n = 0 then h
    else
      let e0 := h.pte (h.l0 va)
      let step := min n (2 ^ 29 - va % 2 ^ 29)
      if !pteV e0 then Hw.unmapRange f h (va + step) (n - step)
      else
        let p1 := pteAddr e0 + 8 * (va / 2 ^ 29 % 8192)
        let e1 := h.pte p1
        if !pteV e1 then Hw.unmapRange f h (va + step) (n - step)
        else if pteLeaf e1 then Hw.unmapRange f (h.writePte p1 0) (va + step) (n - step)
        else
          let p2 := pteAddr e1 + 8 * (va / 2 ^ 16 % 8192)
          let h := if pteV (h.pte p2) then h.writePte p2 0 else h
          Hw.unmapRange f h (va + 0x10000) (n - 0x10000)

/-- No cache holds an entry for the range (R271). -/
def Hw.invalRange (h : Hw) (va n : Nat) : Hw :=
  let span (x : Node) : Nat := if x.lvl = 0 then 2 ^ 42 else 2 ^ 29
  { h with xl := { h.xl with
    tlbs := h.xl.tlbs.filter (fun t => t.page + t.size ≤ va || va + n ≤ t.page)
    nodes := h.xl.nodes.filter (fun x => (x.key + 1) * span x ≤ va || va + n ≤ x.key * span x) } }

/-! ### Placement records -/

def objStCode : ObjSt → Nat
  | .pending => 1 | .placed => 2 | .migrating => 3 | .releasing => 2

/-- The 64 bytes of a record (R225). -/
def Obj.recBytes (o : Obj) (n st : Nat) : Bytes :=
  let hbm := o.tier = 1 && st ≠ 1
  let panel := if st = 1 || 1 < o.tier then 0 else if hbm then stackOf o.loc / 4 else panelOf o.loc
  natLE 8 (o.va % 2 ^ 52) ++ natLE 8 (n * 2 ^ 48 + o.size) ++
  natLE 8 (o.tier * 2 ^ 62 + st * 2 ^ 59 + o.pinned.toNat * 2 ^ 58 + o.work.isSome.toNat * 2 ^ 57 + o.spilled.toNat * 2 ^ 56 + o.reason * 2 ^ 52
    + panel * 2 ^ 50 + (if hbm then stackOf o.loc else 0x1F) * 2 ^ 45 + o.prio * 2 ^ 42) ++
  natLE 8 o.loc ++ natLE 8 o.chgEpoch ++ natLE 8 o.lastUse ++ natLE 8 (o.userTag * 2 ^ 32 + o.gen) ++ natLE 8 0

/-- Write a record into the table at TREC_BASE (R225, R226); a fault of the write posts its record (R289), one that waits is made as soon
as it can be (R559). -/
def Hw.recPut (h : Hw) (n : Nat) (bs : Bytes) : Hw :=
  let rest := h.tailor.recs.filter (·.1 ≠ n)
  match h.vwrite noCache (h.get F.TREC_BASE + 64 * n) bs with
  | .ok h => { h with tailor := { h.tailor with recs := rest } }
  | .error x =>
    if x.waits then { h with tailor := { h.tailor with recs := rest ++ [(n, bs)] } } else h.postFault .treq .write x.ty x.va x.lvl 0xFFFF x.pte 0

/-- The writes of records that wait are tried again. -/
def Hw.recsGo (h : Hw) : Hw := h.tailor.recs.foldl (fun h r => h.recPut r.1 r.2) h

def Hw.obj? (h : Hw) (n : Nat) : Option Obj := h.tailor.objs.find? n

def Hw.updObj (h : Hw) (n : Nat) (f : Obj → Obj) : Hw := { h with tailor := { h.tailor with objs := h.tailor.objs.upd n f } }

/-- Write the record of a live object. -/
def Hw.recWriteObj (h : Hw) (n : Nat) : Hw :=
  match h.obj? n with
  | some o => h.recPut n (o.recBytes n (objStCode o.st))
  | none => h

/-- A change of an object's TIER, LOC or STATE: GEN counts it, CHG_EPOCH takes the epoch, the record is written (R225, R226). -/
def Hw.objChange (h : Hw) (n : Nat) (f : Obj → Obj) : Hw :=
  (h.updObj n (fun o => { f o with gen := (o.gen + 1) % 2 ^ 32, chgEpoch := h.get F.SHUTTLE_EPOCH })).recWriteObj n

/-! ### What holds an object -/

/-- Whether an object is within the footprint of an issued instruction (R220, R224). -/
def Hw.objIssued (h : Hw) (o : Obj) : Bool :=
  h.shut.ctxs.any (fun cx => cx.2.window.any (fun e => e.ph != .held && e.ph != .suspended && (e.reads ++ e.writes).any (fun g => o.va < g.2 && g.1 < o.va + o.size)))

/-- Whether Basting is capturing an object (R220). -/
def Hw.objCaptured (h : Hw) (o : Obj) : Bool :=
  match h.bast.cap with
  | some k => k.vas.any (fun g => o.va < g.2 && g.1 < o.va + o.size)
  | none => false

/-- Whether an object may be evicted or promoted (R220). -/
def Hw.objMovable (h : Hw) (o : Obj) : Bool := o.st == .placed && !o.pinned && !h.objIssued o && !h.objCaptured o

/-! ### Tiers -/

/-- Whether a tier exists (R218). -/
def Hw.tierPresent (h : Hw) (t : Nat) : Bool :=
  match t with
  | 0 => true
  | 1 => true
  | 2 => (List.range 4096).any (fun w => h.get (F.PW_SIZE w) ≠ 0)
  | _ => !h.solo && (List.range 4096).any (fun w => h.get (F.HW_SIZE w) ≠ 0)

/-- The space of a candidate of a tier, by its number: Panel, stack, window (R212, R257 step 2, R397). -/
def Hw.space (h : Hw) (t c : Nat) : Nat × Nat :=
  match t with
  | 0 => (spadBase + c * panelSize, if h.domOn (domPANEL c) then spadBase + (c + 1) * panelSize - h.stageSize else 0)
  | 1 =>
    let top := match h.get (F.STK_STATE c) with
      | 2 => h.get (F.STK_SIZE c)
      | 3 => (h.get (F.N_ACTIVE c) - 1) * 0x80000000
      | _ => 0
    (c * stackSize + h.liningExt, c * stackSize + top)
  | 2 => (c * 2 ^ 48, c * 2 ^ 48 + h.get (F.PW_SIZE c))
  | _ => (c * 2 ^ 48, c * 2 ^ 48 + h.get (F.HW_SIZE c))

/-- Ranges of a tier that are not the Tailor's to give. -/
def Hw.fixedBusy (h : Hw) (t : Nat) : List (Nat × Nat) :=
  match t with
  | 0 => h.spad.mapped.map (fun m => (m.1, m.1 + m.2))
  | 1 => h.regions
  | _ => []

/-- Free bytes of a candidate. -/
def Hw.freeIn (h : Hw) (t c : Nat) : Nat :=
  let (lo, hi) := h.space t c
  (h.fixedBusy t ++ h.objRanges t 65536).foldl (fun n r => n - (min hi (max lo r.2) - min hi (max lo r.1))) (hi - lo)

/-- Candidates by most free, ties to the lower. -/
def Hw.byFree (h : Hw) (t n : Nat) : List Nat :=
  ((List.range n).map (fun c => (h.freeIn t c, c))).mergeSort (fun a b => b.1 < a.1 || (a.1 = b.1 && a.2 ≤ b.2)) |>.map (·.2)

/-- The Panel and stack of an object that lies in scratchpad or HBM. -/
def Obj.home (o : Obj) : Option Nat × Option Nat :=
  if !o.hasPlace then (none, none)
  else
    match o.target with
    | (0, l) => (some (panelOf l), none)
    | (1, l) => (some (stackOf l / 4), some (stackOf l))
    | _ => (none, none)

/-- The candidates of a tier in order (R219). -/
def Hw.candOrder (h : Hw) (t : Nat) (o : Obj) : List Nat :=
  let near := if o.affObj = 0xFFFF then (none, none) else match h.obj? o.affObj with
    | some a => a.home
    | none => (none, none)
  let hint : List Nat := if o.stackHint < 16 then [o.stackHint] else []
  match t with
  | 0 => (near.1.toList ++ hint.map (· / 4) ++ h.byFree 0 4).eraseDups
  | 1 => (hint ++ near.2.toList ++ (match near.1 with
      | some p => (List.range 4).map (· + 4 * p)
      | none => []) ++ h.byFree 1 16).eraseDups
  | 2 => (List.range 4096).filter (fun w => h.get (F.PW_SIZE w) ≠ 0)
  | _ => (List.range 4096).filter (fun w => h.get (F.HW_SIZE w) ≠ 0)

/-- The lowest range of a candidate for an object, with the ranges of some other objects taken as free. -/
def Hw.freeRange (h : Hw) (t c n : Nat) (o : Obj) (gone : List Nat) : Option Nat :=
  let (lo, hi) := h.space t c
  let busy := h.fixedBusy t ++ h.tailor.objs.filterMap (fun (x : Nat × Obj) =>
    if x.1 ≠ n && !gone.contains x.1 && x.2.hasPlace && x.2.target.1 = t then some (x.2.target.2, x.2.target.2 + x.2.size) else none)
  fit lo hi o.size (2 ^ o.alignLog2) busy

/-- Objects of a candidate that may be evicted for an object, in order (R219). -/
def Hw.victims (h : Hw) (t c n : Nat) (o : Obj) : List Nat :=
  let (lo, hi) := h.space t c
  (List.filter (fun (x : Nat × Obj) => x.1 ≠ n && h.objMovable x.2 && x.2.tier = t && lo ≤ x.2.loc && x.2.loc < hi && x.2.prio < o.prio) h.tailor.objs).mergeSort
    (fun a b =>
      if a.2.prio ≠ b.2.prio then a.2.prio < b.2.prio
      else if a.2.lastUse ≠ b.2.lastUse then a.2.lastUse < b.2.lastUse
      else b.1 ≤ a.1) |>.map (·.1)

/-- The shortest prefix of a list of victims whose removal leaves a fitting range, with that range. -/
def Hw.prefixFor (h : Hw) (t c n : Nat) (o : Obj) (vs : List Nat) : Option (List Nat × Nat) :=
  (List.range (vs.length + 1)).findSome? (fun k => (h.freeRange t c n o (vs.take k)).map (fun a => (vs.take k, a)))

/-- Give an object a place: one that holds data starts to move there, another settles as soon as the range is clear (R219, R224). Spills are
counted (R223). -/
def Hw.givePlace (h : Hw) (n t loc reason : Nat) (pin : Bool) : Hw :=
  match h.obj? n with
  | none => h
  | some o =>
    let spilled := o.tierMin < t
    let h := if spilled then
        let h := match t with
          | 1 => h.inc F.SPILL_HBM_CNT
          | 2 => h.inc F.SPILL_PEER_CNT
          | _ => h.inc F.SPILL_HOST_CNT
        let h := h.inc F.SPILL_BYTES o.size
        if h.flag F.SPILL_EVENT then h.post Ev.evTailorSpill [u16 n, u8 t] else h
      else h
    if o.st == .placed then
      if o.tier = t && o.loc = loc then (h.updObj n (fun o => { o with reason := reason, pinned := pin, spilled := spilled })).recWriteObj n
      else h.objChange n (fun o => { o with st := .migrating, move := some (t, loc, reason, pin) })
    else h.updObj n (fun o => { o with move := some (t, loc, reason, pin) })

/-- Fuel enough for the pages of any range. -/
def pageFuel (n : Nat) : Nat := n / 0x10000 + 1

/-- Unmap an object that finds no place; it becomes PENDING (R221). -/
def Hw.makePending (h : Hw) (n reason : Nat) : Hw :=
  match h.obj? n with
  | none => h
  | some o =>
    let h := if o.st == .pending then h else (h.unmapRange (pageFuel o.size) o.va o.size).invalRange o.va o.size
    (h.objChange n (fun o => { o with st := .pending, move := none, tier := 0, loc := 0, reason := reason, spilled := false })).post Ev.evTailorPending [u16 n]

/-- Place an object from a tier down (R219); `reason` is the REASON of a placement at TIER_MIN or asked for. False: it is PENDING. -/
def Hw.placeFrom : Nat → Hw → Nat → Nat → Nat → Hw × Bool
  | 0, h, n, _, reason => (h.makePending n (if reason = 2 then 2 else 1), false)
  | f + 1, h, n, t, reason =>
    match h.obj? n with
    | none => (h, false)
    | some o =>
      if o.tierMax < t then (h.makePending n (if reason = 2 then 2 else 1), false)
      else if !h.tierPresent t then Hw.placeFrom f h n (t + 1) reason
      else
        let spot := (h.candOrder t o).findSome? (fun c =>
          match h.freeRange t c n o [] with
          | some a => some ([], a)
          | none => if t ≤ 1 then h.prefixFor t c n o (h.victims t c n o) else none)
        match spot with
        | none => Hw.placeFrom f h n (t + 1) reason
        | some (vs, a) =>
          let h := vs.foldl (fun h v => ((Hw.placeFrom f h v (t + 1) 2).1).inc F.EVICT_CNT) h
          (h.givePlace n t a (if reason = 0 && o.tierMin < t then 1 else reason) o.pinned, true)

/-- Place an object from a tier down. -/
def Hw.place (h : Hw) (n t reason : Nat) : Hw × Bool := h.placeFrom 5 n t reason

/-- Try the pending objects again, in descending PRIO, then ascending number (R221). -/
def Hw.retryPending (h : Hw) : Hw :=
  let ns := (List.filter (fun (x : Nat × Obj) => x.2.st == .pending && x.2.move.isNone) h.tailor.objs).mergeSort
    (fun a b => b.2.prio < a.2.prio || (a.2.prio = b.2.prio && a.1 ≤ b.1)) |>.map (·.1)
  ns.foldl (fun h n =>
    match h.obj? n with
    | some o =>
      let try_ := h.place n o.tierMin 0
      if try_.2 then try_.1 else h
    | none => h) h

/-- Map an object at its place: RD and WR (R217). -/
def Hw.mapObj (h : Hw) (o : Obj) : Hw :=
  let win := if 2 ≤ o.tier then o.loc / 2 ^ 48 else 0
  let tgt := if o.tier ≤ 1 then 0 else o.tier - 1
  (h.mapRange (pageFuel o.size) o.va (o.loc % 2 ^ 48) o.size (fun pa => mkLeaf tgt win pa true true false)).1

/-- Release an object: unmap it and free its space (R224). -/
def Hw.releaseObj (h : Hw) (n reason : Nat) : Hw :=
  match h.obj? n with
  | none => h
  | some o =>
    let h := if o.st == .pending then h else (h.unmapRange (pageFuel o.size) o.va o.size).invalRange o.va o.size
    let o : Obj := { o with gen := (o.gen + 1) % 2 ^ 32, chgEpoch := h.get F.SHUTTLE_EPOCH, reason := reason, pinned := false, work := none }
    let h := h.recPut n (o.recBytes n 0)
    { h with tailor := { h.tailor with objs := h.tailor.objs.del n, gens := h.tailor.gens.set n o.gen } }

/-- Whether another object's data still lies in an object's target range. -/
def Hw.moveBlocked (h : Hw) (n : Nat) (o : Obj) : Bool :=
  let (t, l) := o.target
  h.tailor.objs.any (fun x => x.1 ≠ n && (x.2.st == .migrating || x.2.st == .releasing) && x.2.tier = t && x.2.loc < l + o.size && l < x.2.loc + x.2.size)

/-- Settle an object without data in its range, once that is clear. -/
def Hw.settleObj (h : Hw) (n : Nat) : Hw :=
  match h.obj? n with
  | some o =>
    match o.st, o.move with
    | .pending, some (t, l, reason, pin) =>
      if h.moveBlocked n o then h
      else
        let h := h.updObj n (fun o => { o with tier := t, loc := l })
        let h := match h.obj? n with
          | some o => h.mapObj o
          | none => h
        h.objChange n (fun o => { o with st := .placed, move := none, reason := reason, pinned := pin, spilled := o.tierMin < t })
    | _, _ => h
  | none => h

/-- Whether a release or a move is under way. -/
def Hw.tailorBusy (h : Hw) : Bool := h.tailor.objs.any (fun x => x.2.st == .migrating || x.2.st == .releasing || (x.2.st == .pending && x.2.move.isSome))

/-- TREQ_ERR and its event (R213). -/
def Hw.treqErr (h : Hw) (err : Nat) : Hw := (h.set F.TREQ_ERR err).post Ev.evTailorRingErr [u8 err]

/-- Entries of the request ring. -/
def Hw.treqSize (h : Hw) : Nat := 2 ^ h.get F.TREQ_LOG2

/-- Write DONE, RESULT and GEN of a request and go past it (R214, R217), or stop at a ring fault (R213). -/
def Hw.treqAnswer (h : Hw) (slot n result : Nat) : Hw :=
  let gen := match h.obj? n with
    | some o => o.gen
    | none => h.tailor.gens.getD n 0
  match h.vwrite noCache (h.get F.TREQ_BASE + 64 * slot + 0x38) (natLE 8 (2 ^ 63 + result * 2 ^ 32 + gen)) with
  | .ok h => { h.set F.TREQ_HEAD ((slot + 1) % h.treqSize) with tailor := { h.tailor with waiting := none } }
  | .error x =>
    let h := if x.waits then h else (h.postFault .treq .write x.ty x.va x.lvl 0xFFFF x.pte 0).treqErr 2
    { h with tailor := { h.tailor with waiting := some ⟨slot, n, result⟩ } }

/-- The engine that copies an object that moves. -/
def Hw.moveEngine (h : Hw) (n : Nat) : Option Nat := (List.range 32).find? (fun d => (h.jobsOn d).any (fun j => j.kind = 3 && j.index = n))

/-- A move takes a job of a DMA engine, any of the part's with a free slot (R224, R276). -/
def Hw.moveSeat (h : Hw) (n : Nat) : Hw :=
  match h.obj? n, h.moveEngine n, h.seat (List.range 32) with
  | some o, none, some d =>
    if o.st == .migrating then
      h.jobAdd d { slot := 0, kind := 3, ctx := 0, index := n, src := o.loc, dst := o.target.2, cursor := 0, parked := false, doneChunks := [] }
    else h
  | _, _, _ => h

/-- The moves under way take jobs as slots are free. -/
def Hw.moveSeats (h : Hw) : Hw := h.tailor.objs.foldl (fun h x => if x.2.st == .migrating then h.moveSeat x.1 else h) h

/-- Finish what the Tailor was held back from: releases whose instructions have completed (then pending objects are tried again, R221),
objects whose range is clear, the answer of the request under way, records whose writes waited. -/
def Hw.settle (h : Hw) : Hw :=
  let h := h.recsGo
  if !h.tailorBusy && h.tailor.waiting.isNone then h
  else
    let ready := List.filter (fun (x : Nat × Obj) => x.2.st == .releasing && !h.objIssued x.2 && !h.objCaptured x.2) h.tailor.objs
    let h := ready.foldl (fun h x => h.releaseObj x.1 x.2.reason) h
    let h := if ready.isEmpty then h else h.retryPending
    let h := (h.tailor.objs.foldl (fun h x => h.settleObj x.1) h).moveSeats
    match h.tailor.waiting with
    | some w => if h.tailorBusy || h.get F.TREQ_ERR ≠ 0 then h else h.treqAnswer w.slot w.obj w.result
    | none => h

end Sys2Proof.Machine
end

