-- ==== Sys2Proof/Machine/Ctx.lean ====
section
/-!
DEFINITION. Machine/Ctx.lean: the Shuttle's shared operations: completion records (R181 to R185), the end of instructions and contexts
(R184), what holds an instruction in its window (R170 to R177), the choice of an engine's next instruction (R178), residency (R206,
R210) and the reading of operands.
-/

namespace Sys2Proof.Machine

/-! ### Switches -/

/-- The Shuttle admits, fetches and dispatches (R189). -/
def Hw.shutOn (h : Hw) : Bool := h.domOn domYOKE && !h.d2d.failed && h.flag F.SHUTTLE_CFG_ENABLE && !h.shut.disabling

/-- State of a queue that has no register. -/
def Hw.q (h : Hw) (q : Nat) : QSt := h.shut.queues.getD q {}

/-- Change the state of a queue. -/
def Hw.updQ (h : Hw) (q : Nat) (f : QSt → QSt) : Hw := { h with shut := { h.shut with queues := h.shut.queues.set q (f (h.q q)) } }

/-- Number of contexts of a queue. -/
def Hw.qCtxs (h : Hw) (q : Nat) : Nat := (h.shut.ctxs.filter (fun e => e.2.queue = q)).length

/-- Bytes with an open content where they were read poisoned: the manual gives a poisoned ring entry, instruction or descriptor no value
(log entry 20). -/
def Hw.fuzz (h : Hw) (poison : Bool) (site : Nat) (bs : Bytes) : Bytes :=
  if poison then (List.range bs.length).map (fun i => Config.freeByte h.freeCtr (site + i)) else bs

/-! ### Completion records -/

/-- The 32 bytes of a record, PHASE and TIME 0 (R181). -/
def recBytes (userTag status flags index typ opc ctx engine detail : Nat) : Bytes :=
  natLE 4 userTag ++ natLE 2 status ++ natLE 2 flags ++ natLE 4 index ++ natLE 4 (typ * 2 ^ 14 + opc * 2 ^ 10 + ctx) ++
  natLE 4 detail ++ natLE 2 engine ++ natLE 2 0 ++ natLE 8 0

/-- Entries of a queue's completion ring. -/
def Hw.cqSize (h : Hw) (q : Nat) : Nat := 2 ^ h.get (F.Q_CQ_LOG2 q)

/-- Entries of a queue's submission ring. -/
def Hw.sqSize (h : Hw) (q : Nat) : Nat := 2 ^ h.get (F.Q_SQ_LOG2 q)

/-- Whether the completion ring is full (R185). -/
def Hw.cqFull (h : Hw) (q : Nat) : Bool := (h.get (F.Q_CQ_TAIL q) + 1) % h.cqSize q == h.get (F.Q_CQ_HEAD q) % h.cqSize q

/-- Post EV_QUEUE_ERR with the queue's error (R187). -/
def Hw.queueErr (h : Hw) (q err : Nat) : Hw := (h.set (F.Q_ERR q) err).post Ev.evQueueErr [u8 q, u8 err]

/-- A fault on a ring access of a queue: a record that is not resumable, and Q_ERR 3 (R187, R560). -/
def Hw.ringFault (h : Hw) (q : Nat) (sub : Bool) (acc : Acc) (x : XFault) : Hw :=
  let h := h.postFault (.ring q sub) acc x.ty x.va x.lvl 0xFFFF x.pte 0
  if h.get (F.Q_ERR q) = 3 then h else h.queueErr q 3

/-- TRAIN_CFG and SHUTTLE_CFG ENABLE drop once what they wait for has ended: no context in use (R373), no instruction issued and not
completed (R189), TOPO_CFG ENABLE once no collective is active (R365), BAST_CFG
ENABLE once Basting has nothing under way (R533). What the Tailor holds back for issued instructions goes on (R224). -/
def Hw.drained (h : Hw) : Hw :=
  let h := if h.train.draining && h.shut.ctxs.isEmpty then { h.setB F.TRAIN_CFG_ENABLE false with train := { h.train with draining := false } } else h
  let h : Hw := if h.shut.disabling && h.shut.ctxs.all (fun c => c.2.window.all (fun e => e.ph == .held || (e.ph == .suspended && c.2.st == .preempted))) then
    { h.setB F.SHUTTLE_CFG_ENABLE false with shut := { h.shut with disabling := false } }
  else h
  let h : Hw := if h.topo.colls.isEmpty then h else { h with topo := { h.topo with colls := h.topo.colls.filter (fun k => (h.ent? k.ctx k.index).isSome) } }
  let h : Hw := if h.topo.draining && h.topo.colls.isEmpty then { h.setB F.TOPO_CFG_ENABLE false with topo := { h.topo with draining := false } } else h
  let h : Hw := if h.bast.draining && h.bast.cap.isNone && h.bast.restore.isNone && h.bast.hands.isEmpty then
    { h.setB F.BAST_CFG_ENABLE false with bast := { h.bast with draining := false } }
  else h
  h.settle

/-- A context becomes FREE: what its block's other fields read from then on is open (R193; log entry 142). -/
def Hw.ctxLeave (h : Hw) (c : Nat) : Hw :=
  if (h.ctx? c).isNone then h
  else
    ([F.CTX_QUEUE c, F.CTX_STAGED c, F.CTX_VSTAGE c, F.CTX_TAG c, F.CTX_PC c, F.CTX_DONE c, F.CTX_STEP c, F.CTX_DIR c, F.CTX_MB c].zipIdx).foldl
      (fun (g : Hw) f => g.set f.1 (h.free (3600 + f.2))) h

/-- Free a context whose record was written, posting EV_CTX_FAIL (R184). -/
def Hw.ctxFree (h : Hw) (c : Nat) (rec : Bytes) : Hw :=
  let status := fieldLE rec 4 2
  let h := h.ctxLeave c
  let h := ({ h with shut := { h.shut with ctxs := h.shut.ctxs.del c } } : Hw).drained
  if h.flag F.EVT_ON_FAIL && status ≠ stOK && status ≠ stCancelled then h.post Ev.evCtxFail [u16 c, u16 status, u32 (fieldLE rec 8 4)] else h

/-- Write one record at CQ_TAIL (R185), or the fault of the ring access. -/
def Hw.recWrite (h : Hw) (q : Nat) (r : HeldRec) : Except XFault Hw :=
  let tail := h.get (F.Q_CQ_TAIL q)
  let last := h.get F.CYC_CTRL % 2 ^ 63 + (h.q q).phase.toNat * 2 ^ 63
  (h.vwrite noCache (h.get (F.Q_CQ_BASE q) + 32 * tail) (r.bytes.take 24 ++ natLE 8 last)).map (fun h =>
    let t' := (tail + 1) % h.cqSize q
    let h := h.set (F.Q_CQ_TAIL q) t'
    let h := if t' = 0 then h.updQ q (fun s => { s with phase := !s.phase }) else h
    let h := if h.flag (F.Q_IRQ_EN q) then h.msix q else h
    if r.isCtx then h.ctxFree r.ctx r.bytes else h)

/-- Write a queue's held records in order while the ring has room (R185, R560). -/
def Hw.recDrain : Nat → Nat → Hw → Hw
  | 0, _, h => h
  | n + 1, q, h =>
    match (h.q q).held with
    | [] => h
    | r :: rest =>
      if h.cqFull q then h.set (F.Q_CQ_FULL q) 1
      else
        match h.recWrite q r with
        | .ok h =>
          let h := h.updQ q (fun s => { s with held := rest, stopped := false })
          Hw.recDrain n q (if rest.isEmpty then h.setB (F.Q_CQ_FULL q) false else h)
        | .error x =>
          if x.waits then h else ((h.ringFault q false .write x).set (F.Q_CQ_FULL q) 1).updQ q (fun s => { s with stopped := true })

/-- Post a record: written at once if the ring has room and nothing is held before it, else held in order (R185, R559, R560). -/
def Hw.postRecord (h : Hw) (c : Nat) (isCtx : Bool) (bs : Bytes) : Hw :=
  match h.ctx? c with
  | none => h
  | some x =>
    let q := x.queue
    let was := (h.q q).held
    let h := h.updQ q (fun s => { s with held := s.held ++ [⟨c, bs, isCtx⟩] })
    if was.isEmpty then h.recDrain 1 q else h

/-! ### The end of instructions and contexts -/

/-- Engine number of a record (R181). -/
def recEngine (e : Ent) : Nat :=
  if insOpc e.raw = 9 then 293 else if 0xA ≤ insOpc e.raw then 292 else e.engine.getD 292

/-- Give up the staleness windows of an instruction's operands that satisfy p (R285). -/
def Hw.dropWins (h : Hw) (c i : Nat) (p : Nat → Bool) : Hw :=
  { h with xl := { h.xl with wins := h.xl.wins.filter (fun w => !(w.ctx = c && w.index = i && p w.opnd)) } }

/-- An instruction completes: it leaves the window, its staging room is given up, its record is posted if due (R184). The DETAIL
of an MMA that was not split is 1 (R183). -/
def Hw.finishCore (h : Hw) (c : Nat) (e : Ent) (status detail : Nat) (fl : Flags) : Hw :=
  match h.ctx? c with
  | none => h
  | some x =>
    let bad := status ≠ stOK && status ≠ stNotRun
    let lower := match x.failed with
      | some f => decide (e.index < f.1)
      | none => true
    let x' : Ctx := { x with
      window := x.window.filter (fun y => y.index ≠ e.index)
      doneCnt := x.doneCnt + 1
      okCnt := x.okCnt + (if status = stOK then 1 else 0)
      flags := x.flags.or fl
      failed := if bad && lower then some (e.index, status) else x.failed }
    let h := { h with shut := { h.shut with ctxs := h.shut.ctxs.set c x' } }
    let h := h.dropWins c e.index (fun _ => true)
    let eng := if status = stInvalidInstruction then 292 else recEngine e
    let detail := if insOpc e.raw = 0 then max 1 detail else detail
    if insRec e.raw || x.recAll || bad then
      h.postRecord c false (recBytes x.userTag status fl.bits e.index 0 (insOpc e.raw) c eng detail)
    else h

/-- End a context whose window is empty once it has fetched everything or is stopping: open chains are discarded and its record is
posted (R184). -/
def Hw.tryEnd (h : Hw) (c : Nat) : Hw :=
  match h.ctx? c with
  | none => h
  | some x =>
    let live := x.st == .running || x.st == .preempting
    if x.window.isEmpty && (x.st == .stopping || (live && x.progLen ≤ x.pc)) then
      let fl : Flags := { x.flags with tagsDropped := x.flags.tagsDropped || !x.chains.isEmpty }
      let h := h.updCtx c (fun x => { x with st := .recordPending, chains := [], flags := fl, fetchFlt := none })
      let si : Nat × Nat := match x.forced, x.failed with
        | some f, _ => f
        | none, some (i, s) => (s, i)
        | none, none => (if x.cancelled then stCancelled else stOK, x.progLen)
      h.postRecord c true (recBytes x.userTag si.1 fl.bits si.2 1 0 c 0 x.okCnt)
    else h

/-- Whether an instruction has issued in the sense of R184. -/
def Ent.issuedR184 (e : Ent) : Bool := e.ph != .held || e.marked

/-- Stop a context after a failure or a cancel (R184, R297): nothing more is fetched, its faults close as cancelled, what has not issued
completes as NOT_RUN, issued work that is parked is cancelled. -/
def Hw.failStop (h : Hw) (c : Nat) : Hw :=
  match h.ctx? c with
  | none => h
  | some x =>
    if x.st == .stopping || x.st == .recordPending then h
    else
      let closed := h.xl.faults.filter (fun f => f.2.ctx = some c)
      let h := { h with xl := { h.xl with faults := h.xl.faults.filter (fun f => f.2.ctx ≠ some c) } }
      let h := h.inc F.FLT_CANCELLED closed.length
      let h := h.updCtx c (fun x => { x with st := .stopping, fetchFlt := none, io := 0, recorded := [] })
      let h := x.window.foldl (fun h e => if e.issuedR184 then h else h.finishCore c e stNotRun 0 {}) h
      let h := x.window.foldl (fun h e =>
        if e.issuedR184 && e.flt.isSome then
          let h := { h with xl := { h.xl with jobs := List.map (fun (d : Nat × List Job) => (d.1, d.2.filter (fun j => !(j.ctx = c && j.index = e.index)))) h.xl.jobs } }
          h.finishCore c e stFaultCancelled 0 {}
        else h) h
      h

/-- Complete an instruction with a status, and what follows for its context (R184). -/
def Hw.finish (h : Hw) (c : Nat) (e : Ent) (status detail : Nat) (fl : Flags) : Hw :=
  let h := h.finishCore c e status detail fl
  let h := if status ≠ stOK && status ≠ stNotRun then h.failStop c else h
  (h.tryEnd c).drained

/-! ### What holds an instruction -/

/-- Whether an earlier instruction's footprint conflicts with a later one's (R170). One whose descriptors are not read has an unknown
footprint, and holds every later one that has any (log entry 22). -/
def Ent.conflicts (x e : Ent) : Bool :=
  (x.descs.isEmpty && !(e.reads ++ e.writes).isEmpty) || x.writes.any (fun r => (e.reads ++ e.writes).any (overlaps r)) || x.reads.any (fun r => e.writes.any (overlaps r))

/-- WAIT, FENCE or MARK (R147, R193). -/
def Ent.isHolder (e : Ent) : Bool := 0xB ≤ insOpc e.raw && insOpc e.raw ≤ 0xD

/-- The Tape slots an instruction's destinations update (R172, R557). -/
def Ent.slots (e : Ent) : List Nat :=
  if insOpc e.raw = 9 then [bitsOf e.raw 119 104]
  else if [4, 6].contains (insOpc e.raw) || (insOpc e.raw = 7 && bitsOf e.raw 122 120 ≠ 0 && bitsOf e.raw 122 120 ≠ 2) then []
  else if insOpc e.raw = 8 && bitsOf e.raw 122 120 ≠ 1 then []
  else (insOpnds e.raw).filterMap (fun o => if o.wr then (descIn e.descs o.desc).bind (fun d => if d.taped then some d.slot else none) else none)

/-- Whether a STAT and another update of a slot stand in program order (R172). The slots of an earlier instruction whose descriptors are not
read are not known, and hold every STAT. -/
def Ent.slotOrder (x e : Ent) : Bool :=
  (insOpc x.raw == 9 || insOpc e.raw == 9) &&
  (x.slots.any (fun s => e.slots.contains s) || (x.descs.isEmpty && !insIsShuttle x.raw))

/-- Whether an earlier MMA of the same TAG has not issued (R171). -/
def Ent.tagOrder (x e : Ent) : Bool :=
  insOpc x.raw == 0 && insOpc e.raw == 0 && (mmaF x.raw).tag == (mmaF e.raw).tag && (x.ph == .held || x.ph == .suspended)

/-- Whether the earlier instructions of the window let an instruction go (R170 to R177). Instructions of the Shuttle itself are ordered by
their own rules; a STAT has the footprint of its tensor. -/
def free170 (w : List Ent) (e : Ent) : Bool :=
  w.all (fun x => e.index ≤ x.index || !(x.conflicts e || x.isHolder || x.slotOrder e || x.tagOrder e))

/-- Whether an instruction of a running context is held by nothing but resources, and not parked (R178, R287). Work that was stopped at a
preemption boundary goes on as soon as its context runs again, and to its end in one that stops (R184, R296). -/
def Hw.ready (h : Hw) (x : Ctx) (e : Ent) : Bool :=
  e.flt.isNone && !e.descs.isEmpty &&
  (h.shutOn && x.st == .running && e.ph == .held && free170 x.window e ||
   h.domOn domYOKE && !h.d2d.failed && (x.st == .running || x.st == .stopping) && e.ph == .suspended && insOpc e.raw ≠ 7)

/-! ### The choice of R178 -/

/-- A candidate: context number, context, instruction, PRIO of its queue. -/
structure Cand where
  c : Nat
  x : Ctx
  e : Ent
  prio : Nat
  deriving DecidableEq, Repr

/-- Whether candidate a goes before b (R178). -/
def Cand.better (a b : Cand) : Bool :=
  if a.prio ≠ b.prio then a.prio < b.prio
  else
    let both := a.x.staged && b.x.staged
    if both && a.x.dir ≠ b.x.dir then a.x.dir
    else if both && a.x.step ≠ b.x.step then a.x.step < b.x.step
    else if both && a.x.mb ≠ b.x.mb then a.x.mb < b.x.mb
    else if both && a.x.vstage ≠ b.x.vstage then (if a.x.dir then b.x.vstage < a.x.vstage else a.x.vstage < b.x.vstage)
    else if a.x.admitSeq ≠ b.x.admitSeq then a.x.admitSeq < b.x.admitSeq
    else a.e.index < b.e.index

/-- The candidates of an engine (R178). -/
def Hw.cands (h : Hw) (eng : Nat) : List Cand :=
  (h.shut.ctxs.map (fun cx =>
    (cx.2.window.filter (fun e => e.engine = some eng && h.ready cx.2 e)).map (fun e => (⟨cx.1, cx.2, e, h.get (F.Q_PRIO cx.2.queue)⟩ : Cand)))).flatten

/-- The best candidate of an engine. -/
def Hw.best (h : Hw) (eng : Nat) : Option Cand :=
  (h.cands eng).foldl (fun b x => match b with
    | none => some x
    | some y => if x.better y then some x else some y) none

/-! ### Residency -/

/-- A region an instruction names: operand number (16 more for the companion of an operand), its descriptor, virtual ranges, whether read,
written. -/
structure Region where
  o : Nat
  d : Desc
  ranges : List (Nat × Nat)
  rd : Bool
  wr : Bool
  deriving DecidableEq, Repr

/-- The regions of an array or vector instruction, companions included (R68, R137, R113). -/
def Ent.regions (e : Ent) : List Region :=
  ((insOpnds e.raw).zipIdx.map (fun (o, i) =>
    match descIn e.descs o.desc with
    | none => []
    | some d =>
      let isOpt := insOpc e.raw = 2 && 0x40 ≤ bitsOf e.raw 122 115
      let hem : List Region := match hemIn e.descs d with
        | some hd =>
          let w := o.wr && [0, 1, 2, 3, 7, 8].contains (insOpc e.raw)
          let r := o.rd && isOpt
          if w || r then [⟨i + 16, hd, if insOpc e.raw = 0 then opndRanges e.raw hd i else hd.ranges, r, w⟩] else []
        | none => []
      ⟨i, d, opndRanges e.raw d i, o.rd, o.wr⟩ :: hem)).flatten

/-- Whether a pitch and a base meet R201: 64 × 2^m bytes, m = 0 to 18, base a multiple of 64 pitches. -/
def pitchOk (pitch base : Nat) : Bool := (List.range 19).any (fun m => pitch = 64 * 2 ^ m) && base % (64 * pitch) = 0

/-- Row pitch of a matrix operand: the stride of the one of its two innermost axes that is not contiguous; a single row has none. -/
def Desc.pitch (d : Desc) : Nat :=
  if d.rank = 1 then 0 else d.axisStrides.getD (if d.contig = d.rank - 1 then d.rank - 2 else d.rank - 1) 0

/-- Whether a region of an MMA would have to be repitched (R210). -/
def Hw.needsRepitch (h : Hw) (p : Nat) (e : Ent) (r : Region) : Bool :=
  insOpc e.raw = 0 && r.d.rank ≠ 1 && r.o < 16 &&
  match h.translate p r.d.addr (if r.rd then .read else .write) with
  | .ok (.loc pa) _ => !pitchOk r.d.pitch (if inSpad pa 1 then (pa - spadBase) % panelSize else 0)
  | _ => !pitchOk r.d.pitch 0

/-- Whether a virtual address lies in an object that is moving or being released (R224). -/
def Hw.objBusy (h : Hw) (a b : Nat) : Bool :=
  h.tailor.objs.any (fun o => (o.2.st == .migrating || o.2.st == .releasing) && o.2.va < b && a < o.2.va + o.2.size)

/-- Whether a physical range lies in a Panel's scratchpad in a PLACED object or a mapped range (R206). -/
def Hw.spadHome (h : Hw) (p pa n : Nat) : Bool :=
  inSpad pa n && panelOf pa == p &&
  (h.tailor.objs.any (fun o => o.2.st == .placed && o.2.tier = 0 && o.2.loc ≤ pa && pa + n ≤ o.2.loc + o.2.size) ||
   h.spad.mapped.any (fun m => m.1 ≤ pa && pa + n ≤ m.1 + m.2))

/-- The kinds of access an instruction makes to a region. -/
def Region.accs (r : Region) : List Acc := (if r.rd then [.read] else []) ++ (if r.wr then [.write] else [])

/-- Whether a region lies in a Panel's scratchpad, readable and writable as the instruction needs it, and its translation can be had (R206,
R272, R559). -/
def Hw.inPlace (h : Hw) (p : Nat) (e : Ent) (r : Region) : Bool :=
  !h.needsRepitch p e r && r.accs.all (fun acc => r.ranges.all (fun g => h.canReach p acc g.1 (g.2 - g.1) &&
    match h.xlateRange p acc g.1 (g.2 - g.1) with
    | .ok l => l.all (fun t => match t.1 with
      | .loc pa => h.spadHome p pa t.2
      | _ => false)
    | .error _ => false))

/-- Whether a region is resident in a Panel: staged, or in place (R206, R210). -/
def Hw.resident (h : Hw) (p : Nat) (e : Ent) (r : Region) : Bool :=
  !r.ranges.any (fun g => h.objBusy g.1 g.2) &&
  (e.copies.any (fun k => k.opnd = r.o && k.panel = p && k.done && k.cut = 0) || h.inPlace p e r)

/-- The Panel of an engine (R194, R28). -/
def panelOfEngine (e : Nat) : Nat :=
  if e < 192 then e / 48 else if e < 256 then (e - 192) / 16 else if e < 288 then (e - 256) / 8 else e - 288

/-- Whether every region of an instruction is resident in a Panel. -/
def Hw.allResident (h : Hw) (p : Nat) (e : Ent) : Bool := e.regions.all (h.resident p e)

/-! ### Reading operands -/

/-- Statistics of a conversion whose elements are open (R108, R116). -/
def Hw.openStat (h : Hw) (t : TapeStat) : TapeStat :=
  { t with amax := h.free 90 % 0x7F81, nan := h.choice 90, inf := h.choice 91, nonzero := h.choice 92, zeros := h.free 91 % (t.elems + 1)
           uflow := h.free 92 % (t.elems + 1), sat := h.free 93 % (t.elems + 1) }

/-- What an instruction whose regions were written while it ran does as it completes: the same writes, of open bytes, with open flags of
what it met (R108, R116). -/
def Hw.undef (h : Hw) (e : Ent) : Ent :=
  if !e.res.breach then e
  else
    { e with res := { e.res with
      segs := e.res.segs.map (fun g => { g with bytes := h.fuzz true (g.pa + 8200) g.bytes })
      vw := e.res.vw.map (fun w => (w.1, h.fuzz true (w.1 + 8300) w.2))
      wide := e.res.wide.zipIdx.map (fun w => h.free (8400 + w.2) % 2 ^ 32)
      tape := e.res.tape.map h.openStat
      flags := if insOpc e.raw = 0 then { e.res.flags with nanSeen := h.choice 93, accOvf := h.choice 94 } else e.res.flags } }

/-- Read one virtual range of an operand; `ext` supplies bytes of peers and the host. The poisoned virtual range, if any. -/
def Hw.gatherRange (h : Hw) (cache : Nat) (g : Nat × Nat) (ext : Bytes) : Hw × (Nat × Bytes) × List (Nat × Nat) :=
  match h.xlateRange cache .read g.1 (g.2 - g.1) with
  | .error _ => (h, (g.1, List.replicate (g.2 - g.1) 0), [])
  | .ok l =>
    let bad := (l.foldl (fun (st : Nat × List (Nat × Nat)) t =>
      match t.1 with
      | .loc pa =>
        let unit := if inHbm pa then 256 else 8
        let at_ := (List.range (t.2 / unit + 2)).filterMap (fun k =>
          let lo := max pa (pa / unit * unit + k * unit)
          let hi := min (pa + t.2) (pa / unit * unit + (k + 1) * unit)
          if lo < hi && (h.readCheck lo (hi - lo)).poisoned lo (hi - lo) then some (st.1 + (lo - pa), st.1 + (hi - pa)) else none)
        (st.1 + t.2, st.2 ++ at_)
      | _ => (st.1 + t.2, st.2)) (g.1, [])).2
    let (h, bs, _) := Hw.readParts (h.noteRange cache g.1 (g.2 - g.1)) l ext
    (h, (g.1, bs), bad)

/-- Read ranges at their home, in order: state, view, poisoned virtual ranges. `ext` supplies bytes of peers and the host. -/
def Hw.gatherHome (h : Hw) (cache : Nat) (rs : List (Nat × Nat)) (ext : Bytes) : Hw × View × List (Nat × Nat) :=
  let out := rs.foldl (fun (st : Hw × View × List (Nat × Nat) × Bytes) g =>
    let remote := match st.1.xlateRange cache .read g.1 (g.2 - g.1) with
      | .ok l => (l.map (fun t => match t.1 with
        | .loc _ => 0
        | _ => t.2)).foldl (· + ·) 0
      | .error _ => 0
    let (h, v, b) := st.1.gatherRange cache g st.2.2.2
    (h, st.2.1 ++ [v], st.2.2.1 ++ b, st.2.2.2.drop remote)) (h, [], [], ext)
  (out.1, out.2.1, out.2.2.1)

/-- The view of ranges whose bytes stand in order in a string. -/
def viewOf : List (Nat × Nat) → Bytes → View
  | [], _ => []
  | g :: r, bs => (g.1, bs.take (g.2 - g.1)) :: viewOf r (bs.drop (g.2 - g.1))

/-- The copy that an operand is read from. -/
def Ent.copyOf (e : Ent) (o : Nat) : Option Copy := e.copies.find? (fun k => k.opnd == o && k.done && k.cut = 0)

/-- Read the regions an instruction reads, each from its staging copy or at home (R31): views by operand (regions not read are empty
views), poisoned virtual ranges. -/
def Hw.gather (h : Hw) (cache : Nat) (e : Ent) : List Region → Hw × List (Nat × View) × List (Nat × Nat)
  | [] => (h, [], [])
  | r :: rest =>
    let (h, v, bad) :=
      if r.rd then
        match e.copyOf r.o with
        | some k => (h, viewOf r.ranges k.data, k.bad)
        | none => h.gatherHome cache r.ranges []
      else (h, [], [])
    let (h, vs, bads) := Hw.gather h cache e rest
    (h, (r.o, v) :: vs, bad ++ bads)

/-- The views of the operands in field order, then the companion of operand 0. -/
def viewsOf (e : Ent) (vs : List (Nat × View)) : List View :=
  let at_ (o : Nat) : View := ((vs.find? (·.1 == o)).map (·.2)).getD []
  (List.range (insOpnds e.raw).length).map at_ ++ [at_ 16]

/-- The scales in force of the slots an instruction's descriptors name (R63). -/
def Hw.scalesFor (h : Hw) (e : Ent) : List (Nat × Nat) :=
  (insOpnds e.raw).filterMap (fun o => (descIn e.descs o.desc).bind (fun d => if d.scaleEn && d.fmt.isScaled8 then some (d.slot, h.scaleOf d) else none))

/-- The slots an instruction needs, for scales or statistics. -/
def Ent.slotsUsed (e : Ent) : List Nat :=
  (insOpnds e.raw).filterMap (fun o => (descIn e.descs o.desc).bind (fun d => if d.scaleEn && d.fmt.ff.isSome then some d.slot else none))

/-- Split the writes of an instruction: physical segments of those whose operand is in place, virtual writes of those that are staged. -/
def Hw.placeWrites (h : Hw) (e : Ent) (ws : List (Nat × Bytes)) : List Seg × List (Nat × Bytes) :=
  let staged := e.regions.filter (fun r => r.wr && e.copies.any (fun k => k.opnd = r.o && k.dest))
  let isStaged (a : Nat) : Bool := staged.any (fun r => r.ranges.any (fun g => g.1 ≤ a && a < g.2))
  ws.foldl (fun (st : List Seg × List (Nat × Bytes)) w =>
    if isStaged w.1 then (st.1, st.2 ++ [w])
    else match h.xlateRange (panelOfEngine (e.engine.getD 0)) .write w.1 w.2.length with
      | .ok l => (st.1 ++ (segsOf l w.2).filterMap (fun t => match t.1 with
        | .loc pa => some (⟨pa, t.2⟩ : Seg)
        | _ => none), st.2)
      | .error _ => st) ([], [])

/-- The local ranges of the regions an instruction uses where they lie: all but the sources that it reads from a staging copy (R108, R116). -/
def Hw.usedRanges (h : Hw) (e : Ent) : List (Nat × Nat) :=
  let here := e.regions.filter (fun r => r.wr || (e.copyOf r.o).isNone)
  ((here.map (fun r => (r.ranges.map (fun g => match h.xlateRange (panelOfEngine (e.engine.getD 0)) (if r.rd then .read else .write) g.1 (g.2 - g.1) with
    | .ok l => locals l
    | .error _ => [])).flatten))).flatten

/-- Executed work waits for a job of its Panel's DMA engines that writes its staged destination back, and takes one that is free (R208,
R276). -/
def Hw.writebackJob (h : Hw) (c : Nat) (e : Ent) : Hw :=
  if (h.jobEngine 2 c e.index none).isSome then h
  else
    match h.seat (dmaOf (panelOfEngine (e.engine.getD 0))) with
    | none => h
    | some d => h.jobAdd d { slot := 0, kind := 2, ctx := c, index := e.index, src := ((e.copies.find? (·.dest)).map (·.base)).getD 0
                             dst := ((e.res.vw.head?).map (·.1)).getD 0, cursor := 0, parked := false, doneChunks := [] }

/-- An instruction has executed and its staged destination is to be written back (R208). -/
def Hw.toWriteback (h : Hw) (c : Nat) (e : Ent) : Hw :=
  (h.updEnt c e.index (fun _ => { e with ph := .writeback })).writebackJob c { e with ph := .writeback }

/-- The next pitch 64 × 2^m at or above a pitch (R210). -/
def raisePitch (n : Nat) : Nat := ((List.range 19).map (fun m => 64 * 2 ^ m)).find? (fun p => n ≤ p) |>.getD (64 * 2 ^ 18)

/-- Bytes of a region before an address of it in its copy: rows at the raised pitch where the copy is repitched (R210), then the scales. -/
def copyOffset (r : Region) (k : Copy) (va : Nat) : Nat :=
  match r.ranges with
  | g :: _ =>
    if k.repitch && g.1 ≤ va && va < g.2 then (va - g.1) / r.d.pitch * raisePitch r.d.pitch + (va - g.1) % r.d.pitch
    else bytesBefore va r.ranges
  | [] => 0

/-- The scratchpad address that an engine reads an operand's byte at: in its copy, or at its home (R107, R139). -/
def Hw.readAddr (h : Hw) (e : Ent) (o va : Nat) : Nat :=
  match e.copyOf o, e.regions.find? (·.o == o) with
  | some k, some r => k.base + copyOffset r k va
  | _, _ => match h.translate (panelOfEngine (e.engine.getD 0)) va .read with
    | .ok (.loc pa) _ => pa
    | _ => 0

/-- Objects that an instruction touches take SHUTTLE_EPOCH as their last use, in their records too, at most once an epoch (R225, R226). -/
def Hw.touch (h : Hw) (e : Ent) : Hw :=
  let now := h.get F.SHUTTLE_EPOCH
  let hit (o : Obj) : Bool := o.lastUse ≠ now && (e.reads ++ e.writes).any (fun g => o.va < g.2 && g.1 < o.va + o.size)
  (List.filter (fun (o : Nat × Obj) => hit o.2) h.tailor.objs).foldl (fun h o => (h.updObj o.1 (fun x => { x with lastUse := now })).recWriteObj o.1) h

/-! ### Staleness at the consumer (R286) -/

/-- The consumer of an instruction's staging copies looks at its windows: none if nothing is stale. A stale one is discarded, to be fetched
again (the read-ahead of a MOVE at once, under a new window of the same range), or posts a STALE fault: by STALE_MODE, and in either mode after 8 marks in a row. -/
def Hw.staleAct (h : Hw) (c : Nat) (e : Ent) : Option Hw :=
  match h.xl.wins.find? (fun w => w.ctx = c && w.index = e.index && w.stale) with
  | none => none
  | some w =>
    let again (v : Win) : Win :=
      if v.ctx = c && v.index = e.index && v.opnd = w.opnd then { v with stale := false, marks := if 8 ≤ w.marks then 0 else w.marks } else v
    let drop (h : Hw) : Hw :=
      if insOpc e.raw = 6 then { h with xl := { h.xl with wins := h.xl.wins.map again } }
      else (h.dropWins c e.index (· = w.opnd)).updEnt c e.index (fun e => { e with
        copies := e.copies.filter (fun k => k.opnd ≠ w.opnd)
        staleMarks := e.staleMarks.set w.opnd (if 8 ≤ w.marks then 0 else w.marks) })
    let va := ((e.regions.find? (·.o == w.opnd)).bind (fun r => r.ranges.head?.map (·.1))).getD 0
    let desc := (((insOpnds e.raw)[w.opnd % 16]?).map (·.desc)).getD 0xFFFF
    if h.flag F.STALE_MODE || 8 ≤ w.marks then
      some (drop (h.postFault (if insOpc e.raw = 6 then .move c e.index else .staging c e.index w.opnd) .read .stale va 0 desc 0 w.lo))
    else some (drop (h.inc (F.STALE_REFETCH w.panel)))

end Sys2Proof.Machine
end

