-- ==== Sys2Proof/Machine/Snap.lean ====
section
/-!
DEFINITION. Machine/Snap.lean: what ends a capture or a restore from outside Basting's own commands (R404, R406, R411).
-/

namespace Sys2Proof.Machine

/-- The slot block of a slot of a target (R422). -/
def slotNum (nvme : Bool) (t : Nat) : Nat := (if nvme then 2 else 0) + t

/-- Writes that the guard no longer holds go ahead in order, none past an earlier one of the same bytes that is still held (R404). -/
def Hw.releaseHeld (h : Hw) : Hw :=
  let go := h.bast.held.foldl (fun (st : Hw × List (Nat × Bytes)) w =>
    if (h.guardHits w.1 w.2.length).isEmpty && !st.2.any (fun v => w.1 < v.1 + v.2.length && v.1 < w.1 + w.2.length) then (st.1.pokeRaw w.1 w.2, st.2)
    else (st.1, st.2 ++ [w])) ({ h with bast := { h.bast with held := [] } }, [])
  ({ go.1 with bast := { go.1.bast with held := go.2 } } : Hw).bar2Go

/-- Basting releases the epoch: the MARK completes (R177). -/
def Hw.epochRelease (h : Hw) (k : Hand) : Hw :=
  match h.ent? k.ctx k.index with
  | some e => if e.marked then h.finish k.ctx e stOK 0 {} else h
  | none => h

/-- The record of an abort (R406). -/
def Hw.snapAborted (h : Hw) (k : Hand) (reason : Nat) : Hw :=
  ((h.set F.LAST_ABORT reason).inc F.SNAP_ABORT_CNT).post Ev.evSnapAbort [u64 k.epoch, u16 k.setid, u8 reason]

/-- Abort the capture (R406): the slot is INVALID, the guard and the capturing marks are released; before step 5 the epoch too. -/
def Hw.snapAbort (h : Hw) (reason : Nat) : Hw :=
  match h.bast.cap with
  | none => h
  | some k =>
    let h := (h.set (F.SLOT_STATE (slotNum k.nvme k.slot)) 3).set F.BAST_STATE 0
    let h := ({ h with bast := { h.bast with cap := none, wanted := [] } } : Hw).releaseHeld
    let h := h.snapAborted k.hand reason
    (if k.stage = 1 then h.epochRelease k.hand else h).drained

/-- A restore ends in failure (R411). -/
def Hw.restoreFail (h : Hw) (status cause entry : Nat) : Hw :=
  match h.bast.restore with
  | none => h
  | some r =>
    let h := ((((h.set F.RESTORE_STATUS status).set F.RESTORE_CAUSE cause).set F.RESTORE_ENTRY entry).inc F.RESTORE_FAIL_CNT).set F.BAST_STATE 0
    (({ h with bast := { h.bast with restore := none } } : Hw).postOp Ev.evRestoreFail [u8 status, u8 cause, u16 entry] r.op).drained

/-- The buddy is lost (R406): a capture to it aborts, its slots are INVALID. -/
def Hw.buddyLost (h : Hw) : Hw :=
  if !h.flag F.BUDDY_VALID then h
  else
    let h := match h.bast.cap with
      | some k => if k.nvme then h else h.snapAbort 7
      | none => h
    ((h.set (F.SLOT_STATE 0) 3).set (F.SLOT_STATE 1) 3).post Ev.evLiningLost [u16 (h.get F.BUDDY_CHIP)]

/-- A copy of a running capture to a buddy that cannot be reached faults (R298, R355, R409): it has no virtual address at its destination, so
the record's VA is open (log entry 165). -/
def Hw.captureFault (h : Hw) (chip : Nat) : Hw :=
  match h.bast.cap with
  | some k => if k.nvme then h else h.postFault .bast .write .peerUnreachable (h.free 201) 0 0xFFFF 0 chip
  | none => h

/-- A chip is dead or has no route: a restore from it is unreachable; the buddy is lost (R406, R411). -/
def Hw.chipLost (h : Hw) (chip : Nat) : Hw :=
  let h := match h.bast.restore with
    | some r => if r.source ≠ 2 && r.chip = chip then h.restoreFail 0x17 0 0 else h
    | none => h
  if h.flag F.BUDDY_VALID && h.get F.BUDDY_CHIP = chip then (h.captureFault chip).buddyLost else h

end Sys2Proof.Machine
end

