-- ==== Sys2Proof/Machine/Link.lean ====
section
/-!
DEFINITION. Machine/Link.lean: what follows for routes and topology when a link's state changes (R319, R349, R354), the lead Seam engine of an
axis (R358).
-/

namespace Sys2Proof.Machine

/-- Peers whose route starts on an axis and direction get NO_ROUTE (R354); one that is the buddy is lost (R406). -/
def Hw.noRoute (h : Hw) (a : Nat) (plus : Bool) : Hw :=
  match h.topo.plan with
  | none => h
  | some p =>
    (List.range p.ranks.length).foldl (fun h i =>
      match p.route (h.get F.MY_RANK) i with
      | some (a', d', _) => if a' = a && d' = plus then (h.set (PEER_PSTATE i) 3).chipLost (p.chip i) else h
      | none => h) h

/-- Hand a link's frames back to the fabric layer: re-dealt over the bundle, the other way round a ring, or dropped (R354). -/
def Hw.handBack (h : Hw) (l : Nat) : Hw :=
  let s := h.lk l
  let fs := (s.retry ++ s.queue).filter (fun f => f.vl ≠ 0)
  let h := h.updLk l (fun s => { s with retry := [], queue := [] })
  match h.topo.plan with
  | none => h.inc F.FWD_DROP fs.length
  | some p =>
    match p.links[h.plinkOf l]? with
    | none => h.inc F.FWD_DROP fs.length
    | some e =>
      let pls (role : Nat) : List Nat := ((p.bundle e.axis role).map h.physOf).filter (fun x => x ≠ l && h.lkUp x)
      let same := if e.role = 3 || e.role = 4 then pls e.role else []
      let ring := ((p.axes[e.axis]?).map (fun a => a.type == 1)).getD false
      let other := if ring && (e.role = 3 || e.role = 4) then pls (if e.role = 3 then 4 else 3) else []
      let ls := if same.isEmpty then other else same
      if ls.isEmpty then
        let h := h.inc F.FWD_DROP fs.length
        if e.role = 3 || e.role = 4 then h.noRoute e.axis (e.role = 3) else h
      else
        fs.reverse.foldl (fun h f =>
          match ls[(f.src + f.dst + f.addr / 4096) % ls.length]? with
          | some x => h.updLk x (fun s => { s with queue := { f with tries := 0 } :: s.queue })
          | none => h) h |> fun h => ls.foldl (fun h x => h.pump (h.lk x).queue.length x) h

/-- Board destinations with neither a direct link nor a detour are NO_ROUTE, and leave it as one comes back (R353); before DISC_TMO nothing
is known. -/
def Hw.boardRoutes (h : Hw) : Hw :=
  match h.topo.plan with
  | none => h
  | some p =>
    if !h.topo.discOver then h
    else
      let r := h.get F.MY_RANK
      (List.range p.ranks.length).foldl (fun h i =>
        match if i = r then none else p.route r i with
        | some (a, _, _) =>
          if a ≠ 7 && ((p.axes[a]?).map (·.type)).getD 0 ≠ 4 then h
          else
            let hop := h.boardHop (if a = 7 then p.chip i else p.chip (p.withCoord r a (p.coord i a)))
            let st := h.get (PEER_PSTATE i)
            if hop.isNone && st < 2 then (h.set (PEER_PSTATE i) 3).chipLost (p.chip i)
            else if hop.isSome && st = 3 then h.set (PEER_PSTATE i) 0
            else h
        | none => h) h

/-- Set a link's state; a change to or from UP evaluates the topology again (R349). -/
def Hw.setLk (h : Hw) (l st : Nat) : Hw :=
  let was := h.lkUp l
  let h := h.set (F.LNK_STATE l) st
  if was != (st == lsUP) then h.topoEval.boardRoutes else h

/-- A collective's lead Seam engine: the Panel owning the lowest-numbered link of the axis's + bundle, or for BOARD the lowest-numbered
board link in use; 288 where the plan names none (R358). -/
def Hw.collLead (h : Hw) (paxis : Nat) : Nat :=
  match h.topo.plan with
  | none => 288
  | some p =>
    match p.axes[paxis]? with
    | none => 288
    | some a =>
      let ls := if a.type = 4 then (p.links.zipIdx.filter (fun e => e.1.role = 2 && (h.expected e.2).isSome)).map (·.2) else p.bundle paxis 3
      if a.size = 1 || ls.isEmpty then 288 else 288 + (ls.foldl min 63) / 16

end Sys2Proof.Machine
end

