-- ==== Sys2Proof/Machine/State.lean ====
section
/-!
DEFINITION. Machine/State.lean: the state of the block: the hardware and the queue of commands that wait; its state right after reset.
-/

namespace Sys2Proof.Machine

/-- The state: the commands that wait, first in, first out, and the hardware. -/
structure State where
  pending : List Instr
  hw : Hw
  deriving DecidableEq, Repr

/-- Reasons to stop. -/
inductive Fault where
  /-- A command names something the part does not have. Raised by no meaning: such a command changes nothing (log entry 17; safe). -/
  | illFormed
  deriving DecidableEq, Repr

/-- Reasons to refuse a command. -/
inductive Refusal where
  /-- The command has no meaning yet. Raised by the arms of exec that name it (safe). -/
  | notModelled (mnemonic : String)
  deriving DecidableEq, Repr

/-- The hardware before any power: every domain off, nothing held (R489, R518; log entry 18). -/
def Hw.off : Hw :=
  { regs := [], votes := [], latch := [], heldRt := [], dom := 0
    evt := ⟨[], 0, 0, [], 0, 0⟩
    shut := ⟨[], [], none, 0, [], false, 0⟩
    spad := ⟨[], [], [], [0, 0, 0, 0], [], []⟩
    tailor := ⟨[], [], none, [], false⟩
    hbm := ⟨[], [], [], [], [], [], [], [], [], [], [], [], [], [], [], [], []⟩
    xl := ⟨[], [], [], 0, [], [], true, [], [], [], false, true, [], []⟩
    train := ⟨[], [], false, false, []⟩
    opt := ⟨[], []⟩
    topo := ⟨none, [], [], [], false, [], [], false⟩
    d2d := ⟨[], [], [], false⟩
    bast := ⟨[], none, [], [], none, false⟩
    mb := {}, sec := {}, sage := {}, pcie := {}, side := {}
    sram := [], sramLost := none, nor := [], rpmc := ⟨0, 0, 0, 0⟩, out := [], freeCtr := 0 }

/-- The machine right after reset: unpowered, with no command waiting (log entry 18). -/
def State.reset : State := ⟨[], Hw.off⟩

/-- The hardware with the counter of open values at n (log entry 3). -/
def Hw.stamp (h : Hw) (n : Nat) : Hw := { h with freeCtr := n }

/-- The next state after a change of the hardware; the counter of open values advances by one at every command (log entry 3). -/
def State.run (s : State) (f : Hw → Hw) : Host.Outcome State Fault Refusal := .next ⟨s.pending, (f s.hw).stamp (s.hw.freeCtr + 1)⟩

end Sys2Proof.Machine
end

