-- ==== Sys2Proof/Machine/Queue.lean ====
section
/-!
DEFINITION. Machine/Queue.lean: submission and completion queues, admission (R143 to R146, R179, R185 to R188, R559, R560).
-/

namespace Sys2Proof.Machine

/-- A doorbell value at or above the ring size (R187); while Q_ERR is 3 it keeps that value (R560; log entry 23). -/
def Hw.badDoorbell (h : Hw) (q err : Nat) : Hw :=
  if h.get (F.Q_ERR q) = 3 then h.post Ev.evQueueErr [u8 q, u8 err] else h.queueErr q err

/-- The entries of a queue that a new tail submits are marked with the writes of DATA_CURSOR before them (R377). -/
def Hw.submitMarks (h : Hw) (q v : Nat) : Hw :=
  let n := (v + h.sqSize q - h.get (F.Q_SQ_HEAD q)) % h.sqSize q
  h.updQ q (fun s => { s with curAts := s.curAts.take n ++ List.replicate (n - s.curAts.length) h.train.curLog.length })

/-- Act on a submission doorbell of an enabled queue (R187). -/
def Hw.sqTailAct (h : Hw) (q v : Nat) : Hw :=
  if h.sqSize q ≤ v then h.badDoorbell q 1 else (h.submitMarks q v).set (F.Q_SQ_TAIL q) v

/-- Act on a completion doorbell of an enabled queue: room in the ring; after a ring fault every such write tries the held write again, and
the held records follow it (R187, R560). -/
def Hw.cqHeadAct (h : Hw) (q v : Nat) : Hw :=
  let h := if h.cqSize q ≤ v then h.badDoorbell q 2 else h.set (F.Q_CQ_HEAD q) v
  if (h.q q).stopped then h.recDrain (h.q q).held.length q else h

/-- SQ_TAIL_DB (R187): stored while ENABLE reads 0. -/
def effSqTailDb (q v : Nat) (h : Hw) : Hw :=
  if !(h.domOn domYOKE && q < 64) then h
  else
    let v := v % 2 ^ 32
    let h := h.set (F.SQ_TAIL_DB_REG q) v
    if h.flag (F.Q_ENABLE q) then h.sqTailAct q v else h.updQ q (fun s => { s with sqDb := some v })

def execSqTailDb (q v : Nat) (s : State) : Host.Outcome State Fault Refusal := s.run (effSqTailDb q v)

/-- CQ_HEAD_DB (R187, R560). -/
def effCqHeadDb (q v : Nat) (h : Hw) : Hw :=
  if !(h.domOn domYOKE && q < 64) then h
  else
    let v := v % 2 ^ 32
    let h := h.set (F.CQ_HEAD_DB_REG q) v
    if h.flag (F.Q_ENABLE q) then h.cqHeadAct q v else h.updQ q (fun s => { s with cqDb := some v })

def execCqHeadDb (q v : Nat) (s : State) : Host.Outcome State Fault Refusal := s.run (effCqHeadDb q v)

/-! ### Admission -/

/-- Whether the stage of a staged queue is disabled (R179). -/
def Hw.stageOff (h : Hw) (q : Nat) : Bool := h.flag (F.Q_VS_EN q) && !h.flag (F.VSTAGE_EN (h.get (F.Q_QCLASS q)))

/-- Contexts of a virtual stage. -/
def Hw.stageCtxs (h : Hw) (v : Nat) : Nat := (h.shut.ctxs.filter (fun e => e.2.staged && e.2.vstage = v)).length

/-- The lowest free context number. -/
def Hw.freeCtxNum (h : Hw) : Option Nat := (List.range 512).find? (fun c => (h.ctx? c).isNone)

/-- Whether a queue could admit but for its stage being disabled (R145, R188, R232, R373, R559). -/
def Hw.couldAdmit (h : Hw) (q : Nat) : Bool :=
  h.shutOn && h.flag F.TAILOR_CFG_ENABLE && h.flag F.TRAIN_CFG_ENABLE && !h.train.draining &&
  h.flag (F.Q_ENABLE q) && !(h.q q).disabling && (h.get (F.Q_ERR q) = 0 || h.get (F.Q_ERR q) = 4) &&
  h.get (F.Q_SQ_HEAD q) ≠ h.get (F.Q_SQ_TAIL q) && h.freeCtxNum.isSome &&
  (h.get (F.Q_MAX_CTX q) = 0 || h.qCtxs q < h.get (F.Q_MAX_CTX q)) && !h.flag (F.Q_CQ_FULL q)

/-- Whether a queue can admit (R145). -/
def Hw.canAdmit (h : Hw) (q : Nat) : Bool :=
  h.couldAdmit q && !h.stageOff q && h.get (F.Q_ERR q) = 0 &&
  (!h.flag (F.Q_VS_EN q) ||
    (let v := h.get (F.Q_QCLASS q)
     h.get (F.VSTAGE_MAX_CTX v) = 0 || h.stageCtxs v < h.get (F.VSTAGE_MAX_CTX v)))

/-- The queue the Shuttle admits from next: lowest PRIO, then round robin after the last (R145). -/
def Hw.nextQueue (h : Hw) : Option Nat :=
  let first := match h.shut.lastQueue with
    | some l => l + 1
    | none => 0
  ((List.range 64).map (fun i => (first + i) % 64)).foldl (fun b q =>
    if !h.canAdmit q then b
    else match b with
      | none => some q
      | some x => if h.get (F.Q_PRIO q) < h.get (F.Q_PRIO x) then some q else b) none

/-- Whether a submission entry breaks R146. -/
def entryBad (b : Bytes) : Bool :=
  bitsOf (fieldLE b 0 8) 63 52 ≠ 0 || fieldLE b 0 8 % 16 ≠ 0 || fieldLE b 8 4 = 0 || bitsOf (fieldLE b 0x14 4) 31 19 ≠ 0 || fieldLE b 0x18 8 ≠ 0

/-- The context of an entry (R144). -/
def mkCtx (q : Nat) (staged : Bool) (vstage admitSeq : Nat) (b : Bytes) : Ctx :=
  let w := fieldLE b 0x14 4
  { queue := q, staged := staged, vstage := vstage, dir := bitOf w 18, step := fieldLE b 0x10 4, mb := bitsOf w 15 0
    userTag := fieldLE b 0xC 4, recAll := bitOf w 17, progAddr := fieldLE b 0 8 % 2 ^ 52, progLen := fieldLE b 8 4
    pc := 0, doneCnt := 0, okCnt := 0, admitSeq := admitSeq
    st := if entryBad b then .stopping else .running
    window := [], chains := [], flags := {}, failed := none, cancelled := false
    forced := if entryBad b then some (stInvalidSubmission, 0) else none
    fetchFlt := none, recorded := [], io := 0 }

/-- ADMIT_ENTRY (R145, R146, R179, R560): nothing yet where the read of the entry waits (R559). A stage that is disabled is reported as an
entry that could otherwise be admitted meets it (log entry 151). `ext` is what the host answers if the ring lies in its memory. -/
def effAdmitEntry (q : Nat) (ext : Bytes) (h : Hw) : Hw :=
  if h.couldAdmit q && h.stageOff q then (if h.get (F.Q_ERR q) = 0 then h.queueErr q 4 else h)
  else if h.nextQueue ≠ some q then h
  else
    let head := h.get (F.Q_SQ_HEAD q)
    match h.vread noCache .read (h.get (F.Q_SQ_BASE q) + 32 * head) 32 ext with
    | .error x => if x.waits then h else h.ringFault q true .read x
    | .ok (h, bs, poison) =>
      let bs := h.fuzz poison 5000 bs
      match h.freeCtxNum with
      | none => h
      | some c =>
        let staged := h.flag (F.Q_VS_EN q)
        let x := { mkCtx q staged (if staged then h.get (F.Q_QCLASS q) else 0) h.shut.admitSeq bs with curAt := (h.q q).curAts.headD h.train.curLog.length }
        let h := { h with shut := { h.shut with
          ctxs := h.shut.ctxs.set c x, admitSeq := h.shut.admitSeq + 1, lastQueue := some q
          descCache := if bitOf (fieldLE bs 0x14 4) 16 then [] else h.shut.descCache } }
        let h := ((h.updQ q (fun s => { s with curAts := s.curAts.drop 1 })).set (F.Q_SQ_HEAD q) ((head + 1) % h.sqSize q)).inc (F.Q_ADMITTED q)
        h.tryEnd c

def execAdmitEntry (q : Nat) (ext : Bytes) (s : State) : Host.Outcome State Fault Refusal := s.run (effAdmitEntry q ext)

/-- WRITE_COMPLETION_RECORD (R185): one held record, once the ring has room; a record behind a ring fault waits for CQ_HEAD_DB (R560). -/
def effWriteCompletionRecord (q : Nat) (h : Hw) : Hw :=
  if (h.q q).stopped || h.cqFull q then h else h.recDrain 1 q

def execWriteCompletionRecord (q : Nat) (s : State) : Host.Outcome State Fault Refusal := s.run (effWriteCompletionRecord q)

/-! ### Enable and disable -/

/-- The stored bits of a write of word 0 of a queue block: fields whose value is out of range keep theirs (R543). -/
def Hw.queueCfg (h : Hw) (q w : Nat) : Hw :=
  let h := (((h.set (F.Q_PRIO q) (bitsOf w 30 28)).set (F.Q_VS_EN q) (bitsOf w 27 27)).set (F.Q_QCLASS q) (bitsOf w 26 24)).set (F.Q_IRQ_EN q) (bitsOf w 23 23)
  let h := if bitsOf w 19 10 ≤ 512 then h.set (F.Q_MAX_CTX q) (bitsOf w 19 10) else h
  let ok (n : Nat) : Bool := 4 ≤ n && n ≤ 16
  let h := if ok (bitsOf w 9 5) then h.set (F.Q_SQ_LOG2 q) (bitsOf w 9 5) else h
  if ok (bitsOf w 4 0) then h.set (F.Q_CQ_LOG2 q) (bitsOf w 4 0) else h

/-- The configuration bits of word 0 of a queue block as they read. -/
def Hw.queueWord (h : Hw) (q : Nat) : Nat := ((h.word (F.Q_ENABLE q).word).toNat) % 2 ^ 31

/-- A refused configuration write of a queue block: recorded if it would have changed a bit (R542). -/
def Hw.queueRefused (h : Hw) (q w : Nat) : Hw :=
  if w % 2 ^ 31 / 2 ^ 23 = h.queueWord q / 2 ^ 23 && bitsOf w 19 0 = bitsOf (h.queueWord q) 19 0 then h
  else ((h.set (F.Q_CFG_WHILE_ENABLED q) 1).inc (F.Q_CFG_WE_COUNT q))

/-- ENABLE changes from 0 to 1 (R188): pointers, errors and PHASE restart, the doorbells stored meanwhile are acted on, and
those not written meanwhile become 0. -/
def Hw.queueStart (h : Hw) (q : Nat) : Hw :=
  let s := h.q q
  let h := h.set (F.Q_ENABLE q) 1
  let h := (((h.set (F.Q_SQ_HEAD q) 0).set (F.Q_SQ_TAIL q) 0).set (F.Q_CQ_HEAD q) 0).set (F.Q_CQ_TAIL q) 0
  let h := (h.set (F.Q_ERR q) 0).set (F.Q_CQ_FULL q) 0
  let h := h.updQ q (fun s => { s with phase := true, held := [], disabling := false, sqDb := none, cqDb := none, stopped := false, curAts := [] })
  let h := match s.sqDb with
    | some v => h.sqTailAct q v
    | none => h.set (F.SQ_TAIL_DB_REG q) 0
  match s.cqDb with
  | some v => h.cqHeadAct q v
  | none => h.set (F.CQ_HEAD_DB_REG q) 0

/-- QUEUE_ENABLE (R188, R541): a write of word 0 of the queue block with ENABLE 1. While a drain runs it ends the drain (log entry 21). -/
def effQueueEnable (q w : Nat) (h : Hw) : Hw :=
  if !(h.domOn domYOKE && q < 64) then h
  else if h.flag (F.Q_ENABLE q) then (h.queueRefused q w).updQ q (fun s => { s with disabling := false })
  else (h.queueCfg q w).queueStart q

def execQueueEnable (q w : Nat) (s : State) : Host.Outcome State Fault Refusal := s.run (effQueueEnable q w)

/-- Discard the held records of a queue and free their contexts (R560). -/
def Hw.discardHeld (h : Hw) (q : Nat) : Hw :=
  let cs := ((h.q q).held.filter (·.isCtx)).map (·.ctx)
  let h := cs.foldl Hw.ctxLeave ((h.updQ q (fun s => { s with held := [], stopped := false })).set (F.Q_CQ_FULL q) 0)
  ({ h with shut := { h.shut with ctxs := h.shut.ctxs.drop (fun c => cs.contains c) } } : Hw).drained

/-- ENABLE reads 0 once no context of the queue is in use (R188). -/
def Hw.queueDrain (h : Hw) (q : Nat) : Hw :=
  if (h.q q).disabling && h.qCtxs q = 0 then (h.set (F.Q_ENABLE q) 0).updQ q (fun s => { s with disabling := false }) else h

/-- Stop admission from a queue; with Q_ERR 3 its held records are discarded (R188, R560). -/
def Hw.queueStop (h : Hw) (q : Nat) : Hw :=
  if !h.flag (F.Q_ENABLE q) then h
  else
    let h := h.updQ q (fun s => { s with disabling := true })
    let h := if h.get (F.Q_ERR q) = 3 then h.discardHeld q else h
    h.queueDrain q

/-- QUEUE_DISABLE (R188): a write of word 0 of the queue block with ENABLE 0. The other fields of the write are refused while ENABLE
reads 1, and stored while it reads 0 (R541). -/
def effQueueDisable (q w : Nat) (h : Hw) : Hw :=
  if !(h.domOn domYOKE && q < 64) then h
  else if h.flag (F.Q_ENABLE q) then ((h.queueRefused q w).queueStop q)
  else h.queueCfg q w

def execQueueDisable (q w : Nat) (s : State) : Host.Outcome State Fault Refusal := s.run (effQueueDisable q w)

/-- QUEUE_DRAINED (R188). -/
def effQueueDrained (q : Nat) (h : Hw) : Hw := h.queueDrain q

def execQueueDrained (q : Nat) (s : State) : Host.Outcome State Fault Refusal := s.run (effQueueDrained q)

end Sys2Proof.Machine
end

