-- ==== Sys2Proof/Machine/Fetch.lean ====
section
/-!
DEFINITION. Machine/Fetch.lean: instruction fetch, descriptors and the assignment of engines (R147, R153, R227, R358, R85).
-/

namespace Sys2Proof.Machine

/-- The mark that an instruction has its descriptors: no descriptor has this index. -/
def descsRead : Nat × Nat := (65536, 0)

/-- Read one descriptor, from the cache or from memory; where the cached content differs from memory either may be seen (R153). -/
def Hw.readDesc (h : Hw) (cache i : Nat) (ext : Bytes) : Except XFault (Hw × Nat) :=
  let cached := h.shut.descCache.find? i
  match h.vread cache .fetch (h.get F.DESC_BASE + 64 * i) 64 ext with
  | .error x => match cached with
    | some c => .ok (h, c)
    | none => .error x
  | .ok (h, bs, poison) =>
    let m := leNat (h.fuzz poison (6000 + 64 * i) bs)
    let v := match cached with
      | some c => if c = m || h.choice (7000 + i) then c else m
      | none => m
    .ok ({ h with shut := { h.shut with descCache := h.shut.descCache.set i v } }, v)

/-- Read a list of descriptors. -/
def Hw.readDescs (h : Hw) (cache : Nat) (ext : Bytes) : List Nat → Except XFault (Hw × List (Nat × Nat))
  | [] => .ok (h, [])
  | i :: r =>
    match h.readDesc cache i ext with
    | .error x => .error x
    | .ok (h, v) => (Hw.readDescs h cache ext r).map (fun o => (o.1, (i, v) :: o.2))

/-- The descriptors of an instruction: its operands' and the companions they name (R149, R67). -/
def Hw.entDescs (h : Hw) (cache raw : Nat) (ext : Bytes) : Except XFault (Hw × List (Nat × Nat)) :=
  match h.readDescs cache ext (insDescs raw) with
  | .error x => .error x
  | .ok (h, ds) =>
    let hems := (ds.map (fun d => (parseDesc d.2).hem)).filter (· ≠ 0xFFFF)
    (h.readDescs cache ext hems).map (fun o => (o.1, ds ++ o.2 ++ [descsRead]))

/-- Footprint bytes that count for each Panel, of a tensor that is read and written once: twice those in its scratchpad, once those in its stacks (R227). -/
def Hw.footScore (h : Hw) (foot : List (Nat × Nat)) (p : Nat) : Nat :=
  foot.foldl (fun s g => (pageParts g.1 (g.2 - g.1)).foldl (fun s k =>
    match h.translate noCache k.1 .read with
    | .ok (.loc pa) _ =>
      if inHbm pa then (if stackOf pa / 4 = p then s + k.2 else s) else if panelOf pa = p && h.spadHome p pa k.2 then s + 2 * k.2 else s
    | _ => s) s) 0

/-- Instructions assigned to an engine that have not completed (R227). -/
def Hw.assigned (h : Hw) (e : Nat) : Nat :=
  h.shut.ctxs.foldl (fun n c => n + (c.2.window.filter (fun x => x.engine = some e)).length) 0

/-- The engine of a list with fewest assigned instructions, ties to the lowest. -/
def Hw.leastLoaded (h : Hw) : List Nat → Option Nat
  | [] => none
  | e :: r => some (r.foldl (fun b x => if h.assigned x < h.assigned b then x else b) e)

/-- First engine, number of engines in a Panel, of an instruction's class (R227, R194). -/
def engClass (raw : Nat) : Nat × Nat :=
  match insOpc raw with
  | 0 => (0, 48)
  | 6 => (256, 8)
  | _ => (192, 16)

/-- The engine an instruction is assigned to by the normal rule of R227, for arrays, vector and DMA engines. -/
def Hw.assignNormal (h : Hw) (raw : Nat) (ds : List (Nat × Nat)) : Option Nat :=
  let foot := insFoot raw ds
  let (base, n) := engClass raw
  let dest := ((insOpnds raw).zipIdx.find? (fun o => o.1.wr)).bind (fun o =>
    (descIn ds o.1.desc).map (fun d => hull (opndRanges raw d o.2)))
  let pinned := dest.bind (fun g => (List.find? (fun (o : Nat × Obj) => o.2.work.isSome && o.2.va ≤ g.1 && g.2 ≤ o.2.va + o.2.size) h.tailor.objs).bind (fun o => o.2.work))
  let pinCand := match pinned with
    | some (lo, hi) => (List.range (4 * n)).map (· + base) |>.filter (fun e => lo ≤ e && e ≤ hi)
    | none => []
  if !pinCand.isEmpty then h.leastLoaded pinCand
  else
    let all := (foot.1 ++ foot.2).eraseDups
    let best := (List.range 4).foldl (fun m p => max m (h.footScore all p)) 0
    let top := (List.range 4).filter (fun p => h.footScore all p = best)
    let holdDest := match dest with
      | some g => top.filter (fun p => 0 < h.footScore [g] p)
      | none => []
    let p := ((if holdDest.isEmpty then top else holdDest).head?).getD 0
    h.leastLoaded ((List.range n).map (· + base + p * n))

/-- The engine assigned at window entry (R227, R358, R85). -/
def Hw.assign (h : Hw) (raw : Nat) (ds : List (Nat × Nat)) : Option Nat :=
  if insIsShuttle raw then none
  else if insOpc raw = 7 then some (h.collLead (bitsOf raw 119 117))
  else if insOpc raw = 0 && (mmaF raw).mode = 1 then none
  else h.assignNormal raw ds

/-- Whether the Shuttle may fetch the next instruction of a context (R147, R177, R232, R287). -/
def Hw.mayFetch (h : Hw) (x : Ctx) : Bool :=
  h.shutOn && h.flag F.TAILOR_CFG_ENABLE && x.st == .running && x.fetchFlt.isNone && x.pc < x.progLen && x.window.length < 32 &&
  x.window.all (fun e => !e.marked) &&
  (match x.window.find? Ent.isHolder with
   | some k => x.window.all (fun e => e.index ≤ k.index)
   | none => true)

/-- An instruction enters the window with its descriptors read (R147, R169, R227), or fails under R154. -/
def Hw.enter (h : Hw) (c : Nat) (e : Ent) (ds : List (Nat × Nat)) : Hw :=
  let foot := insFoot e.raw ds
  let eng := h.assign e.raw ds
  h.updEnt c e.index (fun e => { e with descs := ds, reads := foot.1, writes := foot.2, engine := eng })

/-- FETCH_INSTRUCTION (R147, R154, R227): first the descriptors of an instruction whose descriptor fetch waited, else the next instruction.
`ext` is what the host answers if the program lies in its memory. -/
def effFetchInstruction (c : Nat) (ext : Bytes) (h : Hw) : Hw :=
  match h.ctx? c with
  | none => h
  | some x =>
    match x.window.find? (fun e => e.descs.isEmpty && e.flt.isNone) with
    | some e =>
      if !(h.shutOn && h.flag F.TAILOR_CFG_ENABLE && x.st == .running) then h
      else
        match h.entDescs (c % 4) e.raw [] with
        | .error _ => h
        | .ok (h, ds) => h.enter c e ds
    | none =>
      if !h.mayFetch x then h
      else
        match h.vread (c % 4) .fetch (x.progAddr + 16 * x.pc) 16 ext with
        | .error _ => h
        | .ok (h, bs, poison) =>
          let raw := leNat (h.fuzz poison 5100 bs)
          let e := Ent.fresh x.pc raw
          let h := h.updCtx c (fun x => { x with pc := x.pc + 1, window := x.window ++ [e] })
          if !insValid raw then h.finish c e stInvalidInstruction 0 {}
          else
            match h.entDescs (c % 4) raw [] with
            | .error _ => h
            | .ok (h, ds) => h.enter c e ds

def execFetchInstruction (c : Nat) (ext : Bytes) (s : State) : Host.Outcome State Fault Refusal := s.run (effFetchInstruction c ext)

/-- ASSIGN_CONTINUE_MMA (R85): once every earlier instruction that names the tag has issued, the array that holds the tag; where no chain is
open, the normal rule. -/
def effAssignContinueMma (c i : Nat) (h : Hw) : Hw :=
  match h.ctx? c, h.ent? c i with
  | some x, some e =>
    let f := mmaF e.raw
    if !(h.shutOn && h.flag F.TAILOR_CFG_ENABLE && x.st == .running && insOpc e.raw = 0 && f.mode = 1 && e.engine.isNone && e.ph == .held && !e.descs.isEmpty) then h
    else if x.window.any (fun y => y.index < e.index && y.tagOrder e) then h
    else
      let eng := match x.chains.find? (·.tag == f.tag) with
        | some k => some k.array
        | none => h.assignNormal e.raw e.descs
      h.updEnt c i (fun e => { e with engine := eng })
  | _, _ => h

def execAssignContinueMma (c i : Nat) (s : State) : Host.Outcome State Fault Refusal := s.run (effAssignContinueMma c i)

end Sys2Proof.Machine
end

