-- ==== Sys2Proof/Machine/Arrays.lean ====
section
/-!
DEFINITION. Machine/Arrays.lean: the matrix arrays: issue, last promotion, write-back (R84 to R91, R100, R102, R106, R107).
-/

namespace Sys2Proof.Machine

/-- Open chains whose tile is held on an array. -/
def Hw.chainsOn (h : Hw) (a : Nat) : List Chain :=
  (h.shut.ctxs.map (fun c => c.2.chains.filter (fun k => k.array = a))).flatten

/-- Tile tags held on an array (R100). -/
def Hw.tagsHeld (h : Hw) (a : Nat) : Nat := (h.chainsOn a).length

/-- Drain buffer bytes reserved on an array (R100). -/
def Hw.drainUsed (h : Hw) (a : Nat) : Nat := (h.chainsOn a).foldl (fun n k => n + drainBytes k.shape k.fp24) 0

/-- The instructions that hold a slab buffer pair of an array (R78): context, index, order of taking it. -/
def Hw.slabs (h : Hw) (a : Nat) : List (Nat × Nat × Nat) :=
  (h.shut.ctxs.map (fun c => (c.2.window.filter (fun e => e.engine = some a && e.ph == .issued && e.slab ≠ 0)).map (fun e => (c.1, e.index, e.slab)))).flatten

/-- An MMA gives its slab buffer pair back: its last operand has entered the array (R78). -/
def Hw.slabFree (h : Hw) (c i : Nat) : Hw := h.updEnt c i (fun e => { e with slab := 0 })

/-- Whether a slab buffer pair of an array is free. While both are held, the last operand of the one that took its pair first may or may
not have entered; which, no command says (R78, R92; log entry 149). -/
def Hw.slabRoom (h : Hw) (a : Nat) : Bool := (h.slabs a).length < 2 || h.choice 78

/-- The pair that the last operand of an earlier MMA has left, as the next one issues (R92). -/
def Hw.slabTurn (h : Hw) (a : Nat) : Hw :=
  if (h.slabs a).length < 2 then h
  else
    match (h.slabs a).foldl (fun (b : Option (Nat × Nat × Nat)) k => match b with
      | none => some k
      | some x => if k.2.2 < x.2.2 then some k else some x) none with
    | some k => h.slabFree k.1 k.2.1
    | none => h

/-- Whether every Tape slot of an instruction can be reached, so that it may issue (R289). -/
def Hw.slotsReach (h : Hw) (e : Ent) : Bool := e.slotsUsed.all h.tapeReach

/-- Open Tape steps for the slots an instruction's destinations update (R71). -/
def Hw.tapeBegins (h : Hw) (c step : Nat) (e : Ent) : Hw := e.slots.foldl (fun h s => h.tapeBegin s step c) h

/-- Whether an MMA's chain may start or continue (R85, R171): the tag is free for an opening one; for CONTINUE it is held by the context with
the same SHAPE and WACC_FMT. A CONTINUE behind a FINAL instruction that has issued and not completed finds no chain to go on (log entry
149). A split MMA that was stopped goes on with its own chain. -/
def chainOk (x : Ctx) (e : Ent) : Bool :=
  let f := mmaF e.raw
  match x.chains.find? (·.tag == f.tag) with
  | none => f.mode ≠ 1
  | some k => (f.mode = 1 || e.part ≠ 0) && !k.closing && k.shape = f.shape && k.fp24 = f.fp24

/-- Whether an MMA goes on with a chain that holds its tag and drain space already (R85). -/
def Ent.goesOn (e : Ent) : Bool := (mmaF e.raw).mode = 1 || e.part ≠ 0

/-- The array number of a chain that no array holds. -/
def noArray : Nat := 0xFFFF

/-- Whether the chain that an MMA goes on with is held on array a, or on none: a context that was cancelled while PREEMPTED has its tags
nowhere, and its issued MMAs take one anew (log entry 148). -/
def chainHere (x : Ctx) (a : Nat) (e : Ent) : Bool :=
  !e.goesOn || x.chains.all (fun k => k.tag ≠ (mmaF e.raw).tag || k.array = a || k.array = noArray)

/-- Room on the array for an MMA that opens a chain (R89). -/
def Hw.drainRoom (h : Hw) (a : Nat) (x : Ctx) (e : Ent) : Bool :=
  let f := mmaF e.raw
  (e.goesOn && x.chains.any (fun k => k.tag = f.tag && k.array = a)) || (h.tagsHeld a < 64 && h.drainUsed a + drainBytes f.shape f.fp24 ≤ 262144)

/-- The operands of an instruction and what it needs to compute, read at its issue. -/
def Hw.vecIn (h : Hw) (x : Ctx) (e : Ent) (vs : List (Nat × View)) (bad : List (Nat × Nat)) : VecIn :=
  { ds := e.descs, views := viewsOf e vs, key := h.drawKey x.step x.mb, step := x.step, scales := h.scalesFor e, poison := bad
    ovfMode := h.flag F.PLEAT_OVF_MODE }

/-- Multiply-accumulates of a cell in one ARRAY_CLK cycle (R75). -/
def mmaRate (a b : Fmt) : Nat := if a = .bf16 || a = .fp16 then 1 else if a.isBlock && b.isBlock then 4 else 2

/-- Streaming cycles S = ⌈K / r⌉ of an MMA (R80, R86). -/
def Ent.stream (e : Ent) : Nat :=
  match (insOpnds e.raw).map (fun o => ((descIn e.descs o.desc).map (·.fmt)).getD .bf16) with
  | a :: b :: _ => let r := mmaRate a b; ((mmaF e.raw).k + r - 1) / r
  | _ => (mmaF e.raw).k

/-- ARRAY_CLK cycles in which an MMA forms products: S + M + N − 2 where it runs alone. Of one that overlaps another on its array those
that it does not share, at least S, how many being open (R86; log entry 141). A split MMA that goes on streams what is left. -/
def Hw.mmaBusy (h : Hw) (e : Ent) : Nat :=
  let f := mmaF e.raw
  let tail := (shapeMN f.shape).1 + (shapeMN f.shape).2 - 2
  e.stream + (if e.res.shared then h.free 76 % (tail + 1) else tail)

/-- Another MMA issues on an array while one runs there (R86). -/
def Hw.shareMark (h : Hw) (a : Nat) : Hw :=
  { h with shut := { h.shut with ctxs := h.shut.ctxs.map (fun c => (c.1, { c.2 with window := c.2.window.map (fun e =>
    if e.engine = some a && e.ph == .issued then { e with res := { e.res with shared := true } } else e) })) } }

/-- The MMAs on an array that have issued and not ended, oldest context first. -/
def Hw.mmasOn (h : Hw) (a : Nat) : List Ent :=
  (h.shut.ctxs.map (fun c => c.2.window.filter (fun e => e.engine = some a && e.ph == .issued && insOpc e.raw = 0))).flatten

/-- ARRAY_CLK cycles of edge idle before an MMA that issues behind another on its array: at most 32 − S of that one (R92), which is open
(log entry 141). -/
def Hw.mmaGap (h : Hw) (a : Nat) : Nat :=
  match h.mmasOn a with
  | [] => 0
  | e :: _ => h.free 77 % (33 - min 32 e.stream)

/-- The product count and the wide values that the next MMA of a tag goes on from: those that the last one issued will leave, else the
chain's (R85, R96). -/
def Ctx.tagNow (x : Ctx) (tag : Nat) : Nat × List Nat :=
  match (x.window.filter (fun e => insOpc e.raw = 0 && e.ph == .issued && (mmaF e.raw).tag = tag)).getLast? with
  | some e => (e.res.count, e.res.wide)
  | none => ((x.chains.find? (·.tag == tag)).map (fun k => (k.count, k.wide))).getD (0, [])

/-- Products already summed under the tag that an MMA continues, before it (R102). -/
def Ctx.tagCount (x : Ctx) (e : Ent) : Nat := if (mmaF e.raw).mode = 1 then (x.tagNow (mmaF e.raw).tag).1 - e.part else 0

/-- The result of an MMA that issues, or goes on behind its products so far (R95 to R102, R107). One that reads poison writes nothing; its
flags NAN_SEEN and ACC_OVF are open (log entry 149). -/
def Hw.mmaRes (h : Hw) (x : Ctx) (e : Ent) (vs : List (Nat × View)) (bad : List (Nat × Nat)) : Res :=
  let xin : VecIn := { h.vecIn x e vs bad with lo := e.part }
  let r := mmaRun xin e.raw (x.tagCount e) (x.tagNow (mmaF e.raw).tag).2 (h.get F.LONGSUM_POLICY)
  let fl : Flags := { r.flags with accOvf := r.flags.accOvf || e.res.flags.accOvf }
  let done : Res := { detail := r.segments, elems := e.res.elems + r.macs, wide := r.wide, count := r.count, regs := h.usedRanges e
                      shared := e.res.shared }
  match mmaBad xin e.raw with
  | some b => { done with status := stPoisoned, poison := some (h.readAddr e b.1 b.2)
                          flags := { fl with nanSeen := h.choice 80, accOvf := h.choice 81 } }
  | none =>
    let w := h.placeWrites e r.writes
    { done with segs := w.1, vw := w.2, tape := r.stats, flags := fl }

/-- Issue of an MMA that has passed every test: it takes a slab buffer pair and its chain; its result is computed now and applied as it
completes (R78, R89, R95 to R99, R107). -/
def Hw.mmaStart (h : Hw) (a c : Nat) (x : Ctx) (e : Ent) : Hw :=
  let f := mmaF e.raw
  let h := (h.inc (F.ARR_FEED_GAP a) (h.mmaGap a)).slabTurn a
  let (h, vs, bad) := h.gather (panelOfEngine a) e e.regions
  let h := if f.fin && e.ph == .held then h.tapeBegins c x.step e else h
  let alone := (h.mmasOn a).isEmpty
  let res := { h.mmaRes x e vs bad with shared := !alone || e.res.shared }
  let was := x.chains.find? (·.tag == f.tag)
  let k : Chain := ⟨f.tag, a, f.shape, f.fp24, (was.map (·.count)).getD 0, (was.map (·.wide)).getD [], f.fin⟩
  let h := h.updCtx c (fun x => { x with chains := k :: x.chains.filter (fun y => y.tag ≠ f.tag) })
  let h := (h.shareMark a).dropWins c e.index (fun _ => true)
  let n := h.shut.copySeq + 1
  let h := { h with shut := { h.shut with copySeq := n } }
  (h.updEnt c e.index (fun e => { e with ph := .issued, res := res, slab := n })).touch e

/-- What is known of a candidate before its operands are read. -/
def Hw.vecPre (h : Hw) (k : Cand) : VecIn :=
  { ds := k.e.descs, views := [], key := h.drawKey k.x.step k.x.mb, step := k.x.step, scales := [], poison := [], ovfMode := false }

/-- The status with which an MMA fails at its issue, if it does (R85, R102, R149). -/
def Hw.mmaFails (h : Hw) (k : Cand) : Option Nat :=
  if !mmaDescOk (h.vecPre k) k.e.raw || !chainOk k.x k.e then some stInvalidDescriptor
  else if mmaLong (mmaF k.e.raw) (k.x.tagCount k.e) && h.get F.LONGSUM_POLICY = 1 then some stLongsumFault
  else none

/-- Whether array a may issue MMAs at all (R110, R229, R559). -/
def Hw.arrayOn (h : Hw) (a : Nat) : Bool :=
  a < 192 && h.flag F.ARRAY_CFG_ENABLE && h.flag F.SPAD_CFG_ENABLE && h.flag F.XLATE_CFG_ENABLE && h.domOn (domPANEL (panelOfEngine a))

/-- Whether an MMA passes the tests of its issue but that of residency (R89, R289). -/
def Hw.mmaRoom (h : Hw) (a : Nat) (k : Cand) : Bool := chainHere k.x a k.e && h.drainRoom a k.x k.e && h.slabRoom a && h.slotsReach k.e

/-- Whether the residency test alone holds array a's candidate (R558). -/
def Hw.mmaFree (h : Hw) (a : Nat) (k : Cand) : Bool := h.arrayOn a && (h.mmaFails k).isNone && h.mmaRoom a k

/-- MMA (R89, R102, R85, R171): array a issues its best candidate. One that fails at its issue is not counted in ARR_TILES (log entry 149). -/
def effMma (a : Nat) (h : Hw) : Hw :=
  if !h.arrayOn a then h
  else
    match h.best a with
    | none => h
    | some k =>
      match h.mmaFails k with
      | some st => h.finish k.c k.e st 0 {}
      | none =>
        match h.staleAct k.c k.e with
        | some h => h
        | none => if h.allResident (panelOfEngine a) k.e && h.mmaRoom a k then h.mmaStart a k.c k.x k.e else h

def execMma (a : Nat) (s : State) : Host.Outcome State Fault Refusal := s.run (effMma a)

/-- Drop the chain of a tag. -/
def Hw.dropChain (h : Hw) (c tag : Nat) : Hw := h.updCtx c (fun x => { x with chains := x.chains.filter (fun y => y.tag ≠ tag) })

/-- The chain of a tag holds what an MMA has left (R96, R102). -/
def Hw.keepChain (h : Hw) (c tag count : Nat) (wide : List Nat) : Hw :=
  h.updCtx c (fun x => { x with chains := x.chains.map (fun k => if k.tag = tag then { k with count := count, wide := wide } else k) })

/-- The end of an MMA: its writes, statistics, counters, chain and record (R88, R72, R107, R111). -/
def Hw.mmaEnd (h : Hw) (c : Nat) (e : Ent) : Hw :=
  let a := e.engine.getD 0
  let f := mmaF e.raw
  let h := h.pokeSegs e.res.segs
  let h := e.res.tape.foldl (fun h t => h.tapeComplete c t) h
  let h := ((h.inc (F.ARR_TILES a)).inc (F.ARR_MACS a) e.res.elems).inc (F.ARR_BUSY_CYC a) (h.mmaBusy e)
  let h := if e.res.flags.longsum then h.inc (F.ARR_LONGSUM_CNT a) else h
  let h := if e.res.flags.accOvf || e.res.flags.nanSeen then h.inc (F.ARR_OVF_CNT a) else h
  let h := match e.res.poison with
    | some pa => (h.post Ev.evMmaPoison [u16 a, u64 pa])
    | none => h
  let h := if f.fin || e.res.poison.isSome then h.dropChain c f.tag else h.keepChain c f.tag e.res.count e.res.wide
  h.finish c e e.res.status e.res.detail e.res.flags

/-- Whether a context's issued work goes on: not while it is PREEMPTED, nor once its save is under way (R296). -/
def Ctx.works (x : Ctx) : Bool := x.st != .preempted && !(x.st == .preempting && x.io ≠ 0)

/-- The entry of an instruction whose context's issued work goes on. -/
def Hw.working? (h : Hw) (c i : Nat) : Option Ent := if ((h.ctx? c).map Ctx.works).getD false then h.ent? c i else none

/-- MMA_LAST_PROMOTION (R86, R78): an MMA with FINAL 0 completes, and its wide values stay under its tag; one with FINAL 1 has taken its last
operand and gives its slab buffer pair back. -/
def effMmaLastPromotion (c i : Nat) (h : Hw) : Hw :=
  match h.working? c i with
  | some e =>
    if !(insOpc e.raw = 0 && e.ph == .issued && h.flag F.SPAD_CFG_ENABLE) then h
    else if (mmaF e.raw).fin then h.slabFree c i
    else h.mmaEnd c (h.undef e)
  | none => h

def execMmaLastPromotion (c i : Nat) (s : State) : Host.Outcome State Fault Refusal := s.run (effMmaLastPromotion c i)

/-- MMA_WRITEBACK_DONE (R88, R107, R404): an MMA with FINAL 1 has written D; a staged destination is first written back home (R208). -/
def effMmaWritebackDone (c i : Nat) (h : Hw) : Hw :=
  match h.working? c i with
  | some e =>
    if !(insOpc e.raw = 0 && e.ph == .issued && (mmaF e.raw).fin && h.flag F.SPAD_CFG_ENABLE) then h
    else
      let e := h.undef e
      if e.res.vw.isEmpty then (h.resultWait noCache e.res.segs []).getD (h.mmaEnd c e) else h.toWriteback c e
  | none => h

def execMmaWritebackDone (c i : Nat) (s : State) : Host.Outcome State Fault Refusal := s.run (effMmaWritebackDone c i)

end Sys2Proof.Machine
end

