-- ==== Sys2Proof/Machine/Vector.lean ====
section
/-!
DEFINITION. Machine/Vector.lean: the vector engines: issue and completion (R113 to R116, R123, R139, R142, R208).
-/

namespace Sys2Proof.Machine

/-- Whether a vector engine runs an instruction. -/
def Hw.vecBusy (h : Hw) (v : Nat) : Bool :=
  h.shut.ctxs.any (fun c => c.2.window.any (fun e => e.engine = some (192 + v) && e.ph == .issued))

/-- What a vector instruction computes from the element or row on at which it goes on (R138). -/
def Hw.vecCalc (h : Hw) (x : Ctx) (e : Ent) (vs : List (Nat × View)) (bad : List (Nat × Nat)) : VRes :=
  vecRun { h.vecIn x e vs bad with lo := e.part } e.raw

/-- Whether a vector instruction's descriptors fit it, as its operands show at its issue (R45). -/
def Hw.vecFits (h : Hw) (v : Nat) (x : Ctx) (e : Ent) : Bool :=
  let (h, vs, bad) := h.gather (v / 16) e e.regions
  (h.vecCalc x e vs bad).status ≠ stInvalidDescriptor

/-- The result of a vector instruction, added to what it did before a preemption stopped it (R138, R148): one instruction in the record, the
Tape and the counters. It keeps its Tape statistics where it ends at poison (R72). -/
def Hw.vecRes (h : Hw) (e : Ent) (r : VRes) : Res :=
  let w := h.placeWrites e r.writes
  { status := r.status, detail := r.detail, flags := e.res.flags.or r.flags, scales := h.scalesFor e, segs := w.1, vw := w.2
    tape := joinStats (e.res.tape ++ r.stats), pleatOvf := e.res.pleatOvf || r.pleatOvf, elems := e.res.elems + r.elems
    work := e.res.work + r.work, idxRange := e.res.idxRange + r.idxRange, regs := h.usedRanges e
    poison := r.badAt.map (fun b => h.readAddr e b.1 b.2) }

/-- A vector instruction issues, or goes on: its operands are read, its Tape slots open a step, its result is computed now and applied as it
completes (R114, R71, R139). Whether an UNPLEAT opens a step is decided with the scales before it, and its conversion with those after it
(R557; log entry 149). -/
def Hw.vecGo (h : Hw) (v c : Nat) (x : Ctx) (e : Ent) : Hw :=
  let (h, vs, bad) := h.gather (v / 16) e e.regions
  let opens := e.ph == .held && !(insOpc e.raw = 5 && (h.vecCalc x e vs bad).stats.isEmpty)
  let h := if opens then h.tapeBegins c x.step e else h
  let res := h.vecRes e (h.vecCalc x e vs bad)
  let h := h.dropWins c e.index (fun _ => true)
  (h.updEnt c e.index (fun e => { e with ph := .issued, res := res })).touch e

/-- Issue of a vector instruction that has passed every test on its fields. One whose descriptors do not fit it fails instead, with nothing
written, and is not counted in VEC_INSNS (R45; log entry 149). -/
def Hw.vecStart (h : Hw) (v c : Nat) (x : Ctx) (e : Ent) : Hw :=
  if h.vecFits v x e then h.vecGo v c x e else h.finish c e stInvalidDescriptor 0 {}

/-- Whether vector engine v may issue at all (R141, R229, R559). -/
def Hw.vecOn (h : Hw) (v : Nat) : Bool :=
  v < 64 && h.flag F.VEC_CFG_ENABLE && h.flag F.SPAD_CFG_ENABLE && h.flag F.XLATE_CFG_ENABLE && h.domOn (domPANEL (v / 16)) && !h.vecBusy v

/-- Whether the residency test alone holds engine v's candidate (R558). -/
def Hw.vecFree (h : Hw) (v : Nat) (k : Cand) : Bool := h.vecOn v && vecDescOk (h.vecPre k) k.e.raw && h.slotsReach k.e

/-- The issue of engine v's best candidate, if it is of a class (R113, R178). -/
def Hw.vecIssue (h : Hw) (v : Nat) (isClass : Nat → Bool) : Hw :=
  if !h.vecOn v then h
  else
    match h.best (192 + v) with
    | none => h
    | some k =>
      let e := k.e
      if !isClass e.raw then h
      else if !vecDescOk (h.vecPre k) e.raw then h.finish k.c e stInvalidDescriptor 0 {}
      else
        match h.staleAct k.c e with
        | some h => h
        | none => if h.allResident (v / 16) e && h.slotsReach e then h.vecStart v k.c k.x e else h

/-- The VFN of a VOP-class instruction. -/
def vfnOf (raw : Nat) : Nat := bitsOf raw 122 115

/-- CVT (R123, R157). -/
def effCvt (v : Nat) (h : Hw) : Hw := h.vecIssue v (fun r => insOpc r = 1)
def execCvt (v : Nat) (s : State) : Host.Outcome State Fault Refusal := s.run (effCvt v)

/-- VOP (R120, R158): the functions of one element. -/
def effVop (v : Nat) (h : Hw) : Hw := h.vecIssue v (fun r => insOpc r = 2 && vfnOf r < 0x30)
def execVop (v : Nat) (s : State) : Host.Outcome State Fault Refusal := s.run (effVop v)

/-- DROPOUT (R134). -/
def effDropout (v : Nat) (h : Hw) : Hw := h.vecIssue v (fun r => insOpc r = 2 && vfnOf r = 0x30)
def execDropout (v : Nat) (s : State) : Host.Outcome State Fault Refusal := s.run (effDropout v)

/-- OPT_SGD (R137). -/
def effOptSgd (v : Nat) (h : Hw) : Hw := h.vecIssue v (fun r => insOpc r = 2 && vfnOf r = 0x40)
def execOptSgd (v : Nat) (s : State) : Host.Outcome State Fault Refusal := s.run (effOptSgd v)

/-- OPT_MOMENTUM (R137). -/
def effOptMomentum (v : Nat) (h : Hw) : Hw := h.vecIssue v (fun r => insOpc r = 2 && vfnOf r = 0x41)
def execOptMomentum (v : Nat) (s : State) : Host.Outcome State Fault Refusal := s.run (effOptMomentum v)

/-- OPT_ADAMW (R137). -/
def effOptAdamw (v : Nat) (h : Hw) : Hw := h.vecIssue v (fun r => insOpc r = 2 && vfnOf r = 0x42)
def execOptAdamw (v : Nat) (s : State) : Host.Outcome State Fault Refusal := s.run (effOptAdamw v)

/-- RED (R127, R159). -/
def effRed (v : Nat) (h : Hw) : Hw := h.vecIssue v (fun r => insOpc r = 3)
def execRed (v : Nat) (s : State) : Host.Outcome State Fault Refusal := s.run (effRed v)

/-- PLEAT (R131, R160). -/
def effPleat (v : Nat) (h : Hw) : Hw := h.vecIssue v (fun r => insOpc r = 4)
def execPleat (v : Nat) (s : State) : Host.Outcome State Fault Refusal := s.run (effPleat v)

/-- UNPLEAT (R133, R161). -/
def effUnpleat (v : Nat) (h : Hw) : Hw := h.vecIssue v (fun r => insOpc r = 5)
def execUnpleat (v : Nat) (s : State) : Host.Outcome State Fault Refusal := s.run (effUnpleat v)

/-- RNG (R164). -/
def effRng (v : Nat) (h : Hw) : Hw := h.vecIssue v (fun r => insOpc r = 8)
def execRng (v : Nat) (s : State) : Host.Outcome State Fault Refusal := s.run (effRng v)

/-- The descriptor index of an instruction's first destination. -/
def destDesc (raw : Nat) : Nat := (((insOpnds raw).find? (·.wr)).map (·.desc)).getD noDesc

/-- Elements that a vector instruction computes in one VEC_CLK cycle (R124). -/
def Ent.vecRate (e : Ent) : Nat :=
  let os := (insOpnds e.raw).filterMap (fun o => descIn e.descs o.desc)
  let one : Bool := match os with
    | [] => false
    | d :: r => [Fmt.bf16, .fp16, .e4m3, .e5m2, .u16].contains d.fmt && !d.scaleEn && r.all (fun x => x.fmt = d.fmt && !x.scaleEn)
  let dst := ((insOpnds e.raw).find? (·.wr)).bind (fun o => descIn e.descs o.desc) |>.map (·.fmt)
  match insOpc e.raw with
  | 1 => if dst = some .u16 || dst = some .u32 then 1024 else if (dst.map Fmt.isBlock).getD false then 256 else 512
  | 2 =>
    let f := vfnOf e.raw
    if f < 0x10 then (if one then 1024 else 512)
    else if f = 0x40 then 256 else if f = 0x41 then 128 else if f = 0x42 then 64
    else if 0x20 ≤ f && f < 0x30 then 128 else 512
  | 4 => 1024
  | 5 => if bitsOf e.raw 122 121 = 2 then 512 else 1024
  | _ => 512

/-- The end of a vector instruction: its writes, statistics, counters, events and record (R72, R129, R139, R142). -/
def Hw.vecEnd (h : Hw) (c : Nat) (e : Ent) : Hw :=
  let v := e.engine.getD 192 - 192
  let r := e.res
  let h := h.pokeSegs r.segs
  let h := r.tape.foldl (fun h t => h.tapeComplete c t) h
  let h := ((h.inc (F.VEC_INSNS v)).inc (F.VEC_ELEMS v) r.elems).inc (F.VEC_BUSY_CYC v) ((r.work + e.vecRate - 1) / e.vecRate)
  let h := if r.flags.empty then
      let h := h.inc (F.VEC_EMPTY_CNT v)
      if h.flag F.EMPTY_EVENT then h.post Ev.evVecEmpty [u8 v, u16 (destDesc e.raw)] else h
    else h
  let h := if r.pleatOvf then h.inc (F.VEC_PLEAT_OVF_CNT v) else h
  let h := if r.idxRange = 0 then h else h.inc (F.VEC_IDX_RANGE_CNT v) r.idxRange
  let h := match r.poison with
    | some pa => (h.inc (F.VEC_POISON_CNT v)).post Ev.evVecPoison [u8 v, u64 pa]
    | none => h
  h.finish c e r.status r.detail r.flags

/-- VEC_INSTR_COMPLETE (R124, R139): the instruction has finished its elements; a staged destination is first written back home (R208). -/
def effVecInstrComplete (c i : Nat) (h : Hw) : Hw :=
  match h.working? c i with
  | some e =>
    if !(insIsVec e.raw && e.ph == .issued && h.flag F.SPAD_CFG_ENABLE) then h
    else
      let e := h.undef e
      if e.res.vw.isEmpty then (h.resultWait noCache e.res.segs []).getD (h.vecEnd c e) else h.toWriteback c e
  | none => h

def execVecInstrComplete (c i : Nat) (s : State) : Host.Outcome State Fault Refusal := s.run (effVecInstrComplete c i)

end Sys2Proof.Machine
end

