-- ==== Sys2Proof/Machine/Dma.lean ====
section
/-!
DEFINITION. Machine/Dma.lean: MOVE and its chunks (R162, R276 to R279), staging copies and write-back (R206 to R211, R558), run-ahead
(R281 to R284).
-/

namespace Sys2Proof.Machine

/-! ### MOVE -/

/-- Elements of a chunk (R277). -/
def moveChunk (f : Fmt) : Nat :=
  match f with
  | .u32 => 16384
  | .bf16 | .fp16 | .stat16 | .u16 => 32768
  | _ => 65536

/-- Merge neighbouring ranges of a stream, in order. -/
def mergeStream : List (Nat × Nat) → List (Nat × Nat)
  | [] => []
  | (a, n) :: r =>
    match mergeStream r with
    | (b, m) :: r' => if a + n = b then (a, n + m) :: r' else (a, n) :: (b, m) :: r'
    | [] => [(a, n)]

/-- The bytes of elements lo to hi − 1 in logical order, as ranges of a stream: packed elements, or whole blocks with their scale bytes for
the blocks that start there (R277, R151). -/
def Desc.stream (d : Desc) (lo hi : Nat) : List (Nat × Nat) :=
  let idxs := (List.range (hi - lo)).map (fun i => unravel d.shape (lo + i))
  if d.fmt.isBlock then
    let firsts := idxs.filter (fun x => x.getD d.blockAxis 0 % 32 = 0)
    mergeStream (firsts.map (fun x => (d.addr + d.bitOff x / 8, d.fmt.unitBytes))) ++
      mergeStream (firsts.map (fun x => (d.scaleAddr + d.blockNum x, 1)))
  else mergeStream (idxs.map (fun x => (d.addr + d.bitOff x / 8, d.fmt.width / 8)))

/-- Whether a MOVE's descriptors fit (R162, R277): valid, equal FMT and shape, footprints apart. Blocks lie along one axis in both (log
entry 24). -/
def moveOk (e : Ent) : Bool :=
  (insOpnds e.raw).all (opndOk e.descs) &&
  match descIn e.descs (bitsOf e.raw 122 107), descIn e.descs (bitsOf e.raw 106 91) with
  | some d, some s =>
    d.fmt = s.fmt && d.shape = s.shape && d.rank = s.rank && (!d.fmt.isBlock || d.blockAxis = s.blockAxis) &&
    !overlaps (hull d.ranges) (hull s.ranges)
  | _, _ => false

/-- Whether a write-back in a Panel waits for a job slot, which it takes before a MOVE does (R276). -/
def Hw.seatWaits (h : Hw) (p : Nat) : Bool :=
  h.shut.ctxs.any (fun c => c.2.window.any (fun e =>
    e.ph == .writeback && panelOfEngine (e.engine.getD 0) == p && (h.jobEngine 2 c.1 e.index none).isNone))

/-- Whether a DMA engine has room for a MOVE: fewer than 4 active and 8 parked jobs, and no write-back that goes first (R276). -/
def Hw.moveRoom (h : Hw) (d : Nat) : Bool :=
  (h.activeJobs d).length < 4 && ((h.jobsOn d).filter h.jobParked).length < 8 && !h.seatWaits (d / 8)

/-- The job of a MOVE, from its cursor on (R279); `cs` is its chunk's elements. -/
def moveJob (c : Nat) (e : Ent) (src dst cs : Nat) : Job :=
  { slot := 0, kind := 0, ctx := c, index := e.index, src := src, dst := dst, cursor := e.cursor, parked := false
    doneChunks := List.range (e.cursor / cs) }

/-- MOVE (R162, R276, R277): DMA engine d takes its best candidate as a job; one that a preemption stopped goes on from its cursor. -/
def effMove (d : Nat) (h : Hw) : Hw :=
  if !(d < 32 && h.domOn (domPANEL (d / 8))) then h
  else
    match h.best (256 + d) with
    | none => h
    | some k =>
      let e := k.e
      if !moveOk e then h.finish k.c e stInvalidDescriptor 0 {}
      else
        if !h.moveRoom d || (e.reads ++ e.writes).any (fun g => h.objBusy g.1 g.2) then h
        else
          match descIn e.descs (bitsOf e.raw 122 107), descIn e.descs (bitsOf e.raw 106 91) with
          | some dst, some src => ((h.jobAdd d (moveJob k.c e src.addr dst.addr (moveChunk src.fmt))).updEnt k.c e.index (fun e => { e with ph := .issued })).touch e
          | _, _ => h

def execMove (d : Nat) (s : State) : Host.Outcome State Fault Refusal := s.run (effMove d)

/-- Read a stream of ranges; `ext` supplies what peers and the host return. -/
def Hw.readStream (h : Hw) (cache : Nat) : List (Nat × Nat) → Bytes → Except XFault (Hw × Bytes × Bool)
  | [], _ => .ok (h, [], false)
  | (a, n) :: r, ext =>
    match h.xlateRange cache .read a n with
    | .error x => .error x
    | .ok l =>
      let remote := (l.map (fun t => match t.1 with
        | .loc _ => 0
        | _ => t.2)).foldl (· + ·) 0
      let (h, bs, p) := Hw.readParts (h.noteRange cache a n) l ext
      (Hw.readStream h cache r (ext.drop remote)).map (fun o => (o.1, bs ++ o.2.1, p || o.2.2))

/-- Write a stream of ranges. Nothing is written unless every range translates. -/
def Hw.writeStream (h : Hw) (cache : Nat) : List (Nat × Nat) → Bytes → Except XFault Hw
  | [], _ => .ok h
  | (a, n) :: r, bs =>
    match h.xlateRange cache .write a n with
    | .error x => .error x
    | .ok l =>
      match Hw.writeStream (h.noteRange cache a n) cache r (bs.drop n) with
      | .error x => .error x
      | .ok h => .ok ((segsOf l (bs.take n)).foldl Hw.writeTarget h)

/-- Change the job of an instruction. -/
def Hw.updJob (h : Hw) (d c i : Nat) (f : Job → Job) : Hw :=
  h.updJobs d (fun js => js.map (fun j => if j.kind = 0 && j.ctx = c && j.index = i then f j else j))

/-- Remove the job of an instruction. -/
def Hw.dropJob (h : Hw) (d c i : Nat) : Hw := h.updJobs d (fun js => js.filter (fun j => !(j.kind = 0 && j.ctx = c && j.index = i)))

/-- Whether one of some virtual ranges lies in scratchpad while its ports are off, so that an access waits (R229). -/
def Hw.spadOff (h : Hw) (cache : Nat) (acc : Acc) (rs : List (Nat × Nat)) : Bool :=
  !h.flag F.SPAD_CFG_ENABLE && rs.any (fun r => match h.xlateRange cache acc r.1 r.2 with
    | .ok l => l.any (fun t => match t.1 with
      | .loc pa => !inHbm pa
      | _ => false)
    | .error _ => false)

/-- Chunks of a job that must be in flight or done for chunk k to be in flight, less those done: chunks issue in ascending order (R277). -/
def Job.flying (j : Job) (k : Nat) : Nat := j.doneChunks.foldl (fun m x => max m (x + 1)) k - j.doneChunks.length

/-- The first n bytes of a stream. -/
def takeStream : Nat → List (Nat × Nat) → List (Nat × Nat)
  | _, [] => []
  | 0, _ => []
  | n, (a, m) :: r => if n ≤ m then [(a, n)] else (a, m) :: takeStream (n - m) r

/-- The part of a MOVE's source from an element on that run-ahead may read, chunk by chunk: of its first 256 KiB (R282). -/
def Desc.aheadStream (s : Desc) (lo : Nat) : List (Nat × Nat) :=
  let cs := moveChunk s.fmt
  let upTo (hi : Nat) : List (Nat × Nat) := ((List.range ((hi + cs - 1) / cs)).map (fun k => s.stream (k * cs) (min hi (k * cs + cs)))).flatten
  let gone := (upTo (min lo s.count)).foldl (fun n r => n + r.2) 0
  mergeStream (takeStream (0x40000 - gone) (((List.range 8).map (fun k => s.stream (min s.count (lo + k * cs)) (min s.count (lo + k * cs + cs)))).flatten))

/-- The local physical ranges that virtual ranges are read from, merged in order. -/
def Hw.localRanges (h : Hw) (cache : Nat) (rs : List (Nat × Nat)) : List (Nat × Nat) :=
  mergeStream ((rs.map (fun g => match h.xlateRange cache .read g.1 g.2 with
    | .ok l => locals l
    | .error _ => [])).flatten)

/-- The windows of a MOVE whose bytes it has all consumed are released; `rest` is the run-ahead part it has not written yet (R285). -/
def Hw.moveConsumed (h : Hw) (d c i : Nat) (rest : List (Nat × Nat)) : Hw :=
  if !h.xl.wins.any (fun w => w.ctx = c && w.index = i) then h
  else
    let live := h.localRanges (8 + d) rest
    { h with xl := { h.xl with wins := h.xl.wins.filter (fun w => !(w.ctx = c && w.index = i) || live.any (fun g => g.1 < w.hi && w.lo < g.1 + g.2)) } }

/-- The lowest chunk not yet written (R279). -/
def lowestUndone (done : List Nat) : Nat := ((List.range (done.length + 1)).find? (fun k => !done.contains k)).getD 0

/-- DMA_CHUNK_DONE (R277 to R279, R286): a chunk of a MOVE is written; the cursor advances; the last chunk completes the instruction. An
access that faults leaves everything as it is, until its fault is posted (PAGE_WALK_DONE). -/
def effDmaChunkDone (c i k : Nat) (ext : Bytes) (h : Hw) : Hw :=
  match h.ent? c i with
  | none => h
  | some e =>
    let d := e.engine.getD 256 - 256
    match (h.jobsOn d).find? (fun j => j.kind = 0 && j.ctx = c && j.index = i && !j.parked),
          descIn e.descs (bitsOf e.raw 122 107), descIn e.descs (bitsOf e.raw 106 91) with
    | some j, some dst, some src =>
      let cs := moveChunk src.fmt
      let n := src.count
      let total := (n + cs - 1) / cs
      let others := ((h.activeJobs d).filter (fun y => y.kind = 0 && y.slot ≠ j.slot)).foldl (fun n y => n + y.flying 0) 0
      let lo := k * cs
      let hi := min n (lo + cs)
      if !(h.canReachAll (8 + d) .read (src.stream lo hi) && h.canReachAll (8 + d) .write (dst.stream lo hi) && insOpc e.raw = 6 && e.ph == .issued && e.flt.isNone && k < total && !j.doneChunks.contains k && others + j.flying (k + 1) ≤ 16)
          || h.spadOff (8 + d) .read (src.stream lo hi) || h.spadOff (8 + d) .write (dst.stream lo hi) then h
      else
        match h.staleAct c e with
        | some h => h
        | none =>
          match h.readStream (8 + d) (src.stream lo hi) ext with
          | .error _ => h
          | .ok (h1, bs, poison) =>
            if poison then ((h1.dropJob d c i).dropWins c i (fun _ => true)).finish c e stPoisoned 0 {}
            else
              match h.resultWait (8 + d) [] (dst.stream lo hi), h1.writeStream (8 + d) (dst.stream lo hi) bs with
              | some h, _ => h
              | none, .error _ => h
              | none, .ok h =>
                let h := (h.inc (F.DMA_BYTES_RD d) bs.length).inc (F.DMA_BYTES_WR d) bs.length
                let done := insNat j.doneChunks k
                let cur := min n (lowestUndone done * cs)
                let h := h.updJob d c i (fun j => { j with doneChunks := done, cursor := cur })
                let h := h.updEnt c i (fun e => { e with cursor := cur })
                let h := h.moveConsumed d c i (src.aheadStream cur)
                if done.length = total then (h.dropJob d c i).finish c e stOK 0 {} else h
    | _, _, _ => h

def execDmaChunkDone (c i k : Nat) (ext : Bytes) (s : State) : Host.Outcome State Fault Refusal := s.run (effDmaChunkDone c i k ext)

/-! ### Staging -/

/-- All copies in a Panel's reserve. -/
def Hw.copiesIn (h : Hw) (p : Nat) : List Copy :=
  (h.shut.ctxs.map (fun c => (c.2.window.map (fun e => e.copies.filter (fun k => k.panel = p))).flatten)).flatten

/-- Bytes of a Panel's reserve in use (R558). -/
def Hw.stageUsed (h : Hw) (p : Nat) : Nat := (h.copiesIn p).foldl (fun n k => n + k.bytes) 0

/-- Bytes of it in use by run-ahead copies. -/
def Hw.stageAhead (h : Hw) (p : Nat) : Nat := ((h.copiesIn p).filter (·.ahead)).foldl (fun n k => n + k.bytes) 0

/-- Room that the copy of a whole region takes (R207, R210). -/
def Hw.wholeRoom (h : Hw) (p : Nat) (e : Ent) (r : Region) : Nat :=
  if h.needsRepitch p e r then (mmaTile (mmaF e.raw) r.d (r.o % 16)).2.1 * raisePitch r.d.pitch else r.ranges.foldl (fun n g => n + (g.2 - g.1)) 0

/-- What an instruction is run in parts of, and the multiple that each part but the last takes (R209): products of an MMA, rows of PLEAT
and UNPLEAT, elements of the others; a RED runs whole. -/
def Ent.partUnits (e : Ent) : Nat × Nat :=
  let dims (o : Nat) : List Nat := (((insOpnds e.raw)[o]?).bind (fun x => (descIn e.descs x.desc).map (·.shape))).getD []
  match insOpc e.raw with
  | 0 => ((mmaF e.raw).k, 16)
  | 3 => (1, 1)
  | 4 => ((dims 0).headD 1, 1)
  | 5 => ((dims 1).headD 1, 1)
  | _ => ((dims 0).foldl (· * ·) 1, 65536)

/-- Whether a part takes only its share of a region: not of the C or D of an MMA (R209). -/
def Ent.shares (e : Ent) (r : Region) : Bool := !(insOpc e.raw = 0 && 2 ≤ r.o % 16)

/-- Units of the largest part whose staged footprint fits in half the reserve (R209). -/
def Hw.partSize (h : Hw) (p : Nat) (e : Ent) : Nat :=
  let away := e.regions.filter (fun r => !h.inPlace p e r)
  let sum (l : List Region) : Nat := l.foldl (fun n r => n + h.wholeRoom p e r) 0
  let cut := sum (away.filter e.shares)
  let keep := sum (away.filter (fun r => !e.shares r))
  let half := h.stageSize / 2
  if cut + keep ≤ half then e.partUnits.1
  else min e.partUnits.1 (max e.partUnits.2 ((half - keep) * e.partUnits.1 / max 1 cut / e.partUnits.2 * e.partUnits.2))

/-- Room that the copy of a region holds: that of the instruction's largest part (R209; log entry 25). -/
def Hw.copyBytes (h : Hw) (p : Nat) (e : Ent) (r : Region) : Nat :=
  let b := h.wholeRoom p e r
  min (h.stageSize / 2) (if e.shares r then b * h.partSize p e / max 1 e.partUnits.1 else b)

/-- Ranges given by their ends, as ranges given by their lengths. -/
def lens (l : List (Nat × Nat)) : List (Nat × Nat) := l.map (fun g => (g.1, g.2 - g.1))

/-- The windows of a prefetch of virtual ranges: its physically contiguous local ranges, 64-byte granular (R284). -/
def Hw.windowRanges (h : Hw) (cache : Nat) (rs : List (Nat × Nat)) : List (Nat × Nat) :=
  (h.localRanges cache rs).map (fun g => (g.1 / 64 * 64, (g.1 + g.2 + 63) / 64 * 64))

/-- Take the windows of a prefetch of an operand (R284). -/
def Hw.takeWins (h : Hw) (p c i o marks : Nat) (ws : List (Nat × Nat)) : Hw :=
  { h with xl := { h.xl with wins := h.xl.wins ++ ws.map (fun (g : Nat × Nat) => (⟨p, g.1, g.2, c, i, o, false, marks⟩ : Win)) } }

/-- Discard the copies of an instruction that satisfy p, with their windows and jobs. -/
def Hw.dropCopies (h : Hw) (c i : Nat) (p : Nat → Bool) : Hw :=
  (h.dropWins c i p).updEnt c i (fun e => { e with copies := e.copies.filter (fun y => !p y.opnd) })

/-- Discard the run-ahead copies of instructions that have not issued, most recent first, until the room suffices (R558). -/
def Hw.makeRoom : Nat → Nat → Nat → Hw → Hw
  | 0, _, _, h => h
  | f + 1, p, need, h =>
    if h.stageUsed p + need ≤ h.stageSize then h
    else
      let ks : List (Nat × Nat × Copy) := (h.shut.ctxs.map (fun c => (c.2.window.map (fun e =>
        if e.ph == .held then (e.copies.filter (fun k => k.panel = p && k.ahead)).map (fun k => (c.1, e.index, k)) else [])).flatten)).flatten
      match ks.foldl (fun (b : Option (Nat × Nat × Copy)) k => match b with
        | none => some k
        | some x => if x.2.2.seq < k.2.2.seq then some k else some x) none with
      | none => h
      | some (c, i, k) =>
        Hw.makeRoom f p need (h.dropCopies c i (· = k.opnd))

/-- Where a copy lies: an aligned place of the reserve, which the model leaves open (R207, R210; log entry 106). -/
def Hw.copyBase (h : Hw) (p bytes : Nat) (e : Ent) (r : Region) : Nat :=
  let al := if h.needsRepitch p e r then 64 * raisePitch r.d.pitch else 64
  let top := spadBase + (p + 1) * panelSize
  let lo := alignUp (top - h.stageSize) al
  lo + al * (h.free 51 % ((top - bytes - lo) / al + 1))

/-- Start a copy of a region on DMA engine d: room, windows and a job are taken (R207, R558, R284, R276). `cut` is where a run-ahead read
stops, or 0. -/
def Hw.copyStart (h : Hw) (d c p : Nat) (e : Ent) (r : Region) (ahead : Bool) (cut : Nat) : Hw :=
  let bytes := h.copyBytes p e r
  let src := if cut = 0 then lens r.ranges else takeStream cut (lens r.ranges)
  let ws := if r.rd then h.windowRanges (8 + d) src else []
  let k : Copy := { opnd := r.o, panel := p, lo := (hull ws).1, hi := (hull ws).2, bytes := bytes, dest := r.wr, ahead := ahead, done := false
                    repitch := h.needsRepitch p e r, data := [], bad := [], cut := cut, base := h.copyBase p bytes e r, seq := h.shut.copySeq }
  let j : Job := { slot := 0, kind := 1, ctx := c, index := e.index, src := (hull r.ranges).1, dst := k.base, cursor := 0, parked := false
                   doneChunks := [], opnd := r.o }
  let h := h.takeWins p c e.index r.o (e.staleMarks.getD r.o 0) ws
  let h := { h with shut := { h.shut with copySeq := h.shut.copySeq + 1 } }
  (h.updEnt c e.index (fun e => { e with copies := e.copies ++ [k] })).jobAdd d j

/-- Staleness windows in use on a Panel (R284). -/
def Hw.winsUsed (h : Hw) (p : Nat) : Nat := (h.xl.wins.filter (fun w => w.panel = p)).length

/-- Whether staging can run (R559). -/
def Hw.stagingOn (h : Hw) : Bool := h.xlOn && h.flag F.SPAD_CFG_ENABLE

/-- Whether a region's ranges all translate as the instruction uses them, and no object moves there. -/
def Hw.regionOk (h : Hw) (p : Nat) (r : Region) : Bool :=
  r.ranges.all (fun g => r.accs.all (fun acc => (h.xlateRange p acc g.1 (g.2 - g.1)).isOk) && !h.objBusy g.1 g.2)

/-- Whether a candidate is held by the residency test alone (R558). -/
def Hw.lacksOnlyRegions (h : Hw) (eng : Nat) (k : Cand) : Bool := if eng < 192 then h.mmaFree eng k else h.vecFree (eng - 192) k

/-- STAGING_COPY_START (R207, R558): a demand copy of operand o of the instruction that is its engine's best candidate and is held by the
residency test alone. A run-ahead copy that stopped short is made anew (R283). -/
def effStagingCopyStart (c i o : Nat) (h : Hw) : Hw :=
  match h.ent? c i with
  | none => h
  | some e =>
    match e.engine, e.regions.find? (·.o == o) with
    | some eng, some r =>
      let p := panelOfEngine eng
      let isBest := eng < 256 && match h.best eng with
        | some k => k.c = c && k.e.index = i && h.lacksOnlyRegions eng k
        | none => false
      if !(isBest && h.stagingOn && e.copies.all (fun k => k.opnd ≠ o || k.cut ≠ 0) && !h.resident p e r && h.regionOk p r) then h
      else
        let h := h.dropCopies c i (· = o)
        let need := h.copyBytes p e r
        let h := h.makeRoom (h.copiesIn p).length p need
        match h.seat (dmaOf p) with
        | none => h
        | some d =>
          if h.stageSize < h.stageUsed p + need || 256 < h.winsUsed p + (if r.rd then (h.windowRanges (8 + d) (lens r.ranges)).length else 0) then h
          else h.copyStart d c p e r false 0
    | _, _ => h

def execStagingCopyStart (c i o : Nat) (s : State) : Host.Outcome State Fault Refusal := s.run (effStagingCopyStart c i o)

/-- A run-ahead copy of operand o stops before the page of an address: it keeps what lies before it, or is dropped where that is nothing
(R283). -/
def Hw.aheadStop (h : Hw) (c i o va : Nat) : Hw :=
  match h.ent? c i with
  | none => h
  | some e =>
    match e.copies.find? (fun k => k.opnd = o && k.ahead && !k.done), e.regions.find? (·.o == o) with
    | some k, some r =>
      let n := bytesBefore (max (va / 0x10000 * 0x10000) ((r.ranges.find? (fun g => g.1 ≤ va && va < g.2)).map (·.1) |>.getD va)) r.ranges
      let h := h.inc (F.RA_DROPPED k.panel)
      if n = 0 then h.dropCopies c i (· = o)
      else h.updEnt c i (fun e => { e with copies := e.copies.map (fun y => if y.opnd = o then { y with cut := if y.cut = 0 then n else min y.cut n } else y) })
    | _, _ => h

/-- The pages of a range that a run-ahead read may read, from its start on: local, readable, without NRA (R282, R283). -/
def Hw.aheadParts (h : Hw) (cache a n : Nat) : List (Nat × Nat) :=
  (pageParts a n).takeWhile (fun k => match h.translate cache k.1 .read with
    | .ok (.loc _) nra => !nra
    | _ => false)

/-- The first address of a stream that a run-ahead read may not read (R283). -/
def Hw.aheadBar (h : Hw) (cache : Nat) (rs : List (Nat × Nat)) : Option Nat :=
  rs.findSome? (fun g =>
    let got := (h.aheadParts cache g.1 g.2).foldl (fun m k => m + k.2) 0
    if got < g.2 then some (g.1 + got) else none)

/-- STAGING_COPY_DONE (R207, R286): the copy of operand o is complete and holds the bytes of its source as they are read, with their
poison, unless its window is stale. One that still runs ahead stops at a page it may not read. `ext` holds what peers or the host returned. -/
def effStagingCopyDone (c i o : Nat) (ext : Bytes) (h : Hw) : Hw :=
  match h.ent? c i with
  | none => h
  | some e =>
    match e.copies.find? (fun k => k.opnd = o && !k.done), e.regions.find? (·.o == o), h.jobEngine 1 c i (some o) with
    | some k, some r, some d =>
      let early := k.ahead && !((h.ctx? c).map (fun x => h.ready x e)).getD false
      let bar := if early then h.aheadBar (8 + d) (if k.cut = 0 then lens r.ranges else takeStream k.cut (lens r.ranges)) else none
      if !(h.stagingOn && e.flt.isNone) then h
      else if bar.isSome then h.aheadStop c i o (bar.getD 0)
      else if h.xl.wins.any (fun w => w.ctx = c && w.index = i && w.opnd = o && w.stale) then (h.staleAct c e).getD h
      else
        let src := if !r.rd then [] else if k.cut = 0 then lens r.ranges else takeStream k.cut (lens r.ranges)
        if src.any (fun g => !(h.xlateRange (8 + d) .read g.1 g.2).isOk) then h
        else
          let (h, v, bad) := h.gatherHome (8 + d) (src.map (fun g => (g.1, g.1 + g.2))) ext
          let bytes := (v.map (·.2)).flatten
          let h := h.inc (F.SPAD_STAGE_BYTES k.panel) bytes.length
          let h := (h.inc (F.DMA_BYTES_RD d) bytes.length).inc (F.DMA_BYTES_WR d) bytes.length
          h.updEnt c i (fun e => { e with copies := e.copies.map (fun y => if y.opnd = o then { y with done := true, data := bytes, bad := bad } else y) })
    | _, _, _ => h

def execStagingCopyDone (c i o : Nat) (ext : Bytes) (s : State) : Host.Outcome State Fault Refusal := s.run (effStagingCopyDone c i o ext)

/-- Write virtual bytes in order; nothing unless every range translates. -/
def Hw.writeVirt (h : Hw) (cache : Nat) (ws : List (Nat × Bytes)) : Except XFault Hw :=
  h.writeStream cache (ws.map (fun w => (w.1, w.2.length))) ((ws.map (·.2)).flatten)

/-- STAGED_WRITEBACK (R208, R276): the staged destinations of an executed instruction are written to their homes by a job of the Panel's DMA
engines, and it completes. -/
def effStagedWriteback (c i : Nat) (h : Hw) : Hw :=
  match h.working? c i with
  | some e =>
    if !(e.ph == .writeback && e.flt.isNone && h.stagingOn) then h
    else
      let p := panelOfEngine (e.engine.getD 0)
      let h := h.writebackJob c e
      match h.jobEngine 2 c i none with
      | none => h
      | some d =>
        match h.resultWait (8 + d) e.res.segs (e.res.vw.map (fun w => (w.1, w.2.length))), h.writeVirt (8 + d) e.res.vw with
        | some h, _ => h
        | none, .error _ => h
        | none, .ok h =>
          let n := e.res.vw.foldl (fun n w => n + w.2.length) 0
          let h := ((h.inc (F.SPAD_STAGE_BYTES p) n).inc (F.DMA_BYTES_RD d) n).inc (F.DMA_BYTES_WR d) n
          if insOpc e.raw = 0 then h.mmaEnd c e else h.vecEnd c e
  | none => h

def execStagedWriteback (c i : Nat) (s : State) : Host.Outcome State Fault Refusal := s.run (effStagedWriteback c i)

/-- Bytes of a stream before the first page that a run-ahead read may not read. -/
def Hw.aheadLen (h : Hw) (cache : Nat) : List (Nat × Nat) → Nat
  | [] => 0
  | (a, n) :: r =>
    let got := (h.aheadParts cache a n).foldl (fun m k => m + k.2) 0
    if got = n then n + h.aheadLen cache r else got

/-- Bytes that DMA engine d holds of what it read ahead for MOVEs (R282). -/
def Hw.aheadHeld (h : Hw) (d : Nat) : Nat :=
  (h.xl.wins.filter (fun w => ((h.ent? w.ctx w.index).map (fun e => insOpc e.raw = 6 && e.engine = some (256 + d))).getD false)).foldl (fun n w => n + (w.hi - w.lo)) 0

/-- Run-ahead of a MOVE on DMA engine d: the first 256 KiB of its source, as far as the engine's buffer and the pages allow (R282, R283). -/
def Hw.moveAhead (h : Hw) (d c : Nat) (e : Ent) (s : Desc) : Hw :=
  let p := d / 8
  let all := takeStream (0x40000 - h.aheadHeld d) (s.aheadStream 0)
  let got := takeStream (h.aheadLen (8 + d) all) all
  let ws := h.windowRanges (8 + d) got
  if h.xl.wins.any (fun w => w.ctx = c && w.index = e.index) || all.isEmpty then h
  else
    let h := if h.aheadLen (8 + d) all < all.foldl (fun n g => n + g.2) 0 then h.inc (F.RA_DROPPED p) else h
    if got.isEmpty || 256 < h.winsUsed p + ws.length then h
    else (h.takeWins p c e.index 1 (e.staleMarks.getD 1 0) ws).inc (F.RA_BYTES p) (got.foldl (fun n g => n + g.2) 0)

/-- Run-ahead of a source region of an array or vector instruction: a staging copy, as far as the pages allow (R282, R283, R558). -/
def Hw.copyAhead (h : Hw) (p c : Nat) (e : Ent) (r : Region) : Hw :=
  let need := h.copyBytes p e r
  let len := h.aheadLen p (lens r.ranges)
  let all := r.ranges.foldl (fun n g => n + (g.2 - g.1)) 0
  if e.copies.any (fun k => k.opnd = r.o) || h.resident p e r then h
  else
    let h := if len < all then h.inc (F.RA_DROPPED p) else h
    match h.seat (dmaOf p) with
    | none => h
    | some d =>
      if len = 0 || h.stageSize < h.stageUsed p + need || h.stageSize / 2 < h.stageAhead p + need ||
          256 < h.winsUsed p + (h.windowRanges (8 + d) (takeStream len (lens r.ranges))).length || r.ranges.any (fun g => h.objBusy g.1 g.2) then h
      else (h.copyStart d c p e r true (if len < all then len else 0)).inc (F.RA_BYTES p) len

/-- RUN_AHEAD_START (R281 to R284, R558): a run-ahead read of source operand o: a staging copy of an array or vector instruction, or the
first 256 KiB of a MOVE's source. A page that would fault stops it there, silently. -/
def effRunAheadStart (c i o : Nat) (h : Hw) : Hw :=
  match h.ctx? c, h.ent? c i with
  | some x, some e =>
    if !(h.stagingOn && h.flag F.RA_EN && x.st == .running && e.ph == .held && e.flt.isNone && !h.ready x e) then h
    else if insOpc e.raw = 6 then
      match e.engine, descIn e.descs (bitsOf e.raw 106 91) with
      | some eng, some s => if o = 1 then h.moveAhead (eng - 256) c e s else h
      | _, _ => h
    else
      match e.engine, e.regions.find? (fun r => r.o = o && r.rd && !r.wr) with
      | some eng, some r => if eng < 256 then h.copyAhead (panelOfEngine eng) c e r else h
      | _, _ => h
  | _, _ => h

def execRunAheadStart (c i o : Nat) (s : State) : Host.Outcome State Fault Refusal := s.run (effRunAheadStart c i o)

end Sys2Proof.Machine
end

