-- ==== Sys2Proof/Machine/Stat.lean ====
section
/-!
DEFINITION. Machine/Stat.lean: STAT, the Tape unit's instructions (R165, R172).
-/

namespace Sys2Proof.Machine

/-- The tensor of QUERY and LOAD (R165): class AUX, format U16, at least 32 elements. -/
def statDs (e : Ent) : Option Desc :=
  match insOpnds e.raw with
  | o :: _ => if opndOk e.descs o then (descIn e.descs o.desc).bind (fun d => if d.cls = clsAUX && d.fmt = .u16 && 32 ≤ d.count then some d else none) else none
  | [] => none

/-- A STAT may start: it is ready and its class, and the Tape unit reaches the record (R172, R289). -/
def Hw.statReady (h : Hw) (x : Ctx) (e : Ent) (sfn : Nat) : Bool :=
  insOpc e.raw = 9 && bitsOf e.raw 122 120 = sfn && h.ready x e && h.tapeReach (bitsOf e.raw 119 104)

/-- SLOT and IMM of a STAT. -/
def statSlot (e : Ent) : Nat := bitsOf e.raw 119 104
def statImm (e : Ent) : Nat := bitsOf e.raw 31 0

/-- Change fields of the record; a value R69 forbids fails and changes nothing (R165). -/
def Hw.statSet (h : Hw) (e : Ent) (bad : Bool) (f : TapeRec → TapeRec) : Hw × Nat :=
  if bad then (h, stBadTapeValue) else (h.tapeSoftWrite (statSlot e) (f (h.tapeRec (statSlot e))).bytes, stOK)

/-- Run a STAT of a function on a record that is reached: the hardware after it, and its status. A LOAD of poisoned bytes ends with
POISONED_OPERAND and leaves the record (R165; log entry 149). -/
def Hw.statRun (h : Hw) (e : Ent) : Nat → Hw × Nat
  | 0 =>
    let h := h.tapePut (statSlot e) (TapeRec.fresh (bitsOf e.raw 87 85 = clsGRAD)).bytes
    (h, stOK)
  | 1 => match statDs e with
    | none => (h, stInvalidDescriptor)
    | some d =>
      match h.writeStream noCache (d.stream 0 32) (h.tapeBytes (statSlot e)) with
      | .ok h => (h, stOK)
      | .error _ => (h, stOK)
  | 2 => h.statSet e (statImm e % 256 = 0xFF) (fun r => { r with scaleE := statImm e % 256 })
  | 3 => h.statSet e (bitsOf (statImm e) 3 0 ≠ 2 && bitsOf (statImm e) 3 0 ≠ 3) (fun r => { r with watchEn := bitOf (statImm e) 12, margin := bitsOf (statImm e) 11 8, amaxLen := bitsOf (statImm e) 7 4, scaleFmt := bitsOf (statImm e) 3 0 })
  | 4 => h.statSet e (bitsOf (statImm e) 31 16 = 0) (fun r => { r with starveN := bitsOf (statImm e) 31 16, ufThresh := bitsOf (statImm e) 15 0 })
  | _ => match statDs e with
    | none => (h, stInvalidDescriptor)
    | some d =>
      match h.readStream noCache (d.stream 0 32) [] with
      | .error _ => (h, stOK)
      | .ok (h, bs, poison) =>
        if poison then (h, stPoisoned)
        else if !tapeBytesOk bs then (h, stBadTapeValue) else (h.tapeSoftWrite (statSlot e) bs, stOK)

/-- A STAT of any function clears the mark that stops ABSENT events of its slot (R385). -/
def Hw.absClear (h : Hw) (slot : Nat) : Hw := { h with train := { h.train with absMark := h.train.absMark.filter (· ≠ slot) } }

/-- Whether the tensor that a QUERY writes or a LOAD reads translates; its faults are posted first (PAGE_WALK_DONE). -/
def Hw.statAux (h : Hw) (e : Ent) (acc : Acc) : Bool :=
  match statDs e with
  | none => true
  | some d => (d.stream 0 32).all (fun g => (h.xlateRange noCache acc g.1 g.2).isOk)

/-- Run and complete a STAT (R165); one whose tensor lies in an object that moves waits (R224). -/
def Hw.statDo (h : Hw) (c i sfn : Nat) : Hw :=
  match h.ctx? c, h.ent? c i with
  | some x, some e =>
    if h.statReady x e sfn && (sfn ≠ 1 || h.statAux e .write) && (sfn ≠ 5 || h.statAux e .read) && !(e.reads ++ e.writes).any (fun g => h.objBusy g.1 g.2) then
      let (h, st) := (h.absClear (statSlot e)).statRun e sfn
      (h.touch e).finish c e st 0 {}
    else h
  | _, _ => h

/-- STAT REGISTER (R165, R69): the reset values; WATCH_EN for class GRAD. -/
def effStatRegister (c i : Nat) (h : Hw) : Hw := h.statDo c i 0
def execStatRegister (c i : Nat) (s : State) : Host.Outcome State Fault Refusal := s.run (effStatRegister c i)

/-- STAT QUERY (R165): the record goes to the first 32 elements of the AUX tensor. -/
def effStatQuery (c i : Nat) (h : Hw) : Hw := h.statDo c i 1
def execStatQuery (c i : Nat) (s : State) : Host.Outcome State Fault Refusal := s.run (effStatQuery c i)

/-- STAT SETSCALE (R165): SCALE_E. -/
def effStatSetscale (c i : Nat) (h : Hw) : Hw := h.statDo c i 2
def execStatSetscale (c i : Nat) (s : State) : Host.Outcome State Fault Refusal := s.run (effStatSetscale c i)

/-- STAT SETCTL (R165, R387): WATCH_EN, MARGIN, AMAX_LEN, SCALE_FMT. -/
def effStatSetctl (c i : Nat) (h : Hw) : Hw := h.statDo c i 3
def execStatSetctl (c i : Nat) (s : State) : Host.Outcome State Fault Refusal := s.run (effStatSetctl c i)

/-- STAT SETWATCH (R165, R387): STARVE_N, UF_THRESH. -/
def effStatSetwatch (c i : Nat) (h : Hw) : Hw := h.statDo c i 4
def execStatSetwatch (c i : Nat) (s : State) : Host.Outcome State Fault Refusal := s.run (effStatSetwatch c i)

/-- STAT LOAD (R165, R387): the whole record from the first 32 elements of the AUX tensor. -/
def effStatLoad (c i : Nat) (h : Hw) : Hw := h.statDo c i 5
def execStatLoad (c i : Nat) (s : State) : Host.Outcome State Fault Refusal := s.run (effStatLoad c i)

end Sys2Proof.Machine
end

