-- ==== Sys2Proof/Machine/Sync.lean ====
section
/-!
DEFINITION. Machine/Sync.lean: tokens, SIGNAL, WAIT and FENCE (R173 to R176).
-/

namespace Sys2Proof.Machine

/-- Whether every earlier instruction of the context in a class set in CMASK has completed (R173, R176). -/
def classesDone (x : Ctx) (e : Ent) (cmask : Nat) : Bool :=
  x.window.all (fun y => e.index ≤ y.index || !(match insClassBit y.raw with
    | some b => cmask.testBit b
    | none => false))

/-- Whether no earlier WAIT, FENCE or MARK holds an instruction (R147, R174). -/
def noHolder (x : Ctx) (e : Ent) : Bool := x.window.all (fun y => e.index ≤ y.index || !y.isHolder)

/-- Whether an instruction that the Shuttle runs itself may act: its context runs, nothing earlier holds it. -/
def Hw.syncReady (h : Hw) (x : Ctx) (e : Ent) : Bool := h.shutOn && x.st == .running && e.ph == .held && noHolder x e

/-- The token after a SIGNAL (R173). -/
def signalVal (e : Ent) (old : Nat) : Nat := if bitOf e.raw 122 then bitsOf e.raw 31 0 else (old + bitsOf e.raw 31 0) % 2 ^ 32

/-- SIGNAL (R173): earlier instructions of its classes have completed; the token takes ADD or SET. -/
def effSignal (c i : Nat) (h : Hw) : Hw :=
  match h.ctx? c, h.ent? c i with
  | some x, some e =>
    if insOpc e.raw = 0xA && h.syncReady x e && classesDone x e (bitsOf e.raw 109 105) then
      let t := bitsOf e.raw 121 110
      (h.set (F.TOKEN t) (signalVal e (h.get (F.TOKEN t)))).finish c e stOK 0 {}
    else h
  | _, _ => h

def execSignal (c i : Nat) (s : State) : Host.Outcome State Fault Refusal := s.run (effSignal c i)

/-- The condition of a WAIT on a token value (R174). -/
def waitHolds (e : Ent) (v : Nat) : Bool :=
  let val := bitsOf e.raw 31 0
  if bitOf e.raw 122 then v = val else (v + 2 ^ 32 - val) % 2 ^ 32 < 2 ^ 31

/-- WAIT (R174): its condition holds. -/
def effWait (c i : Nat) (h : Hw) : Hw :=
  match h.ctx? c, h.ent? c i with
  | some x, some e =>
    if insOpc e.raw = 0xB && h.syncReady x e && waitHolds e (h.get (F.TOKEN (bitsOf e.raw 121 110))) then h.finish c e stOK 0 {} else h
  | _, _ => h

def execWait (c i : Nat) (s : State) : Host.Outcome State Fault Refusal := s.run (effWait c i)

/-- WAIT_TIMEOUT (R174, R183): TMO microseconds have passed and the condition has not held. -/
def effWaitTimeout (c i : Nat) (h : Hw) : Hw :=
  match h.ctx? c, h.ent? c i with
  | some x, some e =>
    let v := h.get (F.TOKEN (bitsOf e.raw 121 110))
    if insOpc e.raw = 0xB && h.syncReady x e && bitsOf e.raw 109 94 ≠ 0 && !waitHolds e v then h.finish c e stWaitTimeout v {} else h
  | _, _ => h

def execWaitTimeout (c i : Nat) (s : State) : Host.Outcome State Fault Refusal := s.run (effWaitTimeout c i)

/-- Whether the writes that a SCOPE names have gone where they go (R176): none to host memory waits for D0, and every frame of a write to a
peer is acknowledged (log entry 157). -/
def Hw.scopeDone (h : Hw) (scope : Nat) : Bool :=
  (!scope.testBit 0 || h.pcie.wait.all (fun m => match m with
    | .hostWrite .. => false
    | _ => true)) &&
  (!scope.testBit 1 || h.peerWritesDone)

/-- FENCE (R176): earlier instructions of its classes have completed, and their writes have arrived as its SCOPE says. -/
def effFence (c i : Nat) (h : Hw) : Hw :=
  match h.ctx? c, h.ent? c i with
  | some x, some e =>
    if insOpc e.raw = 0xC && h.syncReady x e && classesDone x e (bitsOf e.raw 109 105) && h.scopeDone (bitsOf e.raw 121 120) then
      let h := if bitOf e.raw 122 then { h with shut := { h.shut with descCache := [] } } else h
      h.finish c e stOK 0 {}
    else h
  | _, _ => h

def execFence (c i : Nat) (s : State) : Host.Outcome State Fault Refusal := s.run (effFence c i)

/-- TOKEN_WRITE (R175): a host or firmware write of a TOKEN register. -/
def effTokenWrite (t v : Nat) (h : Hw) : Hw :=
  if h.domOn domYOKE && t < 4096 then h.set (F.TOKEN t) (v % 2 ^ 32) else h

def execTokenWrite (t v : Nat) (s : State) : Host.Outcome State Fault Refusal := s.run (effTokenWrite t v)

end Sys2Proof.Machine
end

