-- ==== Sys2Proof/Machine/Contexts.lean ====
section
/-!
DEFINITION. Machine/Contexts.lean: context blocks, preemption, save and restore, cancel, and the answer to a fault (R180, R193, R292,
R294 to R297).
-/

namespace Sys2Proof.Machine

/-! ### The context block -/

/-- STATE of a context (R193, R287). -/
def Hw.ctxState (h : Hw) (c : Nat) : Nat :=
  match h.ctx? c with
  | none => 0
  | some x =>
    match x.st with
    | .preempting => 4 | .preempted => 5 | .stopping => 6 | .recordPending => 7
    | .running => if x.fetchFlt.isSome || x.window.any (fun e => e.flt.isSome) then 3 else if x.window.any Ent.isHolder then 2 else 1

/-- The 32 bytes of context block c (R193). -/
def Hw.ctxBlock (h : Hw) (c : Nat) : Bytes :=
  match h.ctx? c with
  | none => List.replicate 32 0
  | some x =>
    natLE 4 (h.ctxState c * 2 ^ 28 + x.queue * 2 ^ 22 + x.staged.toNat * 2 ^ 21 + x.vstage * 2 ^ 18 + x.window.length * 2 ^ 12 + x.chains.length) ++
    natLE 4 x.userTag ++ natLE 4 x.pc ++ natLE 4 x.doneCnt ++ natLE 4 0 ++ natLE 4 x.step ++ natLE 4 (x.dir.toNat * 2 ^ 31 + x.mb) ++ natLE 4 0

/-! ### The answer to a fault -/

/-- A placeholder for the instruction whose fetch faulted. -/
def fetchEnt (pc : Nat) : Ent := { Ent.fresh pc 0 with descs := [descsRead] }

/-- Write open bytes where a cancelled write-back would have written (R292). -/
def Hw.undefWriteback (h : Hw) (c : Nat) (e : Ent) : Hw :=
  if e.ph == .writeback then
    e.res.vw.foldl (fun h w => match h.writeVirt (panelOfEngine (e.engine.getD 0)) [(w.1, h.fuzz true (w.1 + 8000 + c) w.2)] with
      | .ok h => h
      | .error _ => h) h
  else h

/-- Restart a unit from its restart point (R292). A MOVE whose engine has no active slot left waits for one at its cursor (R276, R279). -/
def Hw.unitRetry (h : Hw) : FltUnit → Hw
  | .fetch c => h.updCtx c (fun x => { x with fetchFlt := none })
  | .desc c i _ | .region c i _ | .staging c i _ | .writeback c i _ | .coll c i | .tape c i _ | .ahead c i _ => h.updEnt c i (fun e => { e with flt := none })
  | .move c i =>
    let d := h.entEngine c i - 256
    if (h.activeJobs d).length < 4 then (h.updEnt c i (fun e => { e with flt := none })).updJob d c i (fun j => { j with parked := false })
    else (h.updEnt c i (fun e => { e with flt := none, ph := .suspended })).dropJob d c i
  | _ => h

/-- Complete the instruction of a unit with FAULT_CANCELLED (R292). -/
def Hw.unitCancel (h : Hw) : FltUnit → Hw
  | .fetch c => match h.ctx? c with
    | some x => if x.st == .stopping || x.st == .recordPending then h else (h.updCtx c (fun x => { x with fetchFlt := none })).finish c (fetchEnt x.pc) stFaultCancelled 0 {}
    | none => h
  | .desc c i _ | .region c i _ | .staging c i _ | .writeback c i _ | .coll c i | .tape c i _ | .ahead c i _ | .move c i => match h.ent? c i with
    | none => h
    | some e =>
      let h := h.undefWriteback c e
      let h := if insOpc e.raw = 6 then h.dropJob (e.engine.getD 256 - 256) c i else h
      let h := if insOpc e.raw = 0 && e.ph != .held && (mmaF e.raw).fin then h.dropChain c (mmaF e.raw).tag else h
      let h := { h with topo := { h.topo with colls := h.topo.colls.filter (fun k => !(k.ctx = c && k.index = i)) } }
      h.finish c e stFaultCancelled 0 {}
  | _ => h

/-- Close an open fault (R292): RETRY restarts every unit parked on it, CANCEL completes their instructions. -/
def Hw.fltClose (h : Hw) (id : Nat) (retry : Bool) : Hw :=
  match h.xl.faults.find? id with
  | none => h
  | some f =>
    let h := { h with xl := { h.xl with faults := h.xl.faults.del id } }
    if retry then (f.unit :: f.joined).foldl Hw.unitRetry h
    else (f.unit :: f.joined).foldl Hw.unitCancel (h.inc F.FLT_CANCELLED)

/-- The context of an open fault is PREEMPTED, so that an answer is recorded and applied at RESUME (R297). -/
def Hw.fltPreempted (h : Hw) (f : Flt) : Option Nat :=
  f.ctx.bind (fun c => (h.ctx? c).bind (fun x => if x.st == .preempted then some c else none))

/-- Answer an open fault, or record the answer (R292, R297). -/
def Hw.fltAnswer (h : Hw) (id : Nat) (retry : Bool) : Hw :=
  match h.xl.faults.find? id with
  | none => h
  | some f =>
    match h.fltPreempted f with
    | some c => h.updCtx c (fun x => { x with recorded := x.recorded ++ [(id, retry)] })
    | none => h.fltClose id retry

/-! ### Preemption -/

/-- Base of a context's save slot (R295). -/
def Hw.saveSlot (h : Hw) (c : Nat) : Nat := h.get F.CSA_BASE * 0x10000 + c * 0x410000

/-- PREEMPT of a context (R180, R296 step 1). -/
def Hw.preempt (h : Hw) (c : Nat) : Hw :=
  match h.ctx? c with
  | some x =>
    if x.st == .running && h.get F.CSA_BASE ≠ 0 then h.updCtx c (fun x => { x with st := .preempting, io := 0, flags := { x.flags with preempted := true } }) else h
  | none => h

/-- CTX_PREEMPT (R180, R296). -/
def effCtxPreempt (c : Nat) (h : Hw) : Hw := if h.domOn domYOKE && c < 512 then (h.set (F.CTX_CTL c) 1).preempt c else h
def execCtxPreempt (c : Nat) (s : State) : Host.Outcome State Fault Refusal := s.run (effCtxPreempt c)

/-- Bytes of one wide value in an image (R295). -/
def Chain.width (k : Chain) : Nat := if k.fp24 then 3 else 4

/-- The image of a tag: its wide values, row-major (R295). -/
def Chain.image (k : Chain) : Bytes := (k.wide.map (natLE k.width)).flatten

/-- An entry of the tag table (R295). -/
def tagEntry (x : Ctx) (t : Nat) : Bytes :=
  match x.chains.find? (·.tag == t) with
  | some k => [1, BitVec.ofNat 8 (k.shape + (if k.fp24 then 4 else 0))] ++ List.replicate 6 0 ++ natLE 8 k.count
  | none => List.replicate 16 0

/-! ### The boundaries of R294 -/

/-- What a vector instruction computes between element or row lo and hi, from the scales that were in force as it issued. -/
def Hw.vecPart (h : Hw) (x : Ctx) (e : Ent) (hi : Nat) : VRes × List Nat :=
  let (h, vs, bad) := h.gather (panelOfEngine (e.engine.getD 0)) e e.regions
  let xin : VecIn := { h.vecIn x e vs bad with lo := e.part, scales := e.res.scales }
  (vecRun { xin with hi := hi } e.raw, vecCuts xin e.raw)

/-- The segment boundaries at which the rest of a split MMA may be cut (R102, R106). -/
def mmaCuts (e : Ent) : List Nat :=
  ((List.range e.res.detail).map (· * 131072)).filter (fun b => e.part < b && b < (mmaF e.raw).k)

/-- Whether an MMA is the first of those issued on its tag. -/
def Ctx.tagFirst (x : Ctx) (e : Ent) : Bool :=
  x.window.all (fun y => e.index ≤ y.index || !(insOpc y.raw = 0 && y.ph == .issued && (mmaF y.raw).tag = (mmaF e.raw).tag))

/-- Whether an issued MMA can stop at a segment boundary of its own. -/
def Ctx.mmaStops (x : Ctx) (e : Ent) : Bool :=
  insOpc e.raw = 0 && e.ph == .issued && e.res.status = stOK && x.tagFirst e && !(mmaCuts e).isEmpty

/-- Whether an instruction stands at a preemption boundary, or can be stopped at one (R294): a parked one, a MOVE, a COLL and a write-back at
once; a vector instruction between its elements or rows; a split MMA at a segment, and with it those behind it on its tag, which have formed
no product. -/
def Hw.stops (h : Hw) (x : Ctx) (e : Ent) : Bool :=
  e.ph != .issued || e.flt.isSome || insOpc e.raw = 6 || insOpc e.raw = 7 ||
  (insIsVec e.raw && e.res.status = stOK && !(h.vecPart x e 0).2.isEmpty) ||
  (insOpc e.raw = 0 && x.window.any (fun y => y.index ≤ e.index && x.mmaStops y && (mmaF y.raw).tag = (mmaF e.raw).tag))

/-- Stop a vector instruction at one of its boundaries, which the manual leaves to time: what it wrote before is written, and it keeps where
it goes on (R138). None while the guard of R404 or a destination that does not translate holds its writes. -/
def Hw.vecStop (h : Hw) (c : Nat) (x : Ctx) (e : Ent) : Option Hw :=
  let p := panelOfEngine (e.engine.getD 0)
  let cuts := (h.vecPart x e 0).2
  let b := cuts.getD (h.free (82 + e.index) % max 1 cuts.length) e.part
  let res := h.vecRes e (h.vecPart x e b).1
  let e' := h.undef { e with res := { res with breach := e.res.breach } }
  match h.resultWait p e'.res.segs (e'.res.vw.map (fun w => (w.1, w.2.length))), (h.pokeSegs e'.res.segs).writeStream p (e'.res.vw.map (fun w => (w.1, w.2.length))) ((e'.res.vw.map (·.2)).flatten) with
  | none, .ok h => some (h.updEnt c e.index (fun _ => { e' with ph := .suspended, part := b, res := { e'.res with segs := [], vw := [], breach := false, regs := [] } }))
  | _, _ => none

/-- Stop a split MMA at one of its segment boundaries, which the manual leaves to time: its chain holds the wide values and the count there,
and the MMAs behind it on the tag go back to their first product (R102, R106). -/
def Hw.mmaStop (h : Hw) (c : Nat) (x : Ctx) (e : Ent) : Hw :=
  let cuts := mmaCuts e
  let b := cuts.getD (h.free (82 + e.index) % max 1 cuts.length) e.part
  let f := mmaF e.raw
  let k := x.chains.find? (·.tag == f.tag)
  let (_, vs, bad) := h.gather (panelOfEngine (e.engine.getD 0)) e e.regions
  let xin : VecIn := { h.vecIn x e vs bad with lo := e.part, hi := b, scales := e.res.scales }
  let r := mmaRun xin e.raw ((k.map (·.count)).getD 0 - e.part) ((k.map (·.wide)).getD []) (h.get F.LONGSUM_POLICY)
  let part : Res := { flags := { r.flags with accOvf := r.flags.accOvf || e.res.flags.accOvf }, elems := r.macs, shared := e.res.shared }
  h.updCtx c (fun x => { x with
    chains := x.chains.map (fun y => if y.tag = f.tag then { y with count := r.count, wide := r.wide, closing := false } else y)
    window := x.window.map (fun y =>
      if y.index = e.index then { y with ph := .suspended, part := b, slab := 0, res := part }
      else if insOpc y.raw = 0 && y.ph == .issued && (mmaF y.raw).tag = f.tag then { y with ph := .suspended, slab := 0, res := {} } else y) })

/-- Stop the work of a context at its boundaries (R294, R296 step 2): a MOVE at its cursor; a COLL in its step, at an open multiple of 64 KiB
(R289). None while a vector instruction's writes wait. -/
def Hw.stopAll (h : Hw) (c : Nat) (x : Ctx) : Option Hw :=
  x.window.foldl (fun (o : Option Hw) e => o.bind (fun h =>
    if e.ph != .issued then some h
    else if insOpc e.raw = 7 then
      let step := ((h.topo.colls.find? (fun k => k.ctx = c && k.index = e.index)).map (·.step)).getD 0
      some (h.updEnt c e.index (fun e => { e with ph := .suspended, part := step, cursor := h.free (83 + e.index) / 0x10000 * 0x10000 }))
    else if insOpc e.raw = 0 then some (if x.mmaStops e then h.mmaStop c x e else h)
    else if insIsVec e.raw && e.flt.isNone then h.vecStop c x e
    else some (h.updEnt c e.index (fun e => { e with ph := .suspended })))) (some h)

/-! ### Save and restore (R295, R296) -/

/-- The part of a header that only the part reads, from 0x500: its bytes are open (R295; log entry 111). -/
def Hw.headerRest (h : Hw) : Bytes := (List.range 0xFB00).map (fun i => Config.freeByte h.freeCtr (9000 + i))

/-- CONTEXT_SAVE (R294, R295, R296 steps 2 and 3): once all work of a preempting context can stop at its boundaries, a DMA engine takes the save:
the header and each held tag's image are written. -/
def effContextSave (c : Nat) (h : Hw) : Hw :=
  match h.ctx? c with
  | some x =>
    if !(x.st == .preempting && x.io = 0 && x.window.all (h.stops x)) then h
    else
      match h.seat (List.range 32), h.stopAll c x with
      | some d, some h =>
        match h.ctx? c with
        | none => h
        | some x =>
          let base := h.saveSlot c
          let images := x.chains.foldl (fun n k => n + k.image.length) 0
          let h := h.poke base (h.ctxBlock c)
          let h := h.poke (base + 0x100) (((List.range 64).map (tagEntry x)).flatten)
          let h := h.poke (base + 0x500) h.headerRest
          let h := x.chains.foldl (fun h k => h.poke (base + 0x10000 + k.tag * 0x10000) k.image) h
          let h := (h.updCtx c (fun x => { x with io := 1 })).inc (F.DMA_BYTES_WR d) (0x10000 + images)
          h.jobAdd d { slot := 0, kind := 5, ctx := c, index := x.pc, src := h.free 53, dst := base, cursor := 0, parked := false, doneChunks := [] }
      | _, _ => h
  | none => h

def execContextSave (c : Nat) (s : State) : Host.Outcome State Fault Refusal := s.run (effContextSave c)

/-- CONTEXT_SAVE_DONE (R296 step 4, R211): tags, drain space, staging copies, windows and run-ahead data are released. -/
def effContextSaveDone (c : Nat) (h : Hw) : Hw :=
  match h.ctx? c with
  | some x =>
    if x.st == .preempting && x.io = 1 then
      let h := { h with xl := { h.xl with
        wins := h.xl.wins.filter (fun w => w.ctx ≠ c)
        jobs := List.map (fun (d : Nat × List Job) => (d.1, d.2.filter (fun j => j.ctx ≠ c || j.kind = 3 || j.kind = 4))) h.xl.jobs } }
      (h.updCtx c (fun x => { x with
        st := .preempted, io := 0
        chains := x.chains.map (fun k => { k with array := noArray })
        window := x.window.map (fun e => { e with copies := [] }) })).drained
    else h
  | none => h

def execContextSaveDone (c : Nat) (s : State) : Host.Outcome State Fault Refusal := s.run (effContextSaveDone c)

/-- RESUME of a context (R296 step 5). -/
def Hw.resume (h : Hw) (c : Nat) : Hw :=
  match h.ctx? c with
  | some x => if x.st == .preempted && x.io = 0 then h.updCtx c (fun x => { x with io := 2 }) else h
  | none => h

/-- CTX_RESUME (R296). -/
def effCtxResume (c : Nat) (h : Hw) : Hw := if h.domOn domYOKE && c < 512 then (h.set (F.CTX_CTL c) 2).resume c else h
def execCtxResume (c : Nat) (s : State) : Host.Outcome State Fault Refusal := s.run (effCtxResume c)

/-- Give chains their arrays in order, while each has a tag and drain space free (R296 step 5). -/
def Hw.placeChains (h : Hw) : List Chain → List Nat → Option (List Chain)
  | [], _ => some []
  | k :: ks, a :: as =>
    (Hw.placeChains h ks as).bind (fun r =>
      let here := r.filter (fun y => y.array = a)
      if a < 192 && h.tagsHeld a + here.length < 64 &&
          h.drainUsed a + here.foldl (fun n y => n + drainBytes y.shape y.fp24) 0 + drainBytes k.shape k.fp24 ≤ 262144
      then some ({ k with array := a } :: r) else none)
  | _ :: _, [] => none

/-- Wide values from an image. -/
def imageVals (w n : Nat) (b : Bytes) : List Nat := (List.range n).map (fun i => fieldLE b (w * i) w)

/-- A chain as the save area holds it: its entry of the tag table and its image; none where the entry is not VALID (R295, R296 step 6). -/
def Hw.readChain (h : Hw) (base : Nat) (k : Chain) : Hw × Option Chain × Bool :=
  let (h, t, p) := h.readLocal (base + 0x100 + 16 * k.tag) 16
  if fieldLE t 0 1 % 2 = 0 then (h, none, p)
  else
    let k := { k with shape := fieldLE t 1 1 % 4, fp24 := fieldLE t 1 1 / 4 % 2 = 1, count := fieldLE t 8 8 }
    let n := (shapeMN k.shape).1 * (shapeMN k.shape).2
    let (h, bs, q) := h.readLocal (base + 0x10000 + k.tag * 0x10000) (n * k.width)
    (h, some { k with wide := imageVals k.width n bs }, p || q)

/-- The header and the image of each tag are read back from the save area; whether anything read was poisoned (R296 step 6). -/
def Hw.readBack (h : Hw) (c : Nat) (ks : List Chain) : Hw × List Chain × Bool :=
  let base := h.saveSlot c
  let (h, _, p0) := h.readLocal base 0x10000
  ks.foldl (fun (st : Hw × List Chain × Bool) k =>
    let (h, o, p) := st.1.readChain base k
    (h, st.2.1 ++ o.toList, st.2.2 || p)) (h, [], p0)

/-- Instructions that go on with a chain are assigned to the array that now holds it (R85, R106). -/
def bindChains (ks : List Chain) (e : Ent) : Ent :=
  if insOpc e.raw = 0 && e.engine.isSome && e.goesOn then
    { e with engine := (((ks.find? (·.tag == (mmaF e.raw).tag)).map (·.array)).or e.engine) }
  else e

/-- CONTEXT_RESTORE (R296 step 6): with space reserved on the arrays named, a DMA engine reads the header and the images back. Poison ends the
context as the restore completes. -/
def effContextRestore (c : Nat) (arrays : List Nat) (h : Hw) : Hw :=
  match h.ctx? c with
  | some x =>
    if !(x.st == .preempted && x.io = 2) then h
    else
      match h.placeChains x.chains arrays, h.seat (List.range 32) with
      | some ks, some d =>
        let base := h.saveSlot c
        let (h, ks, bad) := h.readBack c ks
        let n := 0x10000 + ks.foldl (fun n k => n + k.wide.length * k.width) 0
        let h := h.updCtx c (fun x => { x with
          io := 3, chains := ks, window := x.window.map (bindChains ks), forced := if bad then some (stPoisoned, x.pc) else x.forced })
        (h.inc (F.DMA_BYTES_RD d) n).jobAdd d { slot := 0, kind := 6, ctx := c, index := x.pc, src := base, dst := h.free 53, cursor := 0, parked := false
                                                doneChunks := [] }
      | _, _ => h
  | none => h

def execContextRestore (c : Nat) (arrays : List Nat) (s : State) : Host.Outcome State Fault Refusal := s.run (effContextRestore c arrays)

/-- Work that a preemption stopped is taken up where it is not taken by an issue: a COLL goes on, a parked MOVE is parked again on its engine
(R287, R296 steps 6 and 7). -/
def Hw.takeUp (h : Hw) (c : Nat) : Hw :=
  match h.ctx? c with
  | none => h
  | some x => x.window.foldl (fun h e =>
    if e.ph != .suspended then h
    else if insOpc e.raw = 7 then h.updEnt c e.index (fun e => { e with ph := .issued })
    else if insOpc e.raw = 6 && e.flt.isSome then
      match descIn e.descs (bitsOf e.raw 122 107), descIn e.descs (bitsOf e.raw 106 91) with
      | some d, some s =>
        (h.updEnt c e.index (fun e => { e with ph := .issued })).jobAdd (e.engine.getD 256 - 256)
          { moveJob c e s.addr d.addr (moveChunk s.fmt) with parked := true }
      | _, _ => h
    else h) h

/-- CONTEXT_RESTORE_DONE (R296 step 7, R297): the context runs again, and answers recorded meanwhile apply; or poison ends it. -/
def effContextRestoreDone (c : Nat) (h : Hw) : Hw :=
  match h.ctx? c with
  | some x =>
    if !(x.st == .preempted && x.io = 3) then h
    else if x.forced.isSome then
      let h := h.post Ev.evCtxRestorePoison [u16 c]
      let h := h.updCtx c (fun x => { x with io := 0, flags := { x.flags with tagsDropped := true } })
      ((h.takeUp c).failStop c).tryEnd c
    else
      let h := (h.updCtx c (fun x => { x with st := .running, io := 0, recorded := [] })).takeUp c
      x.recorded.foldl (fun h r => h.fltClose r.1 r.2) h
  | none => h

def execContextRestoreDone (c : Nat) (s : State) : Host.Outcome State Fault Refusal := s.run (effContextRestoreDone c)

/-- CANCEL of a context (R184, R297). -/
def Hw.cancelCtx (h : Hw) (c : Nat) : Hw :=
  match h.ctx? c with
  | some x =>
    if x.st == .stopping || x.st == .recordPending then h
    else
      let h := if x.st == .preempted then h.takeUp c else h
      (((h.updCtx c (fun x => { x with cancelled := true })).failStop c).tryEnd c).drained
  | none => h

/-- CTX_CANCEL (R184, R193). -/
def effCtxCancel (c : Nat) (h : Hw) : Hw := if h.domOn domYOKE && c < 512 then (h.set (F.CTX_CTL c) 3).cancelCtx c else h
def execCtxCancel (c : Nat) (s : State) : Host.Outcome State Fault Refusal := s.run (effCtxCancel c)

end Sys2Proof.Machine
end

