-- ==== Sys2Proof/Machine/Tailor.lean ====
section
/-!
DEFINITION. Machine/Tailor.lean: the Tailor's requests (R213 to R217), moves (R224), and the scratchpad scrubber (R205).
-/

namespace Sys2Proof.Machine

/-- Whether the Tailor takes requests (R232). -/
def Hw.tailorOn (h : Hw) : Bool := h.domOn domYOKE && h.flag F.TAILOR_CFG_ENABLE

/-- TREQ_TAIL_DB (R213): a good tail clears TREQ_ERR and is acted on; a bad one stops processing. -/
def effTreqTailDb (v : Nat) (h : Hw) : Hw :=
  if !h.domOn domYOKE then h
  else
    let h := h.set F.TREQ_TAIL_DB_REG v
    if !h.flag F.TAILOR_CFG_ENABLE then h
    else if h.treqSize ≤ v % 65536 then h.treqErr 1
    else ((h.set F.TREQ_TAIL (v % 65536)).set F.TREQ_ERR 0).settle

def execTreqTailDb (v : Nat) (s : State) : Host.Outcome State Fault Refusal := s.run (effTreqTailDb v)

/-- Fields of a request (R214). -/
structure TreqF where
  op : Nat
  va : Nat
  obj : Nat
  size : Nat
  tierMin : Nat
  tierMax : Nat
  prio : Nat
  cls : Nat
  align : Nat
  hint : Nat
  aff : Nat
  life : Nat
  pin : Nat
  engHi : Nat
  engLo : Nat
  tag : Nat
  resv : Bool
  deriving DecidableEq, Repr

/-- Read a request (R214). DONE must be written 0. -/
def parseTreq (b : Bytes) : TreqF :=
  let w (i : Nat) : Nat := fieldLE b (8 * i) 8
  { op := bitsOf (w 0) 63 56, va := bitsOf (w 0) 51 0, obj := bitsOf (w 1) 63 48, size := bitsOf (w 1) 39 0
    tierMin := bitsOf (w 2) 63 62, tierMax := bitsOf (w 2) 61 60, prio := bitsOf (w 2) 59 57, cls := bitsOf (w 2) 56 54
    align := bitsOf (w 2) 53 49, hint := bitsOf (w 2) 48 44, aff := bitsOf (w 2) 31 16, life := w 3, pin := w 4
    engHi := bitsOf (w 5) 24 16, engLo := bitsOf (w 5) 8 0, tag := bitsOf (w 6) 31 0
    resv := bitsOf (w 0) 55 52 ≠ 0 || bitsOf (w 1) 47 40 ≠ 0 || bitsOf (w 2) 43 32 ≠ 0 || bitsOf (w 2) 15 0 ≠ 0 || bitsOf (w 5) 63 25 ≠ 0 ||
      bitsOf (w 5) 15 9 ≠ 0 || bitsOf (w 6) 63 32 ≠ 0 || bitOf (w 7) 63 || bitsOf (w 7) 62 48 ≠ 0 }

/-- Whether the fields an operation does not name are 0 (R215). -/
def TreqF.others0 (f : TreqF) : Bool :=
  let reg := f.va = 0 && f.size = 0 && f.tierMin = 0 && f.tierMax = 0 && f.prio = 0 && f.cls = 0 && f.align = 0 && f.aff = 0 && f.life = 0
  match f.op with
  | 1 => f.pin = 0 && f.engHi = 0 && f.engLo = 0
  | 3 => reg && f.hint = 0 && f.engHi = 0 && f.engLo = 0
  | 5 => f.va = 0 && f.size = 0 && f.tierMax = 0 && f.prio = 0 && f.cls = 0 && f.align = 0 && f.aff = 0 && f.life = 0 && f.pin = 0 && f.engHi = 0 && f.engLo = 0
  | 6 => reg && f.hint = 0 && f.pin = 0
  | _ => reg && f.hint = 0 && f.pin = 0 && f.engHi = 0 && f.engLo = 0

/-- Whether a request is well formed (R216 BAD_REQUEST). -/
def TreqF.ok (f : TreqF) : Bool :=
  !f.resv && f.others0 && 1 ≤ f.op && f.op ≤ 8 &&
  (f.op ≠ 1 || (f.size ≠ 0 && f.size ≤ 2 ^ 36 && f.size % 0x10000 = 0 && f.va % 0x10000 = 0 && 16 ≤ f.align && f.va % 2 ^ f.align = 0 &&
    f.tierMin ≤ f.tierMax))

def trOK : Nat := 0
def trPENDING : Nat := 1
def trBAD : Nat := 2
def trLIVE : Nat := 3
def trNOOBJ : Nat := 4
def trOVERLAP : Nat := 5
def trPIN : Nat := 6
def trTIER : Nat := 7

/-- The request at TREQ_HEAD is taken if its OP satisfies p; `f` acts on it and gives its RESULT. A ring fault stops processing
(R213). -/
def Hw.treq (h : Hw) (ext : Bytes) (p : Nat → Bool) (f : Hw → TreqF → Hw × Nat) : Hw :=
  let head := h.get F.TREQ_HEAD
  if !(h.tailorOn && h.tailor.waiting.isNone && h.get F.TREQ_ERR = 0 && head ≠ h.get F.TREQ_TAIL) then h
  else
    match h.vread noCache .read (h.get F.TREQ_BASE + 64 * head) 64 ext with
    | .error x => if x.waits then h else (h.postFault .treq .read x.ty x.va x.lvl 0xFFFF x.pte 0).treqErr 2
    | .ok (h1, bs, poison) =>
      let r := parseTreq (if poison then (List.range 64).map (fun i => Config.freeByte h.freeCtr (9000 + i)) else bs)
      if !p r.op then h
      else
        let out := if r.ok then f h1 r else (h1, trBAD)
        ({ out.1 with tailor := { out.1.tailor with waiting := some ⟨head, r.obj, out.2⟩ } } : Hw).settle

/-- Objects whose LIFE_END epoch is reached are released (R221). -/
def Hw.lifeEnds (h : Hw) : Hw :=
  (List.filter (fun (x : Nat × Obj) => x.2.lifeEnd ≠ 0 && x.2.lifeEnd ≤ h.get F.SHUTTLE_EPOCH && (x.2.st == .placed || x.2.st == .pending)) h.tailor.objs).foldl
    (fun h x => h.updObj x.1 (fun o => { o with st := .releasing, reason := 8, move := none })) h |>.settle

/-- The object that a REGISTER makes, not yet placed (R215). -/
def newObj (r : TreqF) (gen epoch : Nat) : Obj :=
  { va := r.va, size := r.size, tierMin := r.tierMin, tierMax := r.tierMax, prio := r.prio, cls := r.cls, alignLog2 := r.align
    stackHint := r.hint, affObj := r.aff, lifeEnd := r.life, tier := 0, loc := 0, st := .pending, pinned := false, work := none
    spilled := false, reason := 0, chgEpoch := epoch, lastUse := 0, userTag := r.tag, gen := gen, move := none }

/-- REGISTER (R215, R219). -/
def Hw.treqRegister (h : Hw) (r : TreqF) : Hw × Nat :=
  if (h.obj? r.obj).isSome then (h, trLIVE)
  else if h.tailor.objs.any (fun x => x.2.va < r.va + r.size && r.va < x.2.va + x.2.size) then (h, trOVERLAP)
  else if !(List.range 4).any (fun t => r.tierMin ≤ t && t ≤ r.tierMax && h.tierPresent t) then (h, trTIER)
  else
    let o := newObj r (h.tailor.gens.getD r.obj 0) (h.get F.SHUTTLE_EPOCH)
    let h := { h with tailor := { h.tailor with objs := h.tailor.objs.set r.obj o } }
    let (h, placed) := h.place r.obj r.tierMin 0
    (h.lifeEnds, if placed then trOK else trPENDING)

/-- TREQ_REGISTER (R219, R221). -/
def effTreqRegister (ext : Bytes) (h : Hw) : Hw := h.treq ext (· == 1) Hw.treqRegister
def execTreqRegister (ext : Bytes) (s : State) : Host.Outcome State Fault Refusal := s.run (effTreqRegister ext)

/-- An operation on a live object: it takes over the USER_TAG, unless it fails, which changes nothing (R216, R225). -/
def onLive (f : Hw → TreqF → Obj → Hw × Nat) (h : Hw) (r : TreqF) : Hw × Nat :=
  match h.obj? r.obj with
  | none => (h, trNOOBJ)
  | some o =>
    let out := f (h.updObj r.obj (fun o => { o with userTag := r.tag })) r o
    if out.2 = trOK || out.2 = trPENDING then out else (h, out.2)

/-- TREQ_RELEASE (R224): the object is unmapped once the issued instructions that touch it complete. -/
def effTreqRelease (ext : Bytes) (h : Hw) : Hw :=
  h.treq ext (· == 2) (onLive (fun h r _ => (h.updObj r.obj (fun o => { o with st := .releasing, reason := 7, move := none }), trOK)))

def execTreqRelease (ext : Bytes) (s : State) : Host.Outcome State Fault Refusal := s.run (effTreqRelease ext)

/-- The tier of a PIN address if the range may be pinned there: mapped, outside the reserves, within one Panel or stack, clear of pinned
objects, firmware regions and mapped ranges (R216). -/
def Hw.pinTier (h : Hw) (n a size : Nat) : Option Nat :=
  let t := if inHbm a then 1 else 0
  let c := if t = 1 then stackOf a else panelOf a
  let (lo, hi) := h.space t c
  let clear := (h.fixedBusy t).all (fun g => g.2 ≤ a || a + size ≤ g.1) &&
    h.tailor.objs.all (fun x => x.1 = n || !(x.2.pinned && x.2.hasPlace && x.2.target.1 = t) || x.2.target.2 + x.2.size ≤ a || a + size ≤ x.2.target.2)
  if c < (if t = 1 then 16 else 4) && lo ≤ a && a + size ≤ hi && clear then some t else none

/-- The other objects that have their place in a range of a tier. -/
def Hw.pinVictims (h : Hw) (n t a size : Nat) : Tab Obj :=
  h.tailor.objs.filter (fun x => x.1 ≠ n && x.2.hasPlace && x.2.target.1 = t && x.2.target.2 < a + size && a < x.2.target.2 + x.2.size)

/-- PIN (R215, R220). Objects that are not pinned give way, one tier down; without a place there is nothing to pin in place. -/
def Hw.treqPin (h : Hw) (r : TreqF) (o : Obj) : Hw × Nat :=
  if r.pin = 0 then
    if o.hasPlace then
      ((h.updObj r.obj (fun o => { o with pinned := true, reason := 4, chgEpoch := h.get F.SHUTTLE_EPOCH })).recWriteObj r.obj, trOK)
    else (h, trPIN)
  else if r.pin % 2 ^ o.alignLog2 ≠ 0 then (h, trBAD)
  else
    match h.pinTier r.obj r.pin o.size with
    | none => (h, trPIN)
    | some t =>
      let vs := h.pinVictims r.obj t r.pin o.size
      if vs.any (fun x => !h.objMovable x.2) then (h, trPIN)
      else
        let h := vs.foldl (fun h v => ((h.place v.1 (t + 1) 2).1).inc F.EVICT_CNT) h
        (h.givePlace r.obj t r.pin 4 true, trOK)

/-- TREQ_PIN (R215). -/
def effTreqPin (ext : Bytes) (h : Hw) : Hw := h.treq ext (· == 3) (onLive Hw.treqPin)
def execTreqPin (ext : Bytes) (s : State) : Host.Outcome State Fault Refusal := s.run (effTreqPin ext)

/-- TREQ_UNPIN (R215). -/
def effTreqUnpin (ext : Bytes) (h : Hw) : Hw :=
  h.treq ext (· == 4) (onLive (fun h r _ => ((h.updObj r.obj (fun o => { o with pinned := false, chgEpoch := h.get F.SHUTTLE_EPOCH })).recWriteObj r.obj, trOK)))

def execTreqUnpin (ext : Bytes) (s : State) : Host.Outcome State Fault Refusal := s.run (effTreqUnpin ext)

/-- MIGRATE (R215): place again from TIER_MIN with STACK_HINT; both are the request's, and the object's from then on (log entry 152). -/
def Hw.treqMigrate (h : Hw) (r : TreqF) (o : Obj) : Hw × Nat :=
  if o.pinned then (h, trPIN)
  else if o.tierMax < r.tierMin then (h, trBAD)
  else if !(List.range 4).any (fun t => r.tierMin ≤ t && t ≤ o.tierMax && h.tierPresent t) then (h, trTIER)
  else
    let h := h.updObj r.obj (fun o => { o with tierMin := r.tierMin, stackHint := r.hint })
    let (h, placed) := h.place r.obj r.tierMin 5
    (h, if placed then trOK else trPENDING)

/-- TREQ_MIGRATE (R215, R219). -/
def effTreqMigrate (ext : Bytes) (h : Hw) : Hw := h.treq ext (· == 5) (onLive Hw.treqMigrate)
def execTreqMigrate (ext : Bytes) (s : State) : Host.Outcome State Fault Refusal := s.run (effTreqMigrate ext)

/-- TREQ_WORK_PIN (R215, R228). -/
def effTreqWorkPin (ext : Bytes) (h : Hw) : Hw :=
  h.treq ext (· == 6) (onLive (fun h r _ => ((h.updObj r.obj (fun o => { o with work := some (r.engLo, r.engHi), chgEpoch := h.get F.SHUTTLE_EPOCH })).recWriteObj r.obj, trOK)))

def execTreqWorkPin (ext : Bytes) (s : State) : Host.Outcome State Fault Refusal := s.run (effTreqWorkPin ext)

/-- TREQ_WORK_UNPIN (R215). -/
def effTreqWorkUnpin (ext : Bytes) (h : Hw) : Hw :=
  h.treq ext (· == 7) (onLive (fun h r _ => ((h.updObj r.obj (fun o => { o with work := none, chgEpoch := h.get F.SHUTTLE_EPOCH })).recWriteObj r.obj, trOK)))

def execTreqWorkUnpin (ext : Bytes) (s : State) : Host.Outcome State Fault Refusal := s.run (effTreqWorkUnpin ext)

/-- TREQ_QUERY (R215): the record is rewritten. -/
def effTreqQuery (ext : Bytes) (h : Hw) : Hw := h.treq ext (· == 8) (onLive (fun h r _ => (h.recWriteObj r.obj, trOK)))
def execTreqQuery (ext : Bytes) (s : State) : Host.Outcome State Fault Refusal := s.run (effTreqQuery ext)

/-- TREQ_RESERVED_OP (R215): BAD_REQUEST, nothing changed. -/
def effTreqReservedOp (ext : Bytes) (h : Hw) : Hw := h.treq ext (fun op => op = 0 || 8 < op) (fun h _ => (h, trBAD))
def execTreqReservedOp (ext : Bytes) (s : State) : Host.Outcome State Fault Refusal := s.run (effTreqReservedOp ext)

/-! ### Moves -/

/-- Flush the Darning entries of a range. -/
def Hw.flushRange (h : Hw) (a n : Nat) : Hw :=
  (h.hbm.darn.filter (fun e => a < (e.line + 1) * 256 && e.line * 256 < a + n)).foldl (fun h e => h.darnFlushOne e) h

/-- The poisoned parts of a range, from its start. -/
def Hw.poisonIn (h : Hw) (a n : Nat) : List (Nat × Nat) :=
  let clip (lo hi : Nat) : List (Nat × Nat) := if lo < a + n && a < hi then [(max lo a - a, min hi (a + n) - a)] else []
  if inHbm a then (h.hbm.poison.map (fun l => clip (l * 256) (l * 256 + 256))).flatten else (h.spad.poison.map (fun w => clip w (w + 8))).flatten

/-- Copy a range of whole lines within local memory, poison with it; windows of the range it leaves become stale too (R285). -/
def Hw.copyLocal (h : Hw) (src dst n : Nat) : Hw :=
  let h := ((h.readCheck src n).flushRange src n).flushRange dst n
  let h := (h.staleMark src n).staleMark dst n
  let bs := h.peek src n
  let bad := h.poisonIn src n
  if inHbm dst then
    { h with hbm := { h.hbm with
      mem := Mem.write h.hbmBlank h.hbm.mem dst bs
      flips := h.hbm.flips.filter (fun e => e.1 < dst || dst + n ≤ e.1)
      poison := (bad.map (fun g => (List.range ((g.2 + 255) / 256 - g.1 / 256)).map (fun k => (dst + g.1) / 256 + k))).flatten.foldl insNat
        (h.hbm.poison.filter (fun l => l * 256 < dst || dst + n ≤ l * 256)) } }
  else
    { h with spad := { h.spad with
      mem := Mem.write h.spadBlank h.spad.mem dst bs
      flips := h.spad.flips.filter (fun e => e.1 < dst || dst + n ≤ e.1)
      poison := (bad.map (fun g => (List.range ((g.2 + 7) / 8 - g.1 / 8)).map (fun k => (dst + g.1) / 8 * 8 + 8 * k))).flatten.foldl insNat
        (h.spad.poison.filter (fun w => w < dst || dst + n ≤ w)) } }

/-- The copy of a move from a place to another (R224 step 4): tiers and locations; `ext` holds what a peer or the host returns. -/
def Hw.copyMove (h : Hw) (t l t' l' n : Nat) (ext : Bytes) : Hw :=
  let out (h : Hw) (bs : Bytes) : Hw :=
    match t' with
    | 2 => h.writeTarget (.peer (l' / 2 ^ 48) (l' % 2 ^ 48), bs)
    | 3 => h.writeTarget (.host (l' / 2 ^ 48) (l' % 2 ^ 48), bs)
    | _ => h.poke l' bs
  if t ≤ 1 then
    if t' ≤ 1 then h.copyLocal l l' n
    else
      let (h, bs, p) := (h.staleMark l n).readLocal l n
      out h (h.fuzz p 9100 bs)
  else out h (ext.take n ++ (List.range (n - ext.length)).map (fun i => Config.freeByte h.freeCtr (4000 + i)))

/-- OBJECT_MOVE_DONE (R224): the DMA engine that copies a moving object is done: no issued instruction touches it, its target is clear, and no
window or die-to-die link holds the copy (R37, R254). The page tables are rewritten, GEN increments and held instructions are released. A
LIFE_END reached meanwhile releases it (R221). -/
def effObjectMoveDone (n : Nat) (ext : Bytes) (h : Hw) : Hw :=
  let h := h.moveSeat n
  match h.obj? n, h.moveEngine n with
  | some o, some d =>
    match o.st, o.move with
    | .migrating, some (t, l, reason, pin) =>
      let die := d / 8
      let waits := (o.tier ≤ 1 && h.localWaits die .read o.loc o.size) || (t ≤ 1 && h.localWaits die .write l o.size)
      if !(h.xlOn && !h.objIssued o && !h.objCaptured o && !h.moveBlocked n o && !waits) then h
      else
        let h := (h.copyMove o.tier o.loc t l o.size ext).inc F.MIGRATE_BYTES o.size
        let h := (h.inc (F.DMA_BYTES_RD d) o.size).inc (F.DMA_BYTES_WR d) o.size
        let h := h.unmapRange (pageFuel o.size) o.va o.size
        let h := (h.mapObj { o with tier := t, loc := l }).invalRange o.va o.size
        let h := h.objChange n (fun o => { o with tier := t, loc := l, st := .placed, move := none, reason := reason, pinned := pin, spilled := o.tierMin < t })
        h.lifeEnds
    | _, _ => h
  | _, _ => h

def execObjectMoveDone (n : Nat) (ext : Bytes) (s : State) : Host.Outcome State Fault Refusal := s.run (effObjectMoveDone n ext)

/-- Promotions at a MARK (R222): spilled objects move to a higher tier where there is free space. -/
def Hw.promote (h : Hw) : Hw :=
  if !h.flag F.PROMOTE_EN then h
  else
    let ns := (List.filter (fun (x : Nat × Obj) => x.2.spilled && h.objMovable x.2) h.tailor.objs).mergeSort
      (fun a b => b.2.prio < a.2.prio || (a.2.prio = b.2.prio && a.1 ≤ b.1)) |>.map (·.1)
    ns.foldl (fun h n =>
      match h.obj? n with
      | none => h
      | some o =>
        let spot := ((List.range o.tier).filter (fun t => o.tierMin ≤ t && h.tierPresent t)).findSome? (fun t =>
          (h.candOrder t o).findSome? (fun c => (h.freeRange t c n o []).map (fun a => (t, a))))
        match spot with
        | some (t, a) => (h.givePlace n t a 3 false).inc F.PROMOTE_CNT
        | none => h) h

/-- What the Tailor does at a MARK, once the epoch has changed (R221, R222): it waits while translation or the controllers are disabled
(R559). -/
def Hw.tailorMark (h : Hw) : Hw :=
  if h.xlOn then ({ h with tailor := { h.tailor with markDue := false } } : Hw).lifeEnds.retryPending.settle.promote.moveSeats
  else { h with tailor := { h.tailor with markDue := true } }

/-! ### The scratchpad scrubber -/

/-- Lines of a Panel's scratchpad. -/
def panelLines : Nat := panelSize / 64

/-- SPAD_SCRUB_READ (R205): the scrubber reads the next line of a Panel. -/
def effSpadScrubRead (p : Nat) (h : Hw) : Hw :=
  if !(p < 4 && h.domOn (domPANEL p) && h.get F.SCRUB_PERIOD ≠ 0) then h
  else
    let n := h.spad.scrub.getD p 0
    let h := h.spadCheck (spadBase + p * panelSize + 64 * n) 64
    let h := { h with spad := { h.spad with scrub := h.spad.scrub.set p ((n + 1) % panelLines) } }
    if n + 1 = panelLines then h.inc (F.SPAD_SCRUB_PASSES p) else h

def execSpadScrubRead (p : Nat) (s : State) : Host.Outcome State Fault Refusal := s.run (effSpadScrubRead p)

end Sys2Proof.Machine
end

