-- ==== Sys2Proof/Machine/Hbm.lean ====
section
/-!
DEFINITION. Machine/Hbm.lean: requests and tags (R238, R239), the Darning buffer's ages (R242), scrubbing (R248), margining (R250),
retraining (R252 to R255), mapping a channel out (R256 to R260).
-/

namespace Sys2Proof.Machine

/-- Whether a stack's controller is powered and its stack trained. -/
def Hw.stackOn (h : Hw) (s : Nat) : Bool := s < 16 && h.domOn (domSTACK s) && (2 ≤ h.get (F.STK_STATE s) && h.get (F.STK_STATE s) ≤ 4)

/-! ### Mapping a channel out -/

/-- Channels mapped out of a stack. -/
def Hw.mappedOut (h : Hw) (s : Nat) : Nat := ones (h.get (F.STK_MAPOUT s)) 32

/-- The top range of a stack that loses a channel (R257). -/
def Hw.topRange (h : Hw) (s : Nat) : Nat × Nat :=
  let n := h.get (F.N_ACTIVE s)
  (s * stackSize + (n - 1) * 0x80000000, s * stackSize + n * 0x80000000)

/-- Objects whose place meets a range of HBM. -/
def Hw.objsIn (h : Hw) (g : Nat × Nat) : List (Nat × Obj) :=
  List.filter (fun (x : Nat × Obj) => x.2.hasPlace && x.2.target.1 = 1 && x.2.target.2 < g.2 && g.1 < x.2.target.2 + x.2.size) h.tailor.objs

/-- Whether every pinned object of the top range has room below the new top (R257 step 1). -/
def Hw.pinnedFit (h : Hw) (s : Nat) (objs : List (Nat × Obj)) : Bool :=
  let h := h.set (F.STK_STATE s) 3
  (objs.filter (·.2.pinned)).foldl (fun (st : Hw × Bool) x =>
    match st.1.freeRange 1 s x.1 x.2 [] with
    | some a => (st.1.updObj x.1 (fun o => { o with move := some (1, a, 6, true) }), st.2)
    | none => (st.1, false)) (h, true) |>.2

/-- Why a map-out is refused (R257 step 1): 1 mapped out or not ONLINE, 2 the limit of R256, 3 a pinned object without room. -/
def Hw.mapoutRefusal (h : Hw) (s c : Nat) : Nat :=
  if !(s < 16 && c < 32 && h.get (F.STK_STATE s) = 2) || (h.get (F.STK_MAPOUT s)).testBit c then 1
  else if 4 ≤ h.mappedOut s then 2
  else if !h.pinnedFit s (h.objsIn (h.topRange s)) then 3
  else 0

/-- Steps 1 and 2 of R257: the stack relays out, objects of the top range move. -/
def Hw.mapoutStart (h : Hw) (s c op : Nat) : Hw :=
  let objs := h.objsIn (h.topRange s)
  let h := (h.set (F.STK_STATE s) 3).set (F.MAPOUT_CH s) c
  let h := { h with hbm := { h.hbm with mapout := h.hbm.mapout.set s (c, op) } }
  let h := (objs.filter (·.2.pinned)).foldl (fun h x =>
    match h.freeRange 1 s x.1 x.2 [] with
    | some a => h.givePlace x.1 1 a 6 true
    | none => h) h
  ((objs.filter (fun x => !x.2.pinned)).foldl (fun h x => (h.place x.1 x.2.tierMin 6).1) h).settle

/-- Map-outs that firmware starts of its own accord (R255 with AUTO_MAPOUT). -/
def Hw.autoMapouts (h : Hw) : Hw :=
  match h.hbm.autoMap with
  | [] => h
  | l =>
    l.foldl (fun h k => if h.mapoutRefusal (k / 32) (k % 32) = 0 then h.mapoutStart (k / 32) (k % 32) 0 else h)
      { h with hbm := { h.hbm with autoMap := [] } }

/-- Whether no object lies in a stack's top range (R257 step 4). -/
def Hw.topClear (h : Hw) (s : Nat) : Bool :=
  let g := h.topRange s
  h.tailor.objs.all (fun (x : Nat × Obj) => x.2.st == .pending || x.2.tier ≠ 1 || g.2 ≤ x.2.loc || x.2.loc + x.2.size ≤ g.1)

/-- MAPOUT_EVACUATED (R257 step 4): the top range is clear, the Darning buffer flushes, the relayout starts. -/
def effMapoutEvacuated (s : Nat) (h : Hw) : Hw :=
  if !(h.stackOn s && h.get (F.STK_STATE s) = 3 && (h.hbm.mapout.find? s).isSome && !h.hbm.relay.contains s && (h.hbm.wins.find? s).isNone && h.topClear s) then h
  else
    let h := h.darnFlushAll s
    ({ h with hbm := { h.hbm with relay := insNat h.hbm.relay s } } : Hw).set (F.RELAYOUT_W s) 524288

def execMapoutEvacuated (s : Nat) (t : State) : Host.Outcome State Fault Refusal := t.run (effMapoutEvacuated s)

/-- Whether a stack's channels wait for a retrain. -/
def Hw.trigIn (h : Hw) (s : Nat) : List Nat := (List.filter (fun (e : Nat × (Nat × Bool)) => e.1 / 32 = s) h.hbm.trig).map (·.1 % 32)

/-- Poison a whole granule of HBM: each line of it that is not yet poisoned counts (R247, R259). -/
def Hw.granuleUe (h : Hw) (a : Nat) : Hw :=
  (List.range 16).foldl (fun h k => if h.hbm.poison.contains (a / 256 + k) then h else h.hbmUe (a / 256 + k)) h

/-- RELAYOUT_SLICE (R258 to R260): the next slice is read under the old map and written under the new with fresh codewords. A granule of the
channel being mapped out is poisoned whole where a word of it is uncorrectable, all its granules where it returns no usable data. A retrain
goes first. -/
def effRelayoutSlice (s : Nat) (usable : Bool) (h : Hw) : Hw :=
  let w := h.get (F.RELAYOUT_W s)
  if !(h.hbm.relay.contains s && 0 < w && (h.hbm.wins.find? s).isNone && (h.trigIn s).isEmpty) then h
  else
    let n := h.get (F.N_ACTIVE s) - 1
    let lo := s * stackSize + n * (w - 1) * 4096
    let h := h.flushRange lo (n * 4096)
    let was := h.hbm.poison
    let h := h.hbmCheck lo (n * 4096)
    let new := h.hbm.poison.filter (fun l => !was.contains l)
    let bad := ((List.range n).map (fun g => lo + g * 4096)).filter (fun a =>
      h.chanOf a = h.get (F.MAPOUT_CH s) && (!usable || new.any (fun l => l / 16 = a / 4096)))
    let h := bad.foldl Hw.granuleUe h
    ({ h with hbm := { h.hbm with flips := h.hbm.flips.filter (fun e => e.1 < lo || lo + n * 4096 ≤ e.1) } } : Hw).set (F.RELAYOUT_W s) (w - 1)

def execRelayoutSlice (s : Nat) (usable : Bool) (t : State) : Host.Outcome State Fault Refusal := t.run (effRelayoutSlice s usable)

/-- Set the channels mapped out of a stack, with what follows (R256, R264). -/
def Hw.setMapout (h : Hw) (s mask : Nat) : Hw :=
  let n := 32 - ones mask 32
  ((h.set (F.STK_MAPOUT s) mask).set (F.N_ACTIVE s) n).set (F.STK_SIZE s) (n * 0x80000000)

/-- The top range of a stack is given up, and its map-out no longer runs (R257 step 6). -/
def Hw.mapoutClear (h : Hw) (s : Nat) : Hw :=
  let (lo, hi) := h.topRange s
  { h with hbm := { h.hbm with
    mem := Mem.clear h.hbm.mem lo (hi - lo)
    poison := h.hbm.poison.filter (fun l => l * 256 < lo || hi ≤ l * 256)
    flips := h.hbm.flips.filter (fun e => e.1 < lo || hi ≤ e.1)
    relay := h.hbm.relay.filter (· ≠ s)
    mapout := h.hbm.mapout.del s } }

/-- What was still to be done to a channel of a stack is dropped: it is mapped out (R257 step 6). -/
def Hw.chanForget (h : Hw) (s c : Nat) : Hw :=
  { h with hbm := { h.hbm with
    trig := h.hbm.trig.del (s * 32 + c)
    retry := h.hbm.retry.filter (· ≠ s * 32 + c)
    autoMap := h.hbm.autoMap.filter (· ≠ s * 32 + c)
    scans := h.hbm.scans.filter (fun k => !(k.stack = s && k.ch = c)) } }

/-- RELAYOUT_DONE (R257 steps 6 and 7): the map-out takes effect and is recorded, once no window of the stack is open. -/
def effRelayoutDone (s : Nat) (h : Hw) : Hw :=
  match h.hbm.relay.contains s, h.hbm.mapout.find? s with
  | true, some (c, op) =>
    if h.get (F.RELAYOUT_W s) ≠ 0 || (h.hbm.wins.find? s).isSome then h
    else
      let h := (h.mapoutClear s).chanForget s c
      let mask := h.get (F.STK_MAPOUT s) ||| 2 ^ c
      let h := (((h.setMapout s mask).set (F.CH_STATE s c) 3).set (F.STK_STATE s) 2).set (F.MAPOUT_CH s) 0
      let h := h.cfgPut (0x10 + s) (natLE 4 mask)
      h.postOp Ev.evHbmMapoutDone [u8 s, u8 c, u8 (h.get (F.N_ACTIVE s))] op
  | _, _ => h

def execRelayoutDone (s : Nat) (t : State) : Host.Outcome State Fault Refusal := t.run (effRelayoutDone s)

/-! ### Requests -/

/-- Whether a partial write of a line waits for room in the Darning buffer (R242, R244). -/
def Hw.darnWaits (h : Hw) (s c line : Nat) : Bool :=
  !h.hbm.darn.any (fun e => e.line = line) && (1024 ≤ (h.darnOf s).length || (h.chHeld s c && 512 ≤ h.heldEntries s c))

/-- The bytes of a line that a mask chooses, by their offsets in it (R237). -/
def masked (mask : Nat) (bytes : Bytes) : List (Nat × Byte) := (bytes.zipIdx.filter (fun b => mask.testBit b.2)).map (fun b => (b.2, b.1))

/-- Bytes by offset as strings of successive bytes. -/
def runsOf : List (Nat × Byte) → List (Nat × Bytes)
  | [] => []
  | b :: r =>
    match runsOf r with
    | (k, bs) :: t => if b.1 + 1 = k then (b.1, b.2 :: bs) :: t else (b.1, [b.2]) :: (k, bs) :: t
    | [] => [(b.1, [b.2])]

/-- A masked write of a line (R237, R240): held by the guard of a capture where it meets it (R404), else checked against the staleness
windows (R285) and made at once. -/
def Hw.pokeMask (h : Hw) (line mask : Nat) (bytes : Bytes) : Hw :=
  let ws := (runsOf (masked mask bytes)).map (fun r => (line * 256 + r.1, r.2))
  if ws.all (fun w => (h.guardHits w.1 w.2.length).isEmpty && !h.bast.held.any (fun x => w.1 < x.1 + x.2.length && x.1 < w.1 + w.2.length)) then
    (ws.foldl (fun h w => (h.staleMark w.1 w.2.length).breachMark w.1 w.2.length) h).hbmWriteLine line (masked mask bytes)
  else ws.foldl (fun h w => h.poke w.1 w.2) h

/-- HBM_REQUEST_ACCEPT (R237 to R240): a read, `write` none, of the line of an address takes a tag, and will see what the line holds now; a write of the
256 bytes of the line under its mask goes to the Darning buffer or the DRAM. -/
def effHbmRequestAccept (addr : Nat) (write : Option Nat) (bytes : Bytes) (h : Hw) : Hw :=
  let s := stackOf addr
  let c := h.chanOf addr
  let line := addr / 256
  if !(h.flag F.MEM_CFG_ENABLE && h.stackOn s && h.hbmMapped (line * 256) 256 && h.stkTags s < 8192 && h.chTags s c < 1024) then h
  else match write with
  | none =>
    { h with hbm := { h.hbm with reqs := h.hbm.reqs ++ [⟨s, c, line, false, h.peek (line * 256) 256, h.poisoned (line * 256) 256⟩] } }
  | some mask =>
    if (masked mask bytes).isEmpty || bytes.length ≠ 256 || ((masked mask bytes).length < 256 && h.darnWaits s c line) then h
    else h.pokeMask line mask bytes

def execHbmRequestAccept (addr : Nat) (write : Option Nat) (bytes : Bytes) (t : State) : Host.Outcome State Fault Refusal :=
  t.run (effHbmRequestAccept addr write bytes)

/-- HBM_READ_COMPLETE (R239, R241, R246, R247, R259): the oldest read of a line completes, unless the channel that the line now falls on is in
a window. It returns what its line held when it was accepted: writes accepted after it are not seen. -/
def effHbmReadComplete (line : Nat) (h : Hw) : Hw :=
  match h.hbm.reqs.find? (fun r => !r.write && r.line = line) with
  | none => h
  | some r =>
    if !h.stackOn r.stack || h.chHeld r.stack (h.chanOf (line * 256)) then h
    else
      let same := h.peek (line * 256) 256 = r.data && h.poisoned (line * 256) 256 = r.bad
      let h := { h with hbm := { h.hbm with reqs := h.hbm.reqs.erase r } }
      if same then
        let (h, bs, poison) := h.readLocal (line * 256) 256
        (h.send (.hbmLine line bs poison)).autoMapouts
      else h.send (.hbmLine line r.data r.bad)

def execHbmReadComplete (line : Nat) (t : State) : Host.Outcome State Fault Refusal := t.run (effHbmReadComplete line)

/-- DARNING_AGE_FLUSH (R242, R243): the oldest entry that no window holds reaches its age. -/
def effDarningAgeFlush (line : Nat) (h : Hw) : Hw :=
  let s := stackOf (line * 256)
  match h.darnOldest s with
  | some e => if e.line = line && h.stackOn s then h.darnFlushOne e else h
  | none => h

def execDarningAgeFlush (line : Nat) (t : State) : Host.Outcome State Fault Refusal := t.run (effDarningAgeFlush line)

/-- Count a pass that has read every line (R248). -/
def Hw.scrubEnd (h : Hw) (s : Nat) : Hw :=
  if h.get (F.STK_SIZE s) / 256 ≤ h.hbm.scrub.getD s 0 && !h.hbm.scrubSkip.any (fun l => stackOf (l * 256) = s) then
    ({ h with hbm := { h.hbm with scrub := h.hbm.scrub.set s 0 } } : Hw).inc (F.STK_SCRUB_PASSES s)
  else h

/-- HBM_SCRUB_READ (R248): the scrubber reads the next mapped line; lines of a channel in a window are read after it. -/
def effHbmScrubRead (s : Nat) (h : Hw) : Hw :=
  if !(h.stackOn s && h.get F.SCRUB_LOG2 ≠ 15) then h
  else
    let free (l : Nat) : Bool := !h.chHeld s (h.chanOf (l * 256))
    match h.hbm.scrubSkip.find? (fun l => stackOf (l * 256) = s && free l) with
    | some l =>
      let h := h.hbmCheck (l * 256) 256
      (({ h with hbm := { h.hbm with scrubSkip := h.hbm.scrubSkip.erase l } } : Hw).scrubEnd s).autoMapouts
    | none =>
      let n := h.hbm.scrub.getD s 0
      if h.get (F.STK_SIZE s) / 256 ≤ n then h.scrubEnd s
      else
        let l := s * (stackSize / 256) + n
        let h := if free l then h.hbmCheck (l * 256) 256 else { h with hbm := { h.hbm with scrubSkip := h.hbm.scrubSkip ++ [l] } }
        (({ h with hbm := { h.hbm with scrub := h.hbm.scrub.set s (n + 1) } } : Hw).scrubEnd s).autoMapouts

def execHbmScrubRead (s : Nat) (t : State) : Host.Outcome State Fault Refusal := t.run (effHbmScrubRead s)

/-! ### Windows -/

/-- Open a window on a channel (R253 step 1, R264, R265). -/
def Hw.winOpen (h : Hw) (s c st : Nat) (w : HbmWin) : Hw :=
  let h := { h with hbm := { h.hbm with wins := h.hbm.wins.set s w } }
  ((h.set (F.CH_STATE s c) st).set (F.STK_RETRAINING s) 1).set (F.STK_RETRAIN_CH s) c

/-- Close a stack's window: CH_HOLD_CYC takes its length, at most 266,667 cycles, which is open; the writes it held in the tag pool go,
full Darning entries that it held flush (R242, R253). -/
def Hw.winClose (h : Hw) (s c st : Nat) : Hw :=
  let h := { h with hbm := { h.hbm with wins := h.hbm.wins.del s, reqs := h.hbm.reqs.filter (fun r => !(r.write && r.stack = s && r.ch = c)) } }
  let h := ((h.set (F.CH_STATE s c) st).set (F.STK_RETRAINING s) 0).inc (F.CH_HOLD_CYC s c) (h.free 60 % 266668)
  let h := ((h.darnOf s).filter (fun e => e.bytes.length = 256)).foldl (fun h e => h.darnFlushOne e) h
  (List.replicate ((h.darnOf s).length - 896) ()).foldl (fun h _ =>
    match h.darnOldest s with
    | some e => h.darnFlushOne e
    | none => h) h

/-- HBM_RETRAIN_START (R252 to R254): of the channels that wait, the lowest opens a window if the stack has none. -/
def effHbmRetrainStart (s ch : Nat) (h : Hw) : Hw :=
  match h.hbm.trig.find? (s * 32 + ch) with
  | none => h
  | some (op, again) =>
    if !(h.stackOn s && ch < 32 && (h.hbm.wins.find? s).isNone && (h.trigIn s).all (fun c => ch ≤ c)) then h
    else
      let h := { h with hbm := { h.hbm with trig := h.hbm.trig.del (s * 32 + ch) } }
      (h.winOpen s ch 1 ⟨ch, false, op, again⟩).inc (F.CH_RETRAIN_CNT s ch)

def execHbmRetrainStart (s ch : Nat) (t : State) : Host.Outcome State Fault Refusal := t.run (effHbmRetrainStart s ch)

/-- Whether a margin scan of a channel is under way. -/
def Hw.scanning (h : Hw) (s c : Nat) : Bool := h.hbm.scans.any (fun k => k.stack = s && k.ch = c && !k.done.isEmpty)

/-- HBM_RETRAIN_DONE (R253, R255): the verify passed, at temperature `temp`, or failed. -/
def effHbmRetrainDone (s : Nat) (pass : Bool) (temp : Nat) (h : Hw) : Hw :=
  match h.hbm.wins.find? s with
  | none => h
  | some w =>
    if w.margin then h
    else
      let c := w.ch
      let h := h.winClose s c (if h.scanning s c then 2 else 0)
      let h := h.postOp Ev.evHbmRetrain [u8 s, u8 c, u8 (if pass then 1 else 2)] w.op
      if pass then (h.set (F.RETRAIN_FAILS s c) 0).set (F.CH_TRAIN_TEMP s c) (temp % 256)
      else
        let h := h.inc (F.RETRAIN_FAILS s c)
        let h : Hw := if w.again then h else { h with hbm := { h.hbm with retry := insNat h.hbm.retry (s * 32 + c) } }
        if 2 ≤ h.get (F.RETRAIN_FAILS s c) && !h.flag (F.CH_RECOMMEND s c) then
          ((h.recommend s c 1).post Ev.evHbmRetrainFail [u8 s, u8 c]).autoMapouts
        else h

def execHbmRetrainDone (s : Nat) (pass : Bool) (temp : Nat) (t : State) : Host.Outcome State Fault Refusal := t.run (effHbmRetrainDone s pass temp)

/-- HBM_RETRAIN_RETRY (R255): 1 ms after a failed retrain the Gusset asks for one more. -/
def effHbmRetrainRetry (s ch : Nat) (h : Hw) : Hw :=
  if !(h.stackOn s && h.hbm.retry.contains (s * 32 + ch)) then h
  else
    { h with hbm := { h.hbm with
      retry := h.hbm.retry.filter (· ≠ s * 32 + ch)
      trig := if (h.hbm.trig.find? (s * 32 + ch)).isSome then h.hbm.trig else h.hbm.trig.set (s * 32 + ch) (0, true) } }

def execHbmRetrainRetry (s ch : Nat) (t : State) : Host.Outcome State Fault Refusal := t.run (effHbmRetrainRetry s ch)

/-! ### Margining -/

/-- MARGIN_SCAN_BURST (R249, R250 step 1): the oldest scan of a stack holds its channel while the stack is ONLINE, one of VDDQ while it is
OFFLINE; a retrain goes first. -/
def effMarginScanBurst (s : Nat) (h : Hw) : Hw :=
  match h.hbm.scans.find? (·.stack == s) with
  | none => h
  | some k =>
    if !(h.stackOn s && h.get (F.STK_STATE s) = (if k.param = 3 then 4 else 2) && (h.hbm.wins.find? s).isNone && (h.trigIn s).isEmpty) then h
    else
      let h := if k.param = 3 && k.done.isEmpty then h.darnFlushAll s else h
      h.winOpen s k.ch 2 ⟨k.ch, true, 0, false⟩

def execMarginScanBurst (s : Nat) (t : State) : Host.Outcome State Fault Refusal := t.run (effMarginScanBurst s)

/-- MARGIN_SCAN_PAUSE (R250 steps 2 to 5): `counts` gives the errors of the 64 lanes at the points measured since the burst began, at most 23;
the channel is released, and after the last point the scan completes. After a scan of VDDQ the stack's contents are undefined (R251). -/
def effMarginScanPause (s : Nat) (counts : List (List Nat)) (h : Hw) : Hw :=
  match h.hbm.wins.find? s, h.hbm.scans.find? (·.stack == s) with
  | some w, some k =>
    let n := counts.length
    if !(w.margin && 1 ≤ n && n ≤ 23 && n ≤ k.todo.length && counts.all (fun c => c.length = 64)) then h
    else
      let k' : Scan := { k with todo := k.todo.drop n, done := k.done ++ (k.todo.take n).zip counts }
      let last := k'.todo.isEmpty
      let h := h.winClose s k.ch (if last then 0 else 2)
      if !last then { h with hbm := { h.hbm with scans := h.hbm.scans.map (fun x => if x = k then k' else x) } }
      else
        let h := { h with hbm := { h.hbm with
          scans := h.hbm.scans.erase k
          scanRes := k' :: h.hbm.scanRes.filter (fun x => !(x.stack = k.stack && x.ch = k.ch)) } }
        let h := if k.param = 3 then h.loseStack s else h
        h.postOp Ev.evMemMarginDone [u8 s, u8 k.ch, u8 k.param, u8 k'.done.length] k.opId
  | _, _ => h

def execMarginScanPause (s : Nat) (counts : List (List Nat)) (t : State) : Host.Outcome State Fault Refusal := t.run (effMarginScanPause s counts)

end Sys2Proof.Machine
end

