-- ==== Sys2Proof/Machine/Train.lean ====
section
/-!
DEFINITION. Machine/Train.lean: MARK (R177, R378, R379), the absence scan (R385), RELAX_CLR (R387, R389).
-/

namespace Sys2Proof.Machine

/-- The draw key of BIND_CHECK for a job key and a step (R378). -/
def bindKey (k0 k1 k2 k3 step : Nat) : DrawKey := ⟨k0, k1, k2, k3, 0, step, 0xFFFF, 0xFFFF, 0xFFFF⟩

/-- The cursor that the binding gives a step (R376). -/
def cursorAt (stepBase perStep cursorBase step : Nat) : Nat :=
  (cursorBase + (step + 2 ^ 32 - stepBase) % 2 ^ 32 * perStep) % 2 ^ 64

/-- The cursor of a step under the declared binding (R376). -/
def Hw.cursor (h : Hw) (step : Nat) : Nat := cursorAt (h.get F.STEP_BASE) (h.get F.CURSOR_PER_STEP) (h.get F.CURSOR_BASE) step

/-- A MARK latches the pair of a step and a cursor and compares it with the binding (R378). -/
def Hw.markLatchWith (h : Hw) (cur step : Nat) : Hw :=
  let next := (step + 1) % 2 ^ 32
  let key := bindKey (h.get (F.JOB_KEY 0)) (h.get (F.JOB_KEY 1)) (h.get (F.JOB_KEY 2)) (h.get (F.JOB_KEY 3)) step
  let h := (((h.set F.MARK_STEP step).set F.CHERVIL_STEP next).set F.MARK_CURSOR cur).set F.BIND_CHECK (chervil key cur)
  let want := h.cursor next
  if h.flag F.BIND_EN && h.get F.CURSOR_PER_STEP ≠ 0 && cur ≠ want then
    let d := (cur + 2 ^ 64 - want) % 2 ^ 64
    (((h.set F.SKEWED 1).set F.SKEW_DELTA d).inc F.CURSOR_SKEW_CNT).post Ev.evCursorSkew [u32 step, u64 d]
  else (h.set F.SKEWED 0).set F.SKEW_DELTA 0

/-- The latch of DATA_CURSOR as it reads (R378). -/
def Hw.markLatch (h : Hw) (step : Nat) : Hw := h.markLatchWith (h.get F.DATA_CURSOR) step

/-- The cursor a MARK latches where DATA_CURSOR was written after its context was submitted: each such write is latched or not, so it is any
value the register has held since (R377; log entry 164). -/
def Hw.lateCursor (h : Hw) (x : Ctx) : Nat :=
  let late := h.train.curLog.drop x.curAt
  (late[h.free 200 % (late.length + 1)]?).getD (h.get F.DATA_CURSOR)

/-- The latch of a context's MARK (R377, R378). -/
def Hw.markLatchOf (h : Hw) (x : Ctx) : Hw :=
  if h.train.curLog.length ≤ x.curAt then h.markLatch x.step else h.markLatchWith (h.lateCursor x) x.step

/-- What a MARK with SNAP hands to Basting (R177, R379). -/
def Hw.hand (h : Hw) (c i setid : Nat) : Hand :=
  { ctx := c, index := i, epoch := h.get F.SHUTTLE_EPOCH, setid := setid
    markStep := h.get F.MARK_STEP, chervilStep := h.get F.CHERVIL_STEP, cursor := h.get F.MARK_CURSOR
    bindCheck := h.get F.BIND_CHECK, skewed := h.flag F.SKEWED, stepBase := h.get F.STEP_BASE
    perStep := h.get F.CURSOR_PER_STEP, cursorBase := h.get F.CURSOR_BASE, bindEn := h.flag F.BIND_EN }

/-- MARK (R177, R378, R221, R222, R385, R506): the latch, the epoch, what the Tailor does, the start of the absence scan; with SNAP, or with a
request of SNAP_REQ_N pending, the hand-over to Basting, else completion. -/
def effMark (c i : Nat) (h : Hw) : Hw :=
  match h.ctx? c, h.ent? c i with
  | some x, some e =>
    if insOpc e.raw = 0xD && !e.marked && h.syncReady x e && classesDone x e 0x1F && h.scopeDone 3 then
      let h := h.markLatchOf x
      let h := (h.set F.SHUTTLE_EPOCH ((h.get F.SHUTTLE_EPOCH + 1) % 2 ^ 64)).tailorMark
      let h := if h.flag F.ABSENT_SCAN_EN then { h with train := { h.train with scan := true } } else h
      let asked := h.flag F.SNAP_PENDING
      if bitOf e.raw 122 || asked then
        let setid := if asked then h.get (F.THRESH_VALUE 9) else bitsOf e.raw 121 106
        let h := h.set F.SNAP_PENDING 0
        { h.updEnt c i (fun e => { e with marked := true }) with bast := { h.bast with hands := h.bast.hands ++ [h.hand c i setid] } }
      else h.finish c e stOK 0 {}
    else h
  | _, _ => h

def execMark (c i : Nat) (s : State) : Host.Outcome State Fault Refusal := s.run (effMark c i)

/-- The absence scan of one slot (R385): kind 3, the steps absent. -/
def Hw.absent (h : Hw) (slot : Nat) : Hw :=
  let r := h.tapeRec slot
  let gone := (h.get F.MARK_STEP + 65536 - r.lastStep) % 65536
  if h.tapeReach slot && r.watchEn && 0 < r.histValid && r.starveN ≤ gone && !h.train.absMark.contains slot then
    { h.gradStarve slot 3 0xFFFF (h.get F.MARK_STEP) gone with train := { h.train with absMark := slot :: h.train.absMark } }
  else h

/-- ABSENT_SCAN (R385): every record of the Tape table in ascending slot order. -/
def effAbsentScan (h : Hw) : Hw :=
  if h.train.scan then (List.range 65536).foldl Hw.absent { h with train := { h.train with scan := false } } else h

def execAbsentScan (s : State) : Host.Outcome State Fault Refusal := s.run effAbsentScan

/-- A write of 1 to RELAX_CLR refused by the training block: recorded unless the field reads 1 already (R542). -/
def Hw.trainRefused (h : Hw) : Hw :=
  if h.flag F.RELAX_CLR_TRG then h else (h.set F.TRAIN_STATUS_CFG_WHILE_ENABLED 1).inc F.TRAIN_STATUS_CFG_WE_COUNT

/-- RELAX_CLR (R387, R389): a configuration write that clears the relaxation registers. -/
def Hw.relaxClr (h : Hw) : Hw :=
  if h.flag F.TRAIN_CFG_ENABLE then h.trainRefused
  else (((h.set F.RELAX_CLR_TRG 1).set F.WATCH_RELAX_CNT 0).set F.RELAX_EPOCH 0).set F.STARVE_N_MAX 0x20

/-- RELAX_CLR while YOKE is powered. -/
def effRelaxClr (h : Hw) : Hw := if h.domOn domYOKE then h.relaxClr else h

def execRelaxClr (s : State) : Host.Outcome State Fault Refusal := s.run effRelaxClr

end Sys2Proof.Machine
end

