-- ==== Sys2Proof/Machine/Bast.lean ====
section
/-!
DEFINITION. Machine/Bast.lean: Basting: capture (R391 to R409) and restore (R410 to R414, R379, R380).
-/

namespace Sys2Proof.Machine

/-- An access of Basting that cannot go: reason 2, a fault, whose record it posts (R298); or reason 0, it only waits (R274, R254, R559). -/
def Hw.bastFault (h : Hw) (desc : Nat) (acc : Acc) (x : XFault) : Hw × Nat :=
  if x.waits then (h, 0) else (h.postFault .bast acc x.ty x.va x.lvl desc x.pte 0, 2)

/-- A read of Basting's copy (R298): reason 2 FAULT, 3 POISON, 0 it waits. -/
def Hw.bastRead (h : Hw) (desc va n : Nat) : Hw × Except Nat Bytes :=
  match h.vread noCache .read va n [] with
  | .error x => let f := h.bastFault desc .read x; (f.1, .error f.2)
  | .ok (h, bs, p) => (h, if p then .error 3 else .ok bs)

/-! ### The set (R392 to R394) -/

/-- Byte size of the axes inside an axis, the contiguous one innermost (R151, R394). -/
def Desc.inside (d : Desc) (a : Nat) : Nat :=
  (d.shape.zipIdx.filter (fun x => x.2 = d.contig || a < x.2)).foldl (fun n x => n * x.1) d.fmt.width / 8

/-- Whether a descriptor is dense (R394). -/
def Desc.dense (d : Desc) : Bool :=
  (List.range d.rank).all (fun a => a = d.contig || d.axisStrides.getD a 0 = d.inside a)

/-- Bytes of the data and of the scale array. -/
def Desc.dataBytes (d : Desc) : Nat := d.count * d.fmt.width / 8
def Desc.scaleBytes (d : Desc) : Nat := if d.fmt.isBlock then d.count / 32 else 0

/-- The manifest entries of one list entry: the tensor and its companion (R393); the reason of an abort (R394), 0 where a read waits. -/
def Hw.snapEntry (h : Hw) (w0 w1 : Nat) : Hw × Except Nat (List Man) :=
  if bitsOf w0 47 34 ≠ 0 || bitOf w0 31 || w1 ≠ 0 then (h, .error 1)
  else
    let i := bitsOf w0 63 48
    match h.readDesc noCache i [] with
    | .error x => let f := h.bastFault i .read x; (f.1, .error f.2)
    | .ok (h, raw) =>
      let d := parseDesc raw
      let man (companion : Bool) (i raw : Nat) : Man :=
        let e := parseDesc raw
        ⟨bitsOf w0 30 0 + companion.toNat * 2 ^ 31, bitOf w0 32, companion, i, raw, 0, e.dataBytes, e.scaleBytes⟩
      if !d.ok then (h, .error 1)
      else if d.hem = 0xFFFF then (h, if d.dense then .ok [man false i raw] else .error 1)
      else
        match h.readDesc noCache d.hem [] with
        | .error x => let f := h.bastFault d.hem .read x; (f.1, .error f.2)
        | .ok (h, hraw) =>
          let k := parseDesc hraw
          (h, if !d.hemOk (some k) || !d.dense then .error 1
              else if bitOf w0 33 then .ok [man false i raw]
              else if k.dense then .ok [man false i raw, man true d.hem hraw] else .error 1)

/-- The entries of a list of 16-byte words. -/
def Hw.snapEntries : Nat → Hw → Bytes → Hw × Except Nat (List Man)
  | 0, h, _ => (h, .ok [])
  | n + 1, h, b =>
    match h.snapEntry (fieldLE b 0 8) (fieldLE b 8 8) with
    | (h, .error r) => (h, .error r)
    | (h, .ok ms) =>
      match Hw.snapEntries n h (b.drop 16) with
      | (h, .ok r) => (h, .ok (ms ++ r))
      | (h, .error r) => (h, .error r)

/-- Whether some two of a list are related. -/
def anyPair {α : Type} (f : α → α → Bool) : List α → Bool
  | [] => false
  | x :: r => r.any (f x) || anyPair f r

/-- The places of the entries in the image, and the image's end (R399). -/
def layMans : Nat → List Man → List Man × Nat
  | e, [] => ([], e)
  | e, m :: r =>
    let off := alignUp e 65536
    let fin := if m.scaleBytes = 0 then off + m.dataBytes else alignUp (off + m.dataBytes) 65536 + m.scaleBytes
    let rest := layMans fin r
    ({ m with off := off } :: rest.1, rest.2)

/-- Validate a set (R394): whether its target is NVMe, its manifest, the bytes of the image; or the reason of an abort. -/
def Hw.snapSet (h : Hw) (setid : Nat) : Hw × Except Nat (Bool × List Man × Nat) :=
  if 255 < setid then (h, .error 1)
  else
    match h.bastRead 0xFFFF (h.get F.SET_BASE + 32 * setid) 32 with
    | (h, .error r) => (h, .error r)
    | (h, .ok b) =>
      let w := fieldLE b 0 8
      let n := fieldLE b 8 4
      if !bitOf w 63 || 1 < bitsOf w 62 61 || bitsOf w 60 52 ≠ 0 || fieldLE b 12 4 ≠ 0 || (b.drop 16).any (· ≠ 0) || n = 0 || 4096 < n then (h, .error 1)
      else
        match h.bastRead 0xFFFF (bitsOf w 51 0) (16 * n) with
        | (h, .error r) => (h, .error r)
        | (h, .ok l) =>
          match h.snapEntries n l with
          | (h, .error r) => (h, .error r)
          | (h, .ok ms) =>
            let clash (a b : Man) : Bool := a.id = b.id || overlaps (hull (parseDesc a.raw).ranges) (hull (parseDesc b.raw).ranges)
            if anyPair clash ms then (h, .error 1)
            else
              let lay := layMans 0x600000 ms
              (h, .ok (bitsOf w 62 61 = 1, lay.1, lay.2))

/-! ### Slots and targets -/

/-- Bytes of a slot of a target (R398, R407). -/
def Hw.slotBytes (h : Hw) (nvme : Bool) : Nat :=
  if nvme then h.get (F.NVME_WORD 6) * 4096 else 8 * 2 ^ (32 + h.get F.BUDDY_FRAC)

def Hw.targetBound (h : Hw) (nvme : Bool) : Bool := if nvme then h.flag F.NVME_VALID else h.flag F.BUDDY_VALID

/-- Whether a slot is VALID, by its block. -/
def Hw.slotValid (h : Hw) (nvme : Bool) (t : Nat) : Bool := h.get (F.SLOT_STATE (slotNum nvme t)) == 2

def Hw.slotEpoch (h : Hw) (nvme : Bool) (t : Nat) : Nat := h.get (F.SLOT_EPOCH (slotNum nvme t))

/-- The slot with the newest VALID snapshot (R405). -/
def Hw.slotNewest (h : Hw) (nvme : Bool) : Option Nat :=
  match h.slotValid nvme 0, h.slotValid nvme 1 with
  | true, true => some (if h.slotEpoch nvme 0 < h.slotEpoch nvme 1 then 1 else 0)
  | true, false => some 0
  | false, true => some 1
  | false, false => none

/-- The slot a capture writes (R405). -/
def Hw.slotFor (h : Hw) (nvme : Bool) : Nat :=
  let t := match h.slotNewest nvme with
    | some n => 1 - n
    | none => 0
  if h.get F.KEEP_EPOCH ≠ 0 && h.slotValid nvme t && h.slotEpoch nvme t = h.get F.KEEP_EPOCH then 1 - t else t

/-- Buddy address of byte o of a slot (R398). -/
def Hw.liningAddr (h : Hw) (t o : Nat) : Nat :=
  let blk := o / 65536
  h.get (F.BUDDY_BASE (blk % 16)) + t * (2 ^ (32 + h.get F.BUDDY_FRAC) / 2) + blk / 16 * 65536 + o % 65536

/-- Write bytes of the image of the running capture to its target; SNAP_BYTES counts them (R398, R407, R423). -/
def Hw.capWrite (h : Hw) (k : Cap) (off : Nat) (bs : Bytes) : Hw :=
  let h := h.inc F.SNAP_BYTES bs.length
  if k.nvme then h.send (.nvme k.slot off bs)
  else (pieces 65536 (bs.length / 65536 + 2) off bs).foldl (fun h p => h.peerWrite (h.get F.BUDDY_CHIP) (h.liningAddr k.slot p.1) p.2) h

/-! ### The job state block and the manifest (R395, R396, R400, R401) -/

/-- Digest of the running plan; 0 without one. -/
def Hw.planDigest (h : Hw) : Bytes :=
  match h.topo.plan with
  | some p => p.digest
  | none => List.replicate 32 0

/-- Layout digest of the running plan (R395). -/
def Hw.layoutDigest (h : Hw) : Bytes :=
  match h.topo.plan with
  | some p => sha256 (padTo 0x300 p.image)
  | none => List.replicate 32 0

/-- The job state block (R400): what the MARK latched with the key, the binding and the relaxation registers. -/
def Hw.jobBlock (h : Hw) (k : Hand) : Bytes :=
  padTo 4096 (((List.range 4).map (fun i => natLE 4 (h.get (F.JOB_KEY i)))).flatten ++ natLE 4 (h.get F.STREAM_SALT) ++ natLE 4 k.stepBase ++
    natLE 4 k.perStep ++ natLE 4 (k.bindEn.toNat + 2 * k.skewed.toNat) ++ natLE 8 k.cursorBase ++ natLE 4 k.markStep ++ natLE 4 k.chervilStep ++
    natLE 8 k.cursor ++ natLE 4 k.bindCheck ++ natLE 2 (h.get F.STARVE_N_MAX) ++ natLE 2 0 ++ natLE 8 (h.get F.WATCH_RELAX_CNT) ++
    natLE 8 (h.get F.RELAX_EPOCH))

/-- Cut into parts of n bytes. -/
def cut (n : Nat) : Nat → Bytes → List Bytes
  | 0, _ => []
  | f + 1, b => if b.isEmpty then [] else b.take n :: cut n f (b.drop n)

/-- SHA-256 of each leaf of 1 MiB (R396). -/
def leaves (b : Bytes) : Bytes := ((cut 1048576 (b.length / 1048576 + 1) b).map sha256).flatten

/-- The fingerprint of an entry (R396). -/
def fingerprint (data scales : Bytes) : Bytes := sha256 (leaves data ++ leaves scales)

/-- Offset of an entry's scale array in the image. -/
def Man.scaleOff (m : Man) : Nat := alignUp (m.off + m.dataBytes) 65536

/-- A manifest entry (R401). -/
def Man.bytes (m : Man) (fp : Bytes) : Bytes :=
  let d := parseDesc m.raw
  natLE 8 (m.id + m.replica.toNat * 2 ^ 32 + m.companion.toNat * 2 ^ 33 + (decide (m.scaleBytes ≠ 0)).toNat * 2 ^ 34 + d.cls * 2 ^ 40 + d.fmtCode * 2 ^ 44) ++
  natLE 8 m.off ++ natLE 8 m.dataBytes ++ natLE 8 m.scaleBytes ++ fp ++ natLE 64 m.raw

/-- COMMIT_MAGIC (R400). -/
def commitMagic : Nat := 0x43544D4354494D4D

/-- Bytes 0x0000 to 0x0FBF of the slot header (R400). -/
def Hw.snapHeader (h : Hw) (k : Cap) (digest : Bytes) : Bytes :=
  padTo 0xFC0 (natLE 4 0x534C4E47 ++ natLE 2 1 ++ natLE 1 (k.slot + 2 * k.nvme.toNat) ++ natLE 1 (if Config.isB0 then 0xB0 else 0xA0) ++
    natLE 2 k.hand.setid ++ natLE 2 k.mans.length ++ natLE 2 (h.get F.MY_RANK) ++ natLE 2 h.myChip ++ natLE 8 k.hand.epoch ++ natLE 8 k.image ++
    h.planDigest ++ h.layoutDigest ++ digest)

/-- The commit record (R400). -/
def commitRecord (epoch : Nat) (digest : Bytes) : Bytes := padTo 64 (natLE 8 commitMagic ++ natLE 8 epoch ++ digest)

/-! ### Capture (R402) -/

/-- Abort before a slot is chosen (R394): nothing is written; the epoch is released. -/
def Hw.snapDrop (h : Hw) (k : Hand) (reason : Nat) : Hw := ((h.snapAborted k reason).epochRelease k).drained

/-- SNAP_FREEZE (R402 steps 1 and 2, R394, R405): the state is latched, the set validated, the slot chosen and its commit record cleared. -/
def effSnapFreeze (h : Hw) : Hw :=
  match h.bast.hands, h.bast.cap, h.bast.restore with
  | k :: rest, none, none =>
    if !h.domOn domYOKE then h
    else
      let h0 := h
      let h := { h with bast := { h.bast with hands := rest } }
      if !h.flag F.BAST_CFG_ENABLE then h.snapDrop k 4
      else
        let job := h.jobBlock k
        match h.snapSet k.setid with
        | (h, .error r) => if r = 0 then h0 else h.snapDrop k r
        | (h, .ok (nvme, mans, image)) =>
          if !h.targetBound nvme then h.snapDrop k 4
          else if h.slotBytes nvme < image then h.snapDrop k 5
          else
            let t := h.slotFor nvme
            let n := slotNum nvme t
            let c : Cap := ⟨k, nvme, t, 1, mans, image, [], [], [], [], job, []⟩
            let h := (((h.set (F.SLOT_STATE n) 1).set (F.SLOT_SETID n) k.setid).set (F.SLOT_EPOCH n) k.epoch).set F.BAST_STATE 1
            let h := { h with bast := { h.bast with cap := some c } }
            if !nvme && h.peerGone (h.get F.BUDDY_CHIP) then (h.captureFault (h.get F.BUDDY_CHIP)).snapAbort 7
            else if nvme && !h.flag F.LINK_UP then h.snapAbort 6 else h.capWrite c 0xFC0 (natLE 8 0)
  | _, _, _ => h

def execSnapFreeze (s : State) : Host.Outcome State Fault Refusal := s.run effSnapFreeze

/-- The virtual ranges of an entry with their offsets in the image: data, then scales. -/
def Man.ranges (m : Man) : List ((Nat × Nat) × Nat) :=
  let d := parseDesc m.raw
  ((d.addr, d.addr + m.dataBytes), m.off) :: (if m.scaleBytes = 0 then [] else [((d.scaleAddr, d.scaleAddr + m.scaleBytes), m.scaleOff)])

/-- Translate one range to extents with offsets in the image; the fault of the first page that has one. -/
def Hw.capExtents (h : Hw) (g : (Nat × Nat) × Nat) : Except XFault (List CapPart) :=
  (h.xlateRange noCache .read g.1.1 (g.1.2 - g.1.1)).map (fun l =>
    (l.foldl (fun (st : List CapPart × Nat) t => (st.1 ++ [⟨t.1, t.2, st.2⟩], st.2 + t.2)) ([], g.2)).1)

/-- Translate every footprint of a capture (R402 step 4); reason 2, a fault, or 0, a translation waits. -/
def Hw.capTranslate : Hw → List (Nat × ((Nat × Nat) × Nat)) → Hw × Except Nat (List CapPart)
  | h, [] => (h, .ok [])
  | h, (desc, g) :: r =>
    match h.capExtents g with
    | .error x => let f := h.bastFault desc .read x; (f.1, .error f.2)
    | .ok ps =>
      match Hw.capTranslate (h.noteRange noCache g.1.1 (g.1.2 - g.1.1)) r with
      | (h, .ok q) => (h, .ok (ps ++ q))
      | (h, .error f) => (h, .error f)

/-- The local ranges of an image that the guard holds (R404). -/
def capGuard (parts : List CapPart) : List CapSeg :=
  parts.filterMap (fun p => match p.tgt with
    | .loc pa => some (⟨pa, p.n, p.off⟩ : CapSeg)
    | _ => none)

/-- SNAP_SLOT_CLEARED (R402 steps 3 to 5): the Tape table and the state block are copied, the guard is set, the epoch is released. -/
def effSnapSlotCleared (h : Hw) : Hw :=
  match h.bast.cap with
  | some k =>
    if k.stage ≠ 1 then h
    else
      let h0 := h
      match h.bastRead 0xFFFF (h.get F.TAPE_BASE) 0x400000 with
      | (h, .error r) => if r = 0 then h0 else h.snapAbort r
      | (h, .ok tape) =>
        let h := (h.capWrite k 0x200000 tape).capWrite k 0x1000 k.job
        let rs := (k.mans.map (fun m => m.ranges.map (fun g => (m.desc, g)))).flatten
        match h.capTranslate rs with
        | (h, .error r) => if r = 0 then h0 else h.snapAbort r
        | (h, .ok parts) =>
          let k : Cap := { k with stage := 2, parts := parts, guard := capGuard parts, vas := rs.map (·.2.1) }
          (({ h with bast := { h.bast with cap := some k } } : Hw).set F.BAST_STATE 2).epochRelease k.hand
  | none => h

def execSnapSlotCleared (s : State) : Host.Outcome State Fault Refusal := s.run effSnapSlotCleared

/-- The pieces of captured data within a range of the image. -/
def Cap.within (k : Cap) (lo hi : Nat) : List (Target × Nat) :=
  k.parts.filterMap (fun p =>
    let a := max lo p.off
    let b := min hi (p.off + p.n)
    if a < b then
      some ((match p.tgt with
        | .loc pa => Target.loc (pa + (a - p.off))
        | .peer w o => .peer w (o + (a - p.off))
        | .host w o => .host w (o + (a - p.off))), b - a)
    else none)

/-- Count bytes that the snapshot's DMA engine copies (R276, R303). -/
def Hw.bastBytes (h : Hw) (n : Nat) : Hw :=
  match (List.range 32).find? (fun d => (h.jobsOn d).any (fun j => j.kind = 4)) with
  | some d => (h.inc (F.DMA_BYTES_RD d) n).inc (F.DMA_BYTES_WR d) n
  | none => h

/-- The bytes of a block of the image: as copied, or read now; and whether poison was met. What a peer or the host returns is open. -/
def Hw.capBlock (h : Hw) (k : Cap) (b : Nat) : Hw × Bytes × Bool :=
  match k.copied.find? b with
  | some bs => (h, bs, false)
  | none =>
    let (h, bs, p) := Hw.readParts h (k.within (b * 65536) ((b + 1) * 65536)) []
    (h.bastBytes bs.length, bs, p)

/-- Whether a range of the image can be read now: no target of it waits (R254, R274). -/
def Hw.capReady (h : Hw) (k : Cap) (lo hi : Nat) : Bool := (k.within lo hi).all (fun p => !h.targetWaits noCache .read p.2 p.1)

/-- The snapshot copy is a job of a DMA engine, any of the part's with a free slot (R276); none where it waits for one. -/
def Hw.bastJob (h : Hw) (k : Cap) : Option Hw :=
  if (List.range 32).any (fun d => (h.jobsOn d).any (fun j => j.kind = 4)) then some h
  else (h.seat (List.range 32)).map (fun d => h.jobAdd d
    { slot := 0, kind := 4, ctx := 0, index := 0, src := ((k.vas.head?).map (·.1)).getD 0
      dst := if k.nvme then 0 else h.liningAddr k.slot 0x600000, cursor := 0, parked := false, doneChunks := [] })

/-- Bytes of the captured data before the first block that is not copied (R279). -/
def Cap.cursor (k : Cap) : Nat :=
  k.parts.foldl (fun n p => n + (if p.off / 65536 < (((List.range (k.image / 65536 + 1)).find? (fun b =>
    !(k.within (b * 65536) ((b + 1) * 65536)).isEmpty && (k.copied.find? b).isNone)).getD (k.image / 65536 + 1)) then p.n else 0)) 0

/-- GUARDED_WRITE_RELEASE (R404): a block of the image has been copied; the writes held for it go ahead. -/
def effGuardedWriteRelease (block : Nat) (h : Hw) : Hw :=
  match h.bast.cap with
  | some k =>
    if k.stage ≠ 2 || (k.copied.find? block).isSome || (k.within (block * 65536) ((block + 1) * 65536)).isEmpty ||
      !h.capReady k (block * 65536) ((block + 1) * 65536) then h
    else
      match h.bastJob k with
      | none => h
      | some h =>
        match h.capBlock k block with
        | (h, bs, poison) =>
          if poison then h.snapAbort 3
          else
            let h := h.capWrite k (block * 65536) bs
            ({ h with bast := { h.bast with cap := some { k with copied := k.copied.set block bs }, wanted := h.bast.wanted.filter (· ≠ block) } } : Hw).releaseHeld
  | none => h

def execGuardedWriteRelease (block : Nat) (s : State) : Host.Outcome State Fault Refusal := s.run (effGuardedWriteRelease block)

/-- Read the blocks of an array of the image, writing to the target those not copied before. -/
def Hw.capArray (k : Cap) : List Nat → Hw → Hw × Bytes × Bool
  | [], h => (h, [], false)
  | b :: r, h =>
    let (h, bs, p) := h.capBlock k b
    let h := if (k.copied.find? b).isSome then h else h.capWrite k (b * 65536) bs
    let (h, bs', p') := Hw.capArray k r h
    (h, bs ++ bs', p || p')

/-- The blocks of n bytes at an offset of the image. -/
def blocksAt (off n : Nat) : List Nat := (List.range ((n + 65535) / 65536)).map (· + off / 65536)

/-- Copy every entry in manifest order: the manifest's bytes, and whether poison was met. -/
def Hw.capEntries (k : Cap) : List Man → Hw → Hw × Bytes × Bool
  | [], h => (h, [], false)
  | m :: r, h =>
    let (h, data, p) := Hw.capArray k (blocksAt m.off m.dataBytes) h
    let (h, sc, q) := Hw.capArray k (blocksAt m.scaleOff m.scaleBytes) h
    let (h, rest, p') := Hw.capEntries k r h
    (h, m.bytes (fingerprint data sc) ++ rest, p || q || p')

/-- SNAP_DATA_ACKED (R402 steps 6 and 7): every block is copied, the guard holds nothing more; the manifest and the header are written. -/
def effSnapDataAcked (h : Hw) : Hw :=
  match h.bast.cap with
  | some k =>
    if k.stage ≠ 2 || !h.capReady k 0 (k.image + 65536) then h
    else
      match h.bastJob k with
      | none => h
      | some h =>
        match Hw.capEntries k k.mans h with
        | (h, man, poison) =>
          if poison then h.snapAbort 3
          else
            let man := padTo 0x100000 man
            let digest := sha256 (k.job ++ man)
            let h := ((h.capWrite k 0x2000 man).capWrite k 0x102000 (List.replicate 0xFE000 0)).capWrite k 0 (h.snapHeader k digest)
            let k : Cap := { k with stage := 3, guard := [], digest := digest }
            (({ h with bast := { h.bast with cap := some k, wanted := [] } } : Hw).releaseHeld).set F.BAST_STATE 3
  | none => h

def execSnapDataAcked (s : State) : Host.Outcome State Fault Refusal := s.run effSnapDataAcked

/-- SNAP_COMMIT (R402 step 8): the commit record is written and acknowledged. -/
def effSnapCommit (h : Hw) : Hw :=
  match h.bast.cap with
  | some k =>
    if k.stage ≠ 3 then h
    else
      let n := slotNum k.nvme k.slot
      let h := ((h.capWrite k 0xFC0 (commitRecord k.hand.epoch k.digest)).set (F.SLOT_STATE n) 2).inc F.SNAP_DONE_CNT
      let h := (({ h with bast := { h.bast with cap := none } } : Hw).set F.BAST_STATE 0)
      (if h.flag F.SNAP_EVT then h.post Ev.evSnapDone [u64 k.hand.epoch, u16 k.hand.setid, u8 n] else h).drained
  | none => h

def execSnapCommit (s : State) : Host.Outcome State Fault Refusal := s.run effSnapCommit

/-- An NVMe command failed: a capture to NVMe aborts, a restore from it is unreachable (R406, R411). -/
def Hw.nvmeFail (h : Hw) : Hw :=
  match h.bast.cap, h.bast.restore with
  | some k, _ => if k.nvme then h.snapAbort 6 else h
  | none, some r => if r.source = 2 then h.restoreFail 0x17 0 0 else h
  | none, none => h

/-- NVME_COMPLETION (R406, R408): a status other than 0 is an error. -/
def effNvmeCompletion (status : Nat) (h : Hw) : Hw := if status = 0 then h else h.nvmeFail
def execNvmeCompletion (status : Nat) (s : State) : Host.Outcome State Fault Refusal := s.run (effNvmeCompletion status)

/-- NVME_TIMEOUT (R406): 1 s without a completion. -/
def effNvmeTimeout (h : Hw) : Hw := h.nvmeFail
def execNvmeTimeout (s : State) : Host.Outcome State Fault Refusal := s.run effNvmeTimeout

/-! ### Restore (R410 to R414) -/

/-- Whether an image's commit record stands (R405). -/
def imgValid (b : Bytes) : Bool :=
  fieldLE b 0xFC0 8 = commitMagic && slice b 0xFC8 8 = slice b 0x10 8 && slice b 0xFD0 32 = slice b 0x60 32

/-- Whether an image's manifest and state block have its digest (R411 step 2). -/
def imgDigestOk (b : Bytes) : Bool := sha256 (slice b 0x1000 0x101000) = slice b 0x60 32

/-- A manifest entry as read: identity, REPLICA, descriptor, places, fingerprint. -/
structure ManR where
  id : Nat
  replica : Bool
  raw : Nat
  off : Nat
  dataBytes : Nat
  scaleBytes : Nat
  fp : Bytes
  deriving DecidableEq, Repr

/-- The manifest of an image. -/
def imgMans (b : Bytes) : List ManR :=
  (List.range (fieldLE b 0xA 2)).map (fun i =>
    let e := slice b (0x2000 + 128 * i) 128
    ⟨fieldLE e 0 4, bitOf (fieldLE e 0 8) 32, fieldLE e 0x40 64, fieldLE e 8 8, fieldLE e 0x10 8, fieldLE e 0x18 8, slice e 0x20 32⟩)

/-- Data and scales of an entry in an image. -/
def ManR.dataIn (m : ManR) (b : Bytes) : Bytes := slice b m.off m.dataBytes
def ManR.scalesIn (m : ManR) (b : Bytes) : Bytes := slice b (alignUp (m.off + m.dataBytes) 65536) m.scaleBytes

/-- How a restore ends: status, cause, entry. Status 0: it does not end, an access of it waits. -/
structure REnd where
  status : Nat
  cause : Nat
  entry : Nat
  deriving DecidableEq, Repr

/-- The binding tests and their decision (R379, R380, R412): the end, or CHERVIL_STEP and whether it was realigned. -/
def bindTest (b : Bytes) (realign : Bool) : Except REnd (Nat × Bool) :=
  let f4 (o : Nat) : Nat := fieldLE b o 4
  let cur := fieldLE b 0x1030 8
  let cb := fieldLE b 0x1020 8
  let key := bindKey (f4 0x1000) (f4 0x1004) (f4 0x1008) (f4 0x100C) (f4 0x1028)
  let per := f4 0x1018
  let d := (cur + 2 ^ 64 - cb) % 2 ^ 64
  if chervil key cur ≠ f4 0x1038 then .error ⟨0x12, 1, 0⟩
  else if !bitOf (f4 0x101C) 0 || per = 0 || cur = cursorAt (f4 0x1014) per cb (f4 0x102C) then .ok (f4 0x102C, false)
  else if realign && d % per = 0 && d / per < 2 ^ 32 then .ok ((f4 0x1014 + d / per) % 2 ^ 32, true)
  else .error ⟨0x12, 2, 0⟩

/-- A write of a restore; a fault posts its record and ends it (R411). -/
def Hw.restoreWrite (h : Hw) (va entry : Nat) (bs : Bytes) : Hw × Option REnd :=
  match h.vwrite noCache va bs with
  | .ok h => (h, none)
  | .error x => let f := h.bastFault 0xFFFF .write x; (f.1, some ⟨if f.2 = 0 then 0 else 0x16, 0, entry⟩)

/-- Pull the entries in order, hashing them (R411 steps 5 and 6). -/
def Hw.pullEntries (img : Bytes) (poison : List Nat) (onlyRep : Bool) : List (ManR × Nat) → Hw → Hw × Option REnd
  | [], h => (h, none)
  | (m, i) :: r, h =>
    if onlyRep && !m.replica then Hw.pullEntries img poison onlyRep r h
    else
      let so := alignUp (m.off + m.dataBytes) 65536
      if poison.any (fun p => (m.off ≤ p && p < m.off + m.dataBytes) || (so ≤ p && p < so + m.scaleBytes)) then (h, some ⟨0x15, 0, i⟩)
      else
        let d := parseDesc m.raw
        match h.restoreWrite d.addr i (m.dataIn img) with
        | (h, some e) => (h, some e)
        | (h, none) =>
          match (if m.scaleBytes = 0 then (h, none) else h.restoreWrite d.scaleAddr i (m.scalesIn img)) with
          | (h, some e) => (h, some e)
          | (h, none) =>
            if fingerprint (m.dataIn img) (m.scalesIn img) ≠ m.fp then (h, some ⟨0x13, 0, i⟩)
            else Hw.pullEntries img poison onlyRep r h

/-- The status of a restore whose read ended with a reason of `bastRead`. -/
def readEnd (e : Nat) : Nat := match e with
  | 0 => 0
  | 2 => 0x16
  | _ => 0x15

/-- Hash the tensors in place (R453): a verification-only restore. -/
def Hw.hashEntries : List (ManR × Nat) → Hw → Hw × Option REnd
  | [], h => (h, none)
  | (m, i) :: r, h =>
    let d := parseDesc m.raw
    match h.bastRead 0xFFFF d.addr m.dataBytes with
    | (h, .error e) => (h, some ⟨readEnd e, 0, i⟩)
    | (h, .ok data) =>
      match (if m.scaleBytes = 0 then (h, .ok []) else h.bastRead 0xFFFF d.scaleAddr m.scaleBytes) with
      | (h, .error e) => (h, some ⟨readEnd e, 0, i⟩)
      | (h, .ok sc) => if fingerprint data sc ≠ m.fp then (h, some ⟨0x13, 0, i⟩) else Hw.hashEntries r h

/-- Compare with a replica's header and manifest (R413): the first restored entry that is missing or unequal there, which counts, or a replica that
cannot be compared. -/
def replicaTest (img rep : Bytes) : Option (REnd × Bool) :=
  if !imgValid rep || !imgDigestOk rep || fieldLE rep 0x1028 4 ≠ fieldLE img 0x1028 4 then some (⟨0x14, 0, 0⟩, false)
  else
    let theirs := imgMans rep
    (((imgMans img).zipIdx).find? (fun m => m.1.replica && !theirs.any (fun t => t.id = m.1.id && t.fp = m.1.fp))).map (fun m => (⟨0x14, 0, m.2⟩, true))

/-- Step 8 of R411: the job state is written from the image. -/
def Hw.restoreState (h : Hw) (b : Bytes) (step : Nat) (salt : Bool) : Hw :=
  let f4 (o : Nat) : Nat := fieldLE b o 4
  let h := (List.range 4).foldl (fun h i => h.set (F.JOB_KEY i) (f4 (0x1000 + 4 * i))) h
  let h := if salt then h.set F.STREAM_SALT (f4 0x1010) else h
  let h := (((h.set F.STEP_BASE (f4 0x1014)).set F.CURSOR_PER_STEP (f4 0x1018)).set F.BIND_EN (f4 0x101C % 2)).set F.CURSOR_BASE (fieldLE b 0x1020 8)
  let h := (((h.set F.DATA_CURSOR (fieldLE b 0x1030 8)).set F.MARK_STEP (f4 0x1028)).set F.MARK_CURSOR (fieldLE b 0x1030 8)).set F.BIND_CHECK (f4 0x1038)
  let h := ((h.set F.CHERVIL_STEP step).set F.STARVE_N_MAX (fieldLE b 0x103C 2)).set F.WATCH_RELAX_CNT (fieldLE b 0x1040 8)
  (h.set F.RELAX_EPOCH (fieldLE b 0x1048 8)).set F.SHUTTLE_EPOCH (fieldLE b 0x10 8)

/-- A restore ends well (R411 step 8, R421). -/
def Hw.restoreDone (h : Hw) (r : Restore) (img : Bytes) (status : Nat) : Hw :=
  let cause := if slice img 0x20 32 = h.planDigest then 0 else 1
  let h := (((h.set F.RESTORE_STATUS status).set F.RESTORE_CAUSE cause).set F.RESTORE_ENTRY 0).set F.RESTORE_EPOCH (fieldLE img 0x10 8)
  let h := (h.inc F.RESTORE_CNT).set F.BAST_STATE 0
  (({ h with bast := { h.bast with restore := none } } : Hw).postOp Ev.evRestoreDone [u64 (fieldLE img 0x10 8), u8 status] r.op).drained

/-- Steps 1 to 4 of R411: the end, or the step to go on with and whether it was realigned. -/
def Hw.restoreCheck (h : Hw) (r : Restore) (img : Bytes) (poison : List Nat) : Except REnd (Nat × Bool) :=
  if poison.any (· < 0x1000) then .error ⟨0x15, 0, 0⟩
  else if !imgValid img then .error ⟨0x10, 0, 0⟩
  else if poison.any (· < 0x102000) then .error ⟨0x15, 0, 0⟩
  else if !imgDigestOk img then .error ⟨0x13, 0, 0⟩
  else if slice img 0x40 32 ≠ h.layoutDigest || (!r.replica && fieldLE img 0xC 2 ≠ h.get F.MY_RANK) then .error ⟨0x11, 0, 0⟩
  else if r.verify then .ok (0, false)
  else bindTest img r.realign

/-- Steps 5 and 6 of R411. -/
def Hw.restorePull (h : Hw) (r : Restore) (img : Bytes) (poison : List Nat) : Hw × Option REnd :=
  if r.verify then Hw.hashEntries (imgMans img).zipIdx h
  else if poison.any (fun p => 0x200000 ≤ p && p < 0x600000) then (h, some ⟨0x15, 0, 0⟩)
  else
    match h.restoreWrite (h.get F.TAPE_BASE) 0 (slice img 0x200000 0x400000) with
    | (h, some e) => (h, some e)
    | (h, none) => Hw.pullEntries img poison r.replica (imgMans img).zipIdx { h with train := { h.train with absMark := [] } }

/-- RESTORE_PULL_DONE (R411 to R414, R453). `data` is the image of the slot read, then, where a replica window was given, the replica's header, state
block and manifest; `poison` lists the offsets of poisoned source lines of the image. -/
def effRestorePullDone (data : Bytes) (poison : List Nat) (h : Hw) : Hw :=
  match h.bast.restore with
  | none => h
  | some r =>
    let fail (h : Hw) (e : REnd) : Hw := h.restoreFail e.status e.cause e.entry
    match h.restoreCheck r data poison with
    | .error e => fail h e
    | .ok (step, realigned) =>
      match h.restorePull r data poison with
      | (h', some e) => if e.status = 0 then h else fail h' e
      | (h, none) =>
        let bad := if r.win.isSome then replicaTest data (data.drop (fieldLE data 0x18 8)) else none
        match bad with
        | some (e, counts) => fail (if counts then h.inc F.VERIFY_MISMATCH_CNT else h) e
        | none =>
          let h := if r.verify then h else h.restoreState data step (!r.replica)
          h.restoreDone r data (if realigned then 3 else 2)

def execRestorePullDone (data : Bytes) (poison : List Nat) (s : State) : Host.Outcome State Fault Refusal := s.run (effRestorePullDone data poison)

end Sys2Proof.Machine
end

