-- ==== Sys2Proof/Machine/CollOps.lean ====
section
/-!
DEFINITION. Machine/CollOps.lean: what ends a collective early (R363), the re-threads of its steps (R362), and what a lost link or a dead
neighbour does to it (R365).
-/

namespace Sys2Proof.Machine

/-- Collectives per lead, reasons of EV_COLL_FAIL (R460): 1 timeout, 2 dead, 3 no path, 4 mismatch. -/
def crTimeout : Nat := 1
def crDead : Nat := 2
def crNoPath : Nat := 3
def crMismatch : Nat := 4

/-- COLL fields (R163). -/
def collCfn (r : Nat) : Nat := bitsOf r 122 120
def collAxis (r : Nat) : Nat := bitsOf r 119 117
def collD (r : Nat) : Nat := bitsOf r 116 101
def collS (r : Nat) : Nat := bitsOf r 100 85
def collRoot (r : Nat) : Nat := bitsOf r 84 69
def collSeq (r : Nat) : Nat := bitsOf r 68 37

/-- The axis of the running plan. -/
def Hw.axis? (h : Hw) (a : Nat) : Option Axis := (h.topo.plan).bind (fun p => p.axes[a]?)

/-- Chip at a position of the part's group on an axis. -/
def Hw.chipAt (h : Hw) (a c : Nat) : Nat := (h.topo.plan.map (fun p => p.chip (p.withCoord (h.get F.MY_RANK) a c))).getD 0

/-- The position of a chip on an axis, 0xFFFF if it is not in the plan. -/
def Hw.posOf (h : Hw) (a chip : Nat) : Nat := ((h.topo.plan).bind (fun p => (p.find chip).map (fun r => p.coord r a))).getD 0xFFFF

/-- Physical links of both bundles of an axis. -/
def Hw.axisLinks (h : Hw) (a : Nat) : List Nat :=
  match h.topo.plan with
  | none => []
  | some p => (p.bundle a 3 ++ p.bundle a 4).map h.physOf

/-- Whether an axis runs the HALVING algorithm. -/
def Hw.halving (h : Hw) (a : Nat) : Bool := ((h.axis? a).map (fun x => x.algo == 1)).getD false

/-- Give up a calibration slot of a link: its settings are restored and its index is served again (R329). -/
def Hw.calAbort (h : Hw) (l : Nat) : Hw :=
  let e := l / 8
  match (h.eye e).calOn with
  | some x =>
    if x / 4 = l % 8 then
      let laser := bitsOf (h.get (F.LNK_LANE_MAP l)) (16 * (x % 4) + 5) (16 * (x % 4))
      let h := h.updEye e (fun y => { y with calOn := none, calAgain := y.calAgain ++ [x] })
      let h := if h.get (F.LSTATE e laser) = 6 then h.set (F.LSTATE e laser) 1 else h
      (h.inc (F.CAL_ABORTS e)).set (F.CAL_ACTIVE l) 0
    else h
  | none => h

/-- End a switch-over or restore of a link: a spare returns to SPARE, a lane's own laser stays ACTIVE (R324, R325, R329). -/
def Hw.swEnd (h : Hw) (e : Nat) : Hw :=
  match (h.eye e).sw with
  | none => h
  | some w =>
    let own := bitsOf (h.get (F.LNK_LANE_MAP w.link)) (16 * w.lane + 5) (16 * w.lane)
    let h := h.set (F.LSTATE e w.laser) (if w.laser = own then 1 else 2)
    ((h.updEye e (fun y => { y with sw := none })).set (F.SWITCH_BUSY e) 0).set (F.LNK_SWITCHOVER w.link) 0

/-- Abort a switch-over or restore if it runs on a link. -/
def Hw.swAbort (h : Hw) (l : Nat) : Hw :=
  match (h.eye (l / 8)).sw with
  | some w => if w.link = l then h.swEnd (l / 8) else h
  | none => h

/-- Put a lane of a calibration slot that ends by abort back into service. -/
def Hw.lanesBack (h : Hw) (l : Nat) : Hw :=
  match (h.eye (l / 8)).calOn with
  | some x =>
    if x / 4 = l % 8 then
      let m := (h.get (F.LNK_LANE_MASK l)) ||| 2 ^ (x % 4)
      ((h.set (F.LNK_LANE_MASK l) m).set (F.LNK_WIDTH l) (ones m 4)).set (F.LNK_LANE_MAP l) ((h.get (F.LNK_LANE_MAP l)) ||| 2 ^ (16 * (x % 4) + 15))
    else h
  | none => h

/-- Request a re-thread of a link (R328) with the meetings of R329: a calibration slot aborts and its lane is back in service by step 4, a
switch-over or restore aborts, announced lane operations end. -/
def Hw.rethreadReq (h : Hw) (l port : Nat) : Hw :=
  let h := ((h.lanesBack l).calAbort l).swAbort l
  h.updLk l (fun s => { s with rethread := some (port, 0), ops := [] })

/-- Home port of a link that a plan link serves: the port it held when it was accepted, its plan entry's unless it was remapped (R339). -/
def Hw.homePort (h : Hw) (l : Nat) : Nat :=
  match h.topo.plan with
  | none => l % 8
  | some p => ((h.lk l).home).getD (((p.links[h.plinkOf l]?).map (·.home)).getD (l % 8))

/-- Re-thread the UP links of both bundles of an axis to the ports of HALVING step s, or home (R362). -/
def Hw.rethreadAxis (h : Hw) (a : Nat) (step : Option Nat) : Hw :=
  match h.topo.plan with
  | none => h
  | some p =>
    (h.axisLinks a).foldl (fun h l =>
      let port := match step with
        | some k => ((p.links[h.plinkOf l]?).map (fun e => bitsOf e.step (4 * k + 3) (4 * k))).getD 0
        | none => h.homePort l
      let cur := match (h.lk l).rethread with
        | some (q, _) => q
        | none => h.get (F.LNK_CUR_PORT l)
      if h.lkUp l && cur ≠ port then h.rethreadReq l port else h) h

/-- TOPO_CFG ENABLE, written 0 with collectives active, drops once they have ended (R365). -/
def Hw.topoDrained (h : Hw) : Hw :=
  if h.topo.draining && h.topo.colls.isEmpty then { h.setB F.TOPO_CFG_ENABLE false with topo := { h.topo with draining := false } } else h

/-- Take a collective out of the list of active ones; its re-threaded links return home, its held frames go (R362, R363). -/
def Hw.collGone (h : Hw) (k : Coll) : Hw :=
  let h := { h with topo := { h.topo with colls := h.topo.colls.filter (fun x => !(x.ctx = k.ctx && x.index = k.index)) } }
  if h.halving k.paxis then h.rethreadAxis k.paxis none else h

/-- What a failed collective leaves in D: open bytes where it lies in local memory (R363). -/
def Hw.collUndef (h : Hw) (k : Coll) : Hw :=
  match (h.ent? k.ctx k.index).bind (fun e => descIn e.descs (collD e.raw)) with
  | some d => (h.localsOf k.lead (d.ranges.map (fun g => (g.1, g.2 - g.1)))).foldl (fun g r => g.poke r.1 (h.fuzz true (r.1 + 8500) (List.replicate r.2 0))) h
  | none => h

/-- A collective fails (R363): COLL_FAILED, EV_COLL_FAIL with the position of the missing peer; D is undefined. -/
def Hw.collFail (h : Hw) (k : Coll) (reason pos : Nat) : Hw :=
  let h := ((h.collUndef k).collGone k).post Ev.evCollFail [u32 k.seq, u8 k.paxis, u8 reason, u16 pos]
  let h := h.inc (F.SEAM_FAILS k.lead)
  let h := match h.ent? k.ctx k.index with
    | some e => h.finish k.ctx e stCollFailed 0 {}
    | none => h
  h.topoDrained

/-- Collectives on an axis fail (R363, R365). -/
def Hw.collAxisFail (h : Hw) (a reason pos : Nat) : Hw :=
  (h.topo.colls.filter (fun k => k.paxis = a)).foldl (fun h k => h.collFail k reason pos) h

/-- The neighbours a plan link's collective needs: the chip expected at its far end. -/
def Hw.farOf (h : Hw) (pl : Nat) : Option Nat := (h.expected pl).map (·.1)

/-- Axis that a plan link serves: its own, or the BOARD axis for a board link to a member of the part's group (R342). -/
def Hw.linkAxis (h : Hw) (pl : Nat) : Option Nat :=
  match h.topo.plan with
  | none => none
  | some p =>
    match p.links[pl]? with
    | none => none
    | some e => if e.role = 3 || e.role = 4 then some e.axis else if e.role = 2 then p.axes.findIdx? (fun a => a.type = 4) else none

/-- A link became FAILED: the collectives whose bundle has no other UP link, and no way round, fail for want of a path (R363, R354). -/
def Hw.collLinkLost (h : Hw) (l : Nat) : Hw :=
  match h.topo.plan, h.linkAxis (h.plinkOf l) with
  | some p, some a =>
    match p.links[h.plinkOf l]?, p.axes[a]? with
    | some e, some x =>
      let up (role : Nat) : Bool := ((p.bundle a role).map h.physOf).any h.lkUp
      let lost := if e.role = 2 then true else !up e.role && !(x.type = 1 && up (7 - e.role))
      if lost then h.collAxisFail a crNoPath (((h.farOf (h.plinkOf l)).map (h.posOf a)).getD 0xFFFF) else h
    | _, _ => h
  | _, _ => h

/-- A neighbour died: the collectives on the axes whose links lead to it fail (R363). -/
def Hw.collPeerDead (h : Hw) (chip : Nat) : Hw :=
  let axes := (List.range 64).filterMap (fun pl => if h.farOf pl = some chip then h.linkAxis pl else none)
  axes.eraseDups.foldl (fun h a => h.collAxisFail a crDead (h.posOf a chip)) h

end Sys2Proof.Machine
end

