-- ==== Sys2Proof/Machine/Lane.lean ====
section
/-!
DEFINITION. Machine/Lane.lean: the lanes and lasers of a link, and the states of a link: shared operations (R304 to R306, R317 to R320).
-/

namespace Sys2Proof.Machine

/-! ### Lanes and lasers -/

/-- A lane's entry of LANE_MAP (R334): in service, slot, laser. -/
structure LaneE where
  svc : Bool
  slot : Nat
  laser : Nat
  deriving DecidableEq, Repr

def Hw.lane (h : Hw) (l w : Nat) : LaneE :=
  let m := h.get (F.LNK_LANE_MAP l)
  ⟨bitOf m (16 * w + 15), bitsOf m (16 * w + 14) (16 * w + 12), bitsOf m (16 * w + 5) (16 * w)⟩

/-- LANE_MASK and WIDTH follow LANE_MAP. -/
def Hw.laneSync (h : Hw) (l : Nat) : Hw :=
  let m := (List.range 4).foldl (fun m w => if (h.lane l w).svc then m + 2 ^ w else m) 0
  (h.set (F.LNK_LANE_MASK l) m).set (F.LNK_WIDTH l) (ones m 4)

def Hw.setLane (h : Hw) (l w : Nat) (x : LaneE) : Hw :=
  let m := h.get (F.LNK_LANE_MAP l)
  let old := m / 2 ^ (16 * w) % 65536
  (h.set (F.LNK_LANE_MAP l) (m - old * 2 ^ (16 * w) + (x.svc.toNat * 2 ^ 15 + x.slot * 2 ^ 12 + x.laser) * 2 ^ (16 * w))).laneSync l

/-- Put a lane in or out of service. -/
def Hw.laneSvc (h : Hw) (l w : Nat) (b : Bool) : Hw := h.setLane l w { h.lane l w with svc := b }

/-- The slot of a fiber that no lane is on (R305). -/
def Hw.freeSlot (h : Hw) (l : Nat) : Nat :=
  ((List.range 5).find? (fun f => (List.range 4).all (fun w => (h.lane l w).slot ≠ f))).getD 4

/-- A signed margin of slot f of a 40-bit word, in 0.1 dB (R313). -/
def marginAt (w f : Nat) : Int := byteInt (bitsOf w (8 * f + 7) (8 * f))

/-- The far end's margin of a lane (TX_MARGIN). -/
def Hw.farMargin (h : Hw) (l w : Nat) : Int := marginAt (h.get (F.TX_MARGIN l)) w

/-- Store the laser record of an Eyelet in the Config image: retirements and spares (R306, R476). -/
def Hw.laserRecord (h : Hw) (e : Nat) : Hw :=
  h.cfgPut (0x20 + e) ((List.range 36).map (fun x =>
    BitVec.ofNat 8 (match h.get (F.LSTATE e x) with
      | 5 => 0x80
      | 2 => 0x40
      | _ => h.get (F.LAS_LINK e x) * 4 + h.get (F.LAS_LANE e x))))

/-- The lane a laser serves at commissioning; none of a spare (R306). -/
def factoryByteOf (x : Nat) : Nat := if x < 32 then x else 0x40

/-- The laser record in force at an Eyelet's start: the Config image's, or the commissioning assignment (R306, R476). -/
def Hw.laserBytes (h : Hw) (e : Nat) : List Nat :=
  match h.cfgGet (0x20 + e) with
  | some b =>
    let v := b.map BitVec.toNat
    if v.length = 36 && v.all (fun x => x / 64 ≠ 3 && !bitOf x 5) then v else (List.range 36).map factoryByteOf
  | none => (List.range 36).map factoryByteOf

/-- Set the lasers and lane maps of an Eyelet from its record: lane w on slot w, slot 4 free (R305, R306). A lane whose laser retired keeps it
until a spare restores the lane. BASELINE is the commissioning power, which the manual does not give (log entry 30). -/
def Hw.eyeAssign (h : Hw) (e : Nat) : Hw :=
  let rec_ := h.laserBytes e
  let h := (List.range 36).foldl (fun h x =>
    let b := rec_.getD x 0
    let h := h.set (F.LSTATE e x) (if bitOf b 7 then 5 else if bitOf b 6 then 2 else 0)
    let h := h.set (F.LAS_BASELINE e x) (Config.freeNat 0 (0x5000 + e * 64 + x))
    let serves := if b < 32 then b else if x < 32 then x else 0
    ((h.set (F.LAS_LINK e x) (serves / 4)).set (F.LAS_LANE e x) (serves % 4)).set (F.LAS_SLOT e x) (serves % 4)) h
  let h := (List.range 32).foldl (fun h i =>
    let laser := ((List.range 36).find? (fun x => rec_.getD x 0 = i)).getD i
    h.setLane (8 * e + i / 4) (i % 4) ⟨false, i % 4, laser⟩) h
  h.set (F.SPARES_FREE e) ((List.range 36).filter (fun x => bitOf (rec_.getD x 0) 6)).length

/-- An Eyelet starts (R318, R332). -/
def Hw.eyeStart (h : Hw) (e : Nat) : Hw :=
  let h := h.eyeAssign e
  let h := { h with opt := { h.opt with eyes := h.opt.eyes.set e EyeSt.fresh } }
  ((h.set (F.EYE_STATE e) 1).set (F.CAL_NEXT e) 0).set (F.SWITCH_BUSY e) 0

/-- Set the laser of every lane of a link to a state, retired ones and those of a running switch-over apart. -/
def Hw.linkLasers (h : Hw) (l st : Nat) : Hw :=
  (List.range 4).foldl (fun h w =>
    let x := (h.lane l w).laser
    if h.get (F.LSTATE (l / 8) x) = 5 then h
    else (((h.set (F.LSTATE (l / 8) x) st).set (F.LAS_LINK (l / 8) x) (l % 8)).set (F.LAS_LANE (l / 8) x) w).set (F.LAS_SLOT (l / 8) x) (h.lane l w).slot) h

/-! ### Acknowledgement and replay (R314) -/

/-- Whether LSEQ a is at or before b, modulo 2^32. -/
def seqLe (a b : Nat) : Bool := decide ((b + 2 ^ 32 - a) % 2 ^ 32 < 2 ^ 31)

/-- ACK_SEQ covers frames of the retry buffer (R314). -/
def Hw.acked (h : Hw) (l ack : Nat) : Hw := h.updLk l (fun s => { s with retry := s.retry.dropWhile (fun f => seqLe f.lseq ack) })

/-- Credits come back for a lane (R315). -/
def Hw.credited (h : Hw) (l vl n : Nat) : Hw :=
  if n = 0 then h else h.updLk l (fun s => { s with credits := s.credits.set vl (s.credits.getD vl 0 + n) })

/-- Send again what is unacknowledged, in order; REPLAYS counts it (R314). -/
def Hw.resend (h : Hw) (l : Nat) : Hw :=
  if (h.lk l).retry.isEmpty then h
  else
    let h := h.updLk l (fun s => { s with retry := s.retry.map (fun f => { f with tries := f.tries + 1, ack := (s.rxNext + 2 ^ 32 - 1) % 2 ^ 32 }) })
    let h := (h.lk l).retry.foldl (fun h f => (h.inc (F.FRAMES_TX l)).send (.frame l f.ftype f.bytes)) h
    h.inc (F.REPLAYS l)

/-! ### Changes of state -/

/-- Forget lane operations, calibration, switch-over and re-thread of a link (R329). -/
def Hw.linkOps (h : Hw) (l : Nat) : Hw :=
  let h := (h.calAbort l).swAbort l
  h.updLk l (fun s => { s with ops := [], rethread := none, toIdent := false, held := [] })

/-- A link goes DOWN and enters RETRAIN at once (R317, R319). -/
def Hw.linkDown (h : Hw) (l : Nat) : Hw :=
  let h := h.linkOps l
  let h := (List.range 4).foldl (fun h w => h.laneSvc l w false) h
  let h := h.updLk l (fun s => { s with rtStep := 0, discarding := false, retry := s.retry.map (fun f => { f with tries := 0 }) })
  (h.inc (F.RETRAINS l)).setLk l lsRETRAIN

/-- A link becomes FAILED: its frames go back to the fabric layer (R319, R354), and its collectives see it (R363). -/
def Hw.linkFail (h : Hw) (l : Nat) : Hw :=
  let h := (h.linkOps l).setLk l lsFAILED
  let h := (List.range 4).foldl (fun h w => h.laneSvc l w false) h
  (h.handBack l).collLinkLost l

/-- Replay by NAK or timeout; a frame already sent again RETRY_LIMIT times takes the link DOWN instead (R314). -/
def Hw.replay (h : Hw) (l : Nat) : Hw :=
  let limit := max 1 (h.get F.RETRY_LIMIT)
  match (h.lk l).retry.head? with
  | none => h
  | some f => if limit ≤ f.tries then h.linkDown l else h.resend l

/-- Clear the bit of a port's trained path (R327). -/
def Hw.pathSet (h : Hw) (l port : Nat) (b : Bool) : Hw :=
  let m := h.get (F.PATH_TRAINED (l / 8))
  h.set (F.PATH_TRAINED (l / 8)) (if b then m ||| 2 ^ port else if m.testBit port then m - 2 ^ port else m)

/-- Whether some other link of the Eyelet holds a port (R327). -/
def Hw.portTaken (h : Hw) (l port : Nat) : Bool :=
  (List.range 8).any (fun k => 8 * (l / 8) + k ≠ l && h.get (F.LNK_CUR_PORT (8 * (l / 8) + k)) = port)

/-- The port a link takes as it brings up (R318, R339). -/
def Hw.takePort (h : Hw) (l : Nat) : Nat :=
  let s := h.lk l
  let want := match h.topo.plan with
    | some p =>
      match p.links[h.plinkOf l]? with
      | some e => if s.planFresh && e.role ≠ 0 then e.home else s.lastPort.getD (l % 8)
      | none => s.lastPort.getD (l % 8)
    | none => s.lastPort.getD (l % 8)
  if h.portTaken l want then ((List.range 12).find? (fun q => !h.portTaken l q)).getD want else want

/-- Whether a link may bring up (R318, R350). -/
def Hw.canStart (h : Hw) (l : Nat) : Bool :=
  h.flag F.OPT_CFG_ENABLE && h.flag (F.LINK_EN l) && h.domOn (domEYELET (l / 8)) && h.get (F.EYE_STATE (l / 8)) = 1 && (!h.solo || l < 16)

/-- Start a link's bring-up (R318 step 1). -/
def Hw.linkStart (h : Hw) (l : Nat) : Hw :=
  if !h.canStart l then h
  else
    let port := h.takePort l
    let h := h.updLk l (fun s => { ({} : LinkSt) with lastPort := s.lastPort, planFresh := s.planFresh, home := s.home, queue := s.queue })
    let h := ((h.set (F.LNK_CUR_PORT l) port).linkLasers l 3).set (F.DISC_OUT l) 0
    (h.set (F.DISC_REASON l) 0).setLk l lsTUNING

/-- Take a link OFF, its lasers dark, its port free. Frames it held go back to the fabric layer. -/
def Hw.linkOff (h : Hw) (l : Nat) : Hw :=
  if h.lkState l = lsOFF then h
  else
    let h := (h.linkOps l).setLk l lsOFF
    let h := (List.range 4).foldl (fun h w => h.laneSvc l w false) h
    let h := (h.linkLasers l 0).set (F.LNK_CUR_PORT l) 0xF
    let h := h.handBack l
    (h.updLk l (fun s => { ({} : LinkSt) with lastPort := s.lastPort, planFresh := s.planFresh, home := s.home })).collLinkLost l

/-- OPT_CFG ENABLE goes to 1: the Eyelets start, and their links (R331, R318). -/
def Hw.optEnable (h : Hw) : Hw :=
  let h := h.setB F.OPT_CFG_ENABLE true
  let h := (List.range 8).foldl (fun h e => if h.domOn (domEYELET e) then h.eyeStart e else h) h
  (List.range 64).foldl Hw.linkStart h

/-- OPT_CFG ENABLE goes to 0: every link is OFF (R331). -/
def Hw.optDisable (h : Hw) : Hw :=
  let h := (List.range 64).foldl Hw.linkOff (h.setB F.OPT_CFG_ENABLE false)
  (List.range 8).foldl (fun h e => h.set (F.EYE_STATE e) 0) h

/-! ### Identity (R345 to R347) -/

/-- The part's identity public key (R478; log entry 5). -/
def pubKey : Bytes := (List.range 32).map (Config.derivedKey 1)

/-- Bytes of the register block from an aligned offset. -/
def Hw.regBytes (h : Hw) (o n : Nat) : Bytes := ((List.range (n / 8)).map (fun i => natLE 8 (h.word (o + 8 * i)).toNat)).flatten

/-- Store bytes into the register block at an aligned offset. -/
def Hw.setRegBytes (h : Hw) (o : Nat) (b : Bytes) : Hw :=
  (List.range ((b.length + 7) / 8)).foldl (fun h i => h.setWord (o + 8 * i) (BitVec.ofNat 64 (fieldLE b (8 * i) 8))) h

def regAttestToken : Nat := 0x7C0020
def regIdHash : Nat := 0x7C0040
def regPlanDigest : Nat := 0x680020

/-- The signed block of the part's LIF (R346). -/
def Hw.lifBlock (h : Hw) : Bytes :=
  natLE 2 h.myChip ++ natLE 1 (h.get F.YELYEL_VER_major) ++ natLE 1 (h.get F.YELYEL_VER_minor) ++ natLE 1 (h.get F.GBL_PROFILE) ++
  natLE 1 (h.get F.GBL_STEPPING) ++ natLE 2 0 ++ natLE 8 (h.get F.BOOT_ID) ++ h.regBytes regPlanDigest 32 ++ h.regBytes regAttestToken 32 ++ pubKey

/-- The LIF of a link (R346). -/
def Hw.lifBytes (h : Hw) (l : Nat) : Bytes :=
  let blk := h.lifBlock
  natLE 2 1 ++ natLE 1 l ++ natLE 1 (h.plinkOf l) ++ natLE 1 (h.get (F.LNK_CUR_PORT l)) ++ List.replicate 11 0 ++ blk ++
    (List.range 17088).map (Config.signature blk)

/-- Frames of 592 data bytes that carry one LIF of 17,216 bytes (R310, R346). -/
def lifFrames : Nat := 30

/-- Send the part's LIF on a link (R346). -/
def Hw.sendLif (h : Hw) (l : Nat) : Hw := (h.inc (F.FRAMES_TX l) lifFrames).send (.frame l ftLIF (h.lifBytes l))

/-- Whether the exchange of step 6 runs: discovery is on and the part has its coordinate (R336, R338). -/
def Hw.identOn (h : Hw) : Bool := h.flag F.TOPO_CFG_ENABLE && h.flag F.TOPO_VALID

/-- A link enters IDENTIFY: versions are exchanged first (R318 step 6, R345). -/
def Hw.identStart (h : Hw) (l : Nat) : Hw :=
  let h := h.updLk l (fun s => { s with farVer := none, lifPend := none, rethread := none, toIdent := false })
  let h := ((h.set (F.DISC_OUT l) 0).set (F.DISC_REASON l) 0).setLk l lsIDENTIFY
  if h.identOn then h.sendCtrl l 0 0 0 0 else h

/-- Links that wait in IDENTIFY begin the exchange. -/
def Hw.identAll (h : Hw) : Hw := (List.range 64).foldl (fun h l => if h.lkState l = lsIDENTIFY then h.identStart l else h) h

/-- A link is accepted: UP, LSEQ from 0, credits from VL_FREE, the path trained (R318 step 7). -/
def Hw.linkUp (h : Hw) (l out : Nat) : Hw :=
  let port := h.get (F.LNK_CUR_PORT l)
  let h := (h.set (F.DISC_OUT l) out).set (F.DISC_REASON l) 0
  let h := h.updLk l (fun s => { s with
    retry := [], nextTx := 0, rxNext := 0, discarding := false, owed := [], credits := s.vlFree, lastPort := some port, planFresh := false, lifPend := none, noLight := false })
  let h := (h.pathSet l port true).setLk l lsUP
  let h := h.post Ev.evLinkUp [u8 l, u8 (h.get (F.LNK_WIDTH l))]
  h.pump (h.lk l).queue.length l

/-- A link is refused: HELD or DARK with its reason and event (R347). DARK sends its LIF and turns its lasers off. -/
def Hw.linkRefuse (h : Hw) (l : Nat) (dark : Bool) (reason plink chip : Nat) : Hw :=
  let h := (h.set (F.DISC_OUT l) (if dark then 4 else 3)).set (F.DISC_REASON l) reason
  let h := h.updLk l (fun s => { s with lifPend := none })
  let h := h.post (if reason = 5 then Ev.evTopoExtra else Ev.evTopoMismatch) [u8 l, u8 reason, u8 plink, u16 chip]
  if dark then ((h.sendLif l).linkLasers l 0).setLk l lsDARK else h.setLk l lsHELD

end Sys2Proof.Machine
end

