-- ==== Sys2Proof/Machine/Optical.lean ====
section
/-!
DEFINITION. Machine/Optical.lean: the life of a link (R317 to R319) and the frames it brings (R310 to R315, R352 to R356).
-/

namespace Sys2Proof.Machine

/-! ### Bring-up -/

/-- LINK_EN_WRITE (R334, R318, R350): a rise starts the link's bring-up, also of a FAILED link; a fall takes it OFF. -/
def effLinkEnWrite (l : Nat) (v : Bool) (h : Hw) : Hw :=
  if 64 ≤ l || !h.domOn domYOKE || h.flag (F.LINK_EN l) = v then h
  else if v then (h.set (F.LINK_EN l) 1).linkStart l
  else (h.set (F.LINK_EN l) 0).linkOff l

def execLinkEnWrite (l : Nat) (v : Bool) (s : State) : Host.Outcome State Fault Refusal := s.run (effLinkEnWrite l v)

/-- LASERS_LOCKED (R318 step 2): the lasers lock; CTRL frames go out and the link waits for light. -/
def effLasersLocked (l : Nat) (h : Hw) : Hw :=
  if l < 64 && h.lkState l = lsTUNING then
    let h := (h.linkLasers l 1).updLk l (fun s => { s with noLight := false })
    (h.setLk l lsWAITLIGHT).sendCtrl l 0 0 0 0
  else h

def execLasersLocked (l : Nat) (s : State) : Host.Outcome State Fault Refusal := s.run (effLasersLocked l)

/-- LIGHT_DETECTED (R318 step 3). -/
def effLightDetected (l : Nat) (h : Hw) : Hw := if l < 64 && h.lkState l = lsWAITLIGHT then h.setLk l lsACQUIRE else h

def execLightDetected (l : Nat) (s : State) : Host.Outcome State Fault Refusal := s.run (effLightDetected l)

/-- NO_LIGHT_TIMEOUT (R318 step 2): no light for 1 s is posted once. -/
def effNoLightTimeout (l : Nat) (h : Hw) : Hw :=
  if l < 64 && h.lkState l = lsWAITLIGHT && !(h.lk l).noLight then
    (h.updLk l (fun s => { s with noLight := true })).post Ev.evLinkNoLight [u8 l]
  else h

def execNoLightTimeout (l : Nat) (s : State) : Host.Outcome State Fault Refusal := s.run (effNoLightTimeout l)

/-- ACQUIRE_DONE (R318 step 4; R319 within RETRAIN). -/
def effAcquireDone (l : Nat) (h : Hw) : Hw :=
  if 64 ≤ l then h
  else if h.lkState l = lsACQUIRE then h.setLk l lsALIGN
  else if h.lkState l = lsRETRAIN && (h.lk l).rtStep = 0 then h.updLk l (fun s => { s with rtStep := 1 })
  else h

def execAcquireDone (l : Nat) (s : State) : Host.Outcome State Fault Refusal := s.run (effAcquireDone l)

/-- ALIGN_DONE (R318 step 5; R319 within RETRAIN). -/
def effAlignDone (l : Nat) (h : Hw) : Hw :=
  if 64 ≤ l then h
  else if h.lkState l = lsALIGN then h.setLk l lsVERIFY
  else if h.lkState l = lsRETRAIN && (h.lk l).rtStep = 1 then h.updLk l (fun s => { s with rtStep := 2 })
  else h

def execAlignDone (l : Nat) (s : State) : Host.Outcome State Fault Refusal := s.run (effAlignDone l)

/-- Whether a lane passes step 5 (R318): its error ratio is good, its margin is at least 1.0 dB at both ends, its laser is there. -/
def Hw.lanePasses (h : Hw) (l w lanes : Nat) : Bool :=
  lanes.testBit w && decide (10 ≤ marginAt (h.get (F.RX_MARGIN l)) (((h.lk l).farSlot).getD w w)) && decide (10 ≤ h.farMargin l w) &&
    h.get (F.LSTATE (l / 8) (h.lane l w).laser) = 1

/-- VERIFY_DONE (R318 steps 5 and 6, R319): `lanes` are those within the error ratio, `rx` the local margins by slot, `tx` the far end's by
lane. Lanes that fail stay out with EV_LANE_FAIL; with none left the link acquires again. -/
def effVerifyDone (l lanes rx tx : Nat) (h : Hw) : Hw :=
  let retrain := h.lkState l = lsRETRAIN && (h.lk l).rtStep = 2
  if 64 ≤ l || !(h.lkState l = lsVERIFY || retrain) then h
  else
    let h := (h.set (F.RX_MARGIN l) rx).set (F.TX_MARGIN l) tx
    let h := (List.range 4).foldl (fun h w =>
      let ok := h.lanePasses l w lanes
      let h := h.laneSvc l w ok
      if ok then h else h.post Ev.evLaneFail [u8 l, u8 w]) h
    if h.get (F.LNK_WIDTH l) = 0 then
      if retrain then (h.updLk l (fun s => { s with rtStep := 0 })).inc (F.RETRAINS l) else h.setLk l lsACQUIRE
    else if retrain && (h.get (F.DISC_OUT l) = 1 || h.get (F.DISC_OUT l) = 2) then
      let h := (h.pathSet l (h.get (F.LNK_CUR_PORT l)) true).setLk l lsUP
      let h := h.resend l
      h.pump (h.lk l).queue.length l
    else h.identStart l

def execVerifyDone (l lanes rx tx : Nat) (s : State) : Host.Outcome State Fault Refusal := s.run (effVerifyDone l lanes rx tx)

/-- MARKER_LOCK_LOSS (R317): every lane has lost marker lock for 10 µs: DOWN. -/
def effMarkerLockLoss (l : Nat) (h : Hw) : Hw := if l < 64 && h.lkUp l then h.linkDown l else h

def execMarkerLockLoss (l : Nat) (s : State) : Host.Outcome State Fault Refusal := s.run (effMarkerLockLoss l)

/-- RETRAIN_TIMEOUT (R319): FAILED, EV_LINK_FAIL, frames handed back, the path of the port untrained. -/
def effRetrainTimeout (l : Nat) (h : Hw) : Hw :=
  if l < 64 && h.lkState l = lsRETRAIN then
    ((h.pathSet l (h.get (F.LNK_CUR_PORT l)) false).post Ev.evLinkFail [u8 l]).linkFail l
  else h

def execRetrainTimeout (l : Nat) (s : State) : Host.Outcome State Fault Refusal := s.run (effRetrainTimeout l)

/-- EYELET_FAIL (R319): every link of the Eyelet becomes FAILED. -/
def effEyeletFail (e : Nat) (h : Hw) : Hw :=
  if e < 8 && h.get (F.EYE_STATE e) = 1 then
    let h := (h.set (F.EYE_STATE e) 2).updEye e (fun y => { y with failed := true })
    let h := h.post Ev.evEyeletFail [u8 e]
    (List.range 8).foldl (fun h k => h.linkFail (8 * e + k)) h
  else h

def execEyeletFail (e : Nat) (s : State) : Host.Outcome State Fault Refusal := s.run (effEyeletFail e)

/-! ### Frames -/

/-- A request is refused to the chip that made it (R273). -/
def Hw.peerReject (h : Hw) (f : Frm) : Hw := h.send (.reply 1 (natLE 2 f.src ++ natLE 4 f.tag ++ natLE 8 f.addr))

/-- Whether an address lies in the Lining lent to a guest (R397). -/
def Hw.inLining (h : Hw) (a : Nat) : Bool := h.flag F.GUEST_VALID && inHbm a && decide (a % stackSize < h.liningExt)

/-- Whether a peer may read or write n bytes here (R273, R397, R450). -/
def Hw.peerMay (h : Hw) (chip a n : Nat) (write : Bool) : Bool :=
  h.hbmMapped a n &&
  (if h.inLining a then h.inLining (a + n - 1) && (chip = h.get F.GUEST_CHIP || (!write && h.flag F.SUCC_VALID && chip = h.get F.SUCC_CHIP))
   else (List.range 256).any (fun i =>
     h.get (F.LEND_CHIP i) = chip && h.get (F.LEND_BASE i) ≤ a && a + n ≤ h.get (F.LEND_BASE i) + h.get (F.LEND_SIZE i) && (!write || h.flag (F.LEND_WR i))))

/-- Poison n bytes of HBM (R247). -/
def Hw.poisonHbm (h : Hw) (a n : Nat) : Hw :=
  let ls := (List.range ((a % 256 + n + 255) / 256)).map (· + a / 256)
  ls.foldl (fun h ln => { h with hbm := { h.hbm with poison := insNat h.hbm.poison ln, mem := Mem.clear h.hbm.mem (ln * 256) 256 } }) h

/-- A WRITE for the part is stored, or refused (R353, R273); poisoned data poisons its lines. -/
def Hw.takeWrite (h : Hw) (f : Frm) : Hw :=
  if f.len = 0 then h
  else if !h.peerMay f.src f.addr f.len true then h.peerReject f
  else
    let h := h.poke f.addr (f.data.take f.len)
    if f.poison then h.poisonHbm f.addr f.len else h

/-- A READ_REQ for the part is answered with LEN bytes (R353; log entry 31). -/
def Hw.takeReadReq (h : Hw) (f : Frm) : Hw :=
  if !h.peerMay f.src f.addr f.len false then h.peerReject f
  else
    let (h, bs, p) := h.readLocal f.addr f.len
    h.route { mkFrm ftREADRESP 3 f.src h.myChip f.tag 0 0 bs with poison := p } none

/-- Fields of a COLL frame's AUX (R359). -/
def auxCfn (a : Nat) : Nat := bitsOf a 63 61
def auxAxis (a : Nat) : Nat := bitsOf a 60 58
def auxFmt (a : Nat) : Nat := bitsOf a 57 54
def auxStep (a : Nat) : Nat := bitsOf a 47 32
def auxLen (a : Nat) : Nat := bitsOf a 31 0

/-- A credit of a lane is to be returned: a frame left the receive buffer (R315). -/
def Hw.owe (h : Hw) (l vl : Nat) : Hw := h.updLk l (fun s => { s with owed := s.owed.set vl (s.owed.getD vl 0 + 1) })

/-- A COLL frame for an active collective (R359, R364). -/
def Hw.collTake (h : Hw) (l : Nat) (k : Coll) (f : Frm) : Hw :=
  let h := h.owe l f.vl
  if auxCfn f.aux ≠ k.cfn || auxAxis f.aux ≠ k.paxis || auxFmt f.aux ≠ k.fmt || auxLen f.aux ≠ (k.chunk + 63) / 64 then
    h.collFail k crMismatch (h.posOf k.paxis f.src)
  else
    let h := if ((h.lk l).collFirst.find? f.tag).isNone then h.updLk l (fun s => { s with collFirst := s.collFirst.set f.tag (h.get F.CYC_FAB) }) else h
    let h := h.inc (F.SEAM_BYTES_RX (l / 16)) f.len
    let key := (auxStep f.aux, f.src, f.addr)
    if k.rx.contains key then h.inc (F.SEAM_DUPS (l / 16))
    else { h with topo := { h.topo with colls := h.topo.colls.map (fun x => if x.ctx = k.ctx && x.index = k.index then { x with rx := key :: x.rx } else x) } }

/-- A COLL frame (R359, R363): into its collective; held for one that is not issued; discarded if its SEQ is past. -/
def Hw.takeColl (h : Hw) (l : Nat) (f : Frm) : Hw :=
  match h.topo.colls.find? (fun k => k.seq = f.tag) with
  | some k => h.collTake l k f
  | none =>
    let past := match h.topo.lastSeq.find? (auxAxis f.aux) with
      | some q => seqLe f.tag q
      | none => false
    if past then h.owe l f.vl else h.updLk l (fun s => { s with collHeld := s.collHeld ++ [f] })

/-- A KEEPALIVE (R356). -/
def Hw.takeKeepalive (h : Hw) (l : Nat) (f : Frm) : Hw :=
  let h := (h.inc (F.KA_RX l)).updLk l (fun s => { s with kaSeen := true })
  let h := { h with topo := { h.topo with far := h.topo.far.set f.src (fieldLE f.data 0 8, fieldLE f.data 8 2, fieldLE f.data 10 2) } }
  let h := h.boardRoutes
  match (h.topo.plan).bind (fun p => p.find f.src) with
  | none => h
  | some i =>
    let st := h.get (PEER_PSTATE i)
    if st = 0 then h.set (PEER_PSTATE i) 1
    else if st = 2 then (h.set (PEER_PSTATE i) 1).post Ev.evPeerAlive [u16 f.src]
    else h

/-- What a frame does that is next in order: on a reserved kind or lane it is discarded, otherwise delivered (R312, R352, R334 FRAMES_RX). -/
def Hw.deliver (h : Hw) (l : Nat) (f : Frm) : Hw :=
  if 7 < f.ftype || 12 < f.vl then (h.owe l f.vl).inc (F.CRC_ERR l)
  else
  let h := h.inc (F.FRAMES_RX l)
  if f.ftype = ftCOLL then h.takeColl l f
  else
    let h := h.owe l f.vl
    if f.ftype = ftKEEPALIVE then h.takeKeepalive l f
    else if f.ftype = ftWRITE || f.ftype = ftREADREQ || f.ftype = ftREADRESP then
      if f.dst ≠ h.myChip then h.route f (some l)
      else if f.ftype = ftWRITE then h.takeWrite f
      else if f.ftype = ftREADREQ then h.takeReadReq f
      else h
    else h

/-- Whether the outer codeword of a frame or marker that arrives had errors to correct is open (R312, log entry 141). -/
def Hw.fecNoted (h : Hw) (l : Nat) : Hw := h.inc (F.FEC_CORR l) (h.choice 78).toNat

/-- What every frame carries back: acknowledgement, credits, NAK (R314, R315). -/
def Hw.carries (h : Hw) (l : Nat) (f : Frm) : Hw :=
  let h := ((h.fecNoted l).acked l f.ack).credited l f.crVl f.crCnt
  let h := if f.nak then h.replay l else h
  h.pump (h.lk l).queue.length l

/-- A gap in the sequence: NAK, and frames are discarded until the replay (R314). -/
def Hw.gap (h : Hw) (l : Nat) : Hw :=
  if (h.lk l).discarding then h else (h.updLk l (fun s => { s with discarding := true })).sendIdle l true

/-- A sequenced frame arrives on a link that is UP: the next in order is delivered, or held until the check of a re-thread passes; one
received before is discarded; a later one shows a gap (R314, R328). -/
def Hw.sequenced (h : Hw) (l : Nat) (f : Frm) : Hw :=
  let s := h.lk l
  if f.lseq = s.rxNext then
    let h := h.updLk l (fun s => { s with rxNext := (s.rxNext + 1) % 2 ^ 32, discarding := false })
    if s.rethread.isSome then h.updLk l (fun s => { s with held := s.held ++ [f] }) else h.deliver l f
  else if seqLe f.lseq s.rxNext then h
  else h.gap l

/-- Receive a frame of a kind on a link (R312): a reserved FTYPE is taken by any of these commands. -/
def Hw.rxFrame (h : Hw) (l ft : Nat) (b : Bytes) : Hw :=
  match parseFrm b with
  | none => h
  | some f =>
    if 64 ≤ l || !h.deals l || !(f.ftype = ft || 7 < f.ftype) then h
    else (h.sequenced l f).carries l f

/-- FRAME_WRITE (R353, R273, R397). -/
def effFrameWrite (l : Nat) (f : Bytes) (h : Hw) : Hw := h.rxFrame l ftWRITE f
def execFrameWrite (l : Nat) (f : Bytes) (s : State) : Host.Outcome State Fault Refusal := s.run (effFrameWrite l f)

/-- FRAME_READ_REQ (R353, R273, R397). -/
def effFrameReadReq (l : Nat) (f : Bytes) (h : Hw) : Hw := h.rxFrame l ftREADREQ f
def execFrameReadReq (l : Nat) (f : Bytes) (s : State) : Host.Outcome State Fault Refusal := s.run (effFrameReadReq l f)

/-- FRAME_READ_RESP (R353, R354): forwarded; one for the part ends its request, whose data comes with the command that consumes it (log entry
32). -/
def effFrameReadResp (l : Nat) (f : Bytes) (h : Hw) : Hw := h.rxFrame l ftREADRESP f
def execFrameReadResp (l : Nat) (f : Bytes) (s : State) : Host.Outcome State Fault Refusal := s.run (effFrameReadResp l f)

/-- FRAME_COLL (R359). -/
def effFrameColl (l : Nat) (f : Bytes) (h : Hw) : Hw := h.rxFrame l ftCOLL f
def execFrameColl (l : Nat) (f : Bytes) (s : State) : Host.Outcome State Fault Refusal := s.run (effFrameColl l f)

/-- FRAME_KEEPALIVE (R356). -/
def effFrameKeepalive (l : Nat) (f : Bytes) (h : Hw) : Hw := h.rxFrame l ftKEEPALIVE f
def execFrameKeepalive (l : Nat) (f : Bytes) (s : State) : Host.Outcome State Fault Refusal := s.run (effFrameKeepalive l f)

/-- FRAME_IDLE (R314, R315): acknowledgement, credits, NAK; an LSEQ ahead of what arrived shows a loss. -/
def effFrameIdle (l : Nat) (f : Bytes) (h : Hw) : Hw :=
  match parseFrm f with
  | none => h
  | some x =>
    if 64 ≤ l || !h.deals l || x.ftype ≠ ftIDLE then h
    else
      let h := if seqLe x.lseq (h.lk l).rxNext then h else h.gap l
      h.carries l x

def execFrameIdle (l : Nat) (f : Bytes) (s : State) : Host.Outcome State Fault Refusal := s.run (effFrameIdle l f)

/-- FRAME_NOT_DELIVERED (R312, R314): a codeword that does not decode, or with `crc` a frame whose CRC fails; NAK and discard. -/
def effFrameNotDelivered (l : Nat) (crc : Bool) (h : Hw) : Hw :=
  if 64 ≤ l || h.lkState l < lsACQUIRE || h.lkState l = lsFAILED then h
  else
    let h := h.inc (if crc then F.CRC_ERR l else F.FEC_UNCORR l)
    if h.deals l then h.gap l else h

def execFrameNotDelivered (l : Nat) (crc : Bool) (s : State) : Host.Outcome State Fault Refusal := s.run (effFrameNotDelivered l crc)

/-- ACK_TIMEOUT_REPLAY (R314): no acknowledgement for ACK_TMO µs while frames are held. -/
def effAckTimeoutReplay (l : Nat) (h : Hw) : Hw := if l < 64 && h.deals l then h.replay l else h

def execAckTimeoutReplay (l : Nat) (s : State) : Host.Outcome State Fault Refusal := s.run (effAckTimeoutReplay l)

end Sys2Proof.Machine
end

