-- ==== Sys2Proof/Machine/Eyes.lean ====
section
/-!
DEFINITION. Machine/Eyes.lean: lane operations, calibration, fade, spares and re-threading of an Eyelet (R320 to R329), CTRL frames and
lane markers (R310, R313, R345).
-/

namespace Sys2Proof.Machine

/-! ### Lane operations -/

/-- The lane whose laser is in a calibration slot, of a link. -/
def Hw.calLane (h : Hw) (l : Nat) : Option Nat := ((h.eye (l / 8)).calOn).bind (fun x => if x / 4 = l % 8 then some (x % 4) else none)

/-- Whether a lane may be dropped: in service, not the last (R320), and no drop of it announced. -/
def Hw.mayDrop (h : Hw) (l w : Nat) : Bool :=
  h.lkUp l && (h.lk l).rethread.isNone && (h.lane l w).svc && 2 ≤ h.get (F.LNK_WIDTH l) && !(h.lk l).ops.any (fun o => o.lane = w)

/-- Start a switch-over or restore (R324, R325): the laser is tuned to the link's free slot. -/
def Hw.swStart (h : Hw) (l w laser : Nat) (switchover : Bool) (attempt : Nat) : Hw :=
  let e := l / 8
  let slot := h.freeSlot l
  let h := (((h.set (F.LSTATE e laser) 3).set (F.LAS_LINK e laser) (l % 8)).set (F.LAS_LANE e laser) w).set (F.LAS_SLOT e laser) slot
  let h := h.updEye e (fun y => { y with sw := some ⟨l, w, laser, slot, switchover, 0, attempt⟩ })
  (h.set (F.SWITCH_BUSY e) 1).set (F.LNK_SWITCHOVER l) 1

/-- The lowest-numbered free spare of an Eyelet (R324). -/
def Hw.spare (h : Hw) (e : Nat) : Option Nat := (List.range 36).find? (fun x => h.get (F.LSTATE e x) = 2)

/-- A spare came into use: SPARES_FREE decrements, the assignment is recorded (R306, R324). -/
def Hw.spareUsed (h : Hw) (e : Nat) : Hw := (h.set (F.SPARES_FREE e) (h.get (F.SPARES_FREE e) - 1)).laserRecord e

/-- A laser retires (R306). -/
def Hw.retire (h : Hw) (e laser : Nat) : Hw := (h.set (F.LSTATE e laser) 5).laserRecord e

/-- Restore a lane on a spare, if one is free and the Eyelet runs nothing else (R325). -/
def Hw.restoreSpare (h : Hw) (l w : Nat) : Hw :=
  match (h.eye (l / 8)).sw, h.spare (l / 8) with
  | none, some x => h.swStart l w x false 0
  | _, _ => h

/-- A lane leaves service at the sender (R320): why it does says what follows. -/
def Hw.laneDrop (h : Hw) (l w why : Nat) : Hw :=
  let e := l / 8
  let x := (h.lane l w).laser
  let h := h.laneSvc l w false
  let h := if why = 3 then (h.set (F.LSTATE e x) 6).set (F.CAL_ACTIVE l) 1 else h.inc (F.LANE_DROPS l)
  let h := if why = 1 || why = 2 then h.retire e x else h
  let h := if why = 2 then h.restoreSpare l w else h
  if h.get (F.LNK_WIDTH l) = 0 then h.linkDown l else h

/-- The announced operation of a kind on a lane; its block has come: it leaves the list, BLOCK_CNT stands at it. -/
def Hw.takeOp (h : Hw) (l w op : Nat) : Option (Hw × LaneOp) :=
  match (h.lk l).ops.find? (fun o => o.op = op && o.lane = w) with
  | none => none
  | some o => some (h.updLk l (fun s => { s with ops := s.ops.erase o, blockCnt := o.at_ }), o)

/-- LANE_OP_DROP (R320): block OP_AT of an announced DROP. One that would leave no lane is refused. -/
def effLaneOpDrop (l w : Nat) (h : Hw) : Hw :=
  if 64 ≤ l || 4 ≤ w || !h.deals l then h
  else
    match h.takeOp l w 1 with
    | none => h
    | some (h, o) => if h.get (F.LNK_WIDTH l) ≤ 1 || !(h.lane l w).svc then h else h.laneDrop l w o.why

def execLaneOpDrop (l w : Nat) (s : State) : Host.Outcome State Fault Refusal := s.run (effLaneOpDrop l w)

/-- LANE_OP_ADD (R320, R321, R325): block OP_AT of an announced ADD. A restore ends; a spare it used is in use. -/
def effLaneOpAdd (l w : Nat) (h : Hw) : Hw :=
  if 64 ≤ l || 4 ≤ w || !h.deals l then h
  else
    match h.takeOp l w 2 with
    | none => h
    | some (h, o) =>
      let e := l / 8
      let own := (h.lane l w).laser
      match (h.eye e).sw with
      | some k =>
        if o.why = 4 && k.link = l && k.lane = w then
          let h := h.setLane l w ⟨true, k.slot, k.laser⟩
          let h := h.updEye e (fun y => { y with sw := none })
          let h := ((h.set (F.SWITCH_BUSY e) 0).set (F.LNK_SWITCHOVER l) 0).set (F.LSTATE e k.laser) 1
          if k.laser = own then h else h.spareUsed e
        else (h.laneSvc l w true).set (F.LSTATE e own) 1
      | none => (h.laneSvc l w true).set (F.LSTATE e own) 1

def execLaneOpAdd (l w : Nat) (s : State) : Host.Outcome State Fault Refusal := s.run (effLaneOpAdd l w)

/-- LANE_OP_DUP_START (R324 step 3): from block OP_AT the duplicate carries every codeword of the lane. -/
def effLaneOpDupStart (l w : Nat) (h : Hw) : Hw :=
  if 64 ≤ l || 4 ≤ w || !h.deals l then h
  else
    match h.takeOp l w 3 with
    | none => h
    | some (h, _) => h.updEye (l / 8) (fun y => { y with sw := y.sw.map (fun k => if k.link = l && k.lane = w then { k with step := 2 } else k) })

def execLaneOpDupStart (l w : Nat) (s : State) : Host.Outcome State Fault Refusal := s.run (effLaneOpDupStart l w)

/-- The receiver has switched to the duplicate (R324 step 5): the old laser retires, the spare is ACTIVE on the lane, the slots change. -/
def Hw.dupSwitched (h : Hw) (l w : Nat) : Hw :=
  let e := l / 8
  match (h.eye e).sw with
  | none => h
  | some k =>
    if !(k.link = l && k.lane = w && k.switchover && k.step = 2) then h
    else
      let old := (h.lane l w).laser
      let h := h.setLane l w ⟨(h.lane l w).svc, k.slot, k.laser⟩
      let h := ((h.set (F.LSTATE e old) 5).set (F.LSTATE e k.laser) 1).inc (F.SPARE_SWITCHES e)
      let h := h.updEye e (fun y => { y with sw := none })
      let h := ((h.set (F.SWITCH_BUSY e) 0).set (F.LNK_SWITCHOVER l) 0).spareUsed e
      h.post Ev.evLaserSpared [u8 e, u8 old, u8 k.laser, u8 (h.get (F.SPARES_FREE e))]

/-- LANE_OP_DUP_SWITCHED (R324, R305, R306). -/
def effLaneOpDupSwitched (l w : Nat) (h : Hw) : Hw := if l < 64 && w < 4 && h.deals l then h.dupSwitched l w else h

def execLaneOpDupSwitched (l w : Nat) (s : State) : Host.Outcome State Fault Refusal := s.run (effLaneOpDupSwitched l w)

/-- The receiver took a lane out by DROP_NOW (R326, R329): the sender drops it at its next block boundary and replays over the rest; a
calibrating lane comes back; a lane being duplicated is restored on its spare; a laser 6 dB or more below its baseline retires. -/
def Hw.dropNow (h : Hw) (l w : Nat) : Hw :=
  if !(h.deals l && (h.lane l w).svc) then h
  else
    let e := l / 8
    let x := (h.lane l w).laser
    let h := if (h.calLane l).isSome && h.calLane l ≠ some w then (h.lanesBack l).calAbort l else h
    let h := h.updLk l (fun s => { s with blockCnt := (s.blockCnt + 1) % 2 ^ 35, ops := s.ops.filter (fun o => o.lane ≠ w) })
    let h := h.updEye e (fun y => { y with sw := y.sw.map (fun k =>
      if k.link = l && k.lane = w && k.switchover then { k with switchover := false, step := if k.step = 0 then 0 else 1 } else k) })
    let dark := decide (untwos 16 (h.get (F.LAS_POWER e x)) - untwos 16 (h.get (F.LAS_BASELINE e x)) ≤ -600)
    let h := (h.laneSvc l w false).inc (F.LANE_DROPS l)
    let h := if dark then
        let h := h.retire e x
        if h.flag F.AUTO_SPARE && !((h.eye e).sw.any (fun k => k.link = l && k.lane = w)) then h.restoreSpare l w else h
      else h.post Ev.evLaneFail [u8 l, u8 w]
    if h.get (F.LNK_WIDTH l) = 0 then h.linkDown l else h.resend l

/-- LANE_OP_DROP_NOW (R320, R326). -/
def effLaneOpDropNow (l w : Nat) (h : Hw) : Hw := if l < 64 && w < 4 then h.dropNow l w else h

def execLaneOpDropNow (l w : Nat) (s : State) : Host.Outcome State Fault Refusal := s.run (effLaneOpDropNow l w)

/-- SUDDEN_LANE_FAILURE (R326): the receiver sends DROP_NOW at once and NAKs what it lost. -/
def effSuddenLaneFailure (l w : Nat) (h : Hw) : Hw :=
  if l < 64 && w < 4 && h.deals l then
    let h := h.sendCtrl l 5 w (((h.lk l).farSlot).getD w w) (((h.lk l).blockCnt + 1) % 2 ^ 35)
    (h.updLk l (fun s => { s with discarding := true })).sendIdle l true
  else h

def execSuddenLaneFailure (l w : Nat) (s : State) : Host.Outcome State Fault Refusal := s.run (effSuddenLaneFailure l w)

/-! ### Calibration (R321, R322) -/

/-- CAL_SLOT_START (R321, R322, R329): the next index of the rotation, or one whose slot was aborted once index 31 has been served; its lane
is dropped, or the slot is skipped. -/
def effCalSlotStart (e : Nat) (h : Hw) : Hw :=
  if 8 ≤ e || !h.flag F.CAL_EN || !h.flag F.OPT_CFG_ENABLE || h.get (F.EYE_STATE e) ≠ 1 || (h.eye e).calOn.isSome then h
  else
    let next := h.get (F.CAL_NEXT e)
    let again := if next = 0 then (h.eye e).calAgain.head? else none
    let x := again.getD next
    let h := match again with
      | some _ => h.updEye e (fun y => { y with calAgain := y.calAgain.drop 1 })
      | none => h.set (F.CAL_NEXT e) ((next + 1) % 32)
    let l := 8 * e + x / 4
    let w := x % 4
    let inSw := (h.eye e).sw.any (fun k => k.link = l && k.lane = w)
    if !h.lkUp l || h.get (F.LNK_WIDTH l) < 4 || inSw || !h.mayDrop l w then h.inc (F.CAL_SKIPS e)
    else (h.updEye e (fun y => { y with calOn := some x })).announce l 1 w (h.lane l w).slot 3

def execCalSlotStart (e : Nat) (s : State) : Host.Outcome State Fault Refusal := s.run (effCalSlotStart e)

/-- CAL_SLOT_END (R321): the slot is complete with the laser's re-measured power; the lane is announced back. -/
def effCalSlotEnd (e power : Nat) (h : Hw) : Hw :=
  match (h.eye e).calOn with
  | none => h
  | some x =>
    let l := 8 * e + x / 4
    let w := x % 4
    if 8 ≤ e || !h.flag (F.CAL_ACTIVE l) then h
    else
      let h := (h.set (F.LAS_POWER e (h.lane l w).laser) power).inc (F.CAL_SLOTS e)
      let h := (h.updEye e (fun y => { y with calOn := none })).set (F.CAL_ACTIVE l) 0
      h.announce l 2 w (h.lane l w).slot 3

def execCalSlotEnd (e power : Nat) (s : State) : Host.Outcome State Fault Refusal := s.run (effCalSlotEnd e power)

/-- CAL_OVERDUE (R322): a lane has had no slot for 10 minutes. -/
def effCalOverdue (e x : Nat) (h : Hw) : Hw :=
  if e < 8 && x < 32 && h.get (F.EYE_STATE e) = 1 then h.post Ev.evCalOverdue [u8 e, u8 x] else h

def execCalOverdue (e x : Nat) (s : State) : Host.Outcome State Fault Refusal := s.run (effCalOverdue e x)

/-! ### Fade and spares (R323 to R325) -/

/-- The table of R323 for laser x of Eyelet e, in service on lane w of link l, at a fade. -/
def Hw.fadeAct (h : Hw) (e x l w : Nat) (fade : Int) : Hw :=
  let auto := h.flag F.AUTO_SPARE
  let far := h.farMargin l w
  let noSpare := h.get (F.SPARES_FREE e) = 0 || (h.eye e).noSpare.contains (4 * (l % 8) + w)
  let drop (h : Hw) (why : Nat) (f : Hw → Hw) : Hw := if h.mayDrop l w then f (h.announce l 1 w (h.lane l w).slot why) else h
  let warn (h : Hw) : Hw :=
    if fade ≤ -100 && !h.flag (F.LAS_WARN e x) then (h.set (F.LAS_WARN e x) 1).post Ev.evLaserFadeWarn [u8 e, u8 x, u16 (twos 16 fade)]
    else if -50 < fade then h.set (F.LAS_WARN e x) 0 else h
  if far < 10 then drop h 0 (fun h => h.post Ev.evLaneMargin [u8 l, u8 w, u8 (twos 8 far)])
  else if fade ≤ -350 && noSpare then drop h 1 (fun h => h.post Ev.evLaneDropped [u8 l, u8 w, u8 x])
  else if auto && fade ≤ -200 && !noSpare then
    if 30 ≤ far then
      match (h.eye e).sw, (h.eye e).retry, h.spare e with
      | none, none, some y => if h.mayDrop l w || h.get (F.LNK_WIDTH l) = 1 then h.swStart l w y true 0 else h
      | _, _, _ => h
    else if (h.eye e).sw.isNone then drop h 2 id else h
  else if auto && fade ≤ -200 then
    if (h.eye e).exhausted then h else (h.updEye e (fun y => { y with exhausted := true })).post Ev.evSpareExhausted [u8 e]
  else warn h

/-- LASER_FADE_SAMPLE (R323, R329): Sage's sample of a laser's power, with the fade of its last 16 samples (log entry 33). A laser in its
calibration slot or in a switch-over is left until that ends. -/
def effLaserFadeSample (e x power fade : Nat) (h : Hw) : Hw :=
  if 8 ≤ e || 36 ≤ x || h.get (F.EYE_STATE e) ≠ 1 then h
  else
    let h := (h.set (F.LAS_POWER e x) power).set (F.LAS_FADE e x) fade
    let l := 8 * e + h.get (F.LAS_LINK e x)
    let w := h.get (F.LAS_LANE e x)
    let busy := (h.eye e).sw.any (fun k => k.link = l && k.lane = w) || h.calLane l = some w
    if h.get (F.LSTATE e x) = 1 && h.lkUp l && (h.lane l w).laser = x && (h.lane l w).svc && (h.lk l).rethread.isNone && !busy then
      h.fadeAct e x l w (untwos 16 fade)
    else h

def execLaserFadeSample (e x power fade : Nat) (s : State) : Host.Outcome State Fault Refusal := s.run (effLaserFadeSample e x power fade)

/-- SPARE_LOCKED (R324 step 2): DUP_START is announced, the spare becomes DUPLICATE. -/
def effSpareLocked (e : Nat) (h : Hw) : Hw :=
  match (h.eye e).sw with
  | some k =>
    if e < 8 && k.switchover && k.step = 0 && h.deals k.link then
      let h := (h.set (F.LSTATE e k.laser) 4).updEye e (fun y => { y with sw := some { k with step := 1 } })
      h.announce k.link 3 k.lane k.slot 0
    else h
  | none => h

def execSpareLocked (e : Nat) (s : State) : Host.Outcome State Fault Refusal := s.run (effSpareLocked e)

/-- SWITCHOVER_TIMEOUT (R324 step 5′): the duplicate stops, the spare returns; after the second failure the index has no spare any more. -/
def effSwitchoverTimeout (e : Nat) (h : Hw) : Hw :=
  match (h.eye e).sw with
  | some k =>
    if e < 8 && k.switchover && k.step = 2 then
      let h := h.swEnd e
      if k.attempt = 0 then h.updEye e (fun y => { y with retry := some (k.link, k.lane) })
      else (h.updEye e (fun y => { y with noSpare := insNat y.noSpare (4 * (k.link % 8) + k.lane) })).post Ev.evSpareFail [u8 e, u8 k.laser]
    else h
  | none => h

def execSwitchoverTimeout (e : Nat) (s : State) : Host.Outcome State Fault Refusal := s.run (effSwitchoverTimeout e)

/-- SWITCHOVER_RETRY (R324 step 5′): one new attempt. -/
def effSwitchoverRetry (e : Nat) (h : Hw) : Hw :=
  match (h.eye e).retry, (h.eye e).sw, h.spare e with
  | some (l, w), none, some y =>
    if e < 8 then
      let h := h.updEye e (fun y => { y with retry := none })
      if h.deals l && (h.lane l w).svc then h.swStart l w y true 1 else h
    else h
  | _, _, _ => h

def execSwitchoverRetry (e : Nat) (s : State) : Host.Outcome State Fault Refusal := s.run (effSwitchoverRetry e)

/-- RESTORE_LASER_LOCKED (R325 step 2): training patterns go out on the lane. -/
def effRestoreLaserLocked (e : Nat) (h : Hw) : Hw :=
  match (h.eye e).sw with
  | some k =>
    if e < 8 && !k.switchover && k.step = 0 then
      (h.updEye e (fun y => { y with sw := some { k with step := 1 } })).sendCtrl k.link 0 k.lane k.slot 0
    else h
  | none => h

def execRestoreLaserLocked (e : Nat) (s : State) : Host.Outcome State Fault Refusal := s.run (effRestoreLaserLocked e)

/-- The far margin admits the lane of a restore: it is announced (R325 step 3). -/
def Hw.restoreAdd (h : Hw) (l : Nat) : Hw :=
  match (h.eye (l / 8)).sw with
  | some k =>
    if k.link = l && !k.switchover && k.step = 1 && decide (30 ≤ h.farMargin l k.lane) && !(h.lk l).ops.any (fun o => o.lane = k.lane) then
      h.announce l 2 k.lane k.slot 4
    else h
  | none => h

/-- RESTORE_MARGIN_TIMEOUT (R325 step 4): the lane stays out, a spare returns. -/
def effRestoreMarginTimeout (e : Nat) (h : Hw) : Hw :=
  match (h.eye e).sw with
  | some k =>
    if e < 8 && !k.switchover && k.step = 1 && decide (h.farMargin k.link k.lane < 30) then
      (h.swEnd e).post Ev.evLaneFail [u8 k.link, u8 k.lane]
    else h
  | none => h

def execRestoreMarginTimeout (e : Nat) (s : State) : Host.Outcome State Fault Refusal := s.run (effRestoreMarginTimeout e)

/-! ### Re-threading (R328) -/

/-- Chips that the plan expects behind port p for a link: of the plan link of its Eyelet whose HOME_PORT it is, or of the HALVING step whose
STEP_PORT it is (R328, R344). -/
def Hw.chipsBehind (h : Hw) (l port : Nat) : List Nat :=
  match h.topo.plan with
  | none => []
  | some p =>
    let homes := (List.range 8).filterMap (fun k =>
      let x := 8 * (l / 8) + k
      if h.homePort x = port then (h.expected (h.plinkOf x)).map (·.1) else none)
    let steps := match p.links[h.plinkOf l]? with
      | some e =>
        if (e.role = 3 || e.role = 4) && h.halving e.axis then
          (List.range 8).filterMap (fun k =>
            if 2 ^ k < ((p.axes[e.axis]?).map (·.size)).getD 0 && bitsOf e.step (4 * k + 3) (4 * k) = port then
              some (h.chipAt e.axis (h.myPos e.axis ^^^ 2 ^ k)) else none)
        else []
      | none => []
    homes ++ steps

/-- The check of the first marker after a re-thread (R328 step 5, R365). -/
def Hw.rethreadCheck (h : Hw) (l port chip tag : Nat) : Hw :=
  let held := (h.lk l).held
  let h := h.updLk l (fun s => { s with rethread := none, held := [] })
  if (h.chipsBehind l port).contains chip && tag = h.planTag then
    held.foldl (fun h f => h.deliver l f) (h.pathSet l port true)
  else
    let h := (h.setLk l lsHELD).post Ev.evRethreadMismatch [u8 l, u8 port, u16 chip]
    match h.linkAxis (h.plinkOf l) with
    | some a => if h.halving a then h.collAxisFail a crMismatch (h.posOf a chip) else h
    | none => h

/-- A write of the link command word reads back (RT, R15): OP, PORT and LANE. -/
def Hw.linkRt (h : Hw) (l op port lane : Nat) : Hw :=
  if l < 64 && h.domOn domYOKE then ((h.set (F.LNK_OP l) op).set (F.LNK_PORT l) port).set (F.LNK_LANE l) lane else h

/-- LINK_CMD_RETHREAD (R328, R334): refused to a port that is taken or held, in Solo profile, or on a link that is not UP. -/
def Hw.opRethread (l port : Nat) (h : Hw) : Hw :=
  if 64 ≤ l then h
  else if h.solo || 12 ≤ port || h.get (F.LNK_CUR_PORT l) = port || h.portTaken l port || !h.lkUp l || (h.lk l).rethread.isSome then h.set (F.LNK_CMD_ERR l) 1
  else h.rethreadReq l port

/-- The word of LINK_CMD_RETHREAD is written, and it runs (R328, R334). -/
def effLinkCmdRethread (l port : Nat) (h : Hw) : Hw := Hw.opRethread l port (h.linkRt l 1 port 0)

def execLinkCmdRethread (l port : Nat) (s : State) : Host.Outcome State Fault Refusal := s.run (effLinkCmdRethread l port)

/-- RETHREAD_START (R328 steps 1 and 2): the retry buffer is empty and dealing has stopped; the steering matrix moves. -/
def effRethreadStart (l : Nat) (h : Hw) : Hw :=
  match (h.lk l).rethread with
  | some (port, 0) =>
    if l < 64 && h.lkUp l && (h.lk l).retry.isEmpty then
      ((h.updLk l (fun s => { s with rethread := some (port, 1) })).inc (F.RETHREADS l)).setLk l lsRETHREAD
    else h
  | _ => h

def execRethreadStart (l : Nat) (s : State) : Host.Outcome State Fault Refusal := s.run (effRethreadStart l)

/-- STEERING_MOVE_DONE (R328 step 3): the link holds the new port; an untrained path is counted. -/
def effSteeringMoveDone (l : Nat) (h : Hw) : Hw :=
  match (h.lk l).rethread with
  | some (port, 1) =>
    if l < 64 then
      let h := h.updLk l (fun s => { s with rethread := some (port, 2), lastPort := some port })
      let h := h.set (F.LNK_CUR_PORT l) port
      if (h.get (F.PATH_TRAINED (l / 8))).testBit port then h else h.inc (F.RETHREAD_SLOW (l / 8))
    else h
  | _ => h

def execSteeringMoveDone (l : Nat) (s : State) : Host.Outcome State Fault Refusal := s.run (effSteeringMoveDone l)

/-- REACQUIRE_DONE (R328 step 4, R339): a new block starts, LSEQ restarts, frames are sent; a move of discovery leads to IDENTIFY. -/
def effReacquireDone (l : Nat) (h : Hw) : Hw :=
  match (h.lk l).rethread with
  | some (port, 2) =>
    if 64 ≤ l then h
    else if (h.lk l).toIdent then h.identStart l
    else
      let h := h.updLk l (fun s => { s with
        rethread := some (port, 3), nextTx := 0, rxNext := 0, discarding := false, credits := s.vlFree, owed := [], blockCnt := (s.blockCnt + 1) % 2 ^ 35 })
      let h := h.setLk l lsUP
      h.pump (h.lk l).queue.length l
  | _ => h

def execReacquireDone (l : Nat) (s : State) : Host.Outcome State Fault Refusal := s.run (effReacquireDone l)

/-- RETHREAD_MARKER_TIMEOUT (R328): no marker within 100 µs of step 2: RETRAIN on the new port. -/
def effRethreadMarkerTimeout (l : Nat) (h : Hw) : Hw :=
  match (h.lk l).rethread with
  | some (_, k) => if l < 64 && 2 ≤ k then h.linkDown l else h
  | none => h

def execRethreadMarkerTimeout (l : Nat) (s : State) : Host.Outcome State Fault Refusal := s.run (effRethreadMarkerTimeout l)

/-! ### LINK_CMD (R334) -/

/-- LINK_CMD_RETRAIN (R317, R319): DOWN, or a FAILED link restarts; refused where the link is dark. -/
def Hw.opRetrain (l : Nat) (h : Hw) : Hw :=
  if 64 ≤ l then h
  else
    let st := h.lkState l
    if st = lsFAILED then h.linkStart l
    else if st = lsUP || st = lsHELD || st = lsRETHREAD then h.linkDown l
    else h.set (F.LNK_CMD_ERR l) 1

/-- The word of LINK_CMD_RETRAIN is written, and it runs (R317, R334). -/
def effLinkCmdRetrain (l : Nat) (h : Hw) : Hw := Hw.opRetrain l (h.linkRt l 2 0 0)

def execLinkCmdRetrain (l : Nat) (s : State) : Host.Outcome State Fault Refusal := s.run (effLinkCmdRetrain l)

/-- LINK_CMD_DROP_LANE (R320): a drop that would leave none is refused. -/
def Hw.opDropLane (l w : Nat) (h : Hw) : Hw :=
  if 64 ≤ l || 4 ≤ w then h else if h.mayDrop l w then h.announce l 1 w (h.lane l w).slot 0 else h.set (F.LNK_CMD_ERR l) 1

/-- The word of LINK_CMD_DROP_LANE is written, and it runs (R320, R334). -/
def effLinkCmdDropLane (l w : Nat) (h : Hw) : Hw := Hw.opDropLane l w (h.linkRt l 3 0 w)

def execLinkCmdDropLane (l w : Nat) (s : State) : Host.Outcome State Fault Refusal := s.run (effLinkCmdDropLane l w)

/-- LINK_CMD_RESTORE_LANE (R325): a restore by hand, on the lane's own laser unless it is retired, then on a spare. -/
def Hw.opRestoreLane (l w : Nat) (h : Hw) : Hw :=
  if 64 ≤ l || 4 ≤ w then h
  else
    let e := l / 8
    let own := (h.lane l w).laser
    let x := if h.get (F.LSTATE e own) = 5 then h.spare e else some own
    match x with
    | some x => if h.deals l && !(h.lane l w).svc && h.calLane l ≠ some w && (h.eye e).sw.isNone then h.swStart l w x false 0 else h.set (F.LNK_CMD_ERR l) 1
    | none => h.set (F.LNK_CMD_ERR l) 1

/-- The word of LINK_CMD_RESTORE_LANE is written, and it runs (R325, R334). -/
def effLinkCmdRestoreLane (l w : Nat) (h : Hw) : Hw := Hw.opRestoreLane l w (h.linkRt l 4 0 w)

def execLinkCmdRestoreLane (l w : Nat) (s : State) : Host.Outcome State Fault Refusal := s.run (effLinkCmdRestoreLane l w)

/-- LINK_CMD_SPARE_LANE (R323): a switch-over by hand, under the same conditions on margin and spare. -/
def Hw.opSpareLane (l w : Nat) (h : Hw) : Hw :=
  if 64 ≤ l || 4 ≤ w then h
  else
    let e := l / 8
    match h.spare e with
    | some x =>
      if h.deals l && (h.lane l w).svc && h.calLane l ≠ some w && (h.eye e).sw.isNone && decide (30 ≤ h.farMargin l w) then h.swStart l w x true 0
      else h.set (F.LNK_CMD_ERR l) 1
    | none => h.set (F.LNK_CMD_ERR l) 1

/-- The word of LINK_CMD_SPARE_LANE is written, and it runs (R323, R334). -/
def effLinkCmdSpareLane (l w : Nat) (h : Hw) : Hw := Hw.opSpareLane l w (h.linkRt l 5 0 w)

def execLinkCmdSpareLane (l w : Nat) (s : State) : Host.Outcome State Fault Refusal := s.run (effLinkCmdSpareLane l w)

/-! ### CTRL frames and lane markers -/

/-- The slot on which the far end receives lane w: the lane's, or that of its running restore (R313). -/
def Hw.laneSlot (h : Hw) (l w : Nat) : Nat :=
  match (h.eye (l / 8)).sw with
  | some k => if k.link = l && k.lane = w && !k.switchover then k.slot else (h.lane l w).slot
  | none => (h.lane l w).slot

/-- What a marker's fields tell about the far end: its margins, its buffer's room, its lanes (R313, R315). -/
def Hw.markerInfo (h : Hw) (l : Nat) (m : Bytes) : Hw :=
  let w0 := fieldLE m 0 8
  let rx := fieldLE m 0x18 8
  let tx := (List.range 4).foldl (fun a w => a + bitsOf rx (8 * h.laneSlot l w + 7) (8 * h.laneSlot l w) * 2 ^ (8 * w)) 0
  let free : Tab Nat := (List.range 16).map (fun v => (v, fieldLE m (0x20 + 2 * v) 2))
  ((h.fecNoted l).set (F.TX_MARGIN l) tx).updLk l (fun s => { s with vlFree := free, farSlot := s.farSlot.set (bitsOf w0 41 40) (bitsOf w0 39 37) })

/-- FRAME_CTRL (R310, R320, R326, R345): training data, versions in IDENTIFY, an urgent lane operation. -/
def effFrameCtrl (l : Nat) (f : Bytes) (h : Hw) : Hw :=
  match parseFrm f with
  | none => h
  | some x =>
    if 64 ≤ l || x.ftype ≠ ftCTRL || h.lkState l < lsALIGN || h.lkState l = lsFAILED || h.lkState l = lsDARK then h
    else
      let h := ((h.inc (F.FRAMES_RX l)).markerInfo l x.data).restoreAdd l
      let w2 := fieldLE x.data 0x10 8
      let ver := bitsOf (fieldLE x.data 0x40 8) 47 32
      let chip := bitsOf (fieldLE x.data 0x40 8) 63 48
      let h := if bitsOf w2 63 60 = 5 then h.dropNow l (bitsOf w2 59 58) else h
      if h.lkState l = lsIDENTIFY && h.identOn && (h.lk l).farVer.isNone then
        let h := (h.updLk l (fun s => { s with farVer := some (ver / 256, ver % 256) })).set (F.FAR_MAJOR l) (ver / 256)
        if ver / 256 ≠ h.get F.YELYEL_VER_major then h.linkRefuse l false 2 0 chip
        else (h.set (F.RUN_MINOR l) (min (ver % 256) (h.get F.YELYEL_VER_minor))).sendLif l
      else h

def execFrameCtrl (l : Nat) (f : Bytes) (s : State) : Host.Outcome State Fault Refusal := s.run (effFrameCtrl l f)

/-- LANE_MARKER (R313, R315, R324, R325, R328): credits and acknowledgements are taken anew; the first marker after a re-thread is checked. -/
def effLaneMarker (l : Nat) (m : Bytes) (h : Hw) : Hw :=
  if 64 ≤ l || h.lkState l < lsALIGN || h.lkState l = lsFAILED || m.length ≠ 640 then h
  else if fieldLE m 0x278 8 ≠ crc64 (m.take 0x278) || fieldLE m 6 2 ≠ 0x4D4B then h.inc (F.CRC_ERR l)
  else
    let w2 := fieldLE m 0x10 8
    let chip := fieldLE m 0x46 2
    let h := (h.markerInfo l m).set (F.LNK_PEER_CHIP l) chip
    let h := match (h.lk l).rethread with
      | some (port, 3) => h.rethreadCheck l port chip (fieldLE m 0x48 8)
      | _ => h
    if !h.deals l then h
    else
      let h := h.updLk l (fun s => { s with credits := s.vlFree })
      let h := h.acked l (fieldLE m 8 4)
      let h := if bitsOf w2 63 60 = 4 then h.dupSwitched l (bitsOf w2 59 58) else h
      let h := h.restoreAdd l
      h.pump (h.lk l).queue.length l

def execLaneMarker (l : Nat) (m : Bytes) (s : State) : Host.Outcome State Fault Refusal := s.run (effLaneMarker l m)

end Sys2Proof.Machine
end

