-- ==== Sys2Proof/Machine/Topology.lean ====
section
/-!
DEFINITION. Machine/Topology.lean: discovery, identity and remaps (R338, R339, R345 to R350), keepalives (R356).
-/

namespace Sys2Proof.Machine

/-- Discovery starts (R338, R339): every UP link moves to its HOME_PORT or enters IDENTIFY. -/
def Hw.discover (h : Hw) : Hw :=
  let h := { h.set F.TOPO_STATE 2 with topo := { h.topo with discOver := false } }
  (List.range 64).foldl (fun h l =>
    if !h.lkUp l then h
    else
      let role := ((h.topo.plan.bind (fun p => p.links[h.plinkOf l]?)).map (·.role)).getD 0
      let home := h.homePort l
      if role ≠ 0 && home ≠ h.get (F.LNK_CUR_PORT l) then (h.rethreadReq l home).updLk l (fun s => { s with toIdent := true })
      else h.identStart l) h

/-- TOPO_CFG ENABLE goes from 0 to 1 (R338): after a load discovery starts; links that waited in IDENTIFY begin their exchange. -/
def Hw.topoOn (h : Hw) : Hw :=
  let h := { h.setB F.TOPO_CFG_ENABLE true with topo := { h.topo with draining := false } }
  let h := if h.get F.TOPO_STATE = 1 then h.discover else h
  let h := h.identAll
  (List.range 64).foldl (fun h l => h.pump (h.lk l).queue.length l) h

/-- TOPO_CFG ENABLE is written 0 (R365): it reads 1 until the active collectives end. -/
def Hw.topoOff (h : Hw) : Hw :=
  if h.topo.colls.isEmpty then h.setB F.TOPO_CFG_ENABLE false else { h with topo := { h.topo with draining := true } }

/-- TOPO_ENABLE (R338, R339). -/
def effTopoEnable (h : Hw) : Hw :=
  if h.flag F.TOPO_CFG_ENABLE || !h.domOn domYOKE then h else h.topoOn

def execTopoEnable (s : State) : Host.Outcome State Fault Refusal := s.run effTopoEnable

/-! ### The decision of R347 -/

/-- The plan link other than the link's own whose expected far end a received pair is, where a remap may take it (R348). -/
def Hw.remapTarget (h : Hw) (l chip plink : Nat) : Option Nat :=
  match h.topo.plan with
  | none => none
  | some p =>
    if !p.remapOk then none
    else
      (List.range 64).find? (fun q =>
        let x := h.physOf q
        q ≠ h.plinkOf l && h.expected q = some (chip, plink) && h.get (F.DISC_OUT x) ≠ 1 && h.get (F.DISC_OUT x) ≠ 2 &&
          (if l < 16 then x < 16 else 16 ≤ x && x / 8 = l / 8))

/-- Whether a LIF is well formed (R346). -/
def lifOk (b : Bytes) : Bool :=
  b.length = 17216 && fieldLE b 0 2 = 1 && fieldLE b 2 1 < 64 && fieldLE b 3 1 < 64 && fieldLE b 4 1 < 12 && (slice b 5 11).all (· = 0) &&
    fieldLE b 0x14 1 < 16 && (fieldLE b 0x15 1 = 0xA0 || fieldLE b 0x15 1 = 0xB0) && fieldLE b 0x16 2 = 0

/-- Whether a LIF fails authentication (R347): malformed, signature, KEY_TAG, token. -/
def Hw.lifBad (h : Hw) (b : Bytes) : Bool :=
  let chip := fieldLE b 0x10 2
  let key := slice b 0x60 32
  !lifOk b || !Config.verifies key (slice b 0x10 0x70) (b.drop 0x80) ||
    match h.topo.plan with
    | none => false
    | some p =>
      (match p.find chip with
       | some r => let t := ((p.ranks[r]?).map (·.keyTag)).getD 0; t ≠ 0 && t ≠ fieldLE (sha256 key) 0 8
       | none => false) || (p.tokenCheck && !p.tokens.contains (slice b 0x40 32))

/-- Exchange the plan links of two physical links (R348); each keeps the port it holds as its home port. -/
def Hw.remap (h : Hw) (l x : Nat) : Hw :=
  let a := h.plinkOf l
  let b := h.plinkOf x
  let keep (h : Hw) (i : Nat) : Hw := h.updLk i (fun s => { s with home := some (h.get (F.LNK_CUR_PORT i)) })
  let h := keep (keep h l) x
  (((h.set (F.PLINK l) b).set (F.PLINK x) a).sendLif l).sendLif x

/-- A pair that waits on a link now fits its plan link: the link is accepted. -/
def Hw.pendCheck (h : Hw) (l : Nat) : Hw :=
  match (h.lk l).lifPend with
  | some (chip, plink) =>
    if (h.lkState l = lsIDENTIFY || h.lkState l = lsHELD) && h.expected (h.plinkOf l) = some (chip, plink) then h.linkUp l 1 else h
  | none => h

/-- Remap a link to the plan link found, and come UP (R348). -/
def Hw.doRemap (h : Hw) (l q : Nat) : Hw :=
  let x := h.physOf q
  ((h.remap l x).linkUp l 2).pendCheck x

/-- The outcome of a LIF on a link: the first row of R347 that applies. -/
def Hw.lifDecide (h : Hw) (l : Nat) (b : Bytes) : Hw :=
  let chip := fieldLE b 0x10 2
  let plink := fieldLE b 3 1
  let role := ((h.topo.plan.bind (fun p => p.links[h.plinkOf l]?)).map (·.role)).getD 0
  let exp := h.expected (h.plinkOf l)
  let rank := (h.topo.plan).bind (fun p => (p.find chip).bind (fun r => p.ranks[r]?))
  if fieldLE b 0x14 1 % 16 ≠ h.get F.GBL_PROFILE then h.linkRefuse l false 1 plink chip
  else if h.lifBad b then h.linkRefuse l false 3 plink chip
  else
    let h := { h with topo := { h.topo with verified := (if h.topo.verified.contains (chip, b.drop 0x10) then h.topo.verified else (chip, b.drop 0x10) :: h.topo.verified) } }
    if slice b 0x20 32 ≠ h.regBytes regPlanDigest 32 then h.linkRefuse l false 4 plink chip
    else if exp.isNone then h.linkRefuse l true 5 plink chip
    else if chip = h.myChip && l ≠ 0 then h.linkRefuse l false 6 plink chip
    else
      match rank with
      | none => if role = 2 then h.linkRefuse l true 5 plink chip else h.linkRefuse l false 7 plink chip
      | some r =>
        if r.spare then h.linkRefuse l false 8 plink chip
        else if exp = some (chip, plink) then h.linkUp l 1
        else
          match h.remapTarget l chip plink with
          | some q => if h.myChip < chip then h.doRemap l q else h.updLk l (fun s => { s with lifPend := some (chip, plink) })
          | none => h.updLk l (fun s => { s with lifPend := some (chip, plink) })

/-- LIF_RECEIVE (R346, R347): a whole Link Identity Frame on a link in IDENTIFY, or held and exchanging again. -/
def effLifReceive (l : Nat) (lif : Bytes) (h : Hw) : Hw :=
  if 64 ≤ l || !h.identOn || (h.lk l).farVer.isNone || !(h.lkState l = lsIDENTIFY || (h.lkState l = lsHELD && h.get (F.DISC_REASON l) ≠ 2)) then h
  else
    let h := (((h.inc (F.FRAMES_RX l) lifFrames).set (F.FAR_CHIP l) (fieldLE lif 0x10 2)).set (F.FAR_LINK l) (fieldLE lif 2 1)).set (F.FAR_PLINK l) (fieldLE lif 3 1)
    (h.set (F.FAR_FPORT l) (fieldLE lif 4 1)).lifDecide l lif

def execLifReceive (l : Nat) (lif : Bytes) (s : State) : Host.Outcome State Fault Refusal := s.run (effLifReceive l lif)

/-- LIF_RETRY (R347): a link HELD for PLAN, AUTH or SPARE repeats the exchange. -/
def effLifRetry (l : Nat) (h : Hw) : Hw :=
  if l < 64 && h.identOn && h.lkState l = lsHELD && [3, 4, 8].contains (h.get (F.DISC_REASON l)) then h.sendLif l else h

def execLifRetry (l : Nat) (s : State) : Host.Outcome State Fault Refusal := s.run (effLifRetry l)

/-- REMAP_WAIT_EXPIRY (R348): no acceptable LIF in 10 ms: the higher chip remaps. -/
def effRemapWaitExpiry (l : Nat) (h : Hw) : Hw :=
  match (h.lk l).lifPend with
  | some (chip, plink) =>
    match h.remapTarget l chip plink with
    | some q => if l < 64 && h.identOn then h.doRemap l q else h
    | none => h
  | none => h

def execRemapWaitExpiry (l : Nat) (s : State) : Host.Outcome State Fault Refusal := s.run (effRemapWaitExpiry l)

/-- PORT_WAIT_EXPIRY (R348): an end that cannot remap, and no new LIF in 20 ms: HELD for PORT. -/
def effPortWaitExpiry (l : Nat) (h : Hw) : Hw :=
  match (h.lk l).lifPend with
  | some (chip, plink) => if l < 64 && h.identOn && (h.remapTarget l chip plink).isNone then h.linkRefuse l false 9 plink chip else h
  | none => h

def execPortWaitExpiry (l : Nat) (s : State) : Host.Outcome State Fault Refusal := s.run (effPortWaitExpiry l)

/-- DISC_TMO_EXPIRY (R349): the bundles are evaluated. -/
def effDiscTmoExpiry (h : Hw) : Hw :=
  if h.get F.TOPO_STATE = 2 && h.flag F.TOPO_CFG_ENABLE && !h.topo.discOver then
    ({ h with topo := { h.topo with discOver := true } } : Hw).topoEval.boardRoutes
  else h

def execDiscTmoExpiry (s : State) : Host.Outcome State Fault Refusal := s.run effDiscTmoExpiry

/-! ### Keepalives -/

/-- Links accepted to a chip. -/
def Hw.linksTo (h : Hw) (chip : Nat) : List Nat :=
  (List.range 64).filter (fun l => (h.get (F.DISC_OUT l) = 1 || h.get (F.DISC_OUT l) = 2) && h.get (F.FAR_CHIP l) = chip)

/-- The neighbours: chips of the accepted links. -/
def Hw.neighbours (h : Hw) : List Nat :=
  ((List.range 64).filterMap (fun l => if h.get (F.DISC_OUT l) = 1 || h.get (F.DISC_OUT l) = 2 then some (h.get (F.FAR_CHIP l)) else none)).eraseDups

/-- The mask of UP board links (R356). -/
def Hw.boardMask (h : Hw) : Nat := (List.range 16).foldl (fun m d => if d ≠ 0 && h.plinkUp d then m + 2 ^ d else m) 0

/-- KEEPALIVE_SEND (R356): each UP link sends one; a period without any from a neighbour counts as missed. -/
def effKeepaliveSend (h : Hw) : Hw :=
  if !h.flag F.KA_EN || !h.flag F.OPT_CFG_ENABLE then h
  else
    let miss := h.neighbours.foldl (fun t c => if (h.linksTo c).any (fun l => (h.lk l).kaSeen) then Tab.set t c 0 else Tab.set t c (Tab.getD t c 0 + 1)) h.topo.miss
    let h := { h with topo := { h.topo with miss := miss } }
    let data := natLE 8 (h.get F.SHUTTLE_EPOCH) ++ natLE 2 (h.get F.TOPO_STATE) ++ natLE 2 h.boardMask
    (List.range 64).foldl (fun h l =>
      let h := if (h.lk l).kaSeen then h.updLk l (fun s => { s with kaSeen := false }) else h
      if h.lkUp l then h.sendFrame l (mkFrm ftKEEPALIVE 0 (h.get (F.FAR_CHIP l)) h.myChip 0 0 0 data) else h) h

def execKeepaliveSend (s : State) : Host.Outcome State Fault Refusal := s.run effKeepaliveSend

/-- KEEPALIVE_MISS (R356, R406, R363): a neighbour whose frames have been missing for KA_MISSES periods is DEAD. -/
def effKeepaliveMiss (chip : Nat) (h : Hw) : Hw :=
  match (h.topo.plan).bind (fun p => p.find chip) with
  | none => h
  | some i =>
    if h.flag F.KA_EN && h.get (PEER_PSTATE i) ≠ 2 && h.neighbours.contains chip && max 4 (h.get F.KA_MISSES) ≤ Tab.getD h.topo.miss chip 0 then
      (((h.set (PEER_PSTATE i) 2).post Ev.evPeerDead [u16 chip]).chipLost chip).collPeerDead chip
    else h

def execKeepaliveMiss (chip : Nat) (s : State) : Host.Outcome State Fault Refusal := s.run (effKeepaliveMiss chip)

end Sys2Proof.Machine
end

