-- ==== Sys2Proof/Machine/Enable.lean ====
section
/-!
DEFINITION. Machine/Enable.lean: the ENABLE of each block by its bit of R446, and its drain.
-/

namespace Sys2Proof.Machine

/-! ### The ENABLEs of R446 -/

/-- The ENABLE of block k. -/
def enableOf : Nat → Fld
  | 0 => F.OPT_CFG_ENABLE | 1 => F.MEM_CFG_ENABLE | 2 => F.SPAD_CFG_ENABLE | 3 => F.XLATE_CFG_ENABLE | 4 => F.TAILOR_CFG_ENABLE
  | 5 => F.ARRAY_CFG_ENABLE | 6 => F.VEC_CFG_ENABLE | 7 => F.TRAIN_CFG_ENABLE | 8 => F.TOPO_CFG_ENABLE | 9 => F.BAST_CFG_ENABLE
  | _ => F.SHUTTLE_CFG_ENABLE

/-- BLOCK_EN: each ENABLE as it reads, in the bit order of R446. -/
def Hw.blockEn (h : Hw) : Nat := (List.range 11).foldl (fun m k => m + (h.flag (enableOf k)).toNat * 2 ^ k) 0

/-- What the Tailor put off while a block was disabled goes on (R559). -/
def Hw.tailorGo (h : Hw) : Hw := if h.xlOn && h.tailor.markDue then h.tailorMark else h.settle

/-- ENABLE of block k is written 1; the Tailor starts its request ring anew (R213). A drain that runs ends, and the block goes on (log entry 21). -/
def Hw.blockOn (h : Hw) (k : Nat) : Hw :=
  match k with
  | 0 => if h.flag F.OPT_CFG_ENABLE then h else h.optEnable
  | 1 => if h.flag F.MEM_CFG_ENABLE then h else (h.setB F.MEM_CFG_ENABLE true).bar2Go.tailorGo
  | 3 => if h.flag F.XLATE_CFG_ENABLE then h else (h.setB F.XLATE_CFG_ENABLE true).tailorGo
  | 4 => if h.flag F.TAILOR_CFG_ENABLE then h
    else
      let h := (((h.setB F.TAILOR_CFG_ENABLE true).set F.TREQ_ERR 0).set F.TREQ_HEAD 0).set F.TREQ_TAIL 0
      ({ h with tailor := { h.tailor with waiting := none } } : Hw).settle
  | 7 => { h.setB F.TRAIN_CFG_ENABLE true with train := { h.train with draining := false } }
  | 8 => if h.flag F.TOPO_CFG_ENABLE then { h with topo := { h.topo with draining := false } } else h.topoOn
  | 9 => { h.setB F.BAST_CFG_ENABLE true with bast := { h.bast with draining := false } }
  | 10 => { h.setB F.SHUTTLE_CFG_ENABLE true with shut := { h.shut with disabling := false } }
  | _ => h.setB (enableOf k) true

/-- ENABLE of block k is written 0. The Shuttle drops it once its issued instructions have completed (R189), training support once no context
is in use (R373), topology once no collective is active (R365), Basting once it has nothing under way (R533); the others at once. -/
def Hw.blockOff (h : Hw) (k : Nat) : Hw :=
  if !h.flag (enableOf k) then h
  else
    match k with
    | 0 => h.optDisable
    | 7 => ({ h with train := { h.train with draining := true } } : Hw).drained
    | 8 => h.topoOff
    | 9 => ({ h with bast := { h.bast with draining := true } } : Hw).drained
    | 10 => ({ h with shut := { h.shut with disabling := true } } : Hw).drained
    | _ => h.setB (enableOf k) false

/-- Write the ENABLE of block k. -/
def Hw.blockSet (h : Hw) (k : Nat) (on : Bool) : Hw := if on then h.blockOn k else h.blockOff k

end Sys2Proof.Machine
end

