-- ==== Sys2Proof/Machine/Power.lean ====
section
/-!
DEFINITION. Machine/Power.lean: powering domains (R40, R41, R491, R520) and the wake of a mailbox doorbell (R430).
-/

namespace Sys2Proof.Machine

/-- Registers that live in the AON domain (R40, R429) or in Sage: they survive while YOKE is off; the cycle counters but CYC_SAGE restart. -/
def aonReg (o : Nat) : Bool :=
  (0x781000 ≤ o && o < 0x781100) || o = 0x782018 || (0x800000 ≤ o && o < 0x800040) || (0x800070 ≤ o && o < 0x800340)

/-- Channels whose receiver is Sage (R424). -/
def sageChan (c : Nat) : Bool := c = 12 || c = 13

/-- A channel's state beside its registers. -/
def Hw.chan (h : Hw) (c : Nat) : Chan := h.mb.chans.getD c {}

def Hw.updChan (h : Hw) (c : Nat) (f : Chan → Chan) : Hw := { h with mb := { h.mb with chans := h.mb.chans.set c (f (h.chan c)) } }

/-- ASTATE is BUSY. -/
def Hw.mbBusy (h : Hw) (c : Nat) : Bool := h.get (F.MB_ASTATE c) == 1

/-- The AON logic ends a busy command with ST_ABORTED as YOKE goes off (R437), and a channel's receiver is off. -/
def Hw.mbAbort (h : Hw) (c : Nat) : Hw :=
  let h := if h.mbBusy c then
      (((h.set (F.ACK_SEQ c) (fieldLE (h.chan c).buf 2 2)).set (F.MB_RC c) 0x10).set (F.MB_ASTATE c) 2).set (F.MB_CMDS c) ((h.get (F.MB_CMDS c) + 1) % 2 ^ 32)
    else h
  if sageChan c then h else ((h.set (F.RX_POWERED c) 0).set (F.WAKING c) 0).set (F.MB_SESSION c) 0

/-- YOKE and every domain that depends on it power off, in the order of R41: the AON domain keeps its own (R40, R520); HBM, scratchpad and
Thimble SRAM lose their contents (R492; log entry 26). -/
def Hw.yokeOff (h : Hw) : Hw :=
  if !h.domOn domYOKE then h
  else
    let h := (List.range 16).foldl Hw.mbAbort h
    { Hw.off with
      regs := h.regs.drop (fun o => !aonReg o)
      votes := h.votes.drop (fun o => !aonReg o)
      dom := 1
      evt := { Hw.off.evt with aon := h.evt.aon, norNext := h.evt.norNext }
      hbm := { Hw.off.hbm with lost := (List.range 16).map (fun s => (s, h.freeCtr)) }
      spad := { Hw.off.spad with lost := (List.range 4).map (fun p => (p, h.freeCtr)) }
      sramLost := some h.freeCtr
      mb := { hostOff := h.mb.hostOff, chans := List.map (fun (e : Nat × Chan) => (e.1, { offDrop := e.2.offDrop })) h.mb.chans }
      sec := { bad := h.sec.bad, fails := h.sec.fails }
      sage := h.sage
      side := { h.side with update := none }
      nor := h.nor, rpmc := h.rpmc, out := h.out, freeCtr := h.freeCtr }

/-- YOKE powers on and its reset is released (R518 step 4, R41); the clock cap clears (R444), PERST_OUT_N is low (R528). -/
def Hw.yokeOn (h : Hw) : Hw :=
  if h.domOn domYOKE || !h.domOn domAON then h
  else
    let h := { h with dom := 3 }
    let h := (h.set F.GBL_STEPPING (if Config.isB0 then 0xB0 else 0xA0)).set F.CAP_DIV 4
    h.send (.pin 7 false)

/-- Nothing holds YOKE off: the window of R491, the root PLL, no THERMTRIP latch. -/
def Hw.yokeFree (h : Hw) : Bool := h.domOn domAON && h.sage.vinOk && h.flag F.ROOT_LOCK && !h.flag F.THERMTRIP_LATCH

/-- A reset of R520: the cause is kept, busy commands end with ST_ABORTED, YOKE and what depends on it go off. For the host path YOKE counts as
off until RX_POWERED (R431). A reset already in progress runs once and keeps the first cause (R508). -/
def Hw.yokeReset (h : Hw) (cause : Nat) : Hw :=
  if !h.domOn domYOKE then h
  else (({ h with mb := { h.mb with hostOff := true } } : Hw).yokeOff).set F.RESET_CAUSE cause

/-- A wake event for a channel (R430, R41): the receiver's domain powers on unless something holds it off. -/
def Hw.wake (h : Hw) (c : Nat) : Hw :=
  if sageChan c || h.domOn domYOKE || !h.yokeFree then h else (h.set (F.WAKING c) 1).yokeOn

/-! ### Stacks and Eyelets -/

/-- What a stack has under way ends with its power. -/
def Hw.stackForget (h : Hw) (s : Nat) : Hw :=
  { h.set (F.STK_RETRAINING s) 0 with hbm := { h.hbm with
    reqs := h.hbm.reqs.filter (fun r => r.stack ≠ s)
    wins := h.hbm.wins.del s
    trig := h.hbm.trig.drop (fun k => k / 32 = s)
    retry := h.hbm.retry.filter (fun k => k / 32 ≠ s)
    autoMap := h.hbm.autoMap.filter (fun k => k / 32 ≠ s)
    ceWin := h.hbm.ceWin.drop (fun k => k / 32 = s)
    scans := h.hbm.scans.filter (fun k => k.stack ≠ s)
    mapout := h.hbm.mapout.del s
    relay := h.hbm.relay.filter (· ≠ s)
    scrub := h.hbm.scrub.del s
    scrubSkip := h.hbm.scrubSkip.filter (fun l => stackOf (l * 256) ≠ s) } }

/-- A stack powers off: its Darning buffer flushes (R242), its contents are lost, its registers read their off state (R547). -/
def Hw.stackOff (h : Hw) (s : Nat) : Hw :=
  let h := (((h.darnFlushAll s).stackForget s).loseStack s).set (F.STK_STATE s) 0
  h.domDown (domSTACK s)

/-- Temperature of a stack at training, in °C (R265): its sensor's reading; how tenths round is open. -/
def Hw.trainTemp (h : Hw) (s : Nat) : Nat :=
  let t := untwos 16 (h.get (F.SENSOR_TEMP (44 + s)))
  twos 8 (t / 10 + (if t % 10 = 0 then 0 else ((h.free (0xA00 + s) % 2 : Nat) : Int)))

/-- A stack powers on and is trained (R261, R518 step 7): `bad` are the channels that fail training twice, in turn. Each is mapped out at once and
recorded; where that would pass the limit of R256, the stack is FAILED and its range unmapped. -/
def Hw.stackUp (h : Hw) (s : Nat) (bad : List Nat) : Hw :=
  let h := h.domUp (domSTACK s)
  let mask := h.get (F.STK_MAPOUT s)
  let new := bad.filter (fun c => c < 32 && !mask.testBit c)
  let h := new.foldl (fun h c => h.post Ev.evHbmTrainFail [u8 s, u8 c]) h
  let mask' := (new.take (4 - ones mask 32)).foldl (fun m c => m ||| 2 ^ c) mask
  let h := if mask' = mask then h else h.cfgPut (0x10 + s) (natLE 4 mask')
  let h := h.setMapout s mask'
  let temp := h.trainTemp s
  let h := (List.range 32).foldl (fun h c =>
    (h.set (F.CH_STATE s c) (if mask'.testBit c then 3 else if new.contains c then 4 else 0)).set (F.CH_TRAIN_TEMP s c)
      (if mask'.testBit c || new.contains c then h.get (F.CH_TRAIN_TEMP s c) else temp)) h
  if 4 - ones mask 32 < new.length then ((h.set (F.STK_STATE s) 5).set (F.N_ACTIVE s) 0).set (F.STK_SIZE s) 0 else h.set (F.STK_STATE s) 2

/-- An Eyelet powers off, its links being OFF. -/
def Hw.eyeletOff (h : Hw) (e : Nat) : Hw :=
  let h := (List.range 8).foldl (fun h k => h.linkOff (8 * e + k)) h
  let h := { h.set (F.EYE_STATE e) 0 with opt := { h.opt with eyes := h.opt.eyes.del e } }
  h.domDown (domEYELET e)

/-- An Eyelet powers on; its microcode starts if the optical block is enabled, and its enabled links come up (R318, R331). -/
def Hw.eyeletUp (h : Hw) (e : Nat) : Hw :=
  let h := h.domUp (domEYELET e)
  if h.flag F.OPT_CFG_ENABLE then (List.range 8).foldl (fun h k => h.linkStart (8 * e + k)) (h.eyeStart e) else h

end Sys2Proof.Machine
end

