-- ==== Sys2Proof/Machine/Channel.lean ====
section
/-!
DEFINITION. Machine/Channel.lean: what reaches a mailbox channel before its command runs (R424, R426, R430, R431, R435).
-/

namespace Sys2Proof.Machine

/-- Whether a path reaches a channel's buffer and registers (R424, R426): the host channels by BAR0 or a diagnostic access, and the internal
channels too by the internal path; the secure channels by transport messages alone. -/
def chanReach (path : Path) (c : Nat) : Bool :=
  match path with
  | .bar0 | .diag => 4 ≤ c && c ≤ 11
  | .internal => 4 ≤ c && c ≤ 15
  | .bar4 | .cfg => false

/-- A path of the host. -/
def Path.host : Path → Bool
  | .bar0 | .bar4 | .cfg => true
  | _ => false

/-- For this sender the receiver's domain counts as off (R431). -/
def Hw.mbOff (h : Hw) (c : Nat) (host : Bool) : Bool := !sageChan c && (!h.domOn domYOKE || (host && h.mb.hostOff))

/-- A touch dropped while the domain is off (R431). -/
def Hw.mbDropOff (h : Hw) (c : Nat) : Hw := (h.inc F.MB_DROP_CNT).updChan c (fun k => { k with offDrop := true })

/-- A touch dropped while the channel is BUSY: EV_MB_DROPPED with KIND 1 once for the period (R435). -/
def Hw.mbDropBusy (h : Hw) (c : Nat) : Hw :=
  let h := h.inc F.MB_DROP_CNT
  if (h.chan c).busyDrop then h else (h.updChan c (fun k => { k with busyDrop := true })).post Ev.evMbDropped [u8 c, u8 1]

/-- A SEND (R430, R431, R432, R435): the channel becomes BUSY, and its command waits to be executed. -/
def Hw.mbSend (h : Hw) (c : Nat) (host : Bool) : Hw :=
  if h.mbOff c host then (h.mbDropOff c).wake c
  else if h.mbBusy c then (h.set (F.MB_OVERRUN c) 1).mbDropBusy c
  else
    let h := (h.set (F.MB_ASTATE c) 1).updChan c (fun k => { k with busyDrop := false })
    { h with mb := { h.mb with todo := h.mb.todo ++ [c] } }

/-- A write into a message buffer (R431, R435). -/
def Hw.mbWrite (h : Hw) (c off : Nat) (bs : Bytes) (host : Bool) : Hw :=
  if h.mbOff c host then (h.set (F.MB_DROPPED c) 1).mbDropOff c
  else if h.mbBusy c then (h.set (F.MB_DROPPED c) 1).mbDropBusy c
  else h.updChan c (fun k => { k with buf := k.buf.take off ++ bs.take (256 - off) ++ k.buf.drop (off + bs.length) })

/-- A write of MB_DB (R430): 1 WAKE, 2 SEND. -/
def Hw.mbDoorbell (h : Hw) (c op : Nat) (host : Bool) : Hw :=
  let h := h.set (F.MB_OP c) op
  if op = 1 then h.wake c else if op = 2 then h.mbSend c host else h

end Sys2Proof.Machine
end

