-- ==== Sys2Proof/Machine/Xlate.lean ====
section
/-!
DEFINITION. Machine/Xlate.lean: the end of a translation and its faults (R269, R287 to R293), ATS and PRI (R274, R275), the start of an
invalidation (R271).
-/

namespace Sys2Proof.Machine

/-- The translation cache a unit looks up (R270): 0 to 3 a Panel's, 8 + d that of DMA engine d; rings, the Tape unit, the Tailor and Basting
hold no translations. -/
def Hw.unitCache (h : Hw) : FltUnit → Nat
  | .fetch c => c % 4
  | .desc c _ _ => c % 4
  | .region c i _ | .coll c i => panelOfEngine (h.entEngine c i)
  | .staging c i o | .ahead c i o => h.stageEngine 1 c i o - 248
  | .writeback c i o => h.stageEngine 2 c i o - 248
  | .move c i => h.entEngine c i - 248
  | .tape _ _ _ | .ring _ _ | .treq | .tailor _ | .bast => noCache

/-- Whether an address lies in one of some ranges. -/
def inRanges (l : List (Nat × Nat)) (va : Nat) : Bool := l.any (fun g => g.1 ≤ va && va < g.2)

/-- Whether an instruction's operands of a kind of access cover an address. -/
def Ent.accesses (e : Ent) (acc : Acc) (va : Nat) : Bool :=
  (insOpnds e.raw).any (fun o => (if acc = .write then o.wr else o.rd) && match descIn e.descs o.desc with
    | some d => inRanges d.ranges va
    | none => false)

/-- Whether a region covers an address with a kind of access. -/
def Region.covers (r : Region) (acc : Acc) (va : Nat) : Bool := (if acc = .write then r.wr else r.rd) && inRanges r.ranges va

/-- Whether an instruction of a running context stands held in its window and waits on no fault. -/
def Hw.entWaits (h : Hw) (c i : Nat) : Option Ent :=
  match h.ctx? c, h.ent? c i with
  | some x, some e => if h.shutOn && x.st == .running && e.ph == .held && e.flt.isNone then some e else none
  | _, _ => none

/-- The entry of an instruction that is held by nothing but resources, so that its reads are demand reads (R281). -/
def Hw.entReady (h : Hw) (c i : Nat) : Option Ent :=
  match h.ctx? c, h.ent? c i with
  | some x, some e => if h.ready x e then some e else none
  | _, _ => none

/-- Whether a unit has an access of a kind to make at an address (R281, R289). -/
def Hw.unitAccess (h : Hw) (u : FltUnit) (va : Nat) (acc : Acc) : Bool :=
  h.xlOn && match u with
  | .fetch c => acc == .fetch && match h.ctx? c with
    | some x => h.mayFetch x && va == x.progAddr + 16 * x.pc
    | none => false
  | .desc c i d => acc == .fetch && va == h.get F.DESC_BASE + 64 * d && match h.entWaits c i with
    | some e => e.descs.isEmpty && ((insDescs e.raw).contains d || match h.readDescs (c % 4) [] (insDescs e.raw) with
      | .ok (_, ds) => ds.any (fun x => (parseDesc x.2).hem == d)
      | .error _ => false)
    | none => false
  | .region c i o => match h.entReady c i with
    | some e => e.engine.isSome && (insOpc e.raw = 0 || insIsVec e.raw) && e.regions.any (fun r => r.o = o && r.covers acc va)
    | none => false
  | .staging c i o => acc == .read && match h.entReady c i with
    | some e => e.copies.any (fun k => k.opnd = o && !k.done) && e.regions.any (fun r => r.o = o && r.covers .read va)
    | none => false
  | .writeback c i _ => acc == .write && match h.ent? c i with
    | some e => e.ph == .writeback && e.flt.isNone && inRanges (e.res.vw.map (fun w => (w.1, w.1 + w.2.length))) va
    | none => false
  | .move c i => acc != .fetch && match h.ent? c i with
    | some e => e.flt.isNone && e.accesses acc va && (h.jobsOn (e.engine.getD 256 - 256)).any (fun j => j.kind = 0 && j.ctx = c && j.index = i && !j.parked)
    | none => false
  | .coll c i => acc != .fetch && match h.ent? c i with
    | some e => e.flt.isNone && e.accesses acc va && h.topo.colls.any (fun k => k.ctx = c && k.index = i)
    | none => false
  | .tape c i slot => acc != .fetch && match h.entReady c i with
    | some e => (e.slotsUsed.contains slot || e.slots.contains slot) && (inRanges [(h.tapeVa slot, h.tapeVa slot + 64)] va || (insOpc e.raw = 9 && e.accesses acc va))
    | none => false
  | .ring q sub =>
    q < 64 && h.flag (F.Q_ENABLE q) && h.get (F.Q_ERR q) ≠ 3 &&
    (if sub then acc == .read && h.nextQueue == some q && va == h.get (F.Q_SQ_BASE q) + 32 * h.get (F.Q_SQ_HEAD q)
     else acc == .write && !(h.q q).held.isEmpty && !h.cqFull q && va == h.get (F.Q_CQ_BASE q) + 32 * h.get (F.Q_CQ_TAIL q))
  | .treq =>
    h.tailorOn && h.get F.TREQ_ERR = 0 &&
    (match h.tailor.waiting with
     | some w => acc == .write && va == h.get F.TREQ_BASE + 64 * w.slot + 0x38
     | none => acc == .read && h.get F.TREQ_HEAD ≠ h.get F.TREQ_TAIL && va == h.get F.TREQ_BASE + 64 * h.get F.TREQ_HEAD)
  | .bast => match h.bast.cap, h.bast.restore with
    | some k, _ => acc == .read && k.stage ≠ 3 && (inRanges k.vas va || inRanges [(h.get F.TAPE_BASE, h.get F.TAPE_BASE + 0x400000)] va)
    | none, some r => acc == (if r.verify then .read else .write)
    | none, none => false
  | .tailor n => acc != .fetch && match h.obj? n with
    | some o => o.st == .migrating && (2 ≤ o.tier || 2 ≤ o.target.1) && inRanges [(o.va, o.va + o.size)] va
    | none => false
  | .ahead c i o => acc == .read && (h.entReady c i).isNone && match h.entWaits c i with
    | some e => e.copies.any (fun k => k.opnd = o && !k.done && k.ahead) && e.regions.any (fun r => r.o = o && r.covers .read va)
    | none => false

/-- The descriptor index in a unit's fault record (R290). -/
def Hw.unitDesc (h : Hw) (u : FltUnit) (va : Nat) (acc : Acc) : Nat :=
  let opnd (c i o : Nat) : Nat := ((h.ent? c i).bind (fun e => (e.regions.find? (·.o == o)).bind (fun r => (e.descs.find? (fun d => parseDesc d.2 == r.d)).map (·.1)))).getD 0xFFFF
  let covering (c i : Nat) : Nat := ((h.ent? c i).bind (fun e => ((insOpnds e.raw).find? (fun o => (if acc = .write then o.wr else o.rd) &&
    match descIn e.descs o.desc with
    | some d => inRanges d.ranges va
    | none => false)).map (·.desc))).getD 0xFFFF
  match u with
  | .desc _ _ d => d
  | .region c i o | .staging c i o | .writeback c i o | .ahead c i o => opnd c i o
  | .move c i | .coll c i | .tape c i _ => covering c i
  | _ => 0xFFFF

/-! ### Abandoned Tailor moves (R289) -/

/-- A move is abandoned: the object stays at its old place, and what was bound for that place is placed anew. -/
def Hw.moveAbandon : Nat → Hw → Nat → Hw
  | 0, h, _ => h
  | f + 1, h, n =>
    match h.obj? n with
    | some o =>
      if o.st != .migrating then h
      else
        let h := h.objChange n (fun o => { o with st := .placed, move := none })
        let hit := List.filter (fun (x : Nat × Obj) => x.1 ≠ n && x.2.move.isSome && x.2.target.1 = o.tier && x.2.target.2 < o.loc + o.size && o.loc < x.2.target.2 + x.2.size) h.tailor.objs
        hit.foldl (fun h x =>
          if x.2.st == .migrating then Hw.moveAbandon f h x.1
          else ((h.updObj x.1 (fun o => { o with move := none })).place x.1 x.2.tierMin 0).1) h
    | none => h

/-! ### Faults of units -/

/-- How far an access lies into the work of its unit, which goes in rising order (R279, R289): bytes within the region of a staging copy or
write-back, the element within the tensor of a COLL. -/
def Hw.unitPos (h : Hw) (u : FltUnit) (va : Nat) (acc : Acc) : Nat :=
  match u with
  | .staging c i o => ((h.ent? c i).bind (fun e => (e.regions.find? (·.o == o)).map (fun r => bytesBefore va r.ranges))).getD 0
  | .writeback c i _ => ((h.ent? c i).map (fun e => bytesBefore va (e.res.vw.map (fun w => (w.1, w.1 + w.2.length))))).getD 0
  | .coll c i => ((h.ent? c i).bind (fun e => (insOpnds e.raw).findSome? (fun o => if (if acc = .write then o.wr else o.rd) then
      (descIn e.descs o.desc).map (fun d => bytesBefore va d.ranges * 8 / d.fmt.width) else none))).getD 0
  | _ => 0

/-- A fault of a unit's access, with what follows for the unit (R287, R289, R187, R213, R298, R411). A run-ahead read stops at the page, with
nothing posted (R283). -/
def Hw.unitFault (h : Hw) (u : FltUnit) (acc : Acc) (ty : FType) (va lvl pte detail : Nat) : Hw :=
  match u with
  | .ahead c i o => h.aheadStop c i o va
  | .ring q sub =>
    let h := h.ringFault q sub acc ⟨va, ty, lvl, pte, false⟩
    if sub then h else h.updQ q (fun s => { s with stopped := true })
  | .treq => (h.postFault .treq acc ty va lvl 0xFFFF pte detail).treqErr 2
  | .bast =>
    let h := h.postFault .bast acc ty va lvl 0xFFFF pte detail
    if h.bast.cap.isSome then h.snapAbort 2 else h.restoreFail 0x16 0 0
  | .tailor n => ((h.postFault (.tailor n) acc ty va lvl 0xFFFF pte detail).moveAbandon (h.tailor.objs.length + 1) n).settle
  | u => h.postFault u acc ty va lvl (h.unitDesc u va acc) pte detail (h.unitPos u va acc)

/-- DETAIL of a fault that a walk of a cache finds (R290): the chip for the PEER types. -/
def Hw.walkDetail (h : Hw) (cache : Nat) (ty : FType) (va : Nat) : Nat :=
  match ty with
  | .peerWindow | .peerReject | .peerUnreachable => match h.leafOf cache va with
    | .leaf e _ _ _ => h.get (F.PW_CHIP (pteWin e))
    | .fault .. => 0
  | _ => 0

/-- What a unit's access translates to: by the page tables, or for a Tailor move by the windows of its places. -/
def Hw.unitXlate (h : Hw) (u : FltUnit) (va : Nat) (acc : Acc) : XRes :=
  match u with
  | .tailor n => match h.obj? n with
    | some o =>
      let (t, l) := if 2 ≤ o.tier then (o.tier, o.loc) else o.target
      match (if t = 2 then h.peerTarget (l / 2 ^ 48) (l % 2 ^ 48 + (va - o.va)) else h.hostTarget (l / 2 ^ 48) (l % 2 ^ 48 + (va - o.va))) with
      | .ok t => .ok t true
      | .error f => .fault f 0 0
    | none => .fault .notPresent 0 0
  | _ => h.translate (h.unitCache u) va acc

/-- Ask the host for a translation (R274). -/
def Hw.atsAsk (h : Hw) (r : AtsReq) : Hw :=
  (({ h with xl := { h.xl with ats := h.xl.ats ++ [r] } } : Hw).inc F.ATS_REQS).send (.ats 0 r.addr)

/-- The look-up and the walk count on the unit's cache (R302, R303). -/
def Hw.countWalk (h : Hw) (u : FltUnit) : Hw :=
  let k := h.unitCache u
  if k < 4 then (h.inc (F.PTC_LOOKUPS k)).inc (F.PTC_MISSES k) else if 8 ≤ k && k < 40 then h.inc (F.DTC_MISSES (k - 8)) else h

/-- Whether run-ahead may read a target: local, without NRA (R282). -/
def aheadOk (t : Target) (nra : Bool) : Bool :=
  !nra && match t with
  | .loc _ => true
  | _ => false

/-- Whether a unit reads ahead. -/
def FltUnit.isAhead : FltUnit → Bool
  | .ahead .. => true
  | _ => false

/-- PAGE_WALK_DONE (R269, R270, R274, R283, R287): a translation of a unit's access ends: its leaf is cached, or it faults, the reads of its
walk being checked (R246); a host address that the ATC does not hold is asked for. Run-ahead stops silently at a page it may not read. -/
def effPageWalkDone (u : FltUnit) (va : Nat) (acc : Acc) (h : Hw) : Hw :=
  if !h.unitAccess u va acc then h
  else
    match h.unitXlate u va acc with
    | .fault ty lvl pte =>
      let detail := h.walkDetail (h.unitCache u) ty va
      ((h.countWalk u).walkCheck va).unitFault u acc ty va lvl pte detail
    | .ok t nra =>
      let h := (h.countWalk u).noteLeaf (h.unitCache u) va
      if u.isAhead then (if aheadOk t nra then h else h.unitFault u acc .notPresent va 0 0 0)
      else
        match t with
        | .host win off =>
          let a := h.hostAddr win off
          if h.xl.atsOn && !h.atcHas acc a && !h.xl.ats.any (fun r => r.unit == u && r.va = va) then h.atsAsk ⟨a, u, va, acc, 0⟩ else h
        | _ => h

def execPageWalkDone (u : FltUnit) (va : Nat) (acc : Acc) (s : State) : Host.Outcome State Fault Refusal := s.run (effPageWalkDone u va acc)

/-! ### ATS and PRI (R274, R275) -/

/-- Page requests outstanding. -/
def Hw.priOut (h : Hw) : Nat := (h.xl.ats.filter (·.stage = 1)).length

/-- Send the page requests that wait, up to 512 outstanding (R274). -/
def Hw.priSend (h : Hw) : Hw :=
  h.xl.ats.foldl (fun h r =>
    if r.stage = 3 && h.priOut < 512 then
      (({ h with xl := { h.xl with ats := h.xl.ats.map (fun x => if x = r then { r with stage := 1 } else x) } } : Hw).inc F.PRI_REQS).send (.ats 1 (r.addr / 4096 * 4096))
    else h) h

/-- An access of an ATS request faults, if its unit still has it to make. -/
def Hw.atsFault (h : Hw) (r : AtsReq) (ty : FType) (detail : Nat) : Hw :=
  let h := { h with xl := { h.xl with ats := h.xl.ats.erase r } }
  if h.unitAccess r.unit r.va r.acc then h.unitFault r.unit r.acc ty r.va 0 0 detail else h

/-- What waited for a translation of the host goes on where no command names it: the answer of a Tailor request. -/
def Hw.atsGo (h : Hw) : FltUnit → Hw
  | .treq => h.settle
  | _ => h

/-- Put a host translation into the ATC (R270, R274); which one leaves a full one is open. -/
def Hw.atcPut (h : Hw) (t : Atc) : Hw := { h with xl := { h.xl with atc := h.cachePut 4096 (fun _ => true) t h.xl.atc } }

/-- ATS_COMPLETION (R274): the translation of `addr` to `trans`, with what it grants, is cached at its size; one that does not grant the
access leads to a page request, or faults. -/
def effAtsCompletion (addr size trans : Nat) (rd wr : Bool) (h : Hw) : Hw :=
  match h.xl.ats.find? (fun r => r.addr = addr && (r.stage = 0 || r.stage = 2)) with
  | none => h
  | some r =>
    let h := if size = 0 || !(rd || wr) then h else h.atcPut ⟨addr / size * size, size, trans, rd, wr⟩
    if size ≠ 0 && (if r.acc = .write then wr else rd) then ({ h with xl := { h.xl with ats := h.xl.ats.erase r } } : Hw).atsGo r.unit
    else if r.stage = 2 then h.atsFault r .hostPerm 0
    else if h.xl.priOn then
      ({ h with xl := { h.xl with ats := h.xl.ats.map (fun x => if x = r then { r with stage := 3 } else x) } } : Hw).priSend
    else h.atsFault r .hostNopage (h.free 61)

def execAtsCompletion (addr size : Nat) (grant : AtsGrant) (s : State) : Host.Outcome State Fault Refusal :=
  s.run (effAtsCompletion addr size grant.xaddr grant.rd grant.wr)

/-- PRI_RESPONSE (R274): code 0 Success asks once more, 1 Invalid Request and 15 Response Failure fault; the last ends page requests. -/
def effPriResponse (addr code : Nat) (h : Hw) : Hw :=
  match h.xl.ats.find? (fun r => r.addr / 4096 = addr / 4096 && r.stage = 1) with
  | none => h
  | some r =>
    if code = 0 then
      let h := { h with xl := { h.xl with ats := h.xl.ats.erase r } }
      (h.atsAsk { r with stage := 2 }).priSend
    else if code = 1 || code = 15 then
      let h := (h.inc F.PRI_FAILS).atsFault r .hostNopage code
      if code = 15 then
        let late := h.xl.ats.filter (·.stage = 3)
        late.foldl (fun h r => h.atsFault r .hostNopage code) { h with xl := { h.xl with priOn := false } }
      else h.priSend
    else h

def execPriResponse (addr code : Nat) (s : State) : Host.Outcome State Fault Refusal := s.run (effPriResponse addr code)

/-- PRI_REENABLE (R274): the host enables PRI again. -/
def effPriReenable (h : Hw) : Hw := if h.domOn domYOKE && !h.solo then { h with xl := { h.xl with priOn := true } } else h
def execPriReenable (s : State) : Host.Outcome State Fault Refusal := s.run effPriReenable

/-- ATS_INVALIDATE_REQUEST (R275): matching ATC entries are removed; the completion is sent, behind the writes that used them: every access
ends within the command that makes it, and what waits to go upstream goes in order. -/
def effAtsInvalidateRequest (addr size : Nat) (h : Hw) : Hw :=
  if !(h.domOn domYOKE && h.xl.atsOn) then h
  else
    let h := { h with xl := { h.xl with atc := h.xl.atc.filter (fun t => t.page + t.size ≤ addr || addr + size ≤ t.page) } }
    (h.inc F.ATS_INVALS).send (.ats 2 addr)

def execAtsInvalidateRequest (addr size : Nat) (s : State) : Host.Outcome State Fault Refusal := s.run (effAtsInvalidateRequest addr size)

/-! ### Invalidation (R271) -/

/-- Start an invalidation. -/
def Hw.invalStart (h : Hw) (x : Inval) : Hw := ({ h with xl := { h.xl with inval := h.xl.inval ++ [x] } } : Hw).set F.INVAL_BUSY 1

/-- Hold an access behind a trigger whose action still runs (R540). -/
def Hw.hold (h : Hw) (path : Path) (off size val : Nat) (read : Bool) : Hw := { h with heldRt := h.heldRt ++ [⟨path, off, size, val, read⟩] }

/-- Whether a path waits behind a held write (R540). -/
def Hw.pathHeld (h : Hw) (path : Path) : Bool := h.heldRt.any (fun x => x.path == path)

/-- XLATE_INVAL starts an invalidation of the range its word names (R271, R301). -/
def Hw.xlateInval (h : Hw) : Hw :=
  let w := h.get F.XLATE_INVAL_REG
  h.invalStart ⟨bitsOf w 51 16, h.get F.INVAL_LEN, bitOf w 63, none⟩

/-- Whether the invalidation of an earlier XLATE_INVAL still runs. -/
def Hw.invalRuns (h : Hw) : Bool := h.xl.inval.any (fun x => x.chan.isNone)

/-- XLATE_INVAL (R271, R301): an 8-byte write of w; it is held while the invalidation of an earlier one runs (R540). -/
def effXlateInval (path : Path) (w : Nat) (h : Hw) : Hw :=
  if !h.domOn domYOKE then h
  else if h.pathHeld path || h.invalRuns then h.hold path 0x600038 8 w false
  else (h.setWord 0x600038 (BitVec.ofNat 64 w &&& 0x800FFFFFFFFF0000#64)).xlateInval

def execXlateInval (path : Path) (w : Nat) (s : State) : Host.Outcome State Fault Refusal := s.run (effXlateInval path w)

/-! ### Answers to faults (R291 to R293) -/

/-- Record the outcome of a fault response (R301): 1 applied, 2 no open fault, 3 not resumable or bad action. -/
def Hw.respResult (h : Hw) (id result : Nat) : Hw := (h.set F.RESP_ID id).set F.FLT_RESP_RESULT result

/-- Answer a fault with RETRY or CANCEL: the hardware after it, and the result code. -/
def Hw.respond (h : Hw) (id : Nat) (retry : Bool) : Hw × Nat :=
  if (h.xl.faults.find? id).isSome then (h.fltAnswer id retry, 1)
  else (h, if h.xl.nonres.contains id then 3 else 2)

/-- A write of FLT_RESP with a valid action. -/
def Hw.fltResp (h : Hw) (id : Nat) (retry : Bool) : Hw :=
  if !h.domOn domYOKE then h
  else
    let h := (h.set F.FLT_RESP_ACTION (if retry then 1 else 2)).set F.FAULT_ID id
    let (h, r) := h.respond (id % 65536) retry
    h.respResult (id % 65536) r

/-- FLT_RESP_RETRY (R292). -/
def effFltRespRetry (id : Nat) (h : Hw) : Hw := h.fltResp id true
def execFltRespRetry (id : Nat) (s : State) : Host.Outcome State Fault Refusal := s.run (effFltRespRetry id)

/-- FLT_RESP_CANCEL (R292). -/
def effFltRespCancel (id : Nat) (h : Hw) : Hw := h.fltResp id false
def execFltRespCancel (id : Nat) (s : State) : Host.Outcome State Fault Refusal := s.run (effFltRespCancel id)

/-- FLT_HEAD_DB (R291): a new head; held records go into the room it gives. A head outside the ring changes nothing. -/
def effFltHeadDb (v : Nat) (h : Hw) : Hw :=
  if !h.domOn domYOKE then h
  else if h.fltRingSize ≤ v % 65536 then h.set F.FLT_HEAD_DB_REG v
  else
    let h := (h.set F.FLT_HEAD_DB_REG v).set F.FLT_HEAD (v % 65536)
    h.fltDrain (h.xl.heldFlt.length + 1)

def execFltHeadDb (v : Nat) (s : State) : Host.Outcome State Fault Refusal := s.run (effFltHeadDb v)

/-- FAULT_TIMEOUT (R293): a fault open for FLT_TMO ms is cancelled, unless its context is PREEMPTED. -/
def effFaultTimeout (id : Nat) (h : Hw) : Hw :=
  match h.xl.faults.find? id with
  | none => h
  | some f =>
    if h.get F.FLT_TMO = 0 || (h.fltPreempted f).isSome then h
    else (h.fltClose id false).post Ev.evFaultTimeout [u16 id, u16 (f.ctx.getD 0)]

def execFaultTimeout (id : Nat) (s : State) : Host.Outcome State Fault Refusal := s.run (effFaultTimeout id)

/-! ### Accesses that get no answer (R273, R355, R522) -/

/-- PEER_READ_TIMEOUT (R355, R273, R411): a read of a peer got no response within PEER_TMO; or, `rejected`, the peer refused the access,
a write too, because the range is not lent to this chip. -/
def effPeerReadTimeout (u : FltUnit) (va : Nat) (rejected : Bool) (h : Hw) : Hw :=
  match u, h.bast.restore with
  | .bast, some r => if r.source ≠ 2 then h.restoreFail 0x17 0 0 else h
  | _, _ =>
    let acc : Acc := if h.unitAccess u va .read then .read else if h.unitAccess u va .fetch then .fetch else .write
    if !h.unitAccess u va acc || (acc = .write && !rejected) then h
    else
      match h.unitXlate u va acc with
      | .ok (.peer w _) _ => h.unitFault u acc (if rejected then .peerReject else .peerUnreachable) va 0 0 (h.get (F.PW_CHIP w))
      | _ => h

def execPeerReadTimeout (u : FltUnit) (miss : PeerMiss) (s : State) : Host.Outcome State Fault Refusal :=
  s.run (effPeerReadTimeout u miss.va miss.rejected)

/-- PCIE_COMPLETION_TIMEOUT (R274, R522, R534): a read of the host got no completion within 50 ms, `code` 0; or it completed with status `code`,
1 Unsupported Request or 4 Completer Abort. The record's DETAIL is the completion code; of a time-out, which has none, it is open. -/
def effPcieCompletionTimeout (u : FltUnit) (va code : Nat) (h : Hw) : Hw :=
  if !(code = 0 || code = 1 || code = 4) || (!h.unitAccess u va .read && !h.unitAccess u va .fetch) then h
  else
    let acc : Acc := if h.unitAccess u va .read then .read else .fetch
    match h.unitXlate u va acc with
    | .ok (.host _ _) _ =>
      if code = 0 then (h.inc F.PCIE_CPL_TMO).unitFault u acc .hostErr va 0 0 (h.free 62) else h.unitFault u acc .hostErr va 0 0 code
    | _ => h

def execPcieCompletionTimeout (u : FltUnit) (miss : HostMiss) (s : State) : Host.Outcome State Fault Refusal :=
  s.run (effPcieCompletionTimeout u miss.va miss.code)

end Sys2Proof.Machine
end

