-- ==== Sys2Proof/Machine/Regs.lean ====
section
/-!
DEFINITION. Machine/Regs.lean: register accesses (R14 to R17, R535 to R549): what a read gives, what a write does, bus errors, votes, latches.
-/

namespace Sys2Proof.Machine

/-! ### Voted fields (R544, R545) -/

/-- Count and report a correction (R545): at most 16 events in each second of CTRL_CLK time. -/
def Hw.voteCount (h : Hw) (off : Nat) : Hw :=
  let h := ((h.inc F.VOTE_CORR_CNT).set F.VOTE_LAST_OFFSET off).set F.VOTE_CORRECTED 1
  let sec := h.get F.CYC_CTRL / 500000000
  let n := if h.evt.voteSecond = sec then h.evt.votePosted else 0
  if n < 16 then ({ h with evt := { h.evt with voteSecond := sec, votePosted := n + 1 } } : Hw).post Ev.evVoteCorrected [u32 off] else h

/-- Check a voted field: where its copies disagree all take the majority. -/
def Hw.voteFix (h : Hw) (f : Fld) : Hw :=
  match h.votes.find? f.word with
  | none => h
  | some (a, b) => if (a ||| b) &&& f.mask = 0 then h else (h.set f (h.get f)).voteCount f.off

/-- Sweep the voted fields of the words that satisfy p. -/
def Hw.voteSweep (h : Hw) (p : Nat → Bool) : Hw :=
  ((List.map Prod.fst h.votes).filter p).foldl (fun h o => (votedFields o).foldl Hw.voteFix h) h

/-- An upset of one copy of the voted bits of the register at an offset. -/
def Hw.voteUpset (h : Hw) (off copy mask : Nat) : Hw :=
  let o := off / 8 * 8
  let m : Word64 := ((votedFields o).filter (fun f => f.off == off)).foldl (fun m f => m ||| (f.mask &&& (BitVec.ofNat 64 mask <<< (off % 8 * 8)))) 0
  let (a, b) := h.votes.getD o (0, 0)
  if m = 0 then h
  else if copy = 0 then { h with regs := h.regs.set o (h.raw o ^^^ m), votes := h.votes.set o (a ^^^ m, b ^^^ m) }
  else { h with votes := h.votes.set o (if copy = 1 then (a ^^^ m, b) else (a, b ^^^ m)) }

/-- VOTE_SWEEP (R545): the sweep corrects what has gone wrong, and then upsets land (offset, copy, bits). A domain control is no register: an
upset of it is corrected within the sweep, by its identifier. -/
def effVoteSweep (upsets : List (Nat × Nat × Nat)) (h : Hw) : Hw :=
  if !h.domOn domYOKE then h
  else
    let h := h.voteSweep (fun _ => true)
    upsets.foldl (fun h u => if 0xFFFF0000 ≤ u.1 then (if u.1 < 0xFFFF001E then h.voteCount u.1 else h) else h.voteUpset u.1 u.2.1 u.2.2) h

def execVoteSweep (upsets : List (Nat × Nat × Nat)) (s : State) : Host.Outcome State Fault Refusal := s.run (effVoteSweep upsets)

/-! ### What registers read -/

/-- CFG_WHILE_ENABLED of the block that owns a register (R542), and CFG_WE_COUNT below it. -/
def weOff (own b : Nat) : Nat := if own = 11 then b / 0x40 * 0x40 + 0x20 else (enableOf own).off + 4

/-- CFG_WE_MAP (R548). -/
def Hw.cfgWeMap (h : Hw) : Nat :=
  (List.range 11).foldl (fun m k => m + (h.flag ⟨weOff k 0, 31, 31⟩).toNat * 2 ^ k) 0 +
  ((List.range 64).any (fun q => h.flag (F.Q_CFG_WHILE_ENABLED q))).toNat * 2 ^ 11

/-- GBL_ERR (R549). -/
def Hw.gblErr (h : Hw) : Nat :=
  let c : List Bool := [
    h.cfgWeMap ≠ 0, h.flag F.VOTE_CORRECTED, h.flag F.BUSERR_VALID,
    (List.range 64).any (fun q => h.flag (F.Q_ERR q) || h.flag (F.Q_CQ_FULL q)),
    h.flag F.TREQ_ERR, !h.xl.faults.isEmpty, h.flag F.FLT_HELD, h.flag F.EVT_LOST,
    (List.range 8).any (fun c => h.flag (F.MB_DROPPED (4 + c)) || h.flag (F.MB_OVERRUN (4 + c))),
    h.get F.TOPO_STATE = 4 || h.get F.TOPO_STATE = 5,
    (List.range 16).any (fun s => h.get (F.STK_STATE s) = 3 || h.get (F.STK_STATE s) = 5 || (List.range 32).any (fun c => h.flag (F.CH_RECOMMEND s c))),
    h.flag F.SAGE_CAUSE, h.flag F.SEC_RECOVERY]
  (c.zipIdx).foldl (fun n x => n + x.1.toNat * 2 ^ x.2) 0

/-- Records wait for ring space (R461). -/
def Hw.ringFull (h : Hw) : Bool :=
  h.flag F.RING_EN && decide ((h.get F.EVT_TAIL + 1) % 2 ^ h.get F.RING_LOG2 = h.get F.EVT_HEAD) &&
  h.evt.log.any (fun r => (r.seq + 2 ^ 32 - h.evt.ringNext) % 2 ^ 32 < 2 ^ 31 && h.evFilter 0 r.code r.sev)

/-- Slot j of a DMA engine (R303): its four words. Work of kinds 3 to 6 is of no instruction. -/
def Hw.dmaJob (h : Hw) (d j k : Nat) : Nat :=
  match (h.jobsOn d).find? (fun x => x.slot = j) with
  | none => 0
  | some x =>
    match k with
    | 0 => 2 ^ 63 + x.kind * 2 ^ 60 + (if x.kind = 3 || x.kind = 4 then 0 else x.ctx * 2 ^ 51) + (if x.kind < 3 then x.index else 0)
    | 1 => if x.kind = 4 then (h.bast.cap.map Cap.cursor).getD 0 else x.cursor
    | 2 => x.src
    | _ => x.dst

/-- Word 0 of a DMA engine (R303). CHUNKS in flight are at least those that must be (R277), how many more being open (log entry 40). -/
def Hw.dmaWord (h : Hw) (d : Nat) : Nat :=
  let js := h.jobsOn d
  let act := h.activeJobs d
  let st := if act.any (·.kind = 5) then 3 else if !act.isEmpty then 1 else if js.isEmpty then 0 else 2
  let fly := min 16 ((act.filter (·.kind = 0)).foldl (fun n j => n + j.flying 0) 0)
  let chunks := if act.isEmpty then 0 else fly + h.free (0x6020 + d) % (17 - fly)
  st * 2 ^ 28 + min act.length 7 * 2 ^ 25 + min (js.filter h.jobParked).length 15 * 2 ^ 21 + chunks * 2 ^ 16

/-- Put a value into a field of a word, if the word at `o` holds it. -/
def putIn (o : Nat) (f : Fld) (v : Nat) (w : Word64) : Word64 := if f.word = o then f.into v w else w

/-- The aligned word at `o` as it reads: the majority of its copies, and the live views (R193, R303, R548). -/
def Hw.live (h : Hw) (o : Nat) : Word64 :=
  let w := h.word o
  if o < 0x400000 then
    (if o = 8 then BitVec.ofNat 64 (h.blockEn + h.dom * 2 ^ 32)
     else if o = 0x10 then BitVec.ofNat 64 (h.gblErr + h.cfgWeMap * 2 ^ 32) else w)
  else if o < 0x440000 then
    (let a := (o - 0x401000) / 0x100
     if 0x401000 ≤ o && a < 192 then putIn o (F.TAGS_HELD a) (h.tagsHeld a) (putIn o (F.DRAIN_BYTES a) (h.drainUsed a) w) else w)
  else if o < 0x500000 then
    (if o = 0x480000 then putIn o F.CTX_ACTIVE h.shut.ctxs.length w
     else if 0x481000 ≤ o && o < 0x482000 then (let q := (o - 0x481000) / 0x40; putIn o (F.Q_CTX_CNT q) (h.qCtxs q) w)
     else if 0x484000 ≤ o && o < 0x488000 then
       (let c := (o - 0x484000) / 0x20
        if (h.ctx? c).isSome then BitVec.ofNat 64 (fieldLE (h.ctxBlock c) (o % 0x20) 8) ||| (if o % 0x20 = 0x10 then w &&& 3 else 0) else w)
     else w)
  else if o < 0x580000 then
    (let p := (o - 0x541000) / 0x100
     if 0x541000 ≤ o && p < 4 then putIn o (F.SPAD_STAGE_USED p) (h.stageUsed p) (putIn o (F.SPAD_FREE p) (h.freeIn 0 p) w) else w)
  else if o = 0x580138 then putIn o F.PENDING_NOW ((List.filter (fun (x : Nat × Obj) => x.2.st == .pending) h.tailor.objs).length) w
  else if 0x5C1000 ≤ o && o < 0x5D1000 then
    (let s := (o - 0x5C1000) / 0x1000
     let c := (o % 0x1000 - 0x800) / 0x40
     if o % 0x1000 < 0x800 then putIn o (F.DARN_USED s) (h.darnOf s).length (putIn o (F.TAGS_USED s) (h.stkTags s) w)
     else putIn o (F.CH_TAGS s c) (h.chTags s c) w)
  else if o = 0x600000 then putIn o F.FLT_OPEN h.xl.faults.length w
  else if 0x601000 ≤ o && o < 0x601400 then (let p := (o - 0x601000) / 0x100; putIn o (F.WIN_USED p) (h.winsUsed p) w)
  else if 0x602000 ≤ o && o < 0x604000 then
    (let d := (o - 0x602000) / 0x100
     let k := o % 0x100
     if k = 0 then BitVec.ofNat 64 (h.dmaWord d)
     else if 0x20 ≤ k && k < 0xA0 then BitVec.ofNat 64 (h.dmaJob d ((k - 0x20) / 0x20) (k % 0x20 / 8)) else w)
  else if 0x780000 ≤ o && o < 0x781000 then BitVec.ofNat 64 (fieldLE ((h.chan ((o - 0x780000) / 0x100)).buf) (o % 0x100) 8)
  else if o = 0x782000 then putIn o F.RING_FULL h.ringFull.toNat w
  else if o = 0x7C0000 then putIn o F.SEC_SESSIONS (h.sec.sessions.filter (·.est)).length w
  else w

/-- Whether the 8-byte register at `b` is a 64-bit counter (R539). -/
def isCounter (b : Nat) : Bool :=
  let k := b % 0x100
  let within (lo hi : Nat) : Bool := decide (lo ≤ b) && decide (b < hi)
  b = 0x28 || b = 0x48 || b = 0x480018 || b = 0x680040 || b = 0x782010 || b = 0x782018 ||
  (within 0x401000 0x40D000 && k ≤ 0x28) || (within 0x441000 0x445000 && k ≤ 0x30) ||
  (within 0x481000 0x482000 && b % 0x40 = 0x30) || (within 0x490000 0x499200 && b % 0x80 ≤ 0x40) ||
  (within 0x541000 0x541400 && k ≤ 0x28 && k ≠ 0x18) || within 0x580100 0x580138 ||
  (within 0x5C1000 0x5D1000 && (if b % 0x1000 < 0x800 then 0x20 ≤ b % 0x1000 && b % 0x1000 ≤ 0x58 && b % 0x1000 ≠ 0x38 else 8 ≤ b % 0x40 && b % 0x40 ≤ 0x28)) ||
  within 0x600100 0x600138 || (within 0x601000 0x601400 && k ≤ 0x28) || (within 0x602000 0x604000 && 0xA0 ≤ k && k ≤ 0xB8) ||
  (within 0x641000 0x649000 && (if b % 0x1000 < 0x100 then 8 ≤ b % 0x1000 && b % 0x1000 ≤ 0x28
    else 0x400 ≤ b % 0x1000 && b % 0x1000 < 0x800 && 0x28 ≤ b % 0x80 && b % 0x80 ≤ 0x70)) ||
  (within 0x681000 0x682000 && 0x20 ≤ b % 0x40) || (within 0x683000 0x683400 && k ≤ 0x20) || within 0x700100 0x700128 || within 0x740200 0x740240 ||
  within 0x800040 0x800078 || within 0x800300 0x800340 || within 0x840010 0x840040

/-! ### Finding registers -/

/-- The BAR0 offset a path's offset stands for: BAR4 holds doorbells only (R187, R213, R535). -/
def mapOff (path : Path) (o : Nat) : Option Nat :=
  match path with
  | .bar4 => if o < 0x40000 && (o % 0x1000 = 0 || o % 0x1000 = 4) then some (0x500000 + o) else if o = 0x40000 then some 0x580020 else none
  | _ => some o

/-- The register that holds the 4 bytes at a path's offset, if it is implemented there (R426, R546): its row and first byte. -/
def findOn (path : Path) (o : Nat) : Option (RegRow × Nat) :=
  (mapOff path o).bind (fun o =>
    let c := if o < 0x781000 then (o - 0x780000) / 0x100 else (o - 0x781000) / 0x10
    if 0x780000 ≤ o && o < 0x781100 && !chanReach path c then none else findReg o)

/-- A register's part in an access: row, first byte, mask of its bits, and the shift from its bits to those of the access. -/
structure Piece where
  row : RegRow
  base : Nat
  mask : Nat
  lo : Nat
  at_ : Nat
  deriving DecidableEq, Repr

/-- The registers an aligned access reaches (R538). -/
def piecesOf (path : Path) (o size : Nat) : Option (List Piece) :=
  match findOn path o with
  | none => none
  | some (r, b) =>
    if size = 8 then
      if r.w = 8 then some [⟨r, b, 2 ^ 64 - 1, 0, 0⟩]
      else (findOn path (o + 4)).map (fun x => [⟨r, b, 2 ^ 32 - 1, 0, 0⟩, ⟨x.1, x.2, 2 ^ 32 - 1, 0, 32⟩])
    else if r.w = 8 && b % 8 ≠ ((mapOff path o).getD 0) % 8 then some [⟨r, b, (2 ^ 32 - 1) * 2 ^ 32, 32, 0⟩]
    else some [⟨r, b, 2 ^ 32 - 1, 0, 0⟩]

/-- A register's bits from its word. -/
def regOf (r : RegRow) (b : Nat) (w : Word64) : Nat := if r.w = 8 then w.toNat else w.toNat / 2 ^ (b % 8 * 8) % 2 ^ 32

/-- A bus error (R546, R548). -/
def Hw.busErr (h : Hw) (path : Path) (off size : Nat) (write : Bool) (reason : Nat) : Hw :=
  let h := h.inc F.BUSERR_CNT
  let h := if path.host && !write then h.inc F.PCIE_CA_SENT else h
  if h.flag F.BUSERR_VALID then h
  else
    let h := (((h.set F.BUSERR_VALID 1).set F.BUSERR_SOURCE path.code).set F.BUSERR_WRITE write.toNat).set F.BUSERR_REASON reason
    (h.set F.BUSERR_SIZE (min size 15)).set F.BUSERR_ADDR off

/-- Take the latch of a path: any access on it discards it (R539). -/
def Hw.takeLatch (h : Hw) (path : Path) : Hw × Option Latch :=
  ({ h with latch := h.latch.filter (fun x => x.path != path) }, h.latch.find? (fun x => x.path == path))

/-! ### Reads -/

/-- Read the pieces of an access; a voted field is checked as it is read (R545), the low half of a counter latches the upper (R539). -/
def Hw.readPieces (h : Hw) (path : Path) (size : Nat) (l : Option Latch) : List Piece → Hw × Nat
  | [] => (h, 0)
  | p :: ps =>
    let h := ((votedFields (p.base / 8 * 8)).filter (fun f => f.off == p.base)).foldl Hw.voteFix h
    let v := regOf p.row p.base (h.live (p.base / 8 * 8))
    let half := size = 4 && p.row.w = 8
    let v := match l with
      | some x => if half && p.lo = 32 && x.off = p.base then x.hi * 2 ^ 32 else v
      | none => v
    let h := if half && p.lo = 0 && isCounter p.base then { h with latch := ⟨path, p.base, v / 2 ^ 32⟩ :: h.latch } else h
    let x := h.readPieces path size l ps
    (x.1, v / 2 ^ p.lo % 2 ^ (if half then 32 else 8 * p.row.w) * 2 ^ p.at_ + x.2)

/-- Read a register (R537 to R539, R546): the value, or none for a bus error. -/
def Hw.regRead (h : Hw) (path : Path) (off size : Nat) : Hw × Option Nat :=
  let (h, l) := h.takeLatch path
  if !((size = 4 || size = 8) && off % size = 0) then (h.busErr path off size false 2, none)
  else
    match piecesOf path off size with
    | none => (h.busErr path off size false 1, none)
    | some ps => let x := h.readPieces path size l ps; (x.1, some x.2)

/-! ### Writes -/

/-- The ENABLE that owns a register's configuration fields reads 1 (R541). -/
def Hw.ownerOn (h : Hw) (own b : Nat) : Bool :=
  if own ≤ 10 then h.flag (enableOf own) else own = 11 && h.flag (F.Q_ENABLE ((b - 0x481000) / 0x40))

/-- Bits that an action of their own writes: ENABLE, LINK_EN, the words of R188 and the message buffers. -/
def ownBits (r : RegRow) (b : Nat) : Nat :=
  if r.own = 11 && b % 0x40 = 0 then 0xFFFFFFFF
  else if (List.range 11).any (fun k => (enableOf k).off = b) || (0x641000 ≤ b && b < 0x649000 && b % 0x80 = 0) then 0x80000000
  else 0

/-- A refused configuration write is recorded (R542). -/
def Hw.weRecord (h : Hw) (own b : Nat) : Hw := (h.set ⟨weOff own b, 31, 31⟩ 1).inc ⟨weOff own b, 15, 0⟩

/-- An MSI-X vector that is unmasked sends its pending message (R525). -/
def Hw.msixUnmask (h : Hw) (v : Nat) : Hw :=
  if !h.flag (F.MSIX_MASK v) && h.flag (F.MSIX_PBA v) && h.get F.DSTATE ≠ 3 then (h.set (F.MSIX_PBA v) 0).msix v else h

/-- A new head of the host event ring (R461). -/
def Hw.evtHead (h : Hw) (v : Nat) : Hw :=
  let h := h.set F.EVT_HEAD_DB_REG v
  if !h.flag F.RING_EN then h else if 2 ^ h.get F.RING_LOG2 ≤ v % 65536 then h.set F.EVT_LOST 1 else h.set F.EVT_HEAD (v % 65536)

/-- A write of a link's command word (R334). -/
def Hw.linkCmd (h : Hw) (l v : Nat) : Hw :=
  let port := bitsOf v 27 24
  let w := bitsOf v 23 22
  match bitsOf v 31 28 with
  | 1 => Hw.opRethread l port h
  | 2 => Hw.opRetrain l h
  | 3 => Hw.opDropLane l w h
  | 4 => Hw.opRestoreLane l w h
  | 5 => Hw.opSpareLane l w h
  | _ => h.set (F.LNK_CMD_ERR l) 1

/-- A stage becomes enabled: Q_ERR 4 of its queues clears (R179). -/
def Hw.stageOn (h : Hw) (v : Nat) : Hw :=
  (List.range 64).foldl (fun h q => if h.flag (F.Q_VS_EN q) && h.get (F.Q_QCLASS q) = v && h.get (F.Q_ERR q) = 4 then h.set (F.Q_ERR q) 0 else h) h

/-- STK_MAPOUT was written directly (R264): the decode of a trained stack changes and no data moves with it, so that what its addresses now
read is open (R26; log entry 130). -/
def Hw.mapoutWritten (h : Hw) (s old : Nat) : Hw :=
  let new := h.get (F.STK_MAPOUT s)
  if new = old || !(2 ≤ h.get (F.STK_STATE s) && h.get (F.STK_STATE s) ≤ 4) then h else (h.setMapout s new).loseStack s

/-- What a write of the bits `m` of the register at `b` starts, besides storing its fields; `was` is whether its owner was enabled, `old` its
value before. -/
def Hw.regAct (h : Hw) (path : Path) (r : RegRow) (b m v old : Nat) (was : Bool) : Hw :=
  let en := (List.range 11).find? (fun k => (enableOf k).off = b)
  match en with
  | some k =>
    let h := if b = 0x540000 && h.get F.SCRUB_PERIOD ≠ bitsOf old 15 4 then { h with spad := { h.spad with scrub := [0, 0, 0, 0] } } else h
    let h := if k = 7 && !was && bitOf v 3 then ((h.set F.WATCH_RELAX_CNT 0).set F.RELAX_EPOCH 0).set F.STARVE_N_MAX 0x20 else h
    h.blockSet k (bitOf v 31)
  | none =>
    if 0x480100 ≤ b && b < 0x480120 then (if !was && bitOf v 31 && !bitOf old 31 then h.stageOn ((b - 0x480100) / 4) else h)
    else if r.own = 11 then
      (if b % 0x40 ≠ 0 then h
       else if bitOf v 31 then effQueueEnable ((b - 0x481000) / 0x40) v h else effQueueDisable ((b - 0x481000) / 0x40) v h)
    else if 0x484000 ≤ b && b < 0x488000 then
      (let c := (b - 0x484000) / 0x20
       match v % 4 with
       | 1 => effCtxPreempt c h
       | 2 => effCtxResume c h
       | 3 => effCtxCancel c h
       | _ => h)
    else if 0x500000 ≤ b && b < 0x540000 then
      (let q := (b - 0x500000) / 0x1000
       if b % 8 = 0 then effSqTailDb q v h else effCqHeadDb q v h)
    else if b = 0x580020 then effTreqTailDb v h
    else if 0x5C1000 ≤ b && b < 0x5D1000 && b % 0x1000 = 4 then h.mapoutWritten ((b - 0x5C1000) / 0x1000) old
    else if b = 0x60002C then effFltHeadDb v h
    else if b = 0x600030 then
      (match bitsOf v 31 30 with
       | 1 => effFltRespRetry (v % 65536) h
       | 2 => effFltRespCancel (v % 65536) h
       | _ => h.respResult (v % 65536) 3)
    else if b = 0x600038 then (if bitOf m 63 then h.xlateInval else h)
    else if 0x641000 ≤ b && b < 0x649000 then
      (let l := (b - 0x641000) / 0x1000 * 8 + (b % 0x1000 - 0x400) / 0x80
       if b % 0x80 = 0 then effLinkEnWrite l (bitOf v 31) h else if b % 0x80 = 4 then h.linkCmd l v else h)
    else if b = 0x700038 then { h with train := { h.train with curLog := h.train.curLog ++ [old] } }
    else if 0x780000 ≤ b && b < 0x781000 then h.mbWrite ((b - 0x780000) / 0x100) (b % 0x100) (natLE 4 v) path.host
    else if 0x781000 ≤ b && b < 0x781100 && b % 0x10 = 0 then h.mbDoorbell ((b - 0x781000) / 0x10) (bitsOf v 31 30) path.host
    else if b = 0x78200C then h.evtHead v
    else if 0x3F0000C ≤ b && b < 0x3F00440 && b % 0x10 = 0xC then h.msixUnmask ((b - 0x3F00000) / 0x10)
    else h

/-- Write the bits `m` of a register (R15, R541 to R543). A Lining that is lent keeps LINING_FRAC (R419). -/
def Hw.writeReg (h : Hw) (path : Path) (r : RegRow) (b m v : Nat) : Hw :=
  let sh := if r.w = 8 then 0 else b % 8 * 8
  let o := b / 8 * 8
  let old := regOf r b (h.word o)
  let new := old ^^^ ((old ^^^ v) &&& m)
  let was := h.ownerOn r.own b
  let skip := ownBits r b
  let h := if was && (old ^^^ new) &&& r.cfg &&& m &&& (2 ^ 64 - 1 ^^^ skip) ≠ 0 then h.weRecord r.own b else h
  let lent := if b = 0x740000 && h.flag F.GUEST_VALID then 0x30000000 else 0
  let keep := skip ||| (if was then r.cfg else rangeBad b new ||| lent)
  let st := (r.rw ||| r.rt) &&& m &&& (2 ^ 64 - 1 ^^^ keep)
  let h := h.putBits o (BitVec.ofNat 64 (st * 2 ^ sh)) (BitVec.ofNat 64 (new * 2 ^ sh))
  let h := if r.w1c = 0 then h else h.putBits o (BitVec.ofNat 64 ((r.w1c &&& m &&& v) * 2 ^ sh)) 0
  h.regAct path r b m v old was

/-- Write a register (R536, R538, R546); false for a bus error. -/
def Hw.regWrite (h : Hw) (path : Path) (off size v : Nat) : Hw × Bool :=
  let (h, _) := h.takeLatch path
  if !((size = 4 || size = 8) && off % size = 0) then (h.busErr path off size true 2, false)
  else
    match piecesOf path off size with
    | none => (h.busErr path off size true 1, false)
    | some ps => (ps.foldl (fun h p =>
        let n := if p.row.w = 8 && size = 8 then 64 else 32
        h.writeReg path p.row p.base p.mask (v / 2 ^ p.at_ % 2 ^ n * 2 ^ p.lo)) h, true)

/-! ### The paths (R431, R519, R526, R535, R540) -/

/-- What answers an access before its register is reached. -/
inductive Gate where
  | open_ | silent | abort | unsupported | buffer (c : Nat) | held
  deriving DecidableEq, Repr

/-- Whether the registers of a channel, or MB_DROP_CNT, lie at an offset: they answer while YOKE is off (R40, R429). -/
def aonOff (path : Path) (off : Nat) : Bool := path == .bar0 && ((0x781000 ≤ off && off < 0x781100) || (0x782018 ≤ off && off < 0x782020))

/-- The Link IDE stream is Insecure after a failure: its TLPs are dropped (R527). -/
def Hw.ideBlocked (h : Hw) : Bool :=
  match h.pcie.ide.find? 0 with
  | some k => !k.secure
  | none => false

/-- Where an access on a path ends. -/
def Hw.gate (h : Hw) (path : Path) (off size : Nat) (read : Bool) : Gate :=
  if !h.domOn domAON || (path.host && (h.solo || h.ideBlocked)) then .silent
  else if path.host && h.domOn domYOKE && (h.get F.DSTATE = 3 || !h.flag (F.RX_POWERED 4)) then .unsupported
  else if !h.domOn domYOKE || (path.host && h.mb.hostOff) then
    (if aonOff path off then .open_
     else if path == .bar0 && 0x780400 ≤ off && off < 0x780C00 then .buffer ((off - 0x780000) / 0x100)
     else .abort)
  else if path ≠ .diag && (h.pathHeld path || (!read && h.invalRuns && (off = 0x600038 && size = 8 || off = 0x60003C && size = 4))) then .held
  else .open_

/-- Answer a read of the host or of a Thimble core. -/
def Hw.readGo (h : Hw) (path : Path) (off size : Nat) : Hw :=
  match h.regRead path off size with
  | (h, some v) => h.send (.readData path (natLE size v))
  | (h, none) => h.send (.abort path)

/-- Perform a write; on the internal path a bus error is answered (R546). -/
def Hw.writeGo (h : Hw) (path : Path) (off size v : Nat) : Hw :=
  match h.regWrite path off size v with
  | (h, true) => h
  | (h, false) => if path == .internal then h.send (.abort path) else h

/-- What a device physical address decodes to (R38). -/
inductive PaTarget where
  | hbm | spad
  /-- Offset in the Thimble SRAM. -/
  | sram (off : Nat)
  /-- Offset in the register block, laid out as BAR0. -/
  | regs (off : Nat)
  | unmapped
  deriving DecidableEq, Repr

/-- The decode of device physical addresses (R38). -/
def decodePa (pa : Nat) : PaTarget :=
  if pa < 0x10000000000 then .hbm
  else if pa < 0x10100000000 then .spad
  else if 0x11000000000 ≤ pa && pa < 0x11000400000 then .sram (pa - 0x11000000000)
  else if 0x12000000000 ≤ pa && pa < 0x12004000000 then .regs (pa - 0x12000000000)
  else .unmapped

/-- A register access on a path of BAR0's layout (R535). -/
def Hw.regAccess (h : Hw) (path : Path) (off size v : Nat) (read : Bool) : Hw :=
  let h := if path.host then h.l1Exit else h
  match h.gate path off size read with
  | .silent => h
  | .unsupported => h.send (.unsupported path)
  | .abort => if read || path == .internal then h.send (.abort path) else h
  | .buffer c => if read then h.send (.abort path) else (List.range (size / 4)).foldl (fun h i => h.mbWrite c (off % 0x100 + 4 * i) (natLE 4 (v / 2 ^ (32 * i))) true) h
  | .held => h.hold path off size v read
  | .open_ => if read then h.readGo path off size else h.writeGo path off size v

/-- An access of a Thimble core to local memory: the data of a poisoned word are open, an unmapped address is a bus error (R38, R246). One that a
window or a die-to-die link holds waits with its core. -/
def Hw.coreLocal (h : Hw) (pa size v : Nat) (read : Bool) : Hw :=
  if !h.localMapped pa size then (h.busErr .internal pa size (!read) 1).send (.abort .internal)
  else if h.localWaits 4 (if read then .read else .write) pa size then h
  else if !read then h.poke pa (natLE size v)
  else
    let (h, bs, p) := h.readLocal pa size
    h.send (.readData .internal (h.fuzz p 9300 bs))

/-- An access of a Thimble core on the internal path: an offset in the register block, or a device physical address above the 64 MiB of that
block (R38, R535; log entry 154). -/
def Hw.coreAccess (h : Hw) (a size v : Nat) (read : Bool) : Hw :=
  if a < 0x4000000 then h.regAccess .internal a size v read
  else if !h.domOn domYOKE then h.send (.abort .internal)
  else
    match decodePa a with
    | .hbm | .spad => h.coreLocal a size v read
    | .sram o => if read then h.send (.readData .internal (Mem.read h.sramBlank h.sram o size)) else { h with sram := Mem.write h.sramBlank h.sram o (natLE size v) }
    | .regs o => h.regAccess .internal o size v read
    | .unmapped => (h.busErr .internal a size (!read) 1).send (.abort .internal)

/-- The 4 bytes of PCI configuration space at an offset: identity, class code with the Revision ID, subsystem (R2, R522); every other word is
open (log entry 155). -/
def Hw.cfgWord (h : Hw) (off : Nat) : Nat :=
  match off with
  | 0x00 => 0x74801F5C
  | 0x08 => 0x12000000 + (if Config.isB0 then 0xB0 else 0xA0)
  | 0x2C => 0x00011F5C
  | _ => h.free (9400 + off) % 2 ^ 32

/-- A PCI configuration request (R519): retried until the boot ROM is done, answered in D3hot too. In Solo profile nothing is presented upstream
(R2, R6). What a write of configuration space does is the commands of chapter 16; it stores nothing here. -/
def Hw.cfgAccess (h : Hw) (off size : Nat) (read : Bool) : Hw :=
  if !h.domOn domYOKE || h.solo || h.mb.hostOff && h.flag (F.RX_POWERED 4) || size ≠ 4 || 4096 ≤ off then h
  else
    let h := h.l1Exit
    if !h.flag (F.RX_POWERED 4) then h.send (.retry .cfg)
    else if read then h.send (.readData .cfg (natLE 4 (h.cfgWord (off / 4 * 4))))
    else h

/-- An access on a path (R535). -/
def Hw.access (h : Hw) (path : Path) (off size v : Nat) (read : Bool) : Hw :=
  match path with
  | .internal => h.coreAccess off size v read
  | .cfg => h.cfgAccess off size read
  | _ => h.regAccess path off size v read

/-- REGISTER_READ (R536 to R539, R546). -/
def effRegisterRead (path : Path) (off size : Nat) (h : Hw) : Hw := h.access path off size 0 true

def execRegisterRead (path : Path) (off size : Nat) (s : State) : Host.Outcome State Fault Refusal := s.run (effRegisterRead path off size)

/-- COUNTER_LOW_HALF_READ (R539): a 4-byte read of a counter's low half. -/
def effCounterLowHalfRead (path : Path) (off : Nat) (h : Hw) : Hw := if isCounter off then h.access path off 4 0 true else h

def execCounterLowHalfRead (path : Path) (off : Nat) (s : State) : Host.Outcome State Fault Refusal := s.run (effCounterLowHalfRead path off)

/-- EVT_HEAD_DB (R461). -/
def effEvtHeadDb (v : Nat) (h : Hw) : Hw := if h.domOn domYOKE then h.evtHead v else h

end Sys2Proof.Machine
end

