-- ==== Sys2Proof/Machine/Roino.lean ====
section
/-!
DEFINITION. Machine/Roino.lean: payload layouts, return codes and operations of Roino commands (R427, R428, R433, R439).
-/

namespace Sys2Proof.Machine

def rcOK : Nat := 0
def rcBADOP : Nat := 1
def rcLENGTH : Nat := 2
def rcPARAM : Nat := 3
def rcDENIED : Nat := 4
def rcSTATE : Nat := 5
def rcBUSY : Nat := 6
def rcNOTFOUND : Nat := 7
def rcCONFLICT : Nat := 8
def rcNORESOURCE : Nat := 9
def rcPROFILE : Nat := 10
def rcAUTH : Nat := 11
def rcROLLBACK : Nat := 12
def rcLIMIT : Nat := 13
def rcPLAN : Nat := 14
def rcRECOVERY : Nat := 15

/-- The fields of a payload in order: size of an element, number of elements (R428). -/
abbrev Lay := List (Nat × Nat)

/-- Offset and bytes of each field: each at the next multiple of its element's size (R428). -/
def layOffs : Lay → Nat → List (Nat × Nat)
  | [], _ => []
  | (s, n) :: r, pos => let o := alignUp pos s; (o, s * n) :: layOffs r (o + s * n)

/-- The packed size of a layout. -/
def laySize (l : Lay) : Nat := ((layOffs l 0).getLast?.map (fun x => x.1 + x.2)).getD 0

/-- The values of the fields; an array is one little-endian number. -/
def layArgs (l : Lay) (p : Bytes) : List Nat := (layOffs l 0).map (fun x => fieldLE p x.1 x.2)

/-- The bytes of a payload with every gap 0. -/
def layPack (l : Lay) (p : Bytes) : Bytes :=
  (layOffs l 0).foldl (fun acc x => acc ++ List.replicate (x.1 - acc.length) 0 ++ natLE x.2 (fieldLE p x.1 x.2)) []

/-- What a command does: the hardware after it, and its response, or none while it is to be acknowledged later. -/
abbrev Done := Hw × Option Resp

/-- ST_OK without a payload. -/
def Hw.ok (h : Hw) : Done := (h, some ⟨rcOK, [], 0⟩)

/-- ST_OK with a payload. -/
def Hw.okWith (h : Hw) (l : List Arg) : Done := (h, some ⟨rcOK, pack l [], 0⟩)

/-- Accepted, with an operation (R433). -/
def Hw.okOp (h : Hw) (op : Nat) : Done := (h, some ⟨rcOK, [], op⟩)

/-- Nothing was done, for a reason. -/
def Hw.no (h : Hw) (rc : Nat) : Done := (h, some ⟨rc, [], 0⟩)

/-- Take the next OP_ID (R433): a counter of 32 bits that starts at 1 and skips 0. -/
def Hw.newOp (h : Hw) : Hw × Nat :=
  let op := h.mb.nextOp
  ({ h with mb := { h.mb with nextOp := if op + 1 = 2 ^ 32 then 1 else op + 1 } }, op)

/-- The first code of a list of conditions that applies, or none. -/
def firstCode : List (Bool × Nat) → Option Nat
  | [] => none
  | (b, c) :: r => if b then some c else firstCode r

/-- Answer the first code that applies, or else carry on. -/
def Hw.checked (h : Hw) (l : List (Bool × Nat)) (k : Hw → Done) : Done :=
  match firstCode l with
  | some c => h.no c
  | none => k h

/-- A command: where it is permitted (secure, host, internal channels 14 and 15 to Thimble, channels 12 and 13 to Sage; R440), its layout, the
field that counts the bytes of a trailing array, and what it does with the sender's channel, the fields and that array. -/
structure Cmd where
  s : Bool
  h : Bool
  i : Bool
  g : Bool
  lay : Lay
  var : Option Nat
  run : Hw → Nat → List Nat → Bytes → Done

/-- Element i of an array of w-byte elements. -/
def elemLE (w i x : Nat) : Nat := x / 2 ^ (8 * w * i) % 2 ^ (8 * w)

/-- A signed byte. -/
def s8 (x : Nat) : Int := untwos 8 x

end Sys2Proof.Machine
end

