-- ==== Sys2Proof/Machine/GrpDev.lean ====
section
/-!
DEFINITION. Machine/GrpDev.lean: the DEVICE, POWER, QUEUE, DIAG, EVENT and SAGE groups (R441, R444, R451, R455 to R457, R556, R564).
-/

namespace Sys2Proof.Machine

/-! ### DEVICE -/

/-- VERSION of the running component of a TYPE. -/
def Hw.compVer (h : Hw) (t : Nat) : Nat := ((h.sec.comps.find? (fun c => c.typ = t)).map (·.ver)).getD 0

/-- CHIP as responses give it: 0xFFFF before a coordinate (R336). -/
def Hw.chipOr (h : Hw) : Nat := if h.flag F.TOPO_VALID then h.myChip else 0xFFFF

/-- DEV_IDENTIFY. -/
def cmdDevIdentify (h : Hw) (_ : Nat) (_ : List Nat) (_ : Bytes) : Done :=
  h.okWith ([u16 0x1F5C, u16 0x7480, u8 (h.get F.GBL_STEPPING), u8 (h.get F.GBL_PROFILE), u8 h.sec.bootSlot, u8 (h.get F.ROINO_VER),
    u32 (h.compVer 1), u32 (h.compVer 2), u32 (h.compVer 3), u32 (h.compVer 4), u16 h.chipOr,
    u16 (h.get F.YELYEL_VER_major * 256 + h.get F.YELYEL_VER_minor)] ++ (h.regBytes regIdHash 32).map (fun b => u8 b.toNat))

/-- DEV_STATUS. -/
def cmdDevStatus (h : Hw) (_ : Nat) (_ : List Nat) (_ : Bytes) : Done :=
  h.okWith [u32 h.dom, u32 h.blockEn, u8 (h.get F.TOPO_STATE), u8 (h.get F.BAST_STATE), u16 h.shut.ctxs.length, u32 (h.get F.EVT_SEQ)]

/-- DEV_WRITE_IN (R442): a write at offset 0 starts the area anew. -/
def cmdDevWriteIn (h : Hw) (ch : Nat) (a : List Nat) (d : Bytes) : Done :=
  match a with
  | [off, n, z] => h.checked [(n = 0 || 232 < n || z ≠ 0 || 32768 < off + n, rcPARAM)] (fun h =>
      (h.updChan ch (fun k => { k with inp := if off = 0 then d else padTo off k.inp ++ d ++ k.inp.drop (off + n) })).ok)
  | _ => h.no rcPARAM

/-- DEV_READ_OUT (R442). -/
def cmdDevReadOut (h : Hw) (ch : Nat) (a : List Nat) (_ : Bytes) : Done :=
  let b := (h.chan ch).outp
  let off := a.getD 0 0
  if b.isEmpty then h.no rcNOTFOUND
  else if b.length < off then h.no rcPARAM
  else
    let d := (b.drop off).take 232
    (h, some ⟨rcOK, pack [u32 b.length, u16 d.length, u16 0] [] ++ d, 0⟩)

/-! ### POWER -/

/-- The dividers of the ladder (R494). -/
def rungDivs : List Nat := [4, 5, 6, 8, 16]

/-- Watts of a power in microwatts; the manual states no rounding. -/
def Hw.watts (h : Hw) (x site : Nat) : Nat := x / 1000000 + (if x % 1000000 = 0 then 0 else h.free site % 2)

/-- PWR_STATUS. -/
def cmdPwrStatus (h : Hw) (_ : Nat) (_ : List Nat) (_ : Bytes) : Done :=
  h.okWith [u32 (h.get F.VIN_MV), u32 (h.get F.IIN_MA), u32 (h.watts (h.get F.VIN_MV * h.get F.IIN_MA) 0x300), u16 (h.get F.TJ_MAX),
    u8 (h.get F.ARRAY_DIV), u8 (h.get F.VEC_DIV), u8 (h.get F.SAGE_CAUSE), u8 (h.get F.VIN_WARN)]

/-- PWR_CLOCK_CAP: Sage applies the cap from its next sample (R499). -/
def cmdPwrClockCap (h : Hw) (_ : Nat) (a : List Nat) (_ : Bytes) : Done :=
  let v := a.getD 0 0
  h.checked [(!rungDivs.contains v, rcPARAM)] (fun h => (h.set F.CAP_DIV v).ok)

/-- An asynchronous operation runs (R437, R444). -/
def Hw.asyncRuns (h : Hw) : Bool :=
  h.mb.quiesce.isSome || h.bast.restore.isSome || !h.hbm.mapout.isEmpty || !h.hbm.scans.isEmpty ||
  List.any h.hbm.trig (fun e => e.2.1 ≠ 0) || List.any h.hbm.wins (fun e => e.2.op ≠ 0)

/-- PWR_STANDBY: the domains power off once every busy channel has been acknowledged (R437). -/
def cmdPwrStandby (h : Hw) (_ : Nat) (_ : List Nat) (_ : Bytes) : Done :=
  h.checked [(!h.shut.ctxs.isEmpty || h.asyncRuns, rcSTATE)] (fun h => ({ h with mb := { h.mb with standby := true, hostOff := true } } : Hw).ok)

/-- PWR_DOMAIN (R41): an Eyelet or a stack powers on only while its Panel is on. -/
def cmdPwrDomain (h : Hw) (_ : Nat) (a : List Nat) (_ : Bytes) : Done :=
  let d := a.getD 0 0
  let on := a.getD 1 0
  let eye := d < 14
  let panel := if eye then (d - 6) / 2 else (d - 14) / 4
  h.checked [(d < 6 || 29 < d || 1 < on, rcPARAM),
    (on = 1 && !h.domOn (domPANEL panel), rcSTATE),
    (on = 0 && eye && (List.range 8).any (fun k => h.lkState (8 * (d - 6) + k) ≠ lsOFF), rcSTATE),
    (on = 0 && !eye && h.get (F.STK_STATE (d - 14)) ≠ 4, rcSTATE)] (fun h =>
      if h.domOn d = (on = 1) then h.ok
      else if eye then (if on = 1 then h.eyeletUp (d - 6) else h.eyeletOff (d - 6)).ok
      else (if on = 1 then h.stackUp (d - 14) [] else h.stackOff (d - 14)).ok)

/-! ### QUEUE -/

/-- Q_CTX_CTL (R564). -/
def cmdQCtxCtl (h : Hw) (_ : Nat) (a : List Nat) (_ : Bytes) : Done :=
  let c := a.getD 0 0
  let act := a.getD 1 0
  h.checked [(512 ≤ c || act = 0 || 3 < act, rcPARAM), (h.ctxState c = 0, rcSTATE), (act = 2 && h.ctxState c ≠ 5, rcSTATE),
    (act = 1 && h.get F.CSA_BASE = 0, rcSTATE)] (fun h =>
      let h := if act = 1 then h.preempt c else if act = 2 then h.resume c else h.cancelCtx c
      h.okWith [u8 (h.ctxState c)])

/-- The contexts of a queue that satisfy p, in order. -/
def Hw.ctxsOf (h : Hw) (q : Nat) (p : Ctx → Bool) : List Nat :=
  List.map Prod.fst (List.filter (fun (e : Nat × Ctx) => e.2.queue = q && p e.2) h.shut.ctxs)

/-- CANCEL applies to a context that is not ending already. -/
def Ctx.cancellable (x : Ctx) : Bool := !(x.st == .stopping || x.st == .recordPending)

/-- Q_QUEUE_CTL (R564). -/
def cmdQQueueCtl (h : Hw) (_ : Nat) (a : List Nat) (_ : Bytes) : Done :=
  let q := a.getD 0 0
  let act := a.getD 1 0
  h.checked [(64 ≤ q || act = 0 || 4 < act, rcPARAM), (act = 2 && h.get F.CSA_BASE = 0, rcSTATE)] (fun h =>
    if act = 1 then (h.queueStop q).okWith [u16 (h.qCtxs q)]
    else
      let l := h.ctxsOf q (fun x => if act = 2 then x.st == .running else if act = 3 then x.st == .preempted && x.io = 0 else x.cancellable)
      (l.foldl (fun h c => if act = 2 then h.preempt c else if act = 3 then h.resume c else h.cancelCtx c) h).okWith [u16 l.length])

/-! ### DIAG -/

/-- DIAG_CHERVIL (R372). -/
def cmdDiagChervil (h : Hw) (_ : Nat) (a : List Nat) (_ : Bytes) : Done :=
  match a with
  | [key, salt, step, mb, layer, stream, elem] => h.checked [(0x7FFFF < stream, rcPARAM)] (fun h =>
      h.okWith [u32 (chervil ⟨elemLE 4 0 key, elemLE 4 1 key, elemLE 4 2 key, elemLE 4 3 key, salt, step, mb, layer, stream⟩ elem)])
  | _ => h.no rcPARAM

/-- DIAG_REG_READ (R535, R546). -/
def cmdDiagRegRead (h : Hw) (_ : Nat) (a : List Nat) (_ : Bytes) : Done :=
  let w := a.getD 1 0
  h.checked [(w ≠ 4 && w ≠ 8, rcPARAM)] (fun h =>
    match h.regRead .diag (a.getD 0 0) w with
    | (h, some v) => h.okWith [u64 v]
    | (h, none) => h.no rcPARAM)

/-- DIAG_REG_WRITE (R437, R535, R546). -/
def cmdDiagRegWrite (h : Hw) (_ : Nat) (a : List Nat) (_ : Bytes) : Done :=
  let w := a.getD 1 0
  let v := a.getD 2 0
  h.checked [(w ≠ 4 && w ≠ 8, rcPARAM), (w = 4 && 2 ^ 32 ≤ v, rcPARAM)] (fun h =>
    match h.regWrite .diag (a.getD 0 0) w v with
    | (h, true) => h.ok
    | (h, false) => h.no rcPARAM)

/-- DIAG_ENGINE_MAP (R194). -/
def cmdDiagEngineMap (h : Hw) (_ : Nat) (a : List Nat) (_ : Bytes) : Done :=
  let e := a.getD 0 0
  h.checked [(292 ≤ e, rcPARAM)] (fun h =>
    h.okWith [u8 (panelOfEngine e), u8 (if e < 192 then 0 else if e < 256 then 1 else if e < 288 then 2 else 3)])

/-- DIAG_LOOPBACK (R455): what link 0 carries in a TEST role; the counts depend on the time and the light. -/
def cmdDiagLoopback (h : Hw) (_ : Nat) (a : List Nat) (_ : Bytes) : Done :=
  let test := match h.topo.plan with
    | some p => ((p.links[h.plinkOf 0]?).map (·.role)).getD 0 == 1
    | none => false
  h.checked [(a.getD 0 0 = 0 || 10000 < a.getD 0 0, rcPARAM), (!(h.lkUp 0 && test), rcSTATE)] (fun h =>
    h.okWith [u64 (h.free 0xB04), u64 (h.free 0xB05)])

/-! ### EVENT -/

/-- EVT_RING (R459, R461): the ring takes the events posted from now on. -/
def cmdEvtRing (h : Hw) (_ : Nat) (a : List Nat) (_ : Bytes) : Done :=
  match a with
  | [base, lg, irq] =>
    let mapped := h.mmuRoot ≠ 0 && (h.xlateRange noCache .write base (32 * 2 ^ lg)).isOk
    h.checked [(lg < 4 || 16 < lg || 1 < irq || 2 ^ 52 ≤ base || (base ≠ 0 && !mapped), rcPARAM)] (fun h =>
      let h := (h.set F.EVT_TAIL 0).set F.EVT_HEAD 0
      let h := { h with evt := { h.evt with ringNext := h.get F.EVT_SEQ } }
      if base = 0 then ((((h.set F.RING_EN 0).set F.RING_LOG2 0).set F.EVR_BASE 0).set F.EVR_IRQ_EN 0).ok
      else ((((h.set F.RING_EN 1).set F.RING_LOG2 lg).set F.EVR_BASE base).set F.EVR_IRQ_EN irq).ok)
  | _ => h.no rcPARAM

/-- Whether SEQ a comes before b, modulo 2^32 (R556). -/
def seqBefore (a b : Nat) : Bool := decide (2 ^ 31 ≤ (a + 2 ^ 32 - b) % 2 ^ 32)

/-- Examine records from a SEQ on (R556): those returned, and the SEQ after the last examined. -/
def evTake (h : Hw) (get : Nat → Bytes) : Nat → Nat → List Bytes → List Bytes × Nat
  | 0, seq, acc => (acc, seq)
  | n + 1, seq, acc =>
    if acc.length = 7 then (acc, seq)
    else
      let b := get seq
      evTake h get n ((seq + 1) % 2 ^ 32) (if h.evFilter 1 (fieldLE b 0 2) (fieldLE b 2 1) then acc ++ [b] else acc)

/-- EVT_READ (R556) from a source: the SEQ of its next record, how many it holds, its records. -/
def evRead (h : Hw) (next held from_ : Nat) (get : Nat → Bytes) : Bytes :=
  if !seqBefore from_ next then pack [u32 from_, u8 0, u8 0, u16 0] []
  else
    let first := (next + 2 ^ 32 - held) % 2 ^ 32
    let lost := seqBefore from_ first
    let start := if lost then first else from_
    let x := evTake h get ((next + 2 ^ 32 - start) % 2 ^ 32) start []
    pack [u32 x.2, u8 x.1.length, u8 lost.toNat, u16 0] [] ++ x.1.flatten

/-- EVT_READ. -/
def cmdEvtRead (h : Hw) (_ : Nat) (a : List Nat) (_ : Bytes) : Done :=
  let src := a.getD 1 0
  h.checked [(1 < src, rcPARAM)] (fun h =>
    let p := if src = 0 then
        evRead h (h.get F.EVT_SEQ) h.evt.log.length (a.getD 0 0) (fun q => ((h.evt.log[(h.get F.EVT_SEQ + 2 ^ 32 - 1 - q) % 2 ^ 32]?).map EvRec.bytes).getD [])
      else evRead h h.evt.norNext (min h.evt.norNext norLogSlots) (a.getD 0 0) (fun q => h.norRead (0x1A000000 + q % norLogSlots * 32) 32)
    (h, some ⟨rcOK, p, 0⟩))

/-- EVT_FILTER (R459). -/
def cmdEvtFilter (h : Hw) (_ : Nat) (a : List Nat) (_ : Bytes) : Done :=
  match a with
  | [sub, sev, mask] => h.checked [(2 < sub || 4 < sev, rcPARAM)] (fun h => ((h.set (F.EVF_MIN_SEV sub) sev).set (F.EVF_CLASS_MASK sub) mask).ok)
  | _ => h.no rcPARAM

/-! ### SAGE -/

/-- A command that came on a secure or host channel is relayed over channel 12 (R457); Thimble chooses the SEQ it uses there. -/
def Hw.relay (h : Hw) (ch : Nat) (rc : Nat) : Hw :=
  if sageChan ch then h
  else (((h.set (F.ACK_SEQ 12) (h.free 0xD00 % 65536)).set (F.MB_RC 12) rc).set (F.MB_ASTATE 12) 2).set (F.MB_CMDS 12) ((h.get (F.MB_CMDS 12) + 1) % 2 ^ 32)

/-- Serve a SAGE command, relayed where it came on another channel. -/
def relayed (f : Hw → Nat → List Nat → Bytes → Done) (h : Hw) (ch : Nat) (a : List Nat) (d : Bytes) : Done :=
  match f h ch a d with
  | (h, some r) => (h.relay ch r.rc, some r)
  | x => x

/-- SAGE_SENSORS. -/
def cmdSageSensors (h : Hw) (_ : Nat) (a : List Nat) (_ : Bytes) : Done :=
  let f := a.getD 0 0
  let n := a.getD 1 0
  h.checked [(63 < f || n = 0 || 64 < n || 64 < f + n, rcPARAM)] (fun h => h.okWith ((List.range n).map (fun i => u16 (h.get (F.SENSOR_TEMP (f + i))))))

/-- SAGE_PINS. -/
def cmdSagePins (h : Hw) (_ : Nat) (_ : List Nat) (_ : Bytes) : Done :=
  h.okWith [u32 (h.get F.PIN_LEVEL), u32 (h.get F.PIN_STUCK_BITS), u32 (h.get F.PIN_CHATTER_BITS)]

/-- The range of a threshold (R507). -/
def threshRange : Nat → Nat × Nat
  | 0 => (850, 1000) | 1 => (900, 1050) | 2 => (700, 990) | 3 => (20, 200) | 4 => (1000, 3600) | 5 => (200, 820)
  | 6 => (5, 16) | 7 => (4, 16) | 8 => (10, 60000) | 9 => (0, 255)
  | _ => (1, 0)

/-- Whether a threshold's value is one its row allows. -/
def threshOk (id v : Nat) : Bool :=
  (threshRange id).1 ≤ v && v ≤ (threshRange id).2 && !((id = 6 || id = 7) && !rungDivs.contains v)

/-- Factory defaults (R507). -/
def threshDefault (id : Nat) : Nat := ([1000, 1050, 950, 80, 3600, 820, 8, 8, 1000, 0] : List Nat).getD id 0

/-- RELEASE_T < THROTTLE_T ≤ TJMAX_T with one threshold replaced. -/
def threshOrder (v : Nat → Nat) (id x : Nat) : Bool :=
  let g := fun i => if i = id then x else v i
  g 2 < g 0 && g 0 ≤ g 1

/-- SAGE_SET_THRESH (R507). -/
def cmdSageSetThresh (h : Hw) (_ : Nat) (a : List Nat) (_ : Bytes) : Done :=
  match a with
  | [id, z, v] => h.checked [(z ≠ 0 || !threshOk id v || !threshOrder (fun i => h.get (F.THRESH_VALUE i)) id v, rcPARAM)]
      (fun h => (h.set (F.THRESH_VALUE id) v).ok)
  | _ => h.no rcPARAM

/-- SAGE_LASER. -/
def cmdSageLaser (h : Hw) (_ : Nat) (a : List Nat) (_ : Bytes) : Done :=
  let e := a.getD 0 0
  h.checked [(7 < e, rcPARAM)] (fun h => h.okWith ((List.range 36).map (fun x => u16 (h.get (F.LAS_FADE e x)))))

end Sys2Proof.Machine
end

