-- ==== Sys2Proof/Machine/GrpJob.lean ====
section
/-!
DEFINITION. Machine/GrpJob.lean: the JOB group, DEV_RESET, quiesce and the reset of the job blocks (R441, R445, R446, R562), NV fields (R16, R476).
-/

namespace Sys2Proof.Machine

/-! ### NV fields -/

/-- The Config keys 0x0100 to 0x010E in order: register, its NV bits, and whether the JOB reset reloads it (R476, R562). -/
def nvKeys : List (Nat × Nat × Bool) := [
  (0x400000, 3, true), (0x440000, 3, true), (0x480000, 1, true), (0x540000, 0xFFFFF8, true), (0x580000, 0xC, true), (0x5C0000, 0x7000FFFF, false),
  (0x5C0008, 0xFFFFFF, false), (0x600000, 0x18, true), (0x600020, 0xFFFF, true), (0x640000, 0x600000FF, false), (0x640008, 0xFFFFFFFF, false),
  (0x680000, 0x4000FFFF, false), (0x68000C, 0xFF00FFFF, false), (0x700000, 7, true), (0x740000, 0x70000001, false)]

/-- Whether the NV fields of a register lie in their ranges (R476). -/
def nvOk (off mask v : Nat) : Bool :=
  rangeBad off (v &&& mask) &&& mask = 0 && !(off = 0x640008 && (v % 65536 = 0 || v / 2 ^ 16 % 256 = 0 || v / 2 ^ 24 % 256 = 0))

/-- Store the NV fields of one key, if the Config image holds a value in range; the others keep the factory default (R16). -/
def Hw.nvLoad (h : Hw) (i : Nat) : Hw :=
  match nvKeys[i]?, h.cfgGet (0x100 + i) with
  | some (off, mask, _), some b =>
    let v := leNat b
    let sh := off % 8 * 8
    if b.length = 4 && nvOk off mask v then h.putBits (off / 8 * 8) (BitVec.ofNat 64 (mask * 2 ^ sh)) (BitVec.ofNat 64 (v * 2 ^ sh)) else h
  | _, _ => h

/-! ### The reset of the job blocks -/

/-- Registers that the JOB reset returns to their reset values (R562 step 3): arrays, vector engines, Shuttle with its doorbells, scratchpad, Tailor,
translation, training support. -/
def jobReg (o : Nat) : Bool := (0x400000 ≤ o && o < 0x5C0000) || (0x600000 ≤ o && o < 0x640000) || (0x700000 ≤ o && o < 0x740000)

/-- The bits of a word that the JOB reset keeps: counters, SHUTTLE_EPOCH, the relaxation registers, and the CFG_WE records. -/
def jobKeep (o : Nat) : Word64 :=
  if isCounter o || o = 0x700128 || o = 0x700130 then BitVec.allOnes 64
  else if [0x400000, 0x440000, 0x480000, 0x540000, 0x580000, 0x600000, 0x700000].contains o then 0x8000FFFF00000000#64
  else if 0x481000 ≤ o && o < 0x482000 && o % 0x40 = 0x20 then 0x8000FFFF#64
  else 0

/-- Registers of the job blocks return to their reset values, with NV fields reloaded (R562 step 3). -/
def Hw.jobRegs (h : Hw) : Hw :=
  let h := { h with
    regs := List.map (fun (e : Nat × Word64) =>
      if jobReg e.1 then (e.1, (BitVec.ofNat 64 (resetWord e.1) &&& ~~~ jobKeep e.1) ||| (e.2 &&& jobKeep e.1)) else e) h.regs
    votes := h.votes.drop jobReg }
  (List.range 15).foldl (fun h i => if ((nvKeys[i]?).map (·.2.2)).getD false then h.nvLoad i else h) h

/-- Step 3 of R562: the objects are unmapped and forgotten, open faults close without a response, the registers are reset. -/
def Hw.jobReset (h : Hw) : Hw :=
  let h := h.tailor.objs.foldl (fun h x => if x.2.st == .pending then h else (h.unmapRange (pageFuel x.2.size) x.2.va x.2.size).invalRange x.2.va x.2.size) h
  let h := { h with
    shut := ⟨[], [], none, 0, [], false, 0⟩
    tailor := ⟨[], [], none, [], false⟩
    train := ⟨[], [], false, false, []⟩
    xl := { h.xl with tlbs := [], nodes := [], faults := [], nextFlt := 0, nonres := [], heldFlt := [], fltPhase := true, wins := [], jobs := [], ats := [] } }
  h.jobRegs

/-! ### Quiesce -/

/-- The ENABLEs that a set of blocks names all read 0. -/
def Hw.allOff (h : Hw) (blocks : Nat) : Bool := (List.range 11).all (fun k => !(blocks.testBit k && h.flag (enableOf k)))

/-- Clear the named ENABLEs in descending order; each is cleared once those above it read 0, so that the Shuttle stops first (R446). -/
def Hw.clearDown (blocks : Nat) : Nat → Hw → Hw
  | 0, h => h
  | k + 1, h =>
    let h := if blocks.testBit k then h.blockOff k else h
    if blocks.testBit k && h.flag (enableOf k) then h else Hw.clearDown blocks k h

/-- Carry a running quiesce as far as it goes. -/
def Hw.quiesceGo (h : Hw) : Hw :=
  match h.mb.quiesce with
  | some z => Hw.clearDown z.blocks 11 h
  | none => h

/-- CANCEL of every context (R446 with MODE 1). -/
def Hw.cancelAll (h : Hw) : Hw := (List.map Prod.fst h.shut.ctxs).foldl Hw.cancelCtx h

/-- Start or join a quiesce or a JOB reset (R562). -/
def Hw.quiesceStart (h : Hw) (blocks mode : Nat) (reset : Bool) (op : Nat) : Hw :=
  let z := h.mb.quiesce.getD ⟨0, false, []⟩
  let h := { h with mb := { h.mb with quiesce := some ⟨z.blocks ||| blocks, z.reset || reset, z.ops ++ [op]⟩ } }
  (if mode = 1 then h.cancelAll else h).quiesceGo

/-- The blocks that a JOB reset names (R562). -/
def jobBlocks : Nat := 0x6FC

/-- JOB_QUIESCED (R562): once every named ENABLE reads 0, and for a reset no context is in use, the operation completes, with an event for each
command that waits. -/
def effJobQuiesced (h : Hw) : Hw :=
  let h := h.quiesceGo
  match h.mb.quiesce with
  | none => h
  | some z =>
    if !(h.allOff z.blocks && (!z.reset || h.shut.ctxs.isEmpty)) then h
    else
      let h := { h with mb := { h.mb with quiesce := none } }
      let h := if z.reset then h.jobReset else h
      z.ops.foldl (fun h op => h.postOp Ev.evJobQuiesced [u32 h.blockEn] op) h

def execJobQuiesced (s : State) : Host.Outcome State Fault Refusal := s.run effJobQuiesced

/-! ### Commands -/

/-- DEV_RESET (R441): PART resets after its acknowledgement, JOB starts or joins a JOB reset. -/
def cmdDevReset (h : Hw) (ch : Nat) (a : List Nat) (_ : Bytes) : Done :=
  let scope := a.getD 0 0
  h.checked [(1 < scope, rcPARAM), (scope = 0 && 4 ≤ ch, rcDENIED)] (fun h =>
    if scope = 0 then ({ h with mb := { h.mb with partReset := true, hostOff := true } } : Hw).ok
    else
      let (h, op) := h.newOp
      (h.quiesceStart jobBlocks 1 true op).okOp op)

/-- JOB_SET_KEY. -/
def cmdJobSetKey (h : Hw) (_ : Nat) (a : List Nat) (_ : Bytes) : Done :=
  h.checked [(h.flag F.TRAIN_CFG_ENABLE, rcSTATE)] (fun h =>
    (((List.range 4).foldl (fun h i => h.set (F.JOB_KEY i) (elemLE 4 i (a.getD 0 0))) h).set F.STREAM_SALT (a.getD 1 0)).ok)

/-- JOB_SET_BINDING. -/
def cmdJobSetBinding (h : Hw) (_ : Nat) (a : List Nat) (_ : Bytes) : Done :=
  h.checked [(1 < a.getD 3 0, rcPARAM), (h.flag F.TRAIN_CFG_ENABLE, rcSTATE)] (fun h =>
    ((((h.set F.STEP_BASE (a.getD 0 0)).set F.CURSOR_PER_STEP (a.getD 1 0)).set F.CURSOR_BASE (a.getD 2 0)).set F.BIND_EN (a.getD 3 0)).ok)

/-- Whether an address lies in a firmware region (R450). -/
def Hw.inRegion (h : Hw) (a : Nat) : Bool := h.regions.any (fun g => g.1 ≤ a && a < g.2)

/-- JOB_SET_BASES: the bases that MASK names. CSA_BASE and FLT_BASE lie in a firmware region, or are 0. -/
def cmdJobSetBases (h : Hw) (_ : Nat) (a : List Nat) (_ : Bytes) : Done :=
  match a with
  | [mask, lg, desc, tape, root, csa, flt] =>
    let bad (i v align : Nat) : Bool := mask.testBit i && (2 ^ 52 ≤ v || v % align ≠ 0)
    let out (i v : Nat) : Bool := mask.testBit i && v ≠ 0 && !h.inRegion v
    h.checked [(31 < mask || bad 0 desc 0x10000 || bad 1 tape 0x10000 || bad 2 root 0x2000 || bad 3 csa 0x10000 || bad 4 flt 0x1000 || out 3 csa || out 4 flt ||
        (mask.testBit 4 && (lg < 4 || 12 < lg)), rcPARAM),
      (mask % 4 ≠ 0 && h.flag F.SHUTTLE_CFG_ENABLE, rcSTATE), (4 ≤ mask && h.flag F.XLATE_CFG_ENABLE, rcSTATE)] (fun h =>
        let put (h : Hw) (i : Nat) (f : Fld) (v : Nat) : Hw := if mask.testBit i then h.set f v else h
        (put (put (put (put (put (put h 0 F.DESC_BASE desc) 1 F.TAPE_BASE tape) 2 F.MMU_ROOT (root / 0x2000)) 3 F.CSA_BASE (csa / 0x10000))
          4 F.FLT_BASE (flt / 0x1000)) 4 F.FLT_LOG2 lg).ok)
  | _ => h.no rcPARAM

/-- JOB_ENABLE: the named ENABLEs in ascending order (R446). -/
def cmdJobEnable (h : Hw) (_ : Nat) (a : List Nat) (_ : Bytes) : Done :=
  let m := a.getD 0 0
  h.checked [(2048 ≤ m, rcPARAM), (m.testBit 3 && h.get F.MMU_ROOT = 0, rcSTATE)] (fun h =>
    let h := (List.range 11).foldl (fun h k => if m.testBit k then h.blockOn k else h) h
    h.okWith [u32 h.blockEn])

/-- JOB_QUIESCE. -/
def cmdJobQuiesce (h : Hw) (_ : Nat) (a : List Nat) (_ : Bytes) : Done :=
  let m := a.getD 0 0
  let mode := a.getD 1 0
  h.checked [(2048 ≤ m || 1 < mode, rcPARAM), (h.mb.quiesce.isSome, rcBUSY)] (fun h =>
    let (h, op) := h.newOp
    let h := h.quiesceStart m mode false op
    (h, some ⟨rcOK, pack [u32 h.blockEn] [], op⟩))

/-- JOB_TAPE_GET; the record of a slot that the Tape unit does not reach is open. -/
def cmdJobTapeGet (h : Hw) (_ : Nat) (a : List Nat) (_ : Bytes) : Done :=
  let slot := a.getD 0 0
  let b := if h.tapeReach slot then h.tapeBytes slot else (List.range 64).map (fun i => Config.freeByte h.freeCtr (9600 + i))
  (h, some ⟨rcOK, b, 0⟩)

/-- The record with a field replaced (R445): its offset and size. -/
def tapeField (b : Bytes) (field v : Nat) : Bytes :=
  let o := ([0x20, 0x26, 0x32, 0x34] : List Nat).getD field 0
  b.take o ++ natLE 2 v ++ b.drop (o + 2)

/-- Whether R69 allows the value of a field. -/
def tapeFieldOk (field v : Nat) : Bool :=
  match field with
  | 0 => v < 0xFF
  | 1 => v < 65536 && bitsOf v 14 12 = 0 && (v % 16 = 2 || v % 16 = 3)
  | 2 => v ≠ 0 && v < 65536
  | 3 => v < 65536
  | _ => false

/-- JOB_TAPE_SET (R446): a write of one field of a record. -/
def cmdJobTapeSet (h : Hw) (_ : Nat) (a : List Nat) (_ : Bytes) : Done :=
  match a with
  | [slot, field, v] => h.checked [(!tapeFieldOk field v, rcPARAM)] (fun h => (h.tapeSoftWrite slot (tapeField (h.tapeBytes slot) field v)).ok)
  | _ => h.no rcPARAM

end Sys2Proof.Machine
end

