-- ==== Sys2Proof/Machine/GrpTopo.lean ====
section
/-!
DEFINITION. Machine/GrpTopo.lean: the TOPO and LINK groups (R336, R338, R351, R447, R448).
-/

namespace Sys2Proof.Machine

/-- Put a block of words in place of the bank's words from lo up to hi. -/
def Hw.putBlock (h : Hw) (lo hi : Nat) (ws : Tab Word64) : Hw :=
  { h with regs := List.filter (fun (e : Nat × Word64) => e.1 < lo) h.regs ++ ws ++ List.filter (fun (e : Nat × Word64) => hi ≤ e.1) h.regs }

/-- TOPO_SET_COORD (R336): one coordinate per boot; links that waited for it begin their exchange. -/
def cmdTopoSetCoord (h : Hw) (_ : Nat) (a : List Nat) (_ : Bytes) : Done :=
  match a with
  | [pod, board, slot] =>
    let same := h.get F.TOPO_POD = pod && h.get F.TOPO_BOARD = board && h.get F.TOPO_SLOT = slot
    h.checked [(31 < pod || 63 < board || 15 < slot, rcPARAM), (h.flag F.TOPO_VALID && !same, rcCONFLICT)] (fun h =>
      let h := if h.flag F.TOPO_VALID then h
        else
          let h := ((((h.set F.TOPO_VALID 1).set F.TOPO_POD pod).set F.TOPO_BOARD board).set F.TOPO_SLOT slot)
          (List.range 64).foldl (fun h l => if h.lkState l = lsIDENTIFY || h.lkState l = lsHELD then h.identStart l else h) h
      h.okWith [u16 h.myChip])
  | _ => h.no rcPARAM

/-- The peer table's entry of an index (R351): PSTATE UNKNOWN, or NO_ROUTE where the plan gives no route. -/
def peerEntry (p : Plan) (me i : Nat) : Nat :=
  let r := p.ranks[i]?
  let base := 2 ^ 63 + ((r.map (·.spare)).getD false).toNat * 2 ^ 62 + p.chip i * 2 ^ 40
  if i = me then base
  else
    match p.route me i with
    | some (ax, plus, hops) => base + hops % 256 * 2 ^ 32 + ax * 2 ^ 29 + (!plus).toNat * 2 ^ 28
    | none => base + 3 * 2 ^ 59

/-- Build the peer table and the chip map (R351). -/
def Hw.peerTable (h : Hw) (p : Plan) (me : Nat) : Hw :=
  let ent := (List.range p.ranks.length).map (fun i => (0x6A0000 + 8 * i, BitVec.ofNat 64 (peerEntry p me i)))
  let idx (c : Nat) : Nat := (p.find c).getD 0xFFFF
  let map := (List.range 8192).map (fun k => (0x6D0000 + 8 * k, BitVec.ofNat 64 (idx (4 * k) + idx (4 * k + 1) * 2 ^ 16 + idx (4 * k + 2) * 2 ^ 32 + idx (4 * k + 3) * 2 ^ 48)))
  (h.putBlock 0x6A0000 0x6D0000 ent).putBlock 0x6D0000 0x6E0000 map

/-- Measurement i (R481, R488). -/
def regMeasure (i : Nat) : Nat := 0x7C0100 + 32 * i

/-- A validated plan becomes the running plan (R338): its digest, the part's rank, the tables; links that are HELD or DARK try again (R347). -/
def Hw.planLoad (h : Hw) (p : Plan) : Hw :=
  let me := (p.find h.myChip).getD 0
  let h := { h with topo := { h.topo with plan := some p, miss := [], discOver := false, lastSeq := [] } }
  let h := ((h.setRegBytes regPlanDigest p.digest).setRegBytes (regMeasure 8) p.digest).peerTable p me
  let h := (h.set F.MY_RANK me).setB F.IS_SPARE (p.nRanks ≤ me)
  let h := (List.range 8).foldl (fun h e => h.set (F.PATH_TRAINED e) 0) h
  let h := (List.range 64).foldl (fun h l => (h.set (F.PLINK l) l).updLk l (fun s => { s with planFresh := true, home := none })) h
  let h := h.set F.TOPO_STATE 1
  (List.range 64).foldl (fun h l => if h.lkState l = lsHELD then h.identStart l else if h.lkState l = lsDARK then h.linkStart l else h) h

/-- TOPO_LOAD_PLAN. A rank table that the image does not hold whole is refused as N_RANKS or N_SPARES out of range. -/
def cmdTopoLoadPlan (h : Hw) (_ : Nat) (a : List Nat) (_ : Bytes) : Done :=
  let addr := a.getD 0 0
  let n := a.getD 1 0
  let mapped := (List.range (n / 4096 + 2)).all (fun i => h.hbmMapped (min (addr + 4096 * i) (addr + n - 1)) 1)
  h.checked [(n ≠ 0 && !(inHbm addr && mapped), rcPARAM), (h.flag F.TOPO_CFG_ENABLE || !h.flag F.TOPO_VALID, rcSTATE)] (fun h =>
    let (h, b, poison) := h.readLocal addr n
    let b := h.fuzz poison 9700 b
    let p := parsePlan b
    let c := h.planCheck p
    let c := if c = 1 then 1 else if n < 0x400 + 16 * (p.nRanks + p.nSpares) then 2 else c
    if c ≠ 0 then (h, some ⟨rcPLAN, natLE 2 c, 0⟩)
    else
      let h := h.planLoad p
      (h, some ⟨rcOK, p.digest ++ natLE 2 (h.get F.MY_RANK) ++ natLE 1 (h.get F.IS_SPARE), 0⟩))

/-- TOPO_STATUS. -/
def cmdTopoStatus (h : Hw) (_ : Nat) (_ : List Nat) (_ : Bytes) : Done :=
  let n (st : Nat) : Nat := ((List.range 64).filter (fun l => h.lkState l = st)).length
  h.okWith [u8 (h.get F.TOPO_STATE), u8 (n lsUP), u8 (n lsHELD), u8 (n lsDARK), u64 h.shortMask]

/-- TOPO_PEER. -/
def cmdTopoPeer (h : Hw) (_ : Nat) (a : List Nat) (_ : Bytes) : Done :=
  match h.topo.plan.bind (fun p => p.find (a.getD 0 0)) with
  | some i => h.okWith [u64 (h.get (F.PEER_ENTRY i))]
  | none => h.no rcNOTFOUND

/-! ### LINK -/

/-- LINK_ENABLE: LINK_EN of each link in MASK. -/
def cmdLinkEnable (h : Hw) (_ : Nat) (a : List Nat) (_ : Bytes) : Done :=
  let h := (List.range 64).foldl (fun h l => if (a.getD 0 0).testBit l then effLinkEnWrite l ((a.getD 1 0).testBit l) h else h) h
  h.okWith [u64 ((List.range 64).foldl (fun m l => m + h.get (F.LINK_EN l) * 2 ^ l) 0)]

/-- The 32 bits of the link word that holds STATE (R334). -/
def Hw.linkWord (h : Hw) (l : Nat) : Nat := ((h.word (F.LNK_STATE l).word).toNat) % 2 ^ 32

/-- LINK_STATUS. -/
def cmdLinkStatus (h : Hw) (_ : Nat) (a : List Nat) (_ : Bytes) : Done :=
  let l := a.getD 0 0
  h.checked [(63 < l, rcPARAM)] (fun h =>
    h.okWith [u32 (h.linkWord l), u16 (h.get (F.LNK_PEER_CHIP l)), u64 (h.get (F.LNK_LANE_MAP l)), u64 (h.get (F.RX_MARGIN l)), u32 (h.get (F.TX_MARGIN l))])

/-- LINK_LASER_FACTORY: the Config record is cleared; a powered Eyelet takes the commissioning assignment at once (R306). -/
def cmdLinkLaserFactory (h : Hw) (_ : Nat) (a : List Nat) (_ : Bytes) : Done :=
  let e := a.getD 0 0
  h.checked [(7 < e, rcPARAM), ((List.range 8).any (fun k => h.lkState (8 * e + k) ≠ lsOFF), rcSTATE)] (fun h =>
    let h := h.cfgDrop (· = 0x20 + e)
    (if h.get (F.EYE_STATE e) = 0 then h else h.eyeAssign e).ok)

end Sys2Proof.Machine
end

