-- ==== Sys2Proof/Machine/Image.lean ====
section
/-!
DEFINITION. Machine/Image.lean: firmware bundles (R462 to R468) and the IMAGE group (R443, R467, R474 to R476).
-/

namespace Sys2Proof.Machine

/-! ### Bundles -/

/-- Base of a bundle slot: 0 Factory, 1 A, 2 B (R462). -/
def bundleBase (slot : Nat) : Nat := 0x1000000 + slot * 0x8000000

/-- Where a slot's commit record lies (R467). -/
def commitAddr (slot : Nat) : Nat := bundleBase slot + 0x7FFF000

/-- The first 0x4000 bytes of a bundle (R465), its components read from them. -/
structure Bundle where
  head : Bytes
  comps : List Comp
  deriving DecidableEq, Repr

def Bundle.keyIdx (b : Bundle) : Nat := fieldLE b.head 7 1
def Bundle.ver (b : Bundle) : Nat := fieldLE b.head 8 4
def Bundle.svn (b : Bundle) : Nat := fieldLE b.head 0xC 4
def Bundle.length (b : Bundle) : Nat := fieldLE b.head 0x10 4
def Bundle.floorSet (b : Bundle) : Nat := fieldLE b.head 0x14 1

/-- The bytes that the signatures cover. -/
def Bundle.signed (b : Bundle) : Bytes := b.head.take 0x200

/-- A component entry (R466). -/
def parseComp (slot : Nat) (e : Bytes) : Comp :=
  let t := fieldLE e 0 1
  let rg (i : Nat) : Nat × Nat := (fieldLE e (0x30 + 8 * i) 4, fieldLE e (0x34 + 8 * i) 4)
  ⟨slot, t, fieldLE e 1 1, fieldLE e 2 2, fieldLE e 4 4, fieldLE e 8 4, fieldLE e 0xC 4, slice e 0x10 32, [rg 0, rg 1, rg 2, rg 3], rg (t - 1)⟩

/-- Parse a bundle's head. -/
def parseBundle (slot : Nat) (head : Bytes) : Bundle := ⟨head, (List.range 4).map (fun i => parseComp slot (slice head (0x40 + 96 * i) 96))⟩

/-- The bundle of a slot. -/
def Hw.bundle (h : Hw) (slot : Nat) : Bundle := parseBundle slot (h.norRead (bundleBase slot) 0x4000)

/-- Greatest size of a component (R466). -/
def compMax (t : Nat) : Nat := if t = 1 then 2 ^ 21 else if t = 2 then 2 ^ 18 else 2 ^ 20

/-- A component entry's format. -/
def Comp.formatOk (c : Comp) (e : Bytes) (len : Nat) : Bool :=
  1 ≤ c.typ && c.typ ≤ 4 && c.steppings < 4 && ((c.typ = 1 && c.proto < 256) || c.typ = 3 || c.proto = 0) && 0x4000 ≤ c.off && c.off % 4096 = 0 &&
    c.size ≤ compMax c.typ && c.off + c.size ≤ len && c.ownRange == (0, 0) && leNat (slice e 0x50 16) = 0

/-- The format checks of R467: the header, its reserved fields, the entries. -/
def Bundle.formatOk (b : Bundle) : Bool :=
  fieldLE b.head 0 4 = 0x4C444E42 && fieldLE b.head 4 2 = 1 && fieldLE b.head 6 1 = 4 && leNat (slice b.head 0x15 0x2B) = 0 &&
    leNat (slice b.head 0x1C0 0x40) = 0 && b.length ≤ 2 ^ 24 && b.length = b.comps.foldl (fun m c => max m (c.off + c.size)) 0 &&
    (b.comps.zipIdx).all (fun x => x.1.formatOk (slice b.head (0x40 + 96 * x.2) 96) b.length) &&
    [1, 2, 3, 4].all (fun t => (b.comps.filter (fun c => c.typ = t)).length = 1)

/-- Whether VSIG verifies under the vendor key of KEY_IDX (R465, R468). -/
def Bundle.vendorOk (b : Bundle) : Bool :=
  b.keyIdx ≤ 3 && Config.verifies ((List.range 32).map (Config.vendorKey b.keyIdx)) b.signed (slice b.head 0x200 7856)

/-- Whether OSIG verifies where R487 requires it. -/
def Hw.ownerSigOk (h : Hw) (slot : Nat) (b : Bundle) : Bool :=
  match h.sec.owner with
  | some r => slot = 0 || !bitOf (fieldLE r 6 2) 1 || Config.verifies (slice r 0x30 32) b.signed (slice b.head 0x2100 7856)
  | none => true

/-- The body of a component. -/
def Hw.compBody (h : Hw) (c : Comp) : Bytes := h.norRead (bundleBase c.slot + c.off) c.size

/-- Whether a component's body has its DIGEST. -/
def Hw.compDigestOk (h : Hw) (c : Comp) : Bool := sha256 (h.compBody c) == c.digest

/-- Whether STEPPINGS names the running stepping. -/
def Comp.forStepping (c : Comp) : Bool := c.steppings.testBit (if Config.isB0 then 1 else 0)

/-- Whether a set is consistent (R468). -/
def consistent (l : List Comp) : Bool :=
  l.all (fun x => l.all (fun y => x.typ = y.typ || ((x.range.getD (y.typ - 1) (1, 0)).1 ≤ y.ver && y.ver ≤ (x.range.getD (y.typ - 1) (1, 0)).2)))

/-- A slot is PRESENT (R467). -/
def Hw.slotPresent (h : Hw) (slot : Nat) : Bool := leNat (h.norRead (bundleBase slot) 4) = 0x4C444E42

/-- A slot is VALID: its commit record matches its contents (R467). -/
def Hw.bundleValid (h : Hw) (slot : Nat) : Bool :=
  let r := h.norRead (commitAddr slot) 64
  fieldLE r 0 4 = 0x54494D43 && fieldLE r 4 4 ≤ 0x7FFF000 && sha256 (h.norRead (bundleBase slot) (fieldLE r 4 4)) == slice r 8 32

/-! ### Commands -/

/-- A PLDM update holds a slot (R533). -/
def Hw.pldmOn (h : Hw) (slot : Nat) : Bool := h.side.update == some slot

/-- IMG_INFO (R467). Of a slot that is not present, or has no VALID contents, the remaining fields are open; so are the versions of the Config slot. -/
def cmdImgInfo (h : Hw) (_ : Nat) (a : List Nat) (_ : Bytes) : Done :=
  let s := a.getD 0 0
  let openDigest := (List.range 32).map (fun i => Config.freeByte h.freeCtr (9960 + i))
  let ans (p v : Bool) (ver ctr len : Nat) (d : Bytes) : Done :=
    (h, some ⟨rcOK, pack [u8 p.toNat, u8 v.toNat, u16 0, u32 ver, u32 ctr, u32 len] [] ++ d, 0⟩)
  if 3 < s then h.no rcPARAM
  else if s = 3 then
    match h.cfgValid with
    | some (i, _) => ans true true (h.free 9951) (h.free 9952) (leNat (h.norRead (cfgBase i + 12) 4)) (h.norRead (cfgBase i + 16) 32)
    | none =>
      ans (leNat (h.norRead (cfgBase 0) 4) = 0x47464E43 || leNat (h.norRead (cfgBase 1) 4) = 0x47464E43) false (h.free 9951) (h.free 9952) (h.free 9953) openDigest
  else
    let p := h.slotPresent s
    let v := h.bundleValid s
    ans p v (if p then (h.bundle s).ver else h.free 9951) h.rpmc.svn (if p then (h.bundle s).length else h.free 9953)
      (if v then h.norRead (commitAddr s + 8) 32 else openDigest)

/-- IMG_ERASE (R443, R467, R474). -/
def cmdImgErase (h : Hw) (_ : Nat) (a : List Nat) (_ : Bytes) : Done :=
  let s := a.getD 0 0
  h.checked [(2 < s, rcPARAM), (h.pldmOn s, rcBUSY), (s = 0, rcDENIED), (h.sec.comps.any (fun c => c.slot = s), rcSTATE)] (fun h =>
    ({ h with nor := Mem.clear h.nor (bundleBase s) 0x8000000 } : Hw).ok)

/-- IMG_WRITE (R443). -/
def cmdImgWrite (h : Hw) (_ : Nat) (a : List Nat) (d : Bytes) : Done :=
  match a with
  | [s, z, n, off] =>
    h.checked [((s ≠ 1 && s ≠ 2) || z ≠ 0 || n = 0 || 232 < n || off % 8 ≠ 0 || 0x8000000 < off + n, rcPARAM), (h.pldmOn s, rcBUSY),
      ((h.norRead (bundleBase s + off) n).any (· ≠ 0xFF), rcSTATE)] (fun h => (h.norWrite (bundleBase s + off) d).ok)
  | _ => h.no rcPARAM

/-- Why IMG_COMMIT refuses a slot (R467), or 0; `len` is the LENGTH given. A component whose body was never written counts as beyond the written
bytes. -/
def Hw.commitCode (h : Hw) (slot len : Nat) : Nat :=
  let b := h.bundle slot
  if !b.formatOk || b.length ≠ len || b.comps.any (fun c => c.size ≠ 0 && (h.compBody c).all (· = 0xFF)) then rcPARAM
  else if !b.vendorOk || !h.ownerSigOk slot b || !b.comps.all h.compDigestOk then rcAUTH
  else if b.svn < h.rpmc.svn || b.keyIdx < h.rpmc.keyFloor then rcROLLBACK
  else if !b.comps.all Comp.forStepping || !consistent b.comps then rcSTATE else 0

/-- Write a slot's commit record (R467); what follows the SHA-256 in its 64 bytes is open. -/
def Hw.commitWrite (h : Hw) (slot len : Nat) : Hw :=
  h.norWrite (commitAddr slot) (natLE 4 0x54494D43 ++ natLE 4 len ++ sha256 (h.norRead (bundleBase slot) len) ++
    (List.range 24).map (fun i => Config.freeByte h.freeCtr (9992 + i)))

/-- Commit a slot, with its event. -/
def Hw.commitGo (h : Hw) (slot len : Nat) : Hw :=
  (h.commitWrite slot len).post Ev.evImageCommitted [u8 slot, u32 (h.bundle slot).ver]

/-- IMG_COMMIT (R467); in recovery the part then resets (R471). -/
def cmdImgCommit (h : Hw) (_ : Nat) (a : List Nat) (_ : Bytes) : Done :=
  match a with
  | [s, z, len] =>
    h.checked [((s ≠ 1 && s ≠ 2) || z ≠ 0, rcPARAM), (h.pldmOn s, rcBUSY)] (fun h =>
      match h.commitCode s len with
      | 0 =>
        let h := h.commitGo s len
        let h := if h.flag F.SEC_RECOVERY then { h with mb := { h.mb with partReset := true } } else h
        h.okWith [u32 (h.bundle s).ver]
      | c => h.no c)
  | _ => h.no rcPARAM

/-! ### Config keys -/

/-- The thresholds as the Config image holds them, the factory's otherwise. -/
def Hw.cfgThresh (h : Hw) (id : Nat) : Nat :=
  match h.cfgGet (0x300 + id) with
  | some b => leNat b
  | none => threshDefault id

/-- Whether a key's value is in range (R476). -/
def Hw.cfgOk (h : Hw) (k : Nat) (v : Bytes) : Bool :=
  if some v.length ≠ cfgLen k then false
  else if k = 1 then leNat v % 16 ≤ 1
  else if k < 0x20 then ones (leNat v) 32 ≤ 4
  else if k < 0x100 then v.all (fun b => b.toNat < 0xC0 && !bitOf b.toNat 5)
  else if k < 0x10F then (match nvKeys[k - 0x100]? with
    | some (off, mask, _) => nvOk off mask (leNat v)
    | none => false)
  else if 0x300 ≤ k then threshOk (k - 0x300) (leNat v) && threshOrder h.cfgThresh (k - 0x300) (leNat v)
  else true

/-- IMG_CFG_GET: the value stored. -/
def cmdImgCfgGet (h : Hw) (_ : Nat) (a : List Nat) (_ : Bytes) : Done :=
  let k := a.getD 0 0
  match h.cfgGet k with
  | some v => (h, some ⟨rcOK, pack [u16 k, u16 v.length, u32 0] [] ++ v, 0⟩)
  | none => h.no rcNOTFOUND

/-- IMG_CFG_SET (R475, R476): stored only, for the next boot. -/
def cmdImgCfgSet (h : Hw) (_ : Nat) (a : List Nat) (d : Bytes) : Done :=
  match a with
  | [k, _, z] =>
    h.checked [(z ≠ 0, rcPARAM), ((cfgLen k).isNone, rcNOTFOUND), (!h.cfgOk k d, rcPARAM), (h.rpmc.cfgGen = 0xFFFFFFFF, rcLIMIT)] (fun h => (h.cfgPut k d).ok)
  | _ => h.no rcPARAM

/-- IMG_CFG_DEFAULT: one key, or all, back to the factory default. -/
def cmdImgCfgDefault (h : Hw) (_ : Nat) (a : List Nat) (_ : Bytes) : Done :=
  let k := a.getD 0 0
  h.checked [(k ≠ 0xFFFF && (cfgLen k).isNone, rcNOTFOUND), (h.rpmc.cfgGen = 0xFFFFFFFF, rcLIMIT)] (fun h => (h.cfgDrop (fun x => k = 0xFFFF || x = k)).ok)

end Sys2Proof.Machine
end

