-- ==== Sys2Proof/Machine/GrpSec.lean ====
section
/-!
DEFINITION. Machine/GrpSec.lean: the SEC group: identity, quotes, ownership (R454, R478, R481 to R483, R485 to R487).
-/

namespace Sys2Proof.Machine

/-- SEC_GET_ID. -/
def cmdSecGetId (h : Hw) (_ : Nat) (_ : List Nat) (_ : Bytes) : Done := (h, some ⟨rcOK, pubKey ++ h.regBytes regAttestToken 32, 0⟩)

/-- The quote's bytes before its signature (R483). -/
def Hw.quoteBody (h : Hw) (nonce : Bytes) (mask : Nat) : Bytes :=
  let idx := (List.range 16).filter (fun i => mask.testBit i)
  let n := idx.length
  natLE 4 0x544F5551 ++ natLE 2 1 ++ natLE 2 n ++ natLE 4 (0xA0 + 32 * n + 17088) ++ natLE 4 mask ++ padTo 32 nonce ++ natLE 2 h.chipOr ++
    natLE 1 (h.get F.GBL_STEPPING) ++ natLE 1 (h.get F.GBL_PROFILE) ++ natLE 1 h.sec.bootSlot ++ natLE 1 (h.get F.SEC_OWNED) ++ natLE 2 0 ++
    natLE 8 (h.get F.BOOT_ID) ++ natLE 4 h.rpmc.svn ++ natLE 4 h.rpmc.cfgGen ++ natLE 4 h.rpmc.ownerGen ++ natLE 4 h.rpmc.keyFloor ++ pubKey ++
    h.regBytes regAttestToken 32 ++ natLE 8 h.sec.quotes ++ natLE 8 0 ++ (idx.map (fun i => h.regBytes (regMeasure i) 32)).flatten

/-- SEC_QUOTE (R483): the quote is staged for DEV_READ_OUT. -/
def cmdSecQuote (h : Hw) (ch : Nat) (a : List Nat) (_ : Bytes) : Done :=
  match a with
  | [nonce, mask] => h.checked [(2 ^ 16 ≤ mask, rcPARAM)] (fun h =>
      let h := { h with sec := { h.sec with quotes := h.sec.quotes + 1 } }
      let b := h.quoteBody (natLE 32 nonce) mask
      let q := b ++ (List.range 17088).map (Config.signature b)
      (h.updChan ch (fun k => { k with outp := q })).okWith [u32 q.length])
  | _ => h.no rcPARAM

/-- Base of an owner copy (R462). -/
def ownerBase (i : Nat) : Nat := 0x20000 + i * 0x8000

/-- Whether the record's signature verifies under its own key (R485). -/
def recordSigned (r : Bytes) : Bool := Config.verifies (slice r 0x30 32) (r.take 0x100) (slice r 0x100 7856)

/-- A copy of the owner record, if it is valid: its GEN equals OWNER_GEN and its SIG verifies (R486). -/
def Hw.ownerCopy (h : Hw) (i : Nat) : Option Bytes :=
  let r := h.norRead (ownerBase i) 8112
  if fieldLE r 0 4 = 0x524E574F && fieldLE r 8 4 = h.rpmc.ownerGen && recordSigned r then some r else none

/-- The owner record in force: the valid copy, unless it releases the part. -/
def Hw.ownerRecord (h : Hw) : Option Bytes :=
  match (match h.ownerCopy 0 with
    | some r => some r
    | none => h.ownerCopy 1) with
  | some r => if bitOf (fieldLE r 6 2) 0 then none else some (r.take 0x100)
  | none => none

/-- The format checks of an owner record (R485, R486). -/
def recordFormatOk (r : Bytes) : Bool :=
  let fl := fieldLE r 6 2
  let n := fieldLE r 0x50 1
  fieldLE r 0 4 = 0x524E574F && fieldLE r 4 2 = 1 && fl < 8 && fieldLE r 0xC 4 = 0 && leNat (slice r 0x51 15) = 0 && leNat (slice r 0xE0 32) = 0 &&
    n ≤ 4 && (bitOf fl 0 || 1 ≤ n)

/-- SEC_ENROL (R485, R486). -/
def cmdSecEnrol (h : Hw) (ch : Nat) (a : List Nat) (_ : Bytes) : Done :=
  let r := (h.chan ch).inp.take 8112
  let release := bitOf (fieldLE r 6 2) 0
  h.checked [(4 ≤ ch && !release, rcDENIED), (a.getD 0 0 ≠ 8112 || r.length ≠ 8112 || !recordFormatOk r, rcPARAM),
    (fieldLE r 8 4 ≠ h.rpmc.ownerGen + 1 || slice r 0x10 32 ≠ h.regBytes regIdHash 32, rcPARAM),
    (h.sec.owner.isSome = !release, rcSTATE),
    (release && slice r 0x30 32 ≠ slice (h.sec.owner.getD []) 0x30 32, rcAUTH), (!recordSigned r, rcAUTH)] (fun h =>
      let i := if (h.ownerCopy 0).isSome then 1 else 0
      let h := h.norWrite (ownerBase i) r
      let h := { h with rpmc := { h.rpmc with ownerGen := h.rpmc.ownerGen + 1 }, sec := { h.sec with owner := if release then none else some (r.take 0x100) } }
      (h.setB F.SEC_OWNED (!release)).ok)

end Sys2Proof.Machine
end

