-- ==== Sys2Proof/Machine/GrpMem.lean ====
section
/-!
DEFINITION. Machine/GrpMem.lean: the MEM group (R249 to R257, R267, R271, R273, R274, R449, R450).
-/

namespace Sys2Proof.Machine

/-! ### Channels and stacks -/

/-- Whether a retrain of a channel waits or runs. -/
def Hw.retrainRuns (h : Hw) (s c : Nat) : Bool :=
  (h.hbm.trig.find? (s * 32 + c)).isSome || (match h.hbm.wins.find? s with
    | some w => w.ch == c && !w.margin
    | none => false)

/-- A channel of an ONLINE stack that is not mapped out. -/
def Hw.chOnline (h : Hw) (s c : Nat) : Bool := h.get (F.STK_STATE s) = 2 && !(h.get (F.STK_MAPOUT s)).testBit c

/-- MEM_RETRAIN. -/
def cmdMemRetrain (h : Hw) (_ : Nat) (a : List Nat) (_ : Bytes) : Done :=
  let s := a.getD 0 0
  let c := a.getD 1 0
  h.checked [(15 < s || 31 < c, rcPARAM), (h.retrainRuns s c, rcBUSY), (!h.chOnline s c, rcSTATE)] (fun h =>
    let (h, op) := h.newOp
    (h.retrainTrigger s c op).okOp op)

/-- The range of a margin parameter's offsets (R249). -/
def marginRange (p : Nat) : Int × Int := if p ≤ 1 then (-32, 31) else if p = 2 then (-20, 20) else (-10, 10)

/-- MEM_MARGIN (R249 to R251); VDDQ is a parameter of the whole stack. -/
def cmdMemMargin (h : Hw) (_ : Nat) (a : List Nat) (_ : Bytes) : Done :=
  match a with
  | [s, c, p, z, f, l] =>
    let f := s8 f
    let l := s8 l
    let r := marginRange p
    h.checked [(15 < s || 31 < c || 3 < p || z ≠ 0 || f < r.1 || r.2 < l || l < f, rcPARAM),
      (h.hbm.scans.any (fun k => k.stack = s && (k.ch = c || k.param = 3 || p = 3)), rcBUSY),
      (if p = 3 then h.get (F.STK_STATE s) ≠ 4 else !h.chOnline s c, rcSTATE)] (fun h =>
        let (h, op) := h.newOp
        ({ h with hbm := { h.hbm with scans := h.hbm.scans ++ [⟨s, c, p, List.map (fun (i : Nat) => f + (i : Int)) (List.range (l - f + 1).toNat), [], op⟩] } } : Hw).okOp op)
  | _ => h.no rcPARAM

/-- MEM_MARGIN_RESULT. -/
def cmdMemMarginResult (h : Hw) (_ : Nat) (a : List Nat) (_ : Bytes) : Done :=
  let s := a.getD 0 0
  let c := a.getD 1 0
  h.checked [(15 < s || 31 < c, rcPARAM)] (fun h =>
    match h.hbm.scanRes.find? (fun k => k.stack = s && k.ch = c) with
    | none => h.no rcNOTFOUND
    | some k =>
      match k.done[a.getD 2 0]? with
      | none => h.no rcNOTFOUND
      | some (off, lanes) => h.okWith ([u8 (twos 8 off), u8 k.param] ++ lanes.map u16))

/-- Whether the Tailor holds an object in a stack, or firmware a region (R251). -/
def Hw.stackUsed (h : Hw) (s : Nat) : Bool :=
  let g := (s * stackSize, (s + 1) * stackSize)
  !(h.objsIn g).isEmpty || h.tailor.objs.any (fun x => x.2.st != .pending && x.2.tier = 1 && x.2.loc < g.2 && g.1 < x.2.loc + x.2.size) ||
    h.regions.any (fun r => r.1 < g.2 && g.1 < r.2)

/-- MEM_STACK_STATE (R251). -/
def cmdMemStackState (h : Hw) (_ : Nat) (a : List Nat) (_ : Bytes) : Done :=
  let s := a.getD 0 0
  let st := a.getD 1 0
  let now := h.get (F.STK_STATE s)
  let vddq := h.hbm.scans.any (fun k => k.stack = s && k.param = 3)
  h.checked [(15 < s || (st ≠ 2 && st ≠ 4), rcPARAM), (now ≠ 2 && now ≠ 4, rcSTATE),
    (if st = 4 then now = 2 && h.stackUsed s else now = 4 && vddq, rcSTATE)] (fun h => (h.set (F.STK_STATE s) st).ok)

/-- MEM_MAPOUT (R257 step 1). -/
def cmdMemMapout (h : Hw) (_ : Nat) (a : List Nat) (_ : Bytes) : Done :=
  let s := a.getD 0 0
  let c := a.getD 1 0
  h.checked [(15 < s || 31 < c, rcPARAM), ((h.hbm.mapout.find? s).isSome, rcBUSY)] (fun h =>
    match h.mapoutRefusal s c with
    | 0 =>
      let (h, op) := h.newOp
      (h.mapoutStart s c op).okOp op
    | 1 => h.no rcSTATE
    | 2 => h.no rcLIMIT
    | _ => h.no rcCONFLICT)

/-- MEM_MAPOUT_CLEAR: the Config record is cleared, the present map holds. -/
def cmdMemMapoutClear (h : Hw) (_ : Nat) (a : List Nat) (_ : Bytes) : Done :=
  let s := a.getD 0 0
  h.checked [(15 < s, rcPARAM), (h.get (F.STK_STATE s) ≠ 4, rcSTATE)] (fun h => (h.cfgDrop (· = 0x10 + s)).ok)

/-- MEM_REGION (R450, R551). -/
def cmdMemRegion (h : Hw) (_ : Nat) (a : List Nat) (_ : Bytes) : Done :=
  match a with
  | [op, stk, v] => h.checked [(1 < op || (15 < stk && stk ≠ 0x1F) || (op = 0 && (v = 0 || v % 0x10000 ≠ 0)), rcPARAM)] (fun h =>
      if op = 0 then
        match h.allocRegion (if stk = 0x1F then none else some stk) v with
        | (h', some b) => h'.okWith [u64 b]
        | (_, none) => h.no rcNORESOURCE
      else
        match (List.range 1024).find? (fun r => h.get (F.REG_SIZE r) ≠ 0 && h.get (F.REG_BASE r) = v) with
        | some r => ((h.set (F.REG_SIZE r) 0).set (F.REG_BASE r) 0).okWith [u64 v]
        | none => h.no rcNOTFOUND)
  | _ => h.no rcPARAM

/-! ### Mappings -/

/-- Whether a physical range lies in mapped HBM and scratchpad throughout (R38, R234). -/
def Hw.rangeMapped (h : Hw) (a n : Nat) : Bool :=
  a + n ≤ spadBase + 4 * panelSize && (List.range 16).all (fun s =>
    let lo := max a (s * stackSize)
    let hi := min (a + n) ((s + 1) * stackSize)
    hi ≤ lo || h.hbmMapped lo (hi - lo))

/-- Whether a physical range meets a staging reserve (R207). -/
def Hw.inReserve (h : Hw) (a n : Nat) : Bool :=
  (List.range 4).any (fun p => a < spadBase + (p + 1) * panelSize && spadBase + (p + 1) * panelSize - h.stageSize < a + n)

/-- The pages mapped in a virtual range: each piece with its entry's target, if local its physical base, and its size. -/
def Hw.pagesIn (h : Hw) : Nat → Nat → Nat → List (Nat × Option Nat × Nat)
  | 0, _, _ => []
  | f + 1, va, n =>
    if n = 0 then []
    else
      let e0 := h.pte (h.l0 va)
      let step := min n (2 ^ 29 - va % 2 ^ 29)
      if !pteV e0 then Hw.pagesIn h f (va + step) (n - step)
      else
        let e1 := h.pte (pteAddr e0 + 8 * (va / 2 ^ 29 % 8192))
        if !pteV e1 then Hw.pagesIn h f (va + step) (n - step)
        else if pteLeaf e1 then
          (va, (if pteTgt e1 = 0 then some (pteAddr e1 + va % 2 ^ 29) else none), step) :: Hw.pagesIn h f (va + step) (n - step)
        else
          let e2 := h.pte (pteAddr e1 + 8 * (va / 2 ^ 16 % 8192))
          let r := Hw.pagesIn h f (va + 0x10000) (n - 0x10000)
          if pteV e2 then (va, (if pteTgt e2 = 0 then some (pteAddr e2) else none), 0x10000) :: r else r

/-- Objects of the Tailor that meet a virtual range. -/
def Hw.objsAt (h : Hw) (va n : Nat) : Bool := h.tailor.objs.any (fun x => x.2.va < va + n && va < x.2.va + x.2.size)

/-- The part of a physical range that lies in scratchpad. -/
def spadPart (a n : Nat) : Nat × Nat := (max a spadBase, a + n - max a spadBase)

/-- Whether a scratchpad range meets a placed object or another mapping (R450). -/
def Hw.spadTaken (h : Hw) (a n : Nat) : Bool :=
  n ≠ 0 && (h.spad.mapped.any (fun m => m.1 < a + n && a < m.1 + m.2) ||
    h.tailor.objs.any (fun x =>
      let hits (l : Nat) : Bool := l < a + n && a < l + x.2.size
      (x.2.hasPlace && x.2.target.1 = 0 && hits x.2.target.2) || (x.2.st != .pending && x.2.tier = 0 && hits x.2.loc)))

/-- MEM_MAP (R450). -/
def cmdMemMap (h : Hw) (_ : Nat) (a : List Nat) (_ : Bytes) : Done :=
  match a with
  | [va, n, addr, win, tgt, fl] =>
    let loc := tgt = 0
    let sp := if loc then spadPart addr n else (0, 0)
    h.checked [(va % 0x10000 ≠ 0 || n % 0x10000 ≠ 0 || addr % 0x10000 ≠ 0 || n = 0 || 2 ^ 52 < va + n || 2 ^ 52 < addr + n || 2 < tgt || 7 < fl || 4095 < win ||
        (loc && win ≠ 0) || (loc && (!h.rangeMapped addr n || h.inReserve addr n)), rcPARAM),
      (h.objsAt va n || h.spadTaken sp.1 sp.2 || (h.mmuRoot ≠ 0 && !(h.pagesIn (pageFuel n) va n).isEmpty), rcCONFLICT),
      (h.mmuRoot = 0, rcSTATE)] (fun h =>
        match h.mapRange (pageFuel n) va addr n (fun pa => mkLeaf tgt win pa (bitOf fl 0) (bitOf fl 1) (bitOf fl 2)) with
        | (_, false) => h.no rcNORESOURCE
        | (h, true) =>
          let h := h.invalRange va n
          (if sp.2 = 0 then h else { h with spad := { h.spad with mapped := h.spad.mapped ++ [sp] } } : Hw).ok)
  | _ => h.no rcPARAM

/-- Replace a 512 MiB leaf that a boundary cuts by a table of 64 KiB leaves (R450); false where no region has room. -/
def Hw.splitLeaf (h : Hw) (va : Nat) : Hw × Bool :=
  let e0 := h.pte (h.l0 va)
  let p1 := pteAddr e0 + 8 * (va / 2 ^ 29 % 8192)
  let e1 := h.pte p1
  if va % 2 ^ 29 = 0 || !pteV e0 || !(pteV e1 && pteLeaf e1) then (h, true)
  else
    match h.allocRegion none 0x10000 with
    | (_, none) => (h, false)
    | (h, some t) => ((h.poke t (((List.range 8192).map (fun i => natLE 8 (e1 + i * 0x10000))).flatten)).writePte p1 (1 + t), true)

/-- A range taken out of a list of ranges (base, size). -/
def cutRange (l : List (Nat × Nat)) (a n : Nat) : List (Nat × Nat) :=
  (l.map (fun m => ([(m.1, min (m.1 + m.2) a - m.1), (max m.1 (a + n), m.1 + m.2 - max m.1 (a + n))]).filter (·.2 ≠ 0))).flatten

/-- MEM_UNMAP (R450): acknowledged when the invalidation completes. -/
def cmdMemUnmap (h : Hw) (ch : Nat) (a : List Nat) (_ : Bytes) : Done :=
  match a with
  | [va, n] =>
    let pages := if h.mmuRoot = 0 then [] else h.pagesIn (pageFuel n) va n
    h.checked [(va % 0x10000 ≠ 0 || n % 0x10000 ≠ 0 || n = 0 || 2 ^ 52 < va + n, rcPARAM),
      (!pages.any (fun g => !h.objsAt g.1 g.2.2), rcNOTFOUND), (h.objsAt va n, rcCONFLICT)] (fun h =>
        match h.splitLeaf va with
        | (_, false) => h.no rcNORESOURCE
        | (h1, true) =>
          match h1.splitLeaf (va + n) with
          | (_, false) => h.no rcNORESOURCE
          | (h2, true) =>
            let h := h2.unmapRange (pageFuel n) va n
            let m := pages.foldl (fun m g => match g.2.1 with
              | some pa => cutRange m pa g.2.2
              | none => m) h.spad.mapped
            (({ h with spad := { h.spad with mapped := m } } : Hw).invalStart ⟨va / 0x10000, n / 0x10000, false, some ch⟩, none))
  | _ => h.no rcPARAM

/-! ### Windows and lent ranges -/

/-- A directly cabled peer in Solo profile: another package of the board (R335, R350). -/
def Hw.cabled (h : Hw) (chip : Nat) : Bool := h.flag F.TOPO_VALID && chip / 16 = h.myChip / 16 && chip ≠ h.myChip

/-- MEM_PEER_WINDOW (R273). -/
def cmdMemPeerWindow (h : Hw) (_ : Nat) (a : List Nat) (_ : Bytes) : Done :=
  match a with
  | [w, chip, base, n] => h.checked [(4095 < w || (n ≠ 0 && (32767 < chip || spadBase < base + n)), rcPARAM), (n ≠ 0 && h.solo && !h.cabled chip, rcPROFILE)] (fun h =>
      (if n = 0 then ((h.set (F.PW_CHIP w) 0).set (F.PW_BASE w) 0).set (F.PW_SIZE w) 0
       else ((h.set (F.PW_CHIP w) chip).set (F.PW_BASE w) base).set (F.PW_SIZE w) n).ok)
  | _ => h.no rcPARAM

/-- MEM_HOST_WINDOW (R274). -/
def cmdMemHostWindow (h : Hw) (_ : Nat) (a : List Nat) (_ : Bytes) : Done :=
  match a with
  | [w, base, n] => h.checked [(4095 < w || 2 ^ 64 < base + n, rcPARAM), (h.solo, rcPROFILE)] (fun h =>
      (if n = 0 then (h.set (F.HW_PCIE_BASE w) 0).set (F.HW_SIZE w) 0 else (h.set (F.HW_PCIE_BASE w) base).set (F.HW_SIZE w) n).ok)
  | _ => h.no rcPARAM

/-- MEM_LEND (R450). -/
def cmdMemLend (h : Hw) (_ : Nat) (a : List Nat) (_ : Bytes) : Done :=
  match a with
  | [i, chip, wr, base, n] =>
    let lining := h.flag F.GUEST_VALID && (List.range 16).any (fun s => base < s * stackSize + h.liningExt && s * stackSize < base + n)
    h.checked [(255 < i || 1 < wr || (n ≠ 0 && (32767 < chip || spadBase + 4 * panelSize < base + n)), rcPARAM), (n ≠ 0 && lining, rcCONFLICT)] (fun h =>
      (if n = 0 then (((h.set (F.LEND_WR i) 0).set (F.LEND_CHIP i) 0).set (F.LEND_BASE i) 0).set (F.LEND_SIZE i) 0
       else (((h.set (F.LEND_WR i) wr).set (F.LEND_CHIP i) chip).set (F.LEND_BASE i) base).set (F.LEND_SIZE i) n).ok)
  | _ => h.no rcPARAM

/-- MEM_INVAL (R271): acknowledged when the invalidation completes. -/
def cmdMemInval (h : Hw) (ch : Nat) (a : List Nat) (_ : Bytes) : Done :=
  let page := a.getD 0 0
  let n := a.getD 1 0
  h.checked [(2 ^ 36 ≤ page, rcPARAM)] (fun h => (h.invalStart ⟨page, n, n = 0xFFFFFFFF, some ch⟩, none))

/-- MEM_FAULT_RESP (R292). -/
def cmdMemFaultResp (h : Hw) (_ : Nat) (a : List Nat) (_ : Bytes) : Done :=
  let act := a.getD 1 0
  h.checked [(act ≠ 1 && act ≠ 2, rcPARAM)] (fun h =>
    let (h, r) := h.respond (a.getD 0 0) (act = 1)
    h.okWith [u8 r])

end Sys2Proof.Machine
end

