-- ==== Sys2Proof/Machine/GrpSnap.lean ====
section
/-!
DEFINITION. Machine/GrpSnap.lean: the SNAP group (R397, R398, R405 to R410, R436, R452, R453).
-/

namespace Sys2Proof.Machine

/-- SNAP_SET_BASE (R392, R437). -/
def cmdSnapSetBase (h : Hw) (_ : Nat) (a : List Nat) (_ : Bytes) : Done :=
  let v := a.getD 0 0
  h.checked [(v % 8192 ≠ 0 || 2 ^ 52 ≤ v, rcPARAM), (h.flag F.BAST_CFG_ENABLE, rcSTATE)] (fun h => (h.set F.SET_BASE v).ok)

/-- Whether an object, a firmware region or a mapping lies in the extents of a Lining of a size (R397). -/
def Hw.extentsUsed (h : Hw) (frac : Nat) : Bool :=
  let e := 2 ^ (32 + frac)
  let meets (lo hi : Nat) : Bool := (List.range 16).any (fun s => lo < s * stackSize + e && s * stackSize < hi)
  h.regions.any (fun r => meets r.1 r.2) || (h.objRanges 1 65536).any (fun r => meets r.1 r.2)

/-- SNAP_LEND (R397): the Lining takes the size that the command gives. -/
def cmdSnapLend (h : Hw) (_ : Nat) (a : List Nat) (_ : Bytes) : Done :=
  let guest := a.getD 0 0
  let frac := a.getD 1 0
  h.checked [(32767 < guest || 2 < frac, rcPARAM), (h.flag F.GUEST_VALID, rcCONFLICT),
    ((List.range 16).any (fun s => h.get (F.STK_STATE s) ≠ 2), rcSTATE), (h.extentsUsed frac, rcNORESOURCE)] (fun h =>
      (((h.set F.LINING_FRAC frac).set F.GUEST_CHIP guest).set F.GUEST_VALID 1).ok)

/-- SNAP_WITHDRAW (R397): the successor that was named goes with the Lining. -/
def cmdSnapWithdraw (h : Hw) (_ : Nat) (_ : List Nat) (_ : Bytes) : Done :=
  h.checked [(!h.flag F.GUEST_VALID, rcSTATE)] (fun h => ((h.set F.GUEST_VALID 0).set F.SUCC_VALID 0).ok)

/-- SNAP_SUCCESSOR (R397). -/
def cmdSnapSuccessor (h : Hw) (_ : Nat) (a : List Nat) (_ : Bytes) : Done :=
  h.checked [(32767 < a.getD 0 0, rcPARAM), (!h.flag F.GUEST_VALID, rcSTATE)] (fun h => ((h.set F.SUCC_CHIP (a.getD 0 0)).set F.SUCC_VALID 1).ok)

/-- Set a slot block from a commit record read outside: VALID with its set and epoch, or not (R405). What the record holds is open. -/
def Hw.slotRead (h : Hw) (n site : Nat) : Hw :=
  if h.choice site then ((h.set (F.SLOT_STATE n) 2).set (F.SLOT_SETID n) (h.free (site + 1))).set (F.SLOT_EPOCH n) (h.free (site + 2))
  else h.set (F.SLOT_STATE n) (if h.choice (site + 3) then 0 else 3)

/-- Whether a chip can be reached (R351): it is in the peer table, neither DEAD nor without a route. -/
def Hw.peerReach (h : Hw) (chip : Nat) : Bool :=
  let e := h.get (F.PEER_ENTRY (h.get (F.CHIP_MAP chip)))
  bitOf e 63 && bitsOf e 55 40 = chip && !h.peerGone chip

/-- SNAP_BIND_BUDDY (R398, R453). Whether the buddy lends a Lining to this chip is outside the part. -/
def cmdSnapBindBuddy (h : Hw) (_ : Nat) (a : List Nat) (_ : Bytes) : Done :=
  match a with
  | [chip, frac, bases] =>
    h.checked [(32767 < chip || 2 < frac || (List.range 16).any (fun i => 2 ^ 52 ≤ elemLE 8 i bases), rcPARAM), (h.bast.cap.isSome, rcSTATE),
      (!h.peerReach chip || h.choice 9900, rcNOTFOUND)] (fun h =>
        let h := ((h.set F.BUDDY_VALID 1).set F.BUDDY_CHIP chip).set F.BUDDY_FRAC frac
        let h := (List.range 16).foldl (fun h i => h.set (F.BUDDY_BASE i) (elemLE 8 i bases)) h
        ((h.slotRead 0 9901).slotRead 1 9911).ok)
  | _ => h.no rcPARAM

/-- Whether a range lies in one firmware region. -/
def Hw.inOneRegion (h : Hw) (a n : Nat) : Bool := h.regions.any (fun g => g.1 ≤ a && a + n ≤ g.2)

/-- SNAP_BIND_NVME (R407, R453): submission entries of 64 bytes, completion entries of 16 (log entry 58). -/
def cmdSnapBindNvme (h : Hw) (_ : Nat) (a : List Nat) (_ : Bytes) : Done :=
  match a with
  | [sq, cq, sqdb, cqdb, nsid, qid, depth, lba0, lba1, blocks] =>
    h.checked [(!(h.inOneRegion sq (64 * 2 ^ min depth 16) && h.inOneRegion cq (16 * 2 ^ min depth 16)) || 16 < depth, rcPARAM), (h.bast.cap.isSome, rcSTATE)] (fun h =>
      let h := (((h.set F.NVME_VALID 1).set F.NVME_DEPTH_LOG2 depth).set F.NVME_QID qid).set F.NVME_NSID nsid
      let h := ([sq, cq, sqdb, cqdb, lba0, lba1, blocks].zipIdx).foldl (fun h x => h.set (F.NVME_WORD x.2) x.1) h
      ((h.slotRead 2 9921).slotRead 3 9931).ok)
  | _ => h.no rcPARAM

/-- SNAP_SLOTS. -/
def cmdSnapSlots (h : Hw) (_ : Nat) (_ : List Nat) (_ : Bytes) : Done :=
  h.okWith (((List.range 4).map (fun n => [u8 (h.get (F.SLOT_STATE n)), u16 (h.get (F.SLOT_SETID n)), u64 (h.get (F.SLOT_EPOCH n))])).flatten)

/-- SNAP_UNBIND (R453): a capture that runs on the target aborts with reason UNBOUND. -/
def cmdSnapUnbind (h : Hw) (_ : Nat) (a : List Nat) (_ : Bytes) : Done :=
  let t := a.getD 0 0
  h.checked [(1 < t, rcPARAM)] (fun h =>
    let on := match h.bast.cap with
      | some k => k.nvme == (t == 1)
      | none => false
    let h := if on then h.snapAbort 4 else h
    (h.set (if t = 0 then F.BUDDY_VALID else F.NVME_VALID) 0).ok)

/-- SNAP_BUDDY_LOST. -/
def cmdSnapBuddyLost (h : Hw) (_ : Nat) (_ : List Nat) (_ : Bytes) : Done :=
  h.checked [(!h.flag F.BUDDY_VALID, rcSTATE)] (fun h => h.buddyLost.ok)

/-- RESTORE_BUSY (R410). -/
def Hw.restoreBusy (h : Hw) : Bool :=
  !h.flag F.BAST_CFG_ENABLE || h.flag F.TRAIN_CFG_ENABLE || h.flag F.SHUTTLE_CFG_ENABLE || !h.shut.ctxs.isEmpty || h.bast.cap.isSome

/-- Whether the source of a restore cannot be reached (R411). -/
def Hw.sourceGone (h : Hw) (r : Restore) : Bool :=
  if r.source = 2 then !h.targetBound true || !h.flag F.LINK_UP else (r.source = 0 && !h.targetBound false) || h.peerGone r.chip

/-- SNAP_RESTORE (R410, R411): the data arrive with RESTORE_PULL_DONE. -/
def cmdSnapRestore (h : Hw) (_ : Nat) (a : List Nat) (_ : Bytes) : Done :=
  match a with
  | [src, slot, policy, mode, chip, frac, win, bases] =>
    h.checked [(2 < src || 2 < slot || 2 < policy || 2 < mode || (4095 < win && win ≠ 0xFFFF) ||
        (src = 1 && (32767 < chip || 2 < frac || (List.range 16).any (fun i => 2 ^ 52 ≤ elemLE 8 i bases))), rcPARAM),
      (h.bast.restore.isSome, rcBUSY), (h.restoreBusy, 0x118)] (fun h =>
        let (h, op) := h.newOp
        let realign := if policy = 2 then h.flag F.REALIGN_DEF else policy = 1
        let r : Restore := ⟨src, if src = 0 then h.get F.BUDDY_CHIP else chip, slot, realign, if win = 0xFFFF then none else some win, mode = 1, mode = 2, op⟩
        let h := (h.set F.RESTORE_STATUS 1).set F.BAST_STATE (if mode = 2 then 5 else 4)
        let h := { h with bast := { h.bast with restore := some r } }
        (if h.sourceGone r then h.restoreFail 0x17 0 0 else h).okOp op)
  | _ => h.no rcPARAM

end Sys2Proof.Machine
end

