-- ==== Sys2Proof/Machine/Mailbox.lean ====
section
/-!
DEFINITION. Machine/Mailbox.lean: the commands of Roino by opcode (R441 to R457), their execution (R432 to R438, R561, R563), the mailbox doorbells
and the transport messages (R425, R430, R431), register writes, which may send a command, and the end of an invalidation (R271).
-/

namespace Sys2Proof.Machine

/-! ### The opcode table -/

/-- A command for secure and host channels. -/
def cmdSH (lay : Lay) (run : Hw → Nat → List Nat → Bytes → Done) : Cmd := ⟨true, true, false, false, lay, none, run⟩

/-- A command for secure, host and internal channels to Thimble. -/
def cmdSHI (lay : Lay) (run : Hw → Nat → List Nat → Bytes → Done) : Cmd := ⟨true, true, true, false, lay, none, run⟩

/-- A command for secure channels. -/
def cmdS (lay : Lay) (run : Hw → Nat → List Nat → Bytes → Done) : Cmd := ⟨true, false, false, false, lay, none, run⟩

/-- A command for host channels. -/
def cmdH (lay : Lay) (run : Hw → Nat → List Nat → Bytes → Done) : Cmd := ⟨false, true, false, false, lay, none, run⟩

/-- A command that Sage serves. -/
def cmdSage (host : Bool) (lay : Lay) (run : Hw → Nat → List Nat → Bytes → Done) : Cmd := ⟨true, host, false, host, lay, none, relayed run⟩

/-- Groups 0x01 to 0x04 (R441, R443 to R445). -/
def cmdLow (op : Nat) : Option Cmd :=
  match op with
  | 0x0100 => some (cmdSHI [] cmdDevIdentify)
  | 0x0101 => some (cmdSHI [] cmdDevStatus)
  | 0x0102 => some (cmdSH [(1, 1)] cmdDevReset)
  | 0x0103 => some ⟨true, true, false, false, [(4, 1), (2, 1), (2, 1)], some 1, cmdDevWriteIn⟩
  | 0x0104 => some (cmdSH [(4, 1)] cmdDevReadOut)
  | 0x0200 => some (cmdSH [(1, 1)] cmdImgInfo)
  | 0x0201 => some (cmdSH [(1, 1)] cmdImgErase)
  | 0x0202 => some ⟨true, true, false, false, [(1, 1), (1, 1), (2, 1), (4, 1)], some 2, cmdImgWrite⟩
  | 0x0203 => some (cmdSH [(1, 1), (1, 3), (4, 1)] cmdImgCommit)
  | 0x0204 => some (cmdSH [(2, 1)] cmdImgCfgGet)
  | 0x0205 => some ⟨true, false, false, false, [(2, 1), (2, 1), (4, 1)], some 1, cmdImgCfgSet⟩
  | 0x0206 => some (cmdS [(2, 1)] cmdImgCfgDefault)
  | 0x0300 => some (cmdSHI [] cmdPwrStatus)
  | 0x0301 => some (cmdSH [(1, 1)] cmdPwrClockCap)
  | 0x0302 => some (cmdS [] cmdPwrStandby)
  | 0x0303 => some (cmdS [(1, 1), (1, 1)] cmdPwrDomain)
  | 0x0400 => some (cmdSH [(4, 4), (4, 1)] cmdJobSetKey)
  | 0x0401 => some (cmdSH [(4, 1), (4, 1), (8, 1), (1, 1)] cmdJobSetBinding)
  | 0x0402 => some (cmdSH [(1, 1), (1, 1), (8, 1), (8, 1), (8, 1), (8, 1), (8, 1)] cmdJobSetBases)
  | 0x0403 => some (cmdSH [(4, 1)] cmdJobEnable)
  | 0x0404 => some (cmdSH [(4, 1), (1, 1)] cmdJobQuiesce)
  | 0x0405 => some (cmdSH [(2, 1)] cmdJobTapeGet)
  | 0x0406 => some (cmdSH [(2, 1), (1, 1), (4, 1)] cmdJobTapeSet)
  | _ => none

/-- Groups 0x05 to 0x08 (R447 to R449, R451). -/
def cmdMid (op : Nat) : Option Cmd :=
  match op with
  | 0x0500 => some (cmdS [(1, 1), (1, 1), (1, 1)] cmdTopoSetCoord)
  | 0x0501 => some (cmdSH [(8, 1), (4, 1)] cmdTopoLoadPlan)
  | 0x0502 => some (cmdSHI [] cmdTopoStatus)
  | 0x0503 => some (cmdSH [(2, 1)] cmdTopoPeer)
  | 0x0600 => some (cmdSH [(8, 1), (8, 1)] cmdLinkEnable)
  | 0x0601 => some (cmdSHI [(1, 1)] cmdLinkStatus)
  | 0x0602 => some (cmdS [(1, 1)] cmdLinkLaserFactory)
  | 0x0700 => some (cmdSH [(1, 1), (1, 1)] cmdMemRetrain)
  | 0x0701 => some (cmdSH [(1, 1), (1, 1), (1, 1), (1, 1), (1, 1), (1, 1)] cmdMemMargin)
  | 0x0702 => some (cmdSH [(1, 1), (1, 1), (1, 1)] cmdMemMarginResult)
  | 0x0703 => some (cmdSH [(1, 1), (1, 1)] cmdMemStackState)
  | 0x0704 => some (cmdSH [(1, 1), (1, 1)] cmdMemMapout)
  | 0x0705 => some (cmdS [(1, 1)] cmdMemMapoutClear)
  | 0x0706 => some (cmdSH [(1, 1), (1, 1), (8, 1)] cmdMemRegion)
  | 0x0707 => some (cmdSH [(8, 1), (8, 1), (8, 1), (2, 1), (1, 1), (1, 1)] cmdMemMap)
  | 0x0708 => some (cmdSH [(8, 1), (8, 1)] cmdMemUnmap)
  | 0x0709 => some (cmdSH [(2, 1), (2, 1), (8, 1), (8, 1)] cmdMemPeerWindow)
  | 0x070A => some (cmdH [(2, 1), (8, 1), (8, 1)] cmdMemHostWindow)
  | 0x070B => some (cmdSH [(2, 1), (2, 1), (1, 1), (8, 1), (8, 1)] cmdMemLend)
  | 0x070C => some (cmdSH [(8, 1), (4, 1)] cmdMemInval)
  | 0x070D => some (cmdSH [(2, 1), (1, 1)] cmdMemFaultResp)
  | 0x0800 => some (cmdSH [(2, 1), (1, 1)] cmdQCtxCtl)
  | 0x0801 => some (cmdSH [(1, 1), (1, 1)] cmdQQueueCtl)
  | _ => none

/-- Groups 0x09 to 0x0D (R452, R454 to R457). -/
def cmdHigh (op : Nat) : Option Cmd :=
  match op with
  | 0x0900 => some (cmdSH [(8, 1)] cmdSnapSetBase)
  | 0x0901 => some (cmdSH [(2, 1), (1, 1)] cmdSnapLend)
  | 0x0902 => some (cmdSH [] cmdSnapWithdraw)
  | 0x0903 => some (cmdSH [(2, 1)] cmdSnapSuccessor)
  | 0x0904 => some (cmdSH [(2, 1), (1, 1), (8, 16)] cmdSnapBindBuddy)
  | 0x0905 => some (cmdSH [(8, 1), (8, 1), (8, 1), (8, 1), (4, 1), (2, 1), (1, 1), (8, 1), (8, 1), (8, 1)] cmdSnapBindNvme)
  | 0x0906 => some (cmdSHI [] cmdSnapSlots)
  | 0x0907 => some (cmdSH [(1, 1)] cmdSnapUnbind)
  | 0x0908 => some (cmdSH [] cmdSnapBuddyLost)
  | 0x0909 => some (cmdSH [(1, 1), (1, 1), (1, 1), (1, 1), (2, 1), (1, 1), (2, 1), (8, 16)] cmdSnapRestore)
  | 0x0A00 => some (cmdSH [] cmdSecGetId)
  | 0x0A01 => some (cmdSH [(1, 32), (4, 1)] cmdSecQuote)
  | 0x0A02 => some (cmdSH [(4, 1)] cmdSecEnrol)
  | 0x0B00 => some (cmdSHI [(4, 4), (4, 1), (4, 1), (2, 1), (2, 1), (4, 1), (8, 1)] cmdDiagChervil)
  | 0x0B01 => some (cmdSHI [(4, 1), (1, 1)] cmdDiagRegRead)
  | 0x0B02 => some (cmdS [(4, 1), (1, 1), (8, 1)] cmdDiagRegWrite)
  | 0x0B03 => some (cmdSH [(2, 1)] cmdDiagEngineMap)
  | 0x0B04 => some (cmdSH [(2, 1)] cmdDiagLoopback)
  | 0x0C00 => some (cmdH [(8, 1), (1, 1), (1, 1)] cmdEvtRing)
  | 0x0C01 => some (cmdSHI [(4, 1), (1, 1)] cmdEvtRead)
  | 0x0C02 => some (cmdSH [(1, 1), (1, 1), (4, 1)] cmdEvtFilter)
  | 0x0D00 => some (cmdSage true [(1, 1), (1, 1)] cmdSageSensors)
  | 0x0D01 => some (cmdSage true [] cmdSagePins)
  | 0x0D02 => some (cmdSage false [(1, 1), (1, 1), (2, 1)] cmdSageSetThresh)
  | 0x0D03 => some (cmdSage true [(1, 1)] cmdSageLaser)
  | _ => none

/-- The command of an opcode (R440). -/
def cmdOf (op : Nat) : Option Cmd := if op < 0x500 then cmdLow op else if op < 0x900 then cmdMid op else cmdHigh op

/-- Whether a command is permitted on a channel (R440). -/
def Cmd.on (c : Cmd) (ch : Nat) : Bool := if ch < 4 then c.s else if ch < 12 then c.h else if ch < 14 then c.g else c.i

/-- The opcodes that recovery executes (R438). -/
def inRecovery (op : Nat) : Bool := op = 0x0100 || op = 0x0101 || op / 256 = 2 || op = 0x0C01 || op = 0x0B01

/-! ### Execution -/

/-- A request's header fields. -/
def reqOp (b : Bytes) : Nat := fieldLE b 0 2
def reqSeq (b : Bytes) : Nat := fieldLE b 2 2
def reqLen (b : Bytes) : Nat := fieldLE b 6 2

/-- The payload of a request. -/
def reqPayload (b : Bytes) : Bytes := (b.drop 16).take (reqLen b)

/-- What a request's fields give, by the codes of R561 in order: a command with its fields and trailing bytes, or the code. -/
def judge (recovery : Bool) (ch : Nat) (b : Bytes) : Except Nat (Cmd × List Nat × Bytes) :=
  match cmdOf (reqOp b) with
  | none => .error rcBADOP
  | some c =>
    let p := reqPayload b
    let fixed := laySize c.lay
    let args := layArgs c.lay p
    let n := match c.var with
      | some i => args.getD i 0
      | none => 0
    if recovery && !inRecovery (reqOp b) then .error rcRECOVERY
    else if !c.on ch then .error rcDENIED
    else if 240 < reqLen b || reqLen b ≠ fixed + n then .error rcLENGTH
    else if fieldLE b 4 2 ≠ 0 || leNat ((b.drop 8).take 8) ≠ 0 || layPack c.lay p ≠ p.take fixed then .error rcPARAM
    else .ok (c, args, p.drop fixed)

/-- The acknowledgement (R433): MB_ACK and ASTATE; MSI-X vector 66 for a host channel (R461). -/
def Hw.mbAck (h : Hw) (c seq rc : Nat) : Hw :=
  let h := (((h.set (F.ACK_SEQ c) seq).set (F.MB_RC c) rc).set (F.MB_ASTATE c) 2).set (F.MB_CMDS c) ((h.get (F.MB_CMDS c) + 1) % 2 ^ 32)
  if 4 ≤ c && c ≤ 11 && h.flag F.MB_IRQ_EN then h.msix 66 else h

/-- The bytes of a response (R427): to the request with header b; with REPLAYED or not. -/
def respBytes (b : Bytes) (r : Resp) (replay : Bool) : Bytes :=
  b.take 4 ++ natLE 2 (1 + 2 * replay.toNat + 4 * (decide (r.op ≠ 0)).toNat) ++ natLE 2 r.payload.length ++ natLE 2 r.rc ++ natLE 2 0 ++ natLE 4 r.op ++ r.payload

/-- Put a response into the buffer. -/
def Hw.mbRespond (h : Hw) (c : Nat) (b : Bytes) (r : Resp) (replay : Bool) : Hw :=
  h.updChan c (fun k => { k with buf := respBytes b r replay ++ k.buf.drop (16 + r.payload.length), last := some (b.take (16 + reqLen b), r) })

/-- End the command of a channel with a response (R433). -/
def Hw.mbFinish (h : Hw) (c : Nat) (r : Resp) : Hw :=
  let b := (h.chan c).buf
  (h.mbRespond c b r false).mbAck c (reqSeq b) r.rc

/-- The stored response, if the request is a replay (R434). -/
def Hw.mbReplay (h : Hw) (c : Nat) : Option Resp :=
  let b := (h.chan c).buf
  match (h.chan c).last with
  | some (q, r) => if q = b.take (16 + reqLen b) && reqSeq b = h.get (F.ACK_SEQ c) then some r else none
  | none => none

/-- Execute a channel's command: in recovery any channel but 4 is acknowledged by the AON logic (R438), a replay gives the stored response (R434). -/
def Hw.mbRun (h : Hw) (c : Nat) : Hw :=
  let b := (h.chan c).buf
  if h.flag F.SEC_RECOVERY && c ≠ 4 then h.mbAck c (reqSeq b) rcRECOVERY
  else
    match h.mbReplay c with
    | some r => (h.mbRespond c b r true).mbAck c (reqSeq b) r.rc
    | none =>
      match judge (h.flag F.SEC_RECOVERY) c b with
      | .error rc => h.mbFinish c ⟨rc, [], 0⟩
      | .ok (k, args, tail) =>
        if h.mb.standby then h.mbFinish c ⟨rcSTATE, [], 0⟩
        else
          match k.run h c args tail with
          | (h, some r) => h.mbFinish c r
          | (h, none) => h

/-- A channel's receiver can take a message (R430, R438). -/
def Hw.mbReady (h : Hw) (c : Nat) : Bool := h.domOn domYOKE && (sageChan c || h.flag (F.RX_POWERED c) || h.flag F.SEC_RECOVERY)

/-- Execute the commands that wait, in order (R436). -/
def Hw.mbServe : Nat → Hw → Hw
  | 0, h => h
  | n + 1, h =>
    match h.mb.todo.find? h.mbReady with
    | none => h
    | some c => Hw.mbServe n (({ h with mb := { h.mb with todo := h.mb.todo.filter (· ≠ c) } } : Hw).mbRun c)

/-- Standby begins once no command is busy (R437, R444): every domain but AON powers off. -/
def Hw.mbSettle (h : Hw) : Hw := if h.mb.standby && (List.range 16).all (fun c => !h.mbBusy c) then h.yokeOff else h

/-- What mailbox senders, and BAR2 requests behind MEM_CFG ENABLE, are waiting for happens. -/
def Hw.served (h : Hw) : Hw := (Hw.mbServe 16 h).mbSettle.bar2Go

/-! ### Doorbells and buffers -/

/-- MB_DB_WAKE (R430). -/
def effMbDbWake (c : Nat) (path : Path) (h : Hw) : Hw := if 16 ≤ c then h else (h.access path (0x781000 + 16 * c) 4 0x40000000 false).served

def execMbDbWake (c : Nat) (path : Path) (s : State) : Host.Outcome State Fault Refusal := s.run (effMbDbWake c path)

/-- MB_DB_SEND (R430, R432 to R437). -/
def effMbDbSend (c : Nat) (path : Path) (h : Hw) : Hw := if 16 ≤ c then h else (h.access path (0x781000 + 16 * c) 4 0x80000000 false).served

def execMbDbSend (c : Nat) (path : Path) (s : State) : Host.Outcome State Fault Refusal := s.run (effMbDbSend c path)

/-- MB_BUFFER_WRITE (R431, R435): writes of 4 bytes from an offset of the buffer on. -/
def effMbBufferWrite (c : Nat) (path : Path) (off : Nat) (bytes : Bytes) (h : Hw) : Hw :=
  if 16 ≤ c || off % 4 ≠ 0 || bytes.length % 4 ≠ 0 || 256 < off + bytes.length then h
  else (List.range (bytes.length / 4)).foldl (fun h i => h.access path (0x780000 + 256 * c + off + 4 * i) 4 (fieldLE bytes (4 * i) 4) false) h

def execMbBufferWrite (c : Nat) (path : Path) (off : Nat) (bytes : Bytes) (s : State) : Host.Outcome State Fault Refusal :=
  s.run (effMbBufferWrite c path off bytes)

/-! ### Transport (R425) -/

def rsOK : Nat := 0
def rsOFF : Nat := 1
def rsBUSY : Nat := 2
def rsDENIED : Nat := 3

/-- A transport response. -/
def Hw.transport (h : Hw) (kind rs : Nat) (data : Bytes) : Hw := h.send (.reply (0x80 + kind) ([BitVec.ofNat 8 (0x80 + kind), BitVec.ofNat 8 rs] ++ data))

/-- In recovery channel 4 is carried over MCTP without a session, unless the owner forbids it (R471). -/
def Hw.mctp4 (h : Hw) (c : Nat) : Bool :=
  c = 4 && h.flag F.SEC_RECOVERY && (match h.sec.owner with
    | some r => !bitOf (fieldLE r 6 2) 2
    | none => true)

/-- An established session. -/
def Hw.sessOn (h : Hw) (sid : Nat) : Bool := h.sec.sessions.any (fun x => x.est && x.id = sid)

/-- TRANSPORT_WAKE (R425, R430): served by the AON domain, without a session; refused while a THERMTRIP is latched (R502). -/
def effTransportWake (c : Nat) (h : Hw) : Hw :=
  if !h.domOn domAON then h
  else if (4 ≤ c && !h.mctp4 c) || h.flag F.THERMTRIP_LATCH then h.transport 1 rsDENIED []
  else (h.wake c).transport 1 rsOK []

def execTransportWake (c : Nat) (s : State) : Host.Outcome State Fault Refusal := s.run (effTransportWake c)

/-- A session claims a channel that no session claims (R425). -/
def Hw.claim (h : Hw) (c sid : Nat) : Hw :=
  if c < 4 && (h.chan c).session.isNone then (h.updChan c (fun k => { k with session := some sid })).set (F.MB_SESSION c) 1 else h

/-- A buffer image is written and sent by transport (R425, R431, R435). -/
def Hw.transportSend (h : Hw) (c sid : Nat) (buf : Bytes) : Hw :=
  if !h.domOn domAON then h
  else if 4 ≤ c && !h.mctp4 c then h.transport 2 rsDENIED []
  else if h.mbOff c false then ((h.mbWrite c 0 (padTo 256 buf) false).mbSend c false).transport 2 rsOFF []
  else if !h.mctp4 c && !(h.sessOn sid && ((h.chan c).session.getD sid = sid)) then h.transport 2 rsDENIED []
  else
    let busy := h.mbBusy c
    let h := (((h.claim c sid).mbWrite c 0 (padTo 256 buf) false).mbSend c false)
    h.transport 2 (if busy then rsBUSY else rsOK) []

/-- TRANSPORT_WRITE_SEND. -/
def effTransportWriteSend (c sid : Nat) (buf : Bytes) (h : Hw) : Hw := (h.transportSend c sid buf).served

def execTransportWriteSend (c sid : Nat) (buf : Bytes) (s : State) : Host.Outcome State Fault Refusal := s.run (effTransportWriteSend c sid buf)

/-- TRANSPORT_READ_STATUS (R425): MB_STAT and MB_ACK, served by the AON domain, without a session. -/
def effTransportReadStatus (c : Nat) (h : Hw) : Hw :=
  if !h.domOn domAON then h
  else if 4 ≤ c && !h.mctp4 c then h.transport 3 rsDENIED []
  else h.transport 3 rsOK (natLE 4 ((h.word (0x781000 + 16 * c)).toNat / 2 ^ 32) ++ natLE 4 (h.word (0x781008 + 16 * c)).toNat)

def execTransportReadStatus (c : Nat) (s : State) : Host.Outcome State Fault Refusal := s.run (effTransportReadStatus c)

/-- TRANSPORT_READ_BUFFER (R425, R431): for the session that claims the channel. -/
def effTransportReadBuffer (c sid : Nat) (h : Hw) : Hw :=
  if !h.domOn domAON then h
  else if 4 ≤ c && !h.mctp4 c then h.transport 4 rsDENIED []
  else if h.mbOff c false then h.transport 4 rsOFF []
  else if h.mctp4 c || (h.sessOn sid && (h.chan c).session = some sid) then h.transport 4 rsOK (h.chan c).buf
  else h.transport 4 rsDENIED []

def execTransportReadBuffer (c sid : Nat) (s : State) : Host.Outcome State Fault Refusal := s.run (effTransportReadBuffer c sid)

/-! ### A whole request -/

/-- A request's buffer image. -/
def reqBytes (op seq : Nat) (p : Bytes) : Bytes := natLE 2 op ++ natLE 2 seq ++ natLE 2 0 ++ natLE 2 p.length ++ natLE 8 0 ++ p

/-- The session that uses a secure channel: the one that claims it, else one that is established. -/
def Hw.userOf (h : Hw) (ch : Nat) : Nat :=
  match (h.chan ch).session with
  | some x => x
  | none => ((h.sec.sessions.find? (·.est)).map (·.id)).getD 0

/-- The sender writes a request into a channel's buffer and sends it (R432): by transport on a secure channel, over BAR0 on a host channel or on
the internal path in Solo profile, on the internal path on an internal channel. -/
def Hw.arrive (h : Hw) (op ch seq : Nat) (p : Bytes) : Hw :=
  let b := reqBytes op seq p
  if 16 ≤ ch then h
  else if ch < 4 then h.transportSend ch (h.userOf ch) b
  else
    let path : Path := if ch < 12 && !h.solo then .bar0 else .internal
    match h.gate path (0x780000 + 256 * ch) 4 false with
    | .open_ => (h.mbWrite ch 0 b path.host).mbDoorbell ch 2 path.host
    | .buffer _ => (h.mbWrite ch 0 b path.host).mbDoorbell ch 2 path.host
    | _ => h.access path (0x781000 + 16 * ch) 4 0x80000000 false

/-- A command of Roino: its request arrives, and is executed. -/
def effRoino (op ch seq : Nat) (p : Bytes) (h : Hw) : Hw := (h.arrive op ch seq p).served

/-! ### Register writes and invalidations -/

/-- REGISTER_WRITE (R15, R536 to R543, R546). -/
def effRegisterWrite (path : Path) (off size v : Nat) (h : Hw) : Hw := (h.access path off size v false).served

def execRegisterWrite (path : Path) (off size v : Nat) (s : State) : Host.Outcome State Fault Refusal := s.run (effRegisterWrite path off size v)

def execEvtHeadDb (v : Nat) (s : State) : Host.Outcome State Fault Refusal := s.run (effEvtHeadDb v)

/-- The virtual range of an invalidation. -/
def Inval.range (x : Inval) : Nat × Nat := if x.all then (0, 2 ^ 52) else (x.page * 0x10000, (x.page + x.n) * 0x10000)

/-- An access translated in the range has not completed: of an array or vector instruction at work, or of the running capture (R271). -/
def Hw.invalWaits (h : Hw) (g : Nat × Nat) : Bool :=
  h.shut.ctxs.any (fun k => k.2.window.any (fun e => e.ph == .issued && (e.engine.map (fun n => decide (n < 256))).getD false &&
    (e.reads ++ e.writes).any (fun r => overlaps r g))) ||
  (match h.bast.cap with
    | some k => k.stage = 2 && k.vas.any (fun r => overlaps r g)
    | none => false)

/-- Accesses that were held behind a busy trigger go on in order (R540); one that must wait again holds those behind it. -/
def Hw.heldGo (h : Hw) : Hw := h.heldRt.foldl (fun h x => h.access x.path x.off x.size x.value x.read) { h with heldRt := [] }

/-- INVALIDATION_DONE (R271): the oldest invalidation completes. No cache holds an entry for its range any more, and a MEM_INVAL or MEM_UNMAP that
waited for it is acknowledged. -/
def effInvalidationDone (h : Hw) : Hw :=
  match h.xl.inval with
  | [] => h
  | x :: rest =>
    if h.invalWaits x.range then h
    else
      let h := ({ h with xl := { h.xl with inval := rest } } : Hw).invalRange x.range.1 (x.range.2 - x.range.1)
      let h := h.set F.INVAL_BUSY (!rest.isEmpty).toNat
      let h := match x.chan with
        | some c => if h.mbBusy c then h.mbFinish c ⟨rcOK, [], 0⟩ else h
        | none => h
      h.heldGo.served

def execInvalidationDone (s : State) : Host.Outcome State Fault Refusal := s.run effInvalidationDone

/-! ### The commands of R441 to R457 -/

/-- DEV_IDENTIFY. -/
def effDevIdentify (ch seq : Nat) (p : Bytes) (h : Hw) : Hw := effRoino 0x0100 ch seq p h

def execDevIdentify (ch seq : Nat) (p : Bytes) (s : State) : Host.Outcome State Fault Refusal := s.run (effDevIdentify ch seq p)

/-- DEV_STATUS. -/
def effDevStatus (ch seq : Nat) (p : Bytes) (h : Hw) : Hw := effRoino 0x0101 ch seq p h

def execDevStatus (ch seq : Nat) (p : Bytes) (s : State) : Host.Outcome State Fault Refusal := s.run (effDevStatus ch seq p)

/-- DEV_RESET_PART. -/
def effDevResetPart (ch seq : Nat) (p : Bytes) (h : Hw) : Hw := effRoino 0x0102 ch seq (0 :: p.drop 1) h

def execDevResetPart (ch seq : Nat) (p : Bytes) (s : State) : Host.Outcome State Fault Refusal := s.run (effDevResetPart ch seq p)

/-- DEV_RESET_JOB. -/
def effDevResetJob (ch seq : Nat) (p : Bytes) (h : Hw) : Hw := effRoino 0x0102 ch seq (1 :: p.drop 1) h

def execDevResetJob (ch seq : Nat) (p : Bytes) (s : State) : Host.Outcome State Fault Refusal := s.run (effDevResetJob ch seq p)

/-- DEV_WRITE_IN. -/
def effDevWriteIn (ch seq : Nat) (p : Bytes) (h : Hw) : Hw := effRoino 0x0103 ch seq p h

def execDevWriteIn (ch seq : Nat) (p : Bytes) (s : State) : Host.Outcome State Fault Refusal := s.run (effDevWriteIn ch seq p)

/-- DEV_READ_OUT. -/
def effDevReadOut (ch seq : Nat) (p : Bytes) (h : Hw) : Hw := effRoino 0x0104 ch seq p h

def execDevReadOut (ch seq : Nat) (p : Bytes) (s : State) : Host.Outcome State Fault Refusal := s.run (effDevReadOut ch seq p)

/-- IMG_INFO. -/
def effImgInfo (ch seq : Nat) (p : Bytes) (h : Hw) : Hw := effRoino 0x0200 ch seq p h

def execImgInfo (ch seq : Nat) (p : Bytes) (s : State) : Host.Outcome State Fault Refusal := s.run (effImgInfo ch seq p)

/-- IMG_ERASE. -/
def effImgErase (ch seq : Nat) (p : Bytes) (h : Hw) : Hw := effRoino 0x0201 ch seq p h

def execImgErase (ch seq : Nat) (p : Bytes) (s : State) : Host.Outcome State Fault Refusal := s.run (effImgErase ch seq p)

/-- IMG_WRITE. -/
def effImgWrite (ch seq : Nat) (p : Bytes) (h : Hw) : Hw := effRoino 0x0202 ch seq p h

def execImgWrite (ch seq : Nat) (p : Bytes) (s : State) : Host.Outcome State Fault Refusal := s.run (effImgWrite ch seq p)

/-- IMG_COMMIT. -/
def effImgCommit (ch seq : Nat) (p : Bytes) (h : Hw) : Hw := effRoino 0x0203 ch seq p h

def execImgCommit (ch seq : Nat) (p : Bytes) (s : State) : Host.Outcome State Fault Refusal := s.run (effImgCommit ch seq p)

/-- IMG_CFG_GET. -/
def effImgCfgGet (ch seq : Nat) (p : Bytes) (h : Hw) : Hw := effRoino 0x0204 ch seq p h

def execImgCfgGet (ch seq : Nat) (p : Bytes) (s : State) : Host.Outcome State Fault Refusal := s.run (effImgCfgGet ch seq p)

/-- IMG_CFG_SET. -/
def effImgCfgSet (ch seq : Nat) (p : Bytes) (h : Hw) : Hw := effRoino 0x0205 ch seq p h

def execImgCfgSet (ch seq : Nat) (p : Bytes) (s : State) : Host.Outcome State Fault Refusal := s.run (effImgCfgSet ch seq p)

/-- IMG_CFG_DEFAULT. -/
def effImgCfgDefault (ch seq : Nat) (p : Bytes) (h : Hw) : Hw := effRoino 0x0206 ch seq p h

def execImgCfgDefault (ch seq : Nat) (p : Bytes) (s : State) : Host.Outcome State Fault Refusal := s.run (effImgCfgDefault ch seq p)

/-- PWR_STATUS. -/
def effPwrStatus (ch seq : Nat) (p : Bytes) (h : Hw) : Hw := effRoino 0x0300 ch seq p h

def execPwrStatus (ch seq : Nat) (p : Bytes) (s : State) : Host.Outcome State Fault Refusal := s.run (effPwrStatus ch seq p)

/-- PWR_CLOCK_CAP. -/
def effPwrClockCap (ch seq : Nat) (p : Bytes) (h : Hw) : Hw := effRoino 0x0301 ch seq p h

def execPwrClockCap (ch seq : Nat) (p : Bytes) (s : State) : Host.Outcome State Fault Refusal := s.run (effPwrClockCap ch seq p)

/-- PWR_STANDBY. -/
def effPwrStandby (ch seq : Nat) (p : Bytes) (h : Hw) : Hw := effRoino 0x0302 ch seq p h

def execPwrStandby (ch seq : Nat) (p : Bytes) (s : State) : Host.Outcome State Fault Refusal := s.run (effPwrStandby ch seq p)

/-- PWR_DOMAIN. -/
def effPwrDomain (ch seq : Nat) (p : Bytes) (h : Hw) : Hw := effRoino 0x0303 ch seq p h

def execPwrDomain (ch seq : Nat) (p : Bytes) (s : State) : Host.Outcome State Fault Refusal := s.run (effPwrDomain ch seq p)

/-- JOB_SET_KEY. -/
def effJobSetKey (ch seq : Nat) (p : Bytes) (h : Hw) : Hw := effRoino 0x0400 ch seq p h

def execJobSetKey (ch seq : Nat) (p : Bytes) (s : State) : Host.Outcome State Fault Refusal := s.run (effJobSetKey ch seq p)

/-- JOB_SET_BINDING. -/
def effJobSetBinding (ch seq : Nat) (p : Bytes) (h : Hw) : Hw := effRoino 0x0401 ch seq p h

def execJobSetBinding (ch seq : Nat) (p : Bytes) (s : State) : Host.Outcome State Fault Refusal := s.run (effJobSetBinding ch seq p)

/-- JOB_SET_BASES. -/
def effJobSetBases (ch seq : Nat) (p : Bytes) (h : Hw) : Hw := effRoino 0x0402 ch seq p h

def execJobSetBases (ch seq : Nat) (p : Bytes) (s : State) : Host.Outcome State Fault Refusal := s.run (effJobSetBases ch seq p)

/-- JOB_ENABLE. -/
def effJobEnable (ch seq : Nat) (p : Bytes) (h : Hw) : Hw := effRoino 0x0403 ch seq p h

def execJobEnable (ch seq : Nat) (p : Bytes) (s : State) : Host.Outcome State Fault Refusal := s.run (effJobEnable ch seq p)

/-- JOB_QUIESCE. -/
def effJobQuiesce (ch seq : Nat) (p : Bytes) (h : Hw) : Hw := effRoino 0x0404 ch seq p h

def execJobQuiesce (ch seq : Nat) (p : Bytes) (s : State) : Host.Outcome State Fault Refusal := s.run (effJobQuiesce ch seq p)

/-- JOB_TAPE_GET. -/
def effJobTapeGet (ch seq : Nat) (p : Bytes) (h : Hw) : Hw := effRoino 0x0405 ch seq p h

def execJobTapeGet (ch seq : Nat) (p : Bytes) (s : State) : Host.Outcome State Fault Refusal := s.run (effJobTapeGet ch seq p)

/-- JOB_TAPE_SET. -/
def effJobTapeSet (ch seq : Nat) (p : Bytes) (h : Hw) : Hw := effRoino 0x0406 ch seq p h

def execJobTapeSet (ch seq : Nat) (p : Bytes) (s : State) : Host.Outcome State Fault Refusal := s.run (effJobTapeSet ch seq p)

/-- TOPO_SET_COORD. -/
def effTopoSetCoord (ch seq : Nat) (p : Bytes) (h : Hw) : Hw := effRoino 0x0500 ch seq p h

def execTopoSetCoord (ch seq : Nat) (p : Bytes) (s : State) : Host.Outcome State Fault Refusal := s.run (effTopoSetCoord ch seq p)

/-- TOPO_LOAD_PLAN. -/
def effTopoLoadPlan (ch seq : Nat) (p : Bytes) (h : Hw) : Hw := effRoino 0x0501 ch seq p h

def execTopoLoadPlan (ch seq : Nat) (p : Bytes) (s : State) : Host.Outcome State Fault Refusal := s.run (effTopoLoadPlan ch seq p)

/-- TOPO_STATUS. -/
def effTopoStatus (ch seq : Nat) (p : Bytes) (h : Hw) : Hw := effRoino 0x0502 ch seq p h

def execTopoStatus (ch seq : Nat) (p : Bytes) (s : State) : Host.Outcome State Fault Refusal := s.run (effTopoStatus ch seq p)

/-- TOPO_PEER. -/
def effTopoPeer (ch seq : Nat) (p : Bytes) (h : Hw) : Hw := effRoino 0x0503 ch seq p h

def execTopoPeer (ch seq : Nat) (p : Bytes) (s : State) : Host.Outcome State Fault Refusal := s.run (effTopoPeer ch seq p)

/-- LINK_ENABLE. -/
def effLinkEnable (ch seq : Nat) (p : Bytes) (h : Hw) : Hw := effRoino 0x0600 ch seq p h

def execLinkEnable (ch seq : Nat) (p : Bytes) (s : State) : Host.Outcome State Fault Refusal := s.run (effLinkEnable ch seq p)

/-- LINK_STATUS. -/
def effLinkStatus (ch seq : Nat) (p : Bytes) (h : Hw) : Hw := effRoino 0x0601 ch seq p h

def execLinkStatus (ch seq : Nat) (p : Bytes) (s : State) : Host.Outcome State Fault Refusal := s.run (effLinkStatus ch seq p)

/-- LINK_LASER_FACTORY. -/
def effLinkLaserFactory (ch seq : Nat) (p : Bytes) (h : Hw) : Hw := effRoino 0x0602 ch seq p h

def execLinkLaserFactory (ch seq : Nat) (p : Bytes) (s : State) : Host.Outcome State Fault Refusal := s.run (effLinkLaserFactory ch seq p)

/-- MEM_RETRAIN. -/
def effMemRetrain (ch seq : Nat) (p : Bytes) (h : Hw) : Hw := effRoino 0x0700 ch seq p h

def execMemRetrain (ch seq : Nat) (p : Bytes) (s : State) : Host.Outcome State Fault Refusal := s.run (effMemRetrain ch seq p)

/-- MEM_MARGIN. -/
def effMemMargin (ch seq : Nat) (p : Bytes) (h : Hw) : Hw := effRoino 0x0701 ch seq p h

def execMemMargin (ch seq : Nat) (p : Bytes) (s : State) : Host.Outcome State Fault Refusal := s.run (effMemMargin ch seq p)

/-- MEM_MARGIN_RESULT. -/
def effMemMarginResult (ch seq : Nat) (p : Bytes) (h : Hw) : Hw := effRoino 0x0702 ch seq p h

def execMemMarginResult (ch seq : Nat) (p : Bytes) (s : State) : Host.Outcome State Fault Refusal := s.run (effMemMarginResult ch seq p)

/-- MEM_STACK_STATE. -/
def effMemStackState (ch seq : Nat) (p : Bytes) (h : Hw) : Hw := effRoino 0x0703 ch seq p h

def execMemStackState (ch seq : Nat) (p : Bytes) (s : State) : Host.Outcome State Fault Refusal := s.run (effMemStackState ch seq p)

/-- MEM_MAPOUT. -/
def effMemMapout (ch seq : Nat) (p : Bytes) (h : Hw) : Hw := effRoino 0x0704 ch seq p h

def execMemMapout (ch seq : Nat) (p : Bytes) (s : State) : Host.Outcome State Fault Refusal := s.run (effMemMapout ch seq p)

/-- MEM_MAPOUT_CLEAR. -/
def effMemMapoutClear (ch seq : Nat) (p : Bytes) (h : Hw) : Hw := effRoino 0x0705 ch seq p h

def execMemMapoutClear (ch seq : Nat) (p : Bytes) (s : State) : Host.Outcome State Fault Refusal := s.run (effMemMapoutClear ch seq p)

/-- MEM_REGION. -/
def effMemRegion (ch seq : Nat) (p : Bytes) (h : Hw) : Hw := effRoino 0x0706 ch seq p h

def execMemRegion (ch seq : Nat) (p : Bytes) (s : State) : Host.Outcome State Fault Refusal := s.run (effMemRegion ch seq p)

/-- MEM_MAP. -/
def effMemMap (ch seq : Nat) (p : Bytes) (h : Hw) : Hw := effRoino 0x0707 ch seq p h

def execMemMap (ch seq : Nat) (p : Bytes) (s : State) : Host.Outcome State Fault Refusal := s.run (effMemMap ch seq p)

/-- MEM_UNMAP. -/
def effMemUnmap (ch seq : Nat) (p : Bytes) (h : Hw) : Hw := effRoino 0x0708 ch seq p h

def execMemUnmap (ch seq : Nat) (p : Bytes) (s : State) : Host.Outcome State Fault Refusal := s.run (effMemUnmap ch seq p)

/-- MEM_PEER_WINDOW. -/
def effMemPeerWindow (ch seq : Nat) (p : Bytes) (h : Hw) : Hw := effRoino 0x0709 ch seq p h

def execMemPeerWindow (ch seq : Nat) (p : Bytes) (s : State) : Host.Outcome State Fault Refusal := s.run (effMemPeerWindow ch seq p)

/-- MEM_HOST_WINDOW. -/
def effMemHostWindow (ch seq : Nat) (p : Bytes) (h : Hw) : Hw := effRoino 0x070A ch seq p h

def execMemHostWindow (ch seq : Nat) (p : Bytes) (s : State) : Host.Outcome State Fault Refusal := s.run (effMemHostWindow ch seq p)

/-- MEM_LEND. -/
def effMemLend (ch seq : Nat) (p : Bytes) (h : Hw) : Hw := effRoino 0x070B ch seq p h

def execMemLend (ch seq : Nat) (p : Bytes) (s : State) : Host.Outcome State Fault Refusal := s.run (effMemLend ch seq p)

/-- MEM_INVAL. -/
def effMemInval (ch seq : Nat) (p : Bytes) (h : Hw) : Hw := effRoino 0x070C ch seq p h

def execMemInval (ch seq : Nat) (p : Bytes) (s : State) : Host.Outcome State Fault Refusal := s.run (effMemInval ch seq p)

/-- MEM_FAULT_RESP. -/
def effMemFaultResp (ch seq : Nat) (p : Bytes) (h : Hw) : Hw := effRoino 0x070D ch seq p h

def execMemFaultResp (ch seq : Nat) (p : Bytes) (s : State) : Host.Outcome State Fault Refusal := s.run (effMemFaultResp ch seq p)

/-- Q_CTX_CTL. -/
def effQCtxCtl (ch seq : Nat) (p : Bytes) (h : Hw) : Hw := effRoino 0x0800 ch seq p h

def execQCtxCtl (ch seq : Nat) (p : Bytes) (s : State) : Host.Outcome State Fault Refusal := s.run (effQCtxCtl ch seq p)

/-- Q_QUEUE_CTL. -/
def effQQueueCtl (ch seq : Nat) (p : Bytes) (h : Hw) : Hw := effRoino 0x0801 ch seq p h

def execQQueueCtl (ch seq : Nat) (p : Bytes) (s : State) : Host.Outcome State Fault Refusal := s.run (effQQueueCtl ch seq p)

/-- SNAP_SET_BASE. -/
def effSnapSetBase (ch seq : Nat) (p : Bytes) (h : Hw) : Hw := effRoino 0x0900 ch seq p h

def execSnapSetBase (ch seq : Nat) (p : Bytes) (s : State) : Host.Outcome State Fault Refusal := s.run (effSnapSetBase ch seq p)

/-- SNAP_LEND. -/
def effSnapLend (ch seq : Nat) (p : Bytes) (h : Hw) : Hw := effRoino 0x0901 ch seq p h

def execSnapLend (ch seq : Nat) (p : Bytes) (s : State) : Host.Outcome State Fault Refusal := s.run (effSnapLend ch seq p)

/-- SNAP_WITHDRAW. -/
def effSnapWithdraw (ch seq : Nat) (p : Bytes) (h : Hw) : Hw := effRoino 0x0902 ch seq p h

def execSnapWithdraw (ch seq : Nat) (p : Bytes) (s : State) : Host.Outcome State Fault Refusal := s.run (effSnapWithdraw ch seq p)

/-- SNAP_SUCCESSOR. -/
def effSnapSuccessor (ch seq : Nat) (p : Bytes) (h : Hw) : Hw := effRoino 0x0903 ch seq p h

def execSnapSuccessor (ch seq : Nat) (p : Bytes) (s : State) : Host.Outcome State Fault Refusal := s.run (effSnapSuccessor ch seq p)

/-- SNAP_BIND_BUDDY. -/
def effSnapBindBuddy (ch seq : Nat) (p : Bytes) (h : Hw) : Hw := effRoino 0x0904 ch seq p h

def execSnapBindBuddy (ch seq : Nat) (p : Bytes) (s : State) : Host.Outcome State Fault Refusal := s.run (effSnapBindBuddy ch seq p)

/-- SNAP_BIND_NVME. -/
def effSnapBindNvme (ch seq : Nat) (p : Bytes) (h : Hw) : Hw := effRoino 0x0905 ch seq p h

def execSnapBindNvme (ch seq : Nat) (p : Bytes) (s : State) : Host.Outcome State Fault Refusal := s.run (effSnapBindNvme ch seq p)

/-- SNAP_SLOTS. -/
def effSnapSlots (ch seq : Nat) (p : Bytes) (h : Hw) : Hw := effRoino 0x0906 ch seq p h

def execSnapSlots (ch seq : Nat) (p : Bytes) (s : State) : Host.Outcome State Fault Refusal := s.run (effSnapSlots ch seq p)

/-- SNAP_UNBIND. -/
def effSnapUnbind (ch seq : Nat) (p : Bytes) (h : Hw) : Hw := effRoino 0x0907 ch seq p h

def execSnapUnbind (ch seq : Nat) (p : Bytes) (s : State) : Host.Outcome State Fault Refusal := s.run (effSnapUnbind ch seq p)

/-- SNAP_BUDDY_LOST. -/
def effSnapBuddyLost (ch seq : Nat) (p : Bytes) (h : Hw) : Hw := effRoino 0x0908 ch seq p h

def execSnapBuddyLost (ch seq : Nat) (p : Bytes) (s : State) : Host.Outcome State Fault Refusal := s.run (effSnapBuddyLost ch seq p)

/-- SNAP_RESTORE. -/
def effSnapRestore (ch seq : Nat) (p : Bytes) (h : Hw) : Hw := effRoino 0x0909 ch seq p h

def execSnapRestore (ch seq : Nat) (p : Bytes) (s : State) : Host.Outcome State Fault Refusal := s.run (effSnapRestore ch seq p)

/-- SEC_GET_ID. -/
def effSecGetId (ch seq : Nat) (p : Bytes) (h : Hw) : Hw := effRoino 0x0A00 ch seq p h

def execSecGetId (ch seq : Nat) (p : Bytes) (s : State) : Host.Outcome State Fault Refusal := s.run (effSecGetId ch seq p)

/-- SEC_QUOTE. -/
def effSecQuote (ch seq : Nat) (p : Bytes) (h : Hw) : Hw := effRoino 0x0A01 ch seq p h

def execSecQuote (ch seq : Nat) (p : Bytes) (s : State) : Host.Outcome State Fault Refusal := s.run (effSecQuote ch seq p)

/-- SEC_ENROL. -/
def effSecEnrol (ch seq : Nat) (p : Bytes) (h : Hw) : Hw := effRoino 0x0A02 ch seq p h

def execSecEnrol (ch seq : Nat) (p : Bytes) (s : State) : Host.Outcome State Fault Refusal := s.run (effSecEnrol ch seq p)

/-- DIAG_CHERVIL. -/
def effDiagChervil (ch seq : Nat) (p : Bytes) (h : Hw) : Hw := effRoino 0x0B00 ch seq p h

def execDiagChervil (ch seq : Nat) (p : Bytes) (s : State) : Host.Outcome State Fault Refusal := s.run (effDiagChervil ch seq p)

/-- DIAG_REG_READ. -/
def effDiagRegRead (ch seq : Nat) (p : Bytes) (h : Hw) : Hw := effRoino 0x0B01 ch seq p h

def execDiagRegRead (ch seq : Nat) (p : Bytes) (s : State) : Host.Outcome State Fault Refusal := s.run (effDiagRegRead ch seq p)

/-- DIAG_REG_WRITE. -/
def effDiagRegWrite (ch seq : Nat) (p : Bytes) (h : Hw) : Hw := effRoino 0x0B02 ch seq p h

def execDiagRegWrite (ch seq : Nat) (p : Bytes) (s : State) : Host.Outcome State Fault Refusal := s.run (effDiagRegWrite ch seq p)

/-- DIAG_ENGINE_MAP. -/
def effDiagEngineMap (ch seq : Nat) (p : Bytes) (h : Hw) : Hw := effRoino 0x0B03 ch seq p h

def execDiagEngineMap (ch seq : Nat) (p : Bytes) (s : State) : Host.Outcome State Fault Refusal := s.run (effDiagEngineMap ch seq p)

/-- DIAG_LOOPBACK. -/
def effDiagLoopback (ch seq : Nat) (p : Bytes) (h : Hw) : Hw := effRoino 0x0B04 ch seq p h

def execDiagLoopback (ch seq : Nat) (p : Bytes) (s : State) : Host.Outcome State Fault Refusal := s.run (effDiagLoopback ch seq p)

/-- EVT_RING. -/
def effEvtRing (ch seq : Nat) (p : Bytes) (h : Hw) : Hw := effRoino 0x0C00 ch seq p h

def execEvtRing (ch seq : Nat) (p : Bytes) (s : State) : Host.Outcome State Fault Refusal := s.run (effEvtRing ch seq p)

/-- EVT_READ. -/
def effEvtRead (ch seq : Nat) (p : Bytes) (h : Hw) : Hw := effRoino 0x0C01 ch seq p h

def execEvtRead (ch seq : Nat) (p : Bytes) (s : State) : Host.Outcome State Fault Refusal := s.run (effEvtRead ch seq p)

/-- EVT_FILTER. -/
def effEvtFilter (ch seq : Nat) (p : Bytes) (h : Hw) : Hw := effRoino 0x0C02 ch seq p h

def execEvtFilter (ch seq : Nat) (p : Bytes) (s : State) : Host.Outcome State Fault Refusal := s.run (effEvtFilter ch seq p)

/-- SAGE_SENSORS. -/
def effSageSensors (ch seq : Nat) (p : Bytes) (h : Hw) : Hw := effRoino 0x0D00 ch seq p h

def execSageSensors (ch seq : Nat) (p : Bytes) (s : State) : Host.Outcome State Fault Refusal := s.run (effSageSensors ch seq p)

/-- SAGE_PINS. -/
def effSagePins (ch seq : Nat) (p : Bytes) (h : Hw) : Hw := effRoino 0x0D01 ch seq p h

def execSagePins (ch seq : Nat) (p : Bytes) (s : State) : Host.Outcome State Fault Refusal := s.run (effSagePins ch seq p)

/-- SAGE_SET_THRESH. -/
def effSageSetThresh (ch seq : Nat) (p : Bytes) (h : Hw) : Hw := effRoino 0x0D02 ch seq p h

def execSageSetThresh (ch seq : Nat) (p : Bytes) (s : State) : Host.Outcome State Fault Refusal := s.run (effSageSetThresh ch seq p)

/-- SAGE_LASER. -/
def effSageLaser (ch seq : Nat) (p : Bytes) (h : Hw) : Hw := effRoino 0x0D03 ch seq p h

def execSageLaser (ch seq : Nat) (p : Bytes) (s : State) : Host.Outcome State Fault Refusal := s.run (effSageLaser ch seq p)

end Sys2Proof.Machine
end

