-- ==== Sys2Proof/Machine/Sage.lean ====
section
/-!
DEFINITION. Machine/Sage.lean: Sage's sample: sensors, input power, throttling (R490, R494, R498 to R501), and its pins (R503 to R506).
-/

namespace Sys2Proof.Machine

/-! ### Rungs -/

/-- The rung of a divider (R494). -/
def rungOf (div : Nat) : Nat := if div = 16 then 4 else if div = 8 then 3 else if div = 6 then 2 else if div = 5 then 1 else 0

/-- The state of a demand source. -/
def Hw.src (h : Hw) (c : Nat) : Src := h.sage.srcs.getD c {}

def Hw.setSrc (h : Hw) (c : Nat) (x : Src) : Hw := { h with sage := { h.sage with srcs := h.sage.srcs.set c x } }

/-- A pin's filter. -/
def Hw.pinSt (h : Hw) (b : Nat) : PinSt := h.sage.pins.getD b {}

def Hw.setPin (h : Hw) (b : Nat) (x : PinSt) : Hw := { h with sage := { h.sage with pins := h.sage.pins.set b x } }

/-- A risk-reducing pin counts as asserted (R505). -/
def Hw.pinOn (h : Hw) (b : Nat) : Bool := (h.get F.PIN_LEVEL).testBit b || (h.pinSt b).held

/-- Every sensor of some Panel has failed (R497, R498). -/
def Hw.panelLost (h : Hw) : Bool := (List.range 4).any (fun p => h.get F.SENSOR_FAIL / 2 ^ (8 * p) % 256 = 255)

/-- The rung a source demands, by code (R499). -/
def Hw.demand (h : Hw) (c : Nat) : Nat :=
  match c with
  | 2 => if h.pinOn 1 then 4 else 0
  | 4 => if h.panelLost then 4 else (h.src 4).rung
  | 7 => if h.pinOn 0 then rungOf (h.get (F.THRESH_VALUE 6)) else 0
  | 8 => if h.flag F.VIN_WARN then rungOf (h.get (F.THRESH_VALUE 7)) else 0
  | 9 => rungOf (h.get F.CAP_DIV)
  | c => (h.src c).rung

/-- The rung of ARRAY_CLK, and of VEC_CLK. -/
def Hw.arrayRung (h : Hw) : Nat := (List.range 10).foldl (fun m c => max m (h.demand c)) 0
def Hw.vecRung (h : Hw) : Nat := (List.range 10).foldl (fun m c => if c = 3 then m else max m (h.demand c)) 0

/-- CAUSE (R499). -/
def Hw.cause (h : Hw) : Nat := if h.arrayRung = 0 then 0 else ((List.range 10).find? (fun c => h.demand c = h.arrayRung)).getD 0

/-- Post EV_THROTTLE with the values in force; 1 ms without another follows (R501). -/
def Hw.throttlePost (h : Hw) : Hw :=
  let x := (h.get F.ARRAY_DIV, h.get F.SAGE_CAUSE)
  ({ h with sage := { h.sage with evLast := some x, evHold := true, evWait := false } } : Hw).postSage Ev.evThrottle [u8 x.1, u8 x.2]

/-- Set the clocks to the rungs demanded (R499). -/
def Hw.clocks (h : Hw) : Hw :=
  let div := rungDivs.getD h.arrayRung 4
  let changed := div ≠ h.get F.ARRAY_DIV
  let h := ((h.set F.ARRAY_DIV div).set F.VEC_DIV (rungDivs.getD h.vecRung 4)).set F.SAGE_CAUSE h.cause
  if !changed then h else if h.sage.evHold then { h with sage := { h.sage with evWait := true } } else h.throttlePost

/-- THROTTLE_EVENT_FLUSH (R501): the 1 ms after the last event ends; a change in it is reported if the values differ from those last posted. -/
def effThrottleEventFlush (h : Hw) : Hw :=
  if !h.sage.evHold then h
  else
    let wait := h.sage.evWait
    let h := { h with sage := { h.sage with evHold := false, evWait := false } }
    if wait && h.sage.evLast ≠ some (h.get F.ARRAY_DIV, h.get F.SAGE_CAUSE) then h.throttlePost else h

def execThrottleEventFlush (s : State) : Host.Outcome State Fault Refusal := s.run effThrottleEventFlush

/-! ### Demand sources -/

/-- Samples of 10 ms. -/
def releaseSamples : Nat := 400

/-- A source's calm samples: after each 10 ms of them it goes one rung faster (R499; log entry 61). -/
def Src.calmStep (x : Src) (calm : Bool) : Src :=
  let k := if calm then x.calm + 1 else 0
  if x.rung = 0 then { x with engaged := false, since := 0, calm := 0 }
  else if releaseSamples ≤ k then { rung := x.rung - 1, engaged := decide (1 < x.rung), since := 0, calm := 0 }
  else { x with since := 0, calm := k }

/-- A sample of a source that steps as it engages and then after each further `period` samples above its level; whether it stepped. -/
def Src.levelStep (x : Src) (above calm : Bool) (period : Nat) : Src × Bool :=
  if !above then (x.calmStep calm, false)
  else if !x.engaged || period ≤ x.since + 1 then ({ rung := min 4 (x.rung + 1), engaged := true, since := 0, calm := 0 }, decide (x.rung < 4))
  else ({ x with since := x.since + 1, calm := 0 }, false)

/-- A sample of TJMAX. -/
def Src.jumpStep (x : Src) (above calm : Bool) : Src × Bool :=
  if above then ({ rung := 4, engaged := true, since := 0, calm := 0 }, decide (x.rung < 4)) else (x.calmStep calm, false)

/-- Apply a step to a source, counting it. -/
def Hw.srcStep (h : Hw) (c : Nat) (cnt : Fld) (r : Src × Bool) : Hw := if r.2 then (h.setSrc c r.1).inc cnt else h.setSrc c r.1

/-! ### The sample -/

/-- Reading i, in 0.1 °C. -/
def reading (temps : List Nat) (i : Nat) : Int := untwos 16 (temps.getD i 0)

/-- Sensors outside −40 to 150 °C on four samples in a row are marked failed (R498). -/
def Hw.sensorFails (h : Hw) (temps : List Nat) : Hw :=
  (List.range 64).foldl (fun h i =>
    let t := reading temps i
    let n := if t < -400 || 1500 < t then min 4 (h.sage.outRuns.getD i 0 + 1) else 0
    let h := { h with sage := { h.sage with outRuns := h.sage.outRuns.set i n } }
    if n = 4 then h.set F.SENSOR_FAIL (h.get F.SENSOR_FAIL ||| 2 ^ i) else h) h

/-- The sensors that have not failed. -/
def Hw.sensors (h : Hw) : List Nat := (List.range 64).filter (fun i => !(h.get F.SENSOR_FAIL).testBit i)

/-- Tmax (R498). -/
def Hw.tmax (h : Hw) (temps : List Nat) : Option Int :=
  h.sensors.foldl (fun m i => match m with
    | none => some (reading temps i)
    | some x => some (max x (reading temps i))) none

/-- Slope of sensor i (R500), once there is a sample of 200 µs before. -/
def Hw.slope (h : Hw) (temps : List Nat) (i : Nat) : Option Int :=
  (h.sage.hist[7]?).map (fun old => (reading temps i - old.getD i 0) * 5)

/-- SLOPE (R500): a trigger completes two slopes above SLOPE_TH on one sensor, 200 µs or more after the last. -/
def Hw.slopeStep (h : Hw) (temps : List Nat) (calmT : Bool) : Hw :=
  let th : Int := h.get (F.THRESH_VALUE 3)
  let high := h.sensors.filter (fun i => ((h.slope temps i).map (fun x => decide (th < x))).getD false)
  let trig := high.find? (fun i => h.sage.slopeHi.contains i)
  let may := match h.sage.slopeAge with
    | none => true
    | some n => decide (8 ≤ n + 1)
  let flat := h.sensors.all (fun i => ((h.slope temps i).map (fun x => decide (4 * x < th))).getD true)
  let age := h.sage.slopeAge.map (· + 1)
  match trig, may with
  | some i, true =>
    let x := h.src 3
    let h := { h with sage := { h.sage with slopeHi := high, slopeAge := some 0 } }
    let h := (h.setSrc 3 { rung := min 4 (x.rung + 1), engaged := true, since := 0, calm := 0 }).inc F.SLOPE_STEPS
    h.postSage Ev.evThermalSlope [u8 i, u16 (twos 16 ((h.slope temps i).getD 0))]
  | _, _ => ({ h with sage := { h.sage with slopeHi := high, slopeAge := age } } : Hw).setSrc 3 ((h.src 3).calmStep (flat && calmT))

/-- VIN_WARN (R490). -/
def Hw.vinSample (h : Hw) (vin : Nat) : Hw :=
  let low := if vin < 42000 then min 2 (h.sage.vinLow + 1) else 0
  let high := if 43000 ≤ vin then min 8 (h.sage.vinHigh + 1) else 0
  let h := { h with sage := { h.sage with vinLow := low, vinHigh := high } }
  if !h.flag F.VIN_WARN && low = 2 then
    let h := ((h.set F.VIN_WARN 1).inc F.VIN_WARN_CNT).postSage Ev.evVinWarn [u32 vin]
    if h.domOn domYOKE then h.msix 67 else h
  else if high = 8 then h.set F.VIN_WARN 0 else h

/-- The temperature trigger of R252: a channel of a stack that has moved by more than TEMP_RETRAIN since it was trained. -/
def Hw.tempRetrain (h : Hw) (temps : List Nat) : Hw :=
  if !(h.domOn domYOKE && h.flag F.AUTO_RETRAIN && h.get F.TEMP_RETRAIN ≠ 0) then h
  else (List.range 16).foldl (fun h s => (List.range 32).foldl (fun h c =>
    let d := reading temps (44 + s) - 10 * untwos 8 (h.get (F.CH_TRAIN_TEMP s c))
    if h.stackOn s && !(h.get (F.STK_MAPOUT s)).testBit c && !(h.get F.SENSOR_FAIL).testBit (44 + s) && 10 * h.get F.TEMP_RETRAIN < d.natAbs && !h.retrainRuns s c then h.retrainTrigger s c 0 else h) h) h

/-- Chatter ends 10 ms after a pin became inactive (R505): 400,000 cycles of Sage time. -/
def Hw.pinsSettle (h : Hw) : Hw :=
  (List.range 5).foldl (fun h b =>
    let p := h.pinSt b
    if p.held && !(h.get F.PIN_LEVEL).testBit b && p.edges.all (fun t => t + 400000 ≤ h.get F.CYC_SAGE) then h.setPin b { p with held := false } else h) h

/-- Watts of the average of the last 40 samples (R499, R509); before 40 samples what it reads is open. -/
def Hw.pinAvg (h : Hw) : Nat :=
  if h.sage.power.length < 40 then h.free 0xE00 % 65536 else h.watts (h.sage.power.foldl (· + ·) 0 / 40) 0xE01 % 65536

/-- The sources CURRENT and POWER. -/
def Hw.powerSources (h : Hw) (vin iin : Nat) : Hw :=
  let imax := h.get (F.THRESH_VALUE 5) * 100
  let limit := h.get (F.THRESH_VALUE 4) * 1000000
  let high := if imax < iin then min 2 (h.sage.iinHigh + 1) else 0
  let power := ((vin * iin) :: h.sage.power).take 40
  let sum := power.foldl (· + ·) 0
  let full := power.length = 40
  let h := { h with sage := { h.sage with iinHigh := high, power := power } }
  let h := h.srcStep 5 F.POWER_STEPS ((h.src 5).levelStep (high = 2) (100 * iin < 95 * imax) 4)
  h.srcStep 6 F.POWER_STEPS ((h.src 6).levelStep (full && 40 * limit < sum) (full && 100 * sum < 95 * 40 * limit) 40)

/-- The sources TJMAX, THERMAL and SLOPE. -/
def Hw.thermalSources (h : Hw) (temps : List Nat) : Hw :=
  let tm := h.tmax temps
  let atLeast (id : Nat) : Bool := (tm.map (fun t => decide ((h.get (F.THRESH_VALUE id) : Int) ≤ t))).getD false
  let calm := (tm.map (fun t => decide (t < (h.get (F.THRESH_VALUE 2) : Int)))).getD false
  let hot := atLeast 0
  let h := h.srcStep 1 F.THERMAL_STEPS ((h.src 1).jumpStep (atLeast 1) calm)
  let h := h.srcStep 4 F.THERMAL_STEPS ((h.src 4).levelStep hot calm 40)
  h.slopeStep temps calm

/-- The registers of a sample (R509, R510). -/
def Hw.sampleRegs (h : Hw) (temps : List Nat) (vin iin : Nat) : Hw :=
  let h := (h.set F.VIN_MV vin).set F.IIN_MA iin
  let h := match h.tmax temps with
    | some t => h.set F.TJ_MAX (twos 16 t)
    | none => h
  (List.range 64).foldl (fun h i =>
    let h := h.set (F.SENSOR_TEMP i) (temps.getD i 0)
    match h.slope temps i with
    | some x => h.set (F.SENSOR_SLOPE i) (twos 16 x)
    | none => h) h

/-- SAGE_SAMPLE (R490, R496, R498 to R501): the sample of 25 µs of Sage time: 64 sensors in 0.1 °C, VIN in mV, IIN in mA. -/
def effSageSample (temps : List Nat) (vin iin : Nat) (h : Hw) : Hw :=
  if !h.domOn domAON || temps.length ≠ 64 then h
  else
    let h := h.inc F.CYC_SAGE 1000
    let h := h.voteSweep (fun o => o = 0x800000 || (0x800200 ≤ o && o < 0x800228))
    let h := (((h.sensorFails temps).sampleRegs temps vin iin).vinSample vin).powerSources vin iin
    let h := h.thermalSources temps
    let h := { h with sage := { h.sage with hist := ((List.range 64).map (reading temps) :: h.sage.hist).take 8 } }
    let h := (h.set F.PIN_AVG_W h.pinAvg).pinsSettle
    h.clocks.tempRetrain temps

def execSageSample (temps : List Nat) (vin iin : Nat) (s : State) : Host.Outcome State Fault Refusal := s.run (effSageSample temps vin iin)

/-! ### Pins (R503 to R506) -/

/-- Chatter limit of a pin, and its window in Sage cycles. -/
def chatterOf (b : Nat) : Nat × Nat := if b < 2 then (16, 400000) else if b = 2 then (4, 400000) else (4, 40000000)

/-- STUCK or CHATTER of a pin. -/
def Hw.pinFlagged (h : Hw) (b : Nat) : Bool := (h.get F.PIN_STUCK_BITS).testBit b || (h.get F.PIN_CHATTER_BITS).testBit b

/-- An accepted edge (R503): the level, the edges of the chatter window, chatter once detected. -/
def Hw.pinEdge (h : Hw) (b : Nat) (level : Bool) : Hw :=
  let now := h.get F.CYC_SAGE
  let edges := (now :: (h.pinSt b).edges).filter (fun t => now < t + (chatterOf b).2)
  let chatter := (chatterOf b).1 < edges.length
  let lv := h.get F.PIN_LEVEL
  let h := h.set F.PIN_LEVEL (if level then lv ||| 2 ^ b else lv - (if lv.testBit b then 2 ^ b else 0))
  let h := h.setPin b { edges := edges.take 17, held := (h.pinSt b).held || (chatter && b < 3) }
  if chatter && !(h.get F.PIN_CHATTER_BITS).testBit b then
    ((h.set F.PIN_CHATTER_BITS (h.get F.PIN_CHATTER_BITS ||| 2 ^ b)).inc F.PIN_CHATTER_CNT).postSage Ev.evPinChatter [u8 b]
  else h

/-- An edge of a pin to a level (true: asserted, as LEVEL of PIN_STATE shows it), and what an accepted assertion does. -/
def Hw.pin (h : Hw) (b : Nat) (level : Bool) (act : Hw → Hw) : Hw :=
  if !h.domOn domAON || (h.get F.PIN_LEVEL).testBit b = level then h
  else
    let h := h.pinEdge b level
    if level then act h else h

/-- A work-losing pin that is stuck or chatters is ignored (R505). -/
def Hw.unlessFlagged (b : Nat) (act : Hw → Hw) (h : Hw) : Hw := if h.pinFlagged b then h else act h

/-- FORCE_THROTTLE_N (R499, R504). -/
def effForceThrottleN (level : Bool) (h : Hw) : Hw := if h.domOn domAON then (h.pin 0 level id).clocks else h
def execForceThrottleN (level : Bool) (s : State) : Host.Outcome State Fault Refusal := s.run (effForceThrottleN level)

/-- PWR_BRAKE_N. -/
def effPwrBrakeN (level : Bool) (h : Hw) : Hw := if h.domOn domAON then (h.pin 1 level id).clocks else h
def execPwrBrakeN (level : Bool) (s : State) : Host.Outcome State Fault Refusal := s.run (effPwrBrakeN level)

/-- A snapshot request (R506). -/
def Hw.snapRequest (h : Hw) : Hw :=
  if h.domOn domYOKE && h.flag F.BAST_CFG_ENABLE && !h.flag F.SNAP_PENDING then (h.set F.SNAP_PENDING 1).inc F.SNAP_REQ_CNT else h

/-- SNAP_REQ_N (R504 to R506). -/
def effSnapReqN (level : Bool) (h : Hw) : Hw := h.pin 4 level (Hw.unlessFlagged 4 Hw.snapRequest)
def execSnapReqN (level : Bool) (s : State) : Host.Outcome State Fault Refusal := s.run (effSnapReqN level)

/-- PIN_STUCK (R503): a pin stayed asserted beyond its timeout; EXT_THERMTRIP_N has none. -/
def effPinStuck (pin : Nat) (h : Hw) : Hw :=
  if !h.domOn domAON || 5 ≤ pin || pin = 2 || !(h.get F.PIN_LEVEL).testBit pin || (h.get F.PIN_STUCK_BITS).testBit pin then h
  else ((h.set F.PIN_STUCK_BITS (h.get F.PIN_STUCK_BITS ||| 2 ^ pin)).inc F.PIN_STUCK_CNT).postSage Ev.evPinStuck [u8 pin]
def execPinStuck (pin : Nat) (s : State) : Host.Outcome State Fault Refusal := s.run (effPinStuck pin)

/-- Clear a bit. -/
def clearBit (x b : Nat) : Nat := x - (if x.testBit b then 2 ^ b else 0)

/-- PIN_FLAG_CLEAR (R503): the pin has been inactive for 1 ms. -/
def effPinFlagClear (pin : Nat) (h : Hw) : Hw :=
  if !h.domOn domAON || 5 ≤ pin || (h.get F.PIN_LEVEL).testBit pin then h
  else (h.set F.PIN_STUCK_BITS (clearBit (h.get F.PIN_STUCK_BITS) pin)).set F.PIN_CHATTER_BITS (clearBit (h.get F.PIN_CHATTER_BITS) pin)
def execPinFlagClear (pin : Nat) (s : State) : Host.Outcome State Fault Refusal := s.run (effPinFlagClear pin)

end Sys2Proof.Machine
end

