-- ==== Sys2Proof/Machine/Boot.lean ====
section
/-!
DEFINITION. Machine/Boot.lean: power-up, resets and boot (R468 to R473, R476 to R482, R489 to R493, R502, R518 to R520).
-/

namespace Sys2Proof.Machine

/-! ### Power and resets -/

/-- AON_POWER_UP (R518 step 1, R520): VIN reached 30 V; only the NOR flash has kept anything. -/
def effAonPowerUp (h : Hw) : Hw :=
  if h.domOn domAON then h
  else
    let h := { Hw.off with
      dom := 1
      hbm := { Hw.off.hbm with lost := (List.range 16).map (fun s => (s, h.freeCtr)) }
      spad := { Hw.off.spad with lost := (List.range 4).map (fun p => (p, h.freeCtr)) }
      sramLost := some h.freeCtr
      evt := { Hw.off.evt with norNext := h.evt.norNext }
      nor := h.nor, rpmc := h.rpmc, out := h.out, freeCtr := h.freeCtr }
    ((h.set (F.RX_POWERED 12) 1).set (F.RX_POWERED 13) 1).send (.pin 8 true)

def execAonPowerUp (s : State) : Host.Outcome State Fault Refusal := s.run effAonPowerUp

/-- AON_POWER_LOSS (R489): below 30 V all state of the part is lost but the NOR flash. -/
def effAonPowerLoss (h : Hw) : Hw :=
  { Hw.off with evt := { Hw.off.evt with norNext := h.evt.norNext }, nor := h.nor, rpmc := h.rpmc, out := h.out, freeCtr := h.freeCtr }

def execAonPowerLoss (s : State) : Host.Outcome State Fault Refusal := s.run effAonPowerLoss

/-- VIN_WINDOW_MET (R491, R518 step 2): VIN stayed in the window for 10 ms. -/
def effVinWindowMet (h : Hw) : Hw := if h.domOn domAON && !h.domOn domYOKE then { h with sage := { h.sage with vinOk := true } } else h

def execVinWindowMet (s : State) : Host.Outcome State Fault Refusal := s.run effVinWindowMet

/-- PLL_LOCK (R493, R518 steps 3 and 4): the root PLL locks and YOKE powers on. -/
def effPllLock (h : Hw) : Hw :=
  if !(h.domOn domAON && h.sage.vinOk && !h.flag F.ROOT_LOCK && !h.flag F.THERMTRIP_LATCH) then h else (h.set F.ROOT_LOCK 1).yokeOn

def execPllLock (s : State) : Host.Outcome State Fault Refusal := s.run effPllLock

/-- PLL_LOSS (R493). -/
def effPllLoss (h : Hw) : Hw := if !h.flag F.ROOT_LOCK then h else ((h.yokeReset 3).set F.RESET_CAUSE 3).set F.ROOT_LOCK 0

def execPllLoss (s : State) : Host.Outcome State Fault Refusal := s.run effPllLoss

/-- A comparator trips (R491, R492): every domain but AON goes off, and the window must be met again. Which sample tripped is not stated beside the
comparators; EV_VIN_RESET carries it. -/
def Hw.vinTrip (h : Hw) (cause : Nat) : Hw :=
  if !h.domOn domAON then h
  else
    let h := ((h.yokeReset cause).set F.RESET_CAUSE cause).set F.ROOT_LOCK 0
    let h := ({ h with sage := { h.sage with vinOk := false } } : Hw).inc F.VIN_RESET_CNT
    h.post Ev.evVinReset [u32 (h.free 0xE10)]

/-- VIN_RESET. -/
def effVinReset (h : Hw) : Hw := h.vinTrip 1
def execVinReset (s : State) : Host.Outcome State Fault Refusal := s.run effVinReset

/-- VIN_OV. -/
def effVinOv (h : Hw) : Hw := h.vinTrip 2
def execVinOv (s : State) : Host.Outcome State Fault Refusal := s.run effVinOv

/-- A reset of R520 that resumes at step 4 of R518. -/
def Hw.partReset (h : Hw) (cause : Nat) : Hw :=
  if !h.domOn domYOKE then h
  else
    let h := h.yokeReset cause
    if h.yokeFree then h.yokeOn else h

/-- RESET_REQ_N (R504, R505, R508). -/
def effResetReqN (level : Bool) (h : Hw) : Hw := h.pin 3 level (Hw.unlessFlagged 3 (fun h => h.partReset 4))
def execResetReqN (level : Bool) (s : State) : Host.Outcome State Fault Refusal := s.run (effResetReqN level)

/-- PART_RESET (R441, R471): 1 ms after the acknowledgement of the command that asked for it. -/
def effPartReset (h : Hw) : Hw := if h.mb.partReset then h.partReset 5 else h
def execPartReset (s : State) : Host.Outcome State Fault Refusal := s.run effPartReset

/-- BOOT_WATCHDOG (R472 step 8′): the THIMBLE component is marked bad for the next boot, and YOKE resets. -/
def effBootWatchdog (h : Hw) : Hw :=
  if !h.domOn domYOKE || h.flag (F.RX_POWERED 4) then h
  else
    let bad := (h.sec.comps.find? (fun c => c.typ = 1)).map (·.digest)
    ({ h with sec := { h.sec with bad := bad, fails := h.sec.fails + 1 } } : Hw).partReset 6
def execBootWatchdog (s : State) : Host.Outcome State Fault Refusal := s.run effBootWatchdog

/-- A trip (R502): every domain but AON goes off, THERMTRIP_N is driven low, the latch holds until AON powers down. -/
def Hw.thermtrip (h : Hw) (args : List Arg) : Hw :=
  if !h.domOn domAON || h.flag F.THERMTRIP_LATCH then h else (((h.yokeOff).set F.THERMTRIP_LATCH 1).send (.pin 8 false)).post Ev.evThermtrip args

/-- THERMTRIP: a comparator trips; Sage records the sensor and its temperature. -/
def effThermtrip (sensor : Nat) (h : Hw) : Hw := if 64 ≤ sensor then h else h.thermtrip [u8 sensor, u16 (h.get (F.SENSOR_TEMP sensor))]
def execThermtrip (sensor : Nat) (s : State) : Host.Outcome State Fault Refusal := s.run (effThermtrip sensor)

/-- EXT_THERMTRIP_N (R502, R504): no sensor tripped; what the event then carries is open. -/
def effExtThermtripN (level : Bool) (h : Hw) : Hw := h.pin 2 level (fun h => h.thermtrip [u8 (h.free 0xE20), u16 (h.free 0xE21)])
def execExtThermtripN (level : Bool) (s : State) : Host.Outcome State Fault Refusal := s.run (effExtThermtripN level)

/-! ### The boot decision (R468 to R470) -/

/-- Whether a component of a slot is admissible (R468). -/
def Hw.admissible (h : Hw) (slot : Nat) : Bool :=
  let b := h.bundle slot
  h.bundleValid slot && b.formatOk && b.vendorOk && h.ownerSigOk slot b && (slot = 0 || (h.rpmc.keyFloor ≤ b.keyIdx && h.rpmc.svn ≤ b.svn))

/-- The admissible components of a slot, less those that are bad. -/
def Hw.candidates (h : Hw) (bad : List Comp) (slot : Nat) : List Comp :=
  if h.admissible slot then (h.bundle slot).comps.filter (fun c => c.forStepping && !bad.contains c && some c.digest != h.sec.bad) else []

/-- Every set of one component of each TYPE. -/
def setsOf (l : List Comp) : List (List Comp) :=
  let t (n : Nat) : List Comp := l.filter (fun c => c.typ = n)
  ((t 1).map (fun a => ((t 2).map (fun b => ((t 3).map (fun c => (t 4).map (fun d => [a, b, c, d]))).flatten)).flatten)).flatten

/-- What orders sets (R468): versions of THIMBLE, SAGE, GUSSET, EYELET, then one slot before mixed, then A before B; greater is newer. -/
def setKey (l : List Comp) : List Nat :=
  let c (n : Nat) : Option Comp := l[n]?
  let v (n : Nat) : Nat := ((c n).map (·.ver)).getD 0
  let s (n : Nat) : Nat := 2 - ((c n).map (·.slot)).getD 0
  [v 0, v 1, v 3, v 2, (l.all (fun x => l.all (fun y => x.slot = y.slot))).toNat, s 0, s 1, s 3, s 2]

/-- The newest consistent set. -/
def bestSet (l : List Comp) : Option (List Comp) :=
  ((setsOf l).filter consistent).foldl (fun best s => match best with
    | none => some s
    | some b => if setKey b < setKey s then some s else best) none

/-- The order of loading: SAGE, THIMBLE, GUSSET, EYELET (R469). -/
def loadOrder (l : List Comp) : List Comp := ([1, 0, 3, 2] : List Nat).filterMap (fun i => l[i]?)

/-- The boot decision (R469): the set, and whether a component failed its DIGEST; none: recovery with reason 1. -/
def Hw.bootDecide (h : Hw) : Nat → List Comp → Option (List Comp × Bool)
  | 0, _ => none
  | n + 1, bad =>
    let best := match bestSet (h.candidates bad 1 ++ h.candidates bad 2) with
      | some s => some s
      | none => bestSet (h.candidates bad 0)
    match best with
    | none => none
    | some s =>
      match (loadOrder s).find? (fun c => !h.compDigestOk c) with
      | none => some (s, !bad.isEmpty)
      | some c => if c.slot = 0 then none else Hw.bootDecide h n (c :: bad)

/-- The slots that contribute to a set, in order Factory, A, B. -/
def contributing (l : List Comp) : List Nat := (List.range 3).filter (fun s => l.any (fun c => c.slot = s))

/-- The reasons of EV_BOOT_FALLBACK that apply, ascending (R470). -/
def Hw.fallbackReasons (h : Hw) (l : List Comp) (digest : Bool) : List Nat :=
  let on := contributing l
  let skipped := (List.range 3).any (fun s => h.bundleValid s && !on.contains s && on.all (fun t => decide ((h.bundle t).ver < (h.bundle s).ver)))
  (if on.contains 1 && on.contains 2 then [1] else []) ++ (if skipped then [2] else []) ++ (if on.contains 0 then [3] else []) ++ (if digest then [4] else [])

/-! ### Config and measurements -/

/-- The entries of known keys whose value is out of range (R476). -/
def Hw.badKeys (h : Hw) : List CfgKey := h.cfgEntries.filter (fun e => (cfgLen e.key).isSome && !h.cfgOk e.key e.val)

/-- The stored value of a key, unless it is out of range. -/
def Hw.cfgGood (h : Hw) (k : Nat) : Option Bytes :=
  match h.cfgGet k with
  | some v => if h.cfgOk k v then some v else none
  | none => none

/-- The profile (R3 to R5), and the value stored where it is invalid; with no valid copy what is stored is open. -/
def Hw.bootProfile (h : Hw) : Nat × Option Nat :=
  if h.cfgValid.isNone then (0, some (h.free 0xE30))
  else
    match h.cfgGet 1 with
    | some v => if h.cfgOk 1 v then (leNat v % 16, none) else (0, some (leNat v))
    | none => (0, none)

/-- Config applied (R472 step 6, R476): NV fields, LINK_EN, thresholds, PROFILE. -/
def Hw.bootConfig (h : Hw) : Hw :=
  let h := h.set F.CFG_BAD_KEYS (min 255 h.badKeys.length)
  let h := (List.range 15).foldl Hw.nvLoad h
  let en := leNat ((h.cfgGood 0x110).getD [])
  let h := (List.range 64).foldl (fun h l => h.set (F.LINK_EN l) (bitOf en l).toNat) h
  let h := (List.range 10).foldl (fun h i => h.set (F.THRESH_VALUE i) (((h.cfgGood (0x300 + i)).map leNat).getD (threshDefault i))) h
  let p := h.bootProfile
  let h := (h.set F.GBL_PROFILE p.1).set F.PCIE_ROOT p.1
  match p.2 with
  | some v => h.post Ev.evProfileInvalid [u8 v]
  | none => h

/-- M0 to M7 and ATTEST_TOKEN (R481, R482). -/
def Hw.bootMeasure (h : Hw) (l : List Comp) : Hw :=
  let m0 := (List.range 32).map Config.romHash
  let m1 := sha256 (((contributing l).map (fun s => (h.bundle s).signed)).flatten)
  let d (n : Nat) : Bytes := ((l[n]?).map (·.digest)).getD []
  let m6 := match h.cfgValid with
    | some (i, _) => h.norRead (cfgBase i + 16) 32
    | none => List.replicate 32 0
  let owner := h.sec.owner.getD (List.replicate 256 0)
  let step := natLE 1 (h.get F.GBL_STEPPING)
  let m7 := sha256 (natLE 4 h.rpmc.svn ++ natLE 4 h.rpmc.keyFloor ++ natLE 4 h.rpmc.ownerGen ++ owner ++ step ++ natLE 1 (h.get F.GBL_PROFILE))
  let ms := [m0, m1, d 0, d 1, d 2, d 3, m6, m7]
  let h := (ms.zipIdx).foldl (fun h x => h.setRegBytes (regMeasure x.2) x.1) h
  let ownerHash := match h.sec.owner with
    | some r => sha256 (slice r 0x30 32)
    | none => List.replicate 32 0
  let label : Bytes := ([0x4B, 0x56, 0x37, 0x20, 0x54, 0x4F, 0x4B, 0x45, 0x4E] : List Nat).map (BitVec.ofNat 8)
  h.setRegBytes regAttestToken (sha256 (label ++ m0 ++ d 0 ++ d 1 ++ d 2 ++ d 3 ++ ownerHash ++ step))

/-! ### The boot ROM (R472) -/

/-- Once YOKE is on, the part posts EV_MB_DROPPED for each channel that dropped a write or refused a SEND meanwhile (R431), and the records that Sage
kept (R459). -/
def Hw.postOff (h : Hw) : Hw :=
  let h := (List.range 16).foldl (fun h c =>
    if (h.chan c).offDrop then (h.updChan c (fun k => { k with offDrop := false })).post Ev.evMbDropped [u8 c, u8 0] else h) h
  h.postKept

/-- Recovery (R438, R471): ROM code serves channel 4, the profile is Fabric. -/
def Hw.enterRecovery (h : Hw) (reason : Nat) : Hw :=
  let h := { h with sec := { h.sec with booted := true, bootSlot := 0xFF, comps := [], bad := none, fails := 0 }, mb := { h.mb with hostOff := false } }
  let h := (((h.set F.SEC_RECOVERY 1).set F.GBL_PROFILE 0).set (F.RX_POWERED 4) 1).set (F.WAKING 4) 0
  ((h.post Ev.evRecovery [u8 reason]).postOff).served

/-- Steps 2 to 4 of R472: the PUF, the keys, the counters, BOOT_ID, the owner record. -/
def Hw.bootIdentity (h : Hw) (tries : Nat) (puf : Bool) : Hw :=
  let h := h.set F.PUF_TRIES (if puf then tries else 8)
  let h := if puf then (h.setRegBytes regIdHash (sha256 pubKey)).setB F.CERT_MISMATCH (!Config.certMatches) else h
  let h := (((h.set F.SVN_CTR h.rpmc.svn).set F.CFG_GEN h.rpmc.cfgGen).set F.OWNER_GEN h.rpmc.ownerGen).set F.KEY_FLOOR h.rpmc.keyFloor
  let h := h.set F.BOOT_ID (1 + h.free 0xE40 % (2 ^ 64 - 1))
  let o := h.ownerRecord
  ({ h with sec := { h.sec with owner := o } } : Hw).setB F.SEC_OWNED o.isSome

/-- Steps 5 to 7 of R472: the chosen set runs. -/
def Hw.bootRun (h : Hw) (l : List Comp) (digest : Bool) : Hw :=
  let slot (n : Nat) : Nat := ((l[n]?).map (·.slot)).getD 0
  let proto (n : Nat) : Nat := ((l[n]?).map (·.proto)).getD 0
  let why := h.fallbackReasons l digest
  let h := { h with sec := { h.sec with comps := l, bootSlot := slot 0, booted := true, bad := none } }
  let h := (((h.set F.THIMBLE_SLOT (slot 0)).set F.SAGE_SLOT (slot 1)).set F.EYELET_SLOT (slot 2)).set F.GUSSET_SLOT (slot 3)
  let h := ((h.set F.ROINO_VER (proto 0)).set F.YELYEL_VER_major (proto 2 / 256)).set F.YELYEL_VER_minor (proto 2)
  let h := why.foldl (fun h r => h.post Ev.evBootFallback [u8 (slot 0), u8 r]) h
  (h.bootConfig).bootMeasure l

/-- BOOT_ROM_RUN (R472 steps 1 to 7): `tries` PUF attempts were made, 1 to 8, or none of 8 succeeded; `recovery` is the strap. -/
def effBootRomRun (tries : Nat) (recovery : Bool) (h : Hw) : Hw :=
  if !h.domOn domYOKE || h.sec.booted then h
  else
    let puf := decide (1 ≤ tries) && decide (tries ≤ 8)
    let h := h.bootIdentity tries puf
    if recovery then h.enterRecovery 3
    else if !Config.mfgRecordOk then h.enterRecovery 5
    else if !puf then h.enterRecovery 2
    else if 2 ≤ h.sec.fails then h.enterRecovery 4
    else
      match h.bootDecide 13 [] with
      | none => h.enterRecovery 1
      | some (l, digest) => h.bootRun l digest

def execBootRomRun (tries : Nat) (recovery : Bool) (s : State) : Host.Outcome State Fault Refusal := s.run (effBootRomRun tries recovery)

/-- The counters rise where the chosen set calls for it (R473); a boot from the Factory set changes neither. -/
def Hw.raiseCounters (h : Hw) : Hw :=
  let on := contributing h.sec.comps
  if on.contains 0 || on.isEmpty then h
  else
    let svn := on.foldl (fun m s => min m (h.bundle s).svn) 0xFFFFFFFF
    let floor := on.foldl (fun m s => max m (h.bundle s).floorSet) 0
    let h := { h with rpmc := { h.rpmc with svn := max h.rpmc.svn svn, keyFloor := max h.rpmc.keyFloor floor } }
    (h.set F.SVN_CTR h.rpmc.svn).set F.KEY_FLOOR h.rpmc.keyFloor

/-- FIRMWARE_READY (R472 step 8, R473, R430, R431): Thimble marks its channels ready. -/
def effFirmwareReady (h : Hw) : Hw :=
  if !h.domOn domYOKE || !h.sec.booted || h.flag F.SEC_RECOVERY || h.flag (F.RX_POWERED 4) then h
  else
    let h := h.raiseCounters
    let h := (List.range 16).foldl (fun h c => (h.set (F.RX_POWERED c) 1).set (F.WAKING c) 0) h
    let h := { h with mb := { h.mb with hostOff := false }, sec := { h.sec with fails := 0 } }
    h.postOff.served

def execFirmwareReady (s : State) : Host.Outcome State Fault Refusal := s.run effFirmwareReady

/-- PANEL_BRINGUP_DONE (R41, R261, R518 step 7): Thimble powers the Panels, then their stacks and Eyelets; `bad` are the channels, as stack × 32 +
channel, that failed initial training twice, in turn. -/
def effPanelBringupDone (bad : List Nat) (h : Hw) : Hw :=
  if !h.domOn domYOKE || h.flag F.SEC_RECOVERY || !h.flag (F.RX_POWERED 4) || h.domOn (domPANEL 0) then h
  else
    let h := (List.range 4).foldl (fun h p => h.domUp (domPANEL p)) h
    let h := (List.range 16).foldl (fun h s =>
      let h := h.setMapout s (leNat ((h.cfgGood (0x10 + s)).getD []))
      h.stackUp s ((bad.filter (fun c => c / 32 = s)).map (· % 32))) h
    (List.range 8).foldl Hw.eyeletUp h

def execPanelBringupDone (bad : List Nat) (s : State) : Host.Outcome State Fault Refusal := s.run (effPanelBringupDone bad)

/-- PERST_OUT_RELEASE (R528): in Solo profile the downstream reset is released after step 6 of R518; in Fabric profile it stays low. -/
def effPerstOutRelease (h : Hw) : Hw :=
  if h.domOn domYOKE && h.solo && h.flag (F.RX_POWERED 4) && !h.pcie.perstOut then ({ h with pcie := { h.pcie with perstOut := true } } : Hw).send (.pin 7 true) else h

def execPerstOutRelease (s : State) : Host.Outcome State Fault Refusal := s.run effPerstOutRelease

end Sys2Proof.Machine
end

