-- ==== Sys2Proof/Machine/CollCalc.lean ====
section
/-!
DEFINITION. Machine/CollCalc.lean: the values of a collective (R357, R360, R361) and the bytes a position sends.
-/

namespace Sys2Proof.Machine

/-- What the stages of a reduction need: format, positions, element e of position i, the draw of stage (position, step) of element e. -/
structure RedIn where
  ff : FF
  n : Nat
  x : Nat → Nat → Nat
  draw : Nat → Nat → Nat → Nat

/-- The sum of a stage: its inputs added in order in FP32 (R360). -/
def RedIn.sum (r : RedIn) (ins : List Nat) : Val :=
  match ins.map r.ff.decode with
  | [] => .zero
  | v :: vs => vs.foldl f32add v

/-- One stage: its sum rounded once by SR (R360); at position c in step s for element e. -/
def RedIn.stage (r : RedIn) (e c s : Nat) (ins : List Nat) : Nat := r.ff.encode (.sr (r.draw c s e)) (r.sum ins)

/-- RING, NEIGHBOUR: the partial of chunk k after j further positions. -/
def RedIn.ring (r : RedIn) (e k : Nat) : Nat → Nat
  | 0 => r.x ((k + 1) % r.n) e
  | j + 1 =>
    let c := (k + 2 + j) % r.n
    r.stage e c 0 [r.ring e k j, r.x c e]

/-- LINE: the partial that has come from the left end through position c. -/
def RedIn.left (r : RedIn) (e : Nat) : Nat → Nat
  | 0 => r.x 0 e
  | c + 1 => r.stage e (c + 1) 0 [r.left e c, r.x (c + 1) e]

/-- LINE: the partial that has come from the right end over d hops. -/
def RedIn.right (r : RedIn) (e : Nat) : Nat → Nat
  | 0 => r.x (r.n - 1) e
  | d + 1 => r.stage e (r.n - 2 - d) 0 [r.right e d, r.x (r.n - 2 - d) e]

/-- TREE: the value a node sends up. -/
def RedIn.tree (r : RedIn) (e : Nat) : Nat → Nat → Nat
  | 0, c => r.x c e
  | f + 1, c =>
    let kids := [2 * c + 1, 2 * c + 2].filter (· < r.n)
    if kids.isEmpty then r.x c e else r.stage e c 0 (r.x c e :: kids.map (r.tree e f))

/-- RING, HALVING: the value position c holds after s steps. -/
def RedIn.halving (r : RedIn) (e : Nat) : Nat → Nat → Nat
  | 0, c => r.x c e
  | s + 1, c =>
    let lo := if c.testBit s then c - 2 ^ s else c
    r.stage e c s [r.halving e s lo, r.halving e s (lo + 2 ^ s)]

/-- The last stage of element e of chunk k on an axis of two positions or more: where it runs, its step, its inputs (R360). -/
def RedIn.last (r : RedIn) (a : Axis) (k e : Nat) : Nat × Nat × List Nat :=
  match a.type with
  | 1 =>
    if a.algo = 1 then
      let s := r.n.log2 - 1
      let lo := if k.testBit s then k - 2 ^ s else k
      (k, s, [r.halving e s lo, r.halving e s (lo + 2 ^ s)])
    else (k, 0, [r.ring e k (r.n - 2), r.x k e])
  | 2 => (k, 0, (if k = 0 then [] else [r.left e (k - 1)]) ++ [r.x k e] ++ (if k + 1 < r.n then [r.right e (r.n - 2 - k)] else []))
  | 3 => (0, 0, r.x 0 e :: ([1, 2].filter (· < r.n)).map (r.tree e r.n))
  | _ => (k, 0, (List.range r.n).map (fun i => r.x i e))

/-- The reduced element e of chunk k on an axis (R360). -/
def RedIn.value (r : RedIn) (a : Axis) (k e : Nat) : Nat :=
  let l := r.last a k e
  r.stage e l.1 l.2.1 l.2.2

/-- What position `me` converts for element e: the sum of the last stage where it runs that, else the value that arrives (R70; log entry 156). -/
def RedIn.source (r : RedIn) (a : Axis) (me k e : Nat) : Val :=
  let l := r.last a k e
  if l.1 = me then r.sum l.2.2 else r.ff.decode (r.value a k e)

/-- Steps of a collective (R360 to R362). -/
def collSteps (a : Axis) (cfn : Nat) : Nat :=
  let one := match a.type with
    | 1 => if a.algo = 1 then a.size.log2 else if cfn = 3 then a.size / 2 else a.size - 1
    | 2 => a.size - 1
    | 3 => 2 * a.size.log2
    | _ => 1
  if cfn = 2 then 2 * one else one

/-- The HALVING step that runs at step t of a collective: ascending in a reduce-scatter, descending otherwise (R360, R361). -/
def halvingStep (a : Axis) (cfn t : Nat) : Nat :=
  let lg := a.size.log2
  if cfn = 0 || (cfn = 2 && t < lg) then t else if cfn = 2 then 2 * lg - 1 - t else lg - 1 - t

/-- What position c sends in a collective: by step, to the + bundle (3), the − bundle (4) or a board position (16 + position), the bytes.
b is the bytes of S, of which a chunk is b / n where there are n. None for a LINE or TREE axis, whose split the manual leaves open
(log entry 34). -/
def collSends (a : Axis) (cfn c root b : Nat) : Option (List (Nat × Nat)) :=
  let n := a.size
  match a.type with
  | 4 =>
    let others := (List.range n).filter (· ≠ c)
    let all (x : Nat) : List (Nat × Nat) := others.map (fun p => (16 + p, x))
    some (match cfn with
      | 0 => all (b / n)
      | 1 => all b
      | 2 => all (b / n) ++ all (b / n)
      | 3 => all (b / n)
      | _ => if c = root then all b else [])
  | 1 =>
    if a.algo = 1 then
      let lg := n.log2
      let dir (s : Nat) : Nat := if c.testBit s then 4 else 3
      let rs : List (Nat × Nat) := (List.range lg).map (fun s => (dir s, b / 2 ^ (s + 1)))
      let ag (x : Nat) : List (Nat × Nat) := (List.range lg).map (fun t => (dir (lg - 1 - t), x * 2 ^ t))
      some (match cfn with
        | 0 => rs
        | 1 => ag b
        | 2 => rs ++ ag (b / n)
        | 3 => (List.range lg).map (fun t => (dir (lg - 1 - t), b / 2))
        | _ => (List.range lg).filterMap (fun t => let s := lg - 1 - t; if c % 2 ^ s = root % 2 ^ s && c / 2 ^ (s + 1) = root / 2 ^ (s + 1) then some (dir s, b) else none))
    else
      let steps (k x : Nat) : List (Nat × Nat) := List.replicate k (3, x)
      some (match cfn with
        | 0 => steps (n - 1) (b / n)
        | 1 => steps (n - 1) b
        | 2 => steps (2 * (n - 1)) (b / n)
        | 3 => (List.range (n / 2)).map (fun t => (3, (n / 2 - t) * (b / n))) ++ (List.range ((n - 1) / 2)).map (fun t => (4, ((n - 1) / 2 - t) * (b / n)))
        | _ => if (c + n - root) % n + 1 < n then [(3, b)] else [])
  | _ => none

end Sys2Proof.Machine
end

