-- ==== Sys2Proof/Machine/Coll.lean ====
section
/-!
DEFINITION. Machine/Coll.lean: collectives: issue, steps, completion, timeout (R357 to R364).
-/

namespace Sys2Proof.Machine

/-- Whether a COLL's descriptors, formats and counts fit its function on an axis of n positions (R357). -/
def collOk (e : Ent) (n : Nat) : Bool :=
  (insOpnds e.raw).all (opndOk e.descs) &&
  match descIn e.descs (collD e.raw), descIn e.descs (collS e.raw) with
  | some d, some s =>
    let cfn := collCfn e.raw
    let counts : Bool := match cfn with
      | 0 => s.count = n * d.count
      | 1 => d.count = n * s.count
      | 3 => s.count = d.count && s.count % n = 0
      | _ => s.count = d.count
    let fmts : Bool := if cfn = 0 || cfn = 2 then d.fmt = s.fmt && (d.fmt = .bf16 || d.fmt = .fp16) else d.fmt = s.fmt
    let chunk := match cfn with
      | 1 => s.count
      | 3 => s.count / n
      | _ => s.count
    counts && fmts && (cfn ≠ 4 || collRoot e.raw < n) && chunk % s.blockRun = 0 && chunk % d.blockRun = 0
  | _, _ => false

/-- Bytes of a tensor's elements in logical order, scales included. -/
def Desc.streamLen (d : Desc) : Nat := (d.stream 0 d.count).foldl (fun a g => a + g.2) 0

/-- Bytes of a chunk (R357). -/
def collChunk (cfn n : Nat) (s : Desc) : Nat := if cfn = 1 || cfn = 4 then s.streamLen else (s.streamLen + n - 1) / n

/-- What a collective needs before it issues: an UP link in each bundle of its algorithm and no neighbour DEAD; the position missing otherwise
(R358). -/
def Hw.collMissing (h : Hw) (a : Nat) (x : Axis) : Option Nat :=
  match h.topo.plan with
  | none => none
  | some p =>
    let c := h.myPos a
    let dead (k : Nat) : Bool := match p.find (h.chipAt a k) with
      | some i => h.get (PEER_PSTATE i) == 2
      | none => true
    let up (role : Nat) : Bool := ((p.bundle a role).map h.physOf).any h.lkUp
    match x.type with
    | 4 => (List.range x.size).find? (fun k => k ≠ c && (!h.lkUp (h.physOf ((h.chipAt a k % 16 + 16 - h.myChip % 16) % 16)) || dead k))
    | 3 =>
      let parent := if c = 0 then [] else [((c - 1) / 2, (p.bundle a 3))]
      let minus := p.bundle a 4
      let kids := [(2 * c + 1, minus.take x.b), (2 * c + 2, minus.drop x.b)].filter (fun k => k.1 < x.size)
      ((parent ++ kids).find? (fun k => !(k.2.map h.physOf).any h.lkUp || dead k.1)).map (·.1)
    | 2 =>
      if c + 1 < x.size && (!up 3 || dead (c + 1)) then some (c + 1)
      else if 0 < c && (!up 4 || dead (c - 1)) then some (c - 1) else none
    | _ =>
      if x.algo = 1 then
        if !up 3 || !up 4 then some ((c + 1) % x.size)
        else ((List.range x.size.log2).map (fun s => c ^^^ 2 ^ s)).find? dead
      else if !up 3 || dead ((c + 1) % x.size) then some ((c + 1) % x.size)
      else if !up 4 || dead ((c + x.size - 1) % x.size) then some ((c + x.size - 1) % x.size) else none

/-- A collective of a function issues on axis x: a reduction's Tape slot opens a step (R557), it is listed with its SEQ, its links move to its first step's ports,
and frames that came before it are taken (R357, R359, R360, R362). -/
def Hw.collGo (h : Hw) (eng cfn : Nat) (k : Cand) (x : Axis) : Hw :=
  let e := k.e
  let a := collAxis e.raw
  let s := (descIn e.descs (collS e.raw)).getD (parseDesc 0)
  let h := if (cfn = 0 || cfn = 2) && x.size ≠ 1 then
      match descIn e.descs (collD e.raw) with
      | some d => if d.taped then h.tapeBegin d.slot k.x.step k.c else h
      | none => h
    else h
  let cl : Coll := ⟨k.c, e.index, collSeq e.raw, a, cfn, s.fmtCode, collChunk cfn x.size s, (if x.size = 1 then 0 else collSteps x cfn), 0, [], h.get F.CYC_FAB, eng⟩
  let h := { h with topo := { h.topo with colls := h.topo.colls ++ [cl], lastSeq := h.topo.lastSeq.set a cl.seq } }
  let h := (h.updEnt k.c e.index (fun e => { e with ph := .issued })).touch e
  let h := if x.algo = 1 && x.size ≠ 1 then h.rethreadAxis a (some (halvingStep x cfn 0)) else h
  (List.range 64).foldl (fun h l =>
    let mine := (h.lk l).collHeld.filter (fun f => f.tag = cl.seq)
    if mine.isEmpty then h
    else
      let h := h.updLk l (fun s => { s with collHeld := s.collHeld.filter (fun f => f.tag ≠ cl.seq) })
      mine.foldl (fun h f => h.takeColl l f) h) h

/-- Collectives that a lead engine has active (R358): neither parked on a fault nor stopped. -/
def Hw.collsActive (h : Hw) (eng : Nat) : Nat :=
  (h.topo.colls.filter (fun k => k.lead = eng && ((h.ent? k.ctx k.index).map (fun e => e.ph == .issued && e.flt.isNone)).getD false)).length

/-- Whether topology holds a COLL on an axis of more than one position (R358). -/
def Hw.topoHolds (h : Hw) : Bool := !h.flag F.TOPO_CFG_ENABLE || h.topo.draining || h.get F.TOPO_STATE = 1 || h.get F.TOPO_STATE = 2

/-- The lead engine issues its best COLL of a function (R357, R358). -/
def Hw.collIssue (h : Hw) (eng cfn : Nat) : Hw :=
  if !(eng < 4 && h.domOn (domPANEL eng)) then h
  else
    match h.best (288 + eng) with
    | none => h
    | some k =>
      let e := k.e
      let a := collAxis e.raw
      if collCfn e.raw ≠ cfn then h
      else
        match h.axis? a with
        | none => h.finish k.c e stInvalidDescriptor 0 {}
        | some x =>
          if !collOk e x.size then h.finish k.c e stInvalidDescriptor 0 {}
          else if x.size ≠ 1 && h.topoHolds then h
          else if x.size ≠ 1 && (h.collMissing a x).isSome then
            let pos := (h.collMissing a x).getD 0xFFFF
            let gone := h.peerGone (h.chipAt a pos)
            let h := (h.inc (F.SEAM_FAILS eng)).post Ev.evCollFail [u32 (collSeq e.raw), u8 a, u8 (if gone then crDead else crNoPath), u16 pos]
            h.finish k.c e stCollFailed 0 {}
          else if 4 ≤ h.collsActive eng || (e.reads ++ e.writes).any (fun g => h.objBusy g.1 g.2) || !e.slotsUsed.all h.tapeReach then h
          else
            h.collGo eng cfn k x

/-- COLL_REDUCE_SCATTER (R357, R358, R360). -/
def effCollReduceScatter (eng : Nat) (h : Hw) : Hw := h.collIssue eng 0
def execCollReduceScatter (eng : Nat) (s : State) : Host.Outcome State Fault Refusal := s.run (effCollReduceScatter eng)

/-- COLL_ALL_GATHER (R357, R358, R361). -/
def effCollAllGather (eng : Nat) (h : Hw) : Hw := h.collIssue eng 1
def execCollAllGather (eng : Nat) (s : State) : Host.Outcome State Fault Refusal := s.run (effCollAllGather eng)

/-- COLL_ALL_REDUCE (R357, R358, R360). -/
def effCollAllReduce (eng : Nat) (h : Hw) : Hw := h.collIssue eng 2
def execCollAllReduce (eng : Nat) (s : State) : Host.Outcome State Fault Refusal := s.run (effCollAllReduce eng)

/-- COLL_ALL_TO_ALL (R357, R358, R361). -/
def effCollAllToAll (eng : Nat) (h : Hw) : Hw := h.collIssue eng 3
def execCollAllToAll (eng : Nat) (s : State) : Host.Outcome State Fault Refusal := s.run (effCollAllToAll eng)

/-- COLL_BROADCAST (R357, R358, R361). -/
def effCollBroadcast (eng : Nat) (h : Hw) : Hw := h.collIssue eng 4
def execCollBroadcast (eng : Nat) (s : State) : Host.Outcome State Fault Refusal := s.run (effCollBroadcast eng)

/-- The collective of an instruction. -/
def Hw.coll? (h : Hw) (c i : Nat) : Option Coll := h.topo.colls.find? (fun k => k.ctx = c && k.index = i)

/-- The collective of an issued instruction whose context's work goes on (R296). -/
def Hw.collWorks (h : Hw) (c i : Nat) : Option (Coll × Ent) :=
  match h.coll? c i, h.working? c i with
  | some k, some e => if e.ph == .issued then some (k, e) else none
  | _, _ => none

/-- COLL_STEP_DONE (R362): a step has ended at both ends; the next starts, on the ports of its HALVING step; after the last the links go
home. -/
def effCollStepDone (c i : Nat) (h : Hw) : Hw :=
  match h.collWorks c i with
  | none => h
  | some (k, e) =>
    if k.steps ≤ k.step || e.flt.isSome then h
    else
      let h := h.updEnt c i (fun e => { e with part := k.step + 1, cursor := 0 })
      let h := { h with topo := { h.topo with colls := h.topo.colls.map (fun (x : Coll) => if x.ctx = c && x.index = i then { x with step := x.step + 1 } else x) } }
      match h.axis? k.paxis with
      | none => h
      | some a => if a.algo = 1 then h.rethreadAxis k.paxis (if k.step + 1 < k.steps then some (halvingStep a k.cfn (k.step + 1)) else none) else h

def execCollStepDone (c i : Nat) (s : State) : Host.Outcome State Fault Refusal := s.run (effCollStepDone c i)

/-- Chunk k of element e of an all-reduce over n positions of N elements; where they do not deal evenly the chunks are open, and the same in every
run (R104, R357; log entry 35). -/
def chunkOf (n count e : Nat) : Nat := if count % n = 0 then e / (count / n) else Config.collChunk n count e % n

/-- What a collective writes to D: virtual writes, statistics (R357, R360, R361, R70). `data` is S of every position in logical order. -/
def Hw.collData (h : Hw) (k : Coll) (a : Axis) (x : Ctx) (root : Nat) (d s : Desc) (data : List Bytes) : List (Nat × Bytes) × Option TapeStat :=
  let n := a.size
  let me := h.myPos k.paxis
  let scatter (bs : Bytes) : List (Nat × Bytes) := ((d.stream 0 d.count).foldl (fun (st : List (Nat × Bytes) × Bytes) g => (st.1 ++ [(g.1, st.2.take g.2)], st.2.drop g.2)) ([], bs)).1
  if n = 1 then (scatter (data.getD 0 []), none)
  else
    match k.cfn with
    | 1 => (scatter data.flatten, none)
    | 3 => (scatter ((data.map (fun b => slice b (me * (b.length / n)) (b.length / n))).flatten), none)
    | 4 => (scatter (data.getD root []), none)
    | _ =>
      let ff := d.fmt.ff.getD ffBF16
      let dk := h.drawKey x.step x.mb
      let r : RedIn := { ff := ff, n := n, x := fun p e => fieldLE (data.getD p []) (2 * e) 2
                         draw := fun p st e => drawAt dk d.layer d.slot ((16 * p + st) * 2 ^ 40 + e) }
      let at_ (i : Nat) : Nat × Nat := if k.cfn = 0 then (me, me * d.count + i) else (chunkOf n s.count i, i)
      let outs := (List.range d.count).map (fun i => (r.source a me (at_ i).1 (at_ i).2, r.value a (at_ i).1 (at_ i).2))
      let stat := outs.foldl (fun (t : TapeStat) v => t.note v.1 v.1 (ff.decode v.2) ff.maxVal false) (TapeStat.zero d.slot x.step)
      (joinWrites (outs.zipIdx.map (fun v => d.putElem (unravel d.shape v.2) v.1.2)), if d.taped then some stat else none)

/-- What a collective writes, the zeroed remainders of a weight's companion with it (R68). -/
def Hw.collResult (h : Hw) (k : Coll) (a : Axis) (x : Ctx) (e : Ent) (d s : Desc) (data : List Bytes) : List (Nat × Bytes) × Option TapeStat :=
  let r := h.collData k a x (collRoot e.raw) d s data
  (r.1 ++ hemZero (hemIn e.descs d) d.all, r.2)

/-- The links a position's sends go out by: the UP links of the bundle, or the board link to a position. -/
def Hw.sendLinks (h : Hw) (a dst : Nat) : List Nat :=
  match h.topo.plan with
  | none => []
  | some p =>
    if 16 ≤ dst then [h.physOf ((h.chipAt a (dst - 16) % 16 + 16 - h.myChip % 16) % 16)] else ((p.bundle a dst).map h.physOf).filter h.lkUp

/-- Count the bytes sent, in 64 KiB pieces dealt over the links, on the Seam engines of their Panels (R358, R369, R29). -/
def Hw.countTx (h : Hw) (a : Nat) (sends : Option (List (Nat × Nat))) : Hw :=
  match sends with
  | none => ((h.axisLinks a).map (· / 16)).eraseDups.foldl (fun h p => h.inc (F.SEAM_BYTES_TX p) (h.free (7000 + p))) h
  | some l =>
    l.foldl (fun h s =>
      let ls := h.sendLinks a s.1
      (List.range ((s.2 + 65535) / 65536)).foldl (fun h i =>
        match ls[i % max 1 ls.length]? with
        | some x => h.inc (F.SEAM_BYTES_TX (x / 16)) (min 65536 (s.2 - i * 65536))
        | none => h) h) h

/-- Measure the skew of every link that brought frames of a collective (R364). -/
def Hw.straggle (h : Hw) (k : Coll) : Hw :=
  let t := h.get F.CYC_FAB - k.issued
  (List.range 64).foldl (fun h l =>
    match (h.lk l).collFirst.find? k.seq with
    | none => h
    | some arr =>
      let skew := arr - k.issued
      let h := h.updLk l (fun s => { s with collFirst := s.collFirst.del k.seq })
      let h := ((h.set (F.SKEW_LAST l) skew).set (F.SKEW_MAX l) (max skew (h.get (F.SKEW_MAX l)))).inc (F.SKEW_SUM l) skew
      let h := h.inc (F.COLL_MEASURED l)
      if skew * 256 > h.get F.STRAG_FRAC * t then
        let run := h.get (F.LATE_RUN l) + 1
        if h.get F.STRAG_N ≠ 0 && h.get F.STRAG_N ≤ run then (h.set (F.LATE_RUN l) 0).post Ev.evStraggler [u8 l, u16 (h.get (F.FAR_CHIP l)), u64 skew]
        else h.set (F.LATE_RUN l) (min run 0xFFFF)
      else h.set (F.LATE_RUN l) 0) h

/-- Write a list of virtual pieces, all or none. -/
def Hw.writePieces (h : Hw) (cache : Nat) (ws : List (Nat × Bytes)) : Except XFault Hw :=
  h.writeStream cache (ws.map (fun w => (w.1, w.2.length))) ((ws.map (·.2)).flatten)

/-- COLL_COMPLETE (R360, R361, R362, R364, R72): `peers` is S of every position in logical order, the part's own place filled from what
peers or the host hold of it. -/
def effCollComplete (c i : Nat) (peers : List Bytes) (h : Hw) : Hw :=
  match h.collWorks c i, h.ctx? c with
  | some (k, e), some x =>
    match h.axis? k.paxis, descIn e.descs (collD e.raw), descIn e.descs (collS e.raw) with
    | some a, some d, some s =>
      let me := if a.size = 1 then 0 else h.myPos k.paxis
      let root := collRoot e.raw
      let uses := k.cfn ≠ 4 || me = root || a.size = 1
      let src := if uses then s.stream 0 s.count else []
      if k.step < k.steps || peers.length ≠ a.size || e.flt.isSome || h.spadOff k.lead .read src || !h.canReachAll k.lead .read src ||
          (k.steps ≠ 0 && a.algo = 1 && (h.axisLinks k.paxis).any (fun l => (h.lk l).rethread.isSome)) then h
      else
        match h.readStream k.lead src (peers.getD me []) with
        | .error _ => h
        | .ok (h1, own, poison) =>
          let data := if uses then peers.set me own else peers
          let need (p : Nat) : Bool := k.cfn ≠ 4 || p = root
          if (List.range a.size).any (fun p => need p && (data.getD p []).length ≠ s.streamLen) then h
          else if poison then ((h1.collGone k).finish c e stPoisoned 0 {}).topoDrained
          else
            let (ws, stat) := h1.collResult k a x e d s data
            let ranges := ws.map (fun w => (w.1, w.2.length))
            match h.resultWait k.lead [] ranges, h1.writePieces k.lead ws with
            | some h, _ => h
            | none, .error _ => h
            | none, .ok h2 =>
              if h.spadOff k.lead .write ranges || !h.canReachAll k.lead .write ranges then h
              else
                let h := match stat with
                  | some t => h2.tapeComplete c t
                  | none => h2
                let h := if k.steps = 0 then h else (h.countTx k.paxis (collSends a k.cfn me root s.streamLen)).straggle k
                let h := (h.collGone k).inc (F.SEAM_COLLS k.lead)
                (h.finish c e stOK 0 {}).topoDrained
    | _, _, _ => h
  | _, _ => h

def execCollComplete (c i : Nat) (peers : List Bytes) (s : State) : Host.Outcome State Fault Refusal := s.run (effCollComplete c i peers)

/-- COLL_TIMEOUT (R363, R299): no COLL frame for COLL_TMO ms while it waits for data; `pos` is the position of the missing peer. -/
def effCollTimeout (c i pos : Nat) (h : Hw) : Hw :=
  match h.collWorks c i with
  | some (k, _) => if k.step < k.steps then h.collFail k crTimeout pos else h
  | none => h

def execCollTimeout (c i pos : Nat) (s : State) : Host.Outcome State Fault Refusal := s.run (effCollTimeout c i pos)

end Sys2Proof.Machine
end

