-- ==== Sys2Proof/Machine/D2d.lean ====
section
/-!
DEFINITION. Machine/D2d.lean: the die-to-die links (R33, R37).
-/

namespace Sys2Proof.Machine

/-- D2D_RETRAIN (R37): sixteen replays in succession on a die-to-die link start a retrain: both are counted, and an event is posted, of an
open code with open arguments (log entry 122). -/
def effD2dRetrain (link : Nat) (h : Hw) : Hw :=
  if link < 8 && h.domOn domYOKE && !h.d2d.failed && !h.d2d.training.contains link then
    ({ h with d2d := { h.d2d with
      training := insNat h.d2d.training link
      replays := h.d2d.replays.set link (h.d2d.replays.getD link 0 + 16)
      retrains := h.d2d.retrains.set link (h.d2d.retrains.getD link 0 + 1) } } : Hw).post Ev.evD2dRetrain ((List.range 16).map (fun i => u8 (h.free (9200 + i) % 256)))
  else h

def execD2dRetrain (link : Nat) (s : State) : Host.Outcome State Fault Refusal := s.run (effD2dRetrain link)

/-- A context ends with a fatal status: what is issued completes with it, the rest as NOT_RUN; its record names the lowest instruction that
failed, else PROG_LEN (R37, R184). -/
def Hw.ctxFatal (h : Hw) (c : Nat) : Hw :=
  match h.ctx? c with
  | none => h
  | some x =>
    if x.st == .recordPending then h
    else
      let h := h.failStop c
      let h := ((h.ctx? c).map (·.window)).getD [] |>.foldl (fun h e => h.finishCore c e stFatal 0 {}) h
      (h.updCtx c (fun x => { x with forced := some (stFatal, (x.failed.map (·.1)).getD x.progLen) })).tryEnd c

/-- D2D_RETRAIN_DONE (R37): the retrain completes and the traffic held goes on; or it fails: EV_D2D_FAIL, every queue stops
(no queue admits, no context fetches or issues any more), every context ends fatally. -/
def effD2dRetrainDone (link : Nat) (ok : Bool) (h : Hw) : Hw :=
  if !h.d2d.training.contains link then h
  else
    let h := { h with d2d := { h.d2d with training := h.d2d.training.filter (· ≠ link) } }
    if ok then h.settle.bar2Go
    else
      let h := { h with d2d := { h.d2d with failed := true } }
      let h := h.post Ev.evD2dFail [u8 link]
      let h := h.shut.ctxs.foldl (fun h c => h.ctxFatal c.1) h
      h.drained

def execD2dRetrainDone (link : Nat) (ok : Bool) (s : State) : Host.Outcome State Fault Refusal := s.run (effD2dRetrainDone link ok)

end Sys2Proof.Machine
end

