-- ==== Sys2Proof/Machine/Pcie.lean ====
section
/-!
DEFINITION. Machine/Pcie.lean: the PCIe port: the link, resets of R521, power states (R526), BAR2 requests (R524), IDE (R527), the host event ring (R459).
-/

namespace Sys2Proof.Machine

/-! ### The link -/

/-- PCIE_LINK_UP (R518, R522, R528, R534): speed 1 to 7, a width, and whether the host enables ATS. -/
def effPcieLinkUp (speed width : Nat) (ats : Bool) (h : Hw) : Hw :=
  if !h.domOn domYOKE || h.flag F.LINK_UP || speed = 0 || 7 < speed || !([1, 2, 4, 8, 16] : List Nat).contains width then h
  else
    let h := (((h.set F.LINK_UP 1).set F.PCIE_SPEED speed).set F.PCIE_WIDTH width).setB F.PCIE_FLIT (decide (6 ≤ speed))
    let h := h.set F.PCIE_L1 0
    if h.solo then h else { h with xl := { h.xl with atsOn := ats, priOn := true } }

def execPcieLinkUp (speed width : Nat) (ats : Bool) (s : State) : Host.Outcome State Fault Refusal := s.run (effPcieLinkUp speed width ats)

/-- The link leaves L0 or L1 (R534); NVMe commands fail meanwhile (R406, R533). -/
def Hw.linkDrop (h : Hw) : Hw :=
  if !h.flag F.LINK_UP then h else (((h.set F.LINK_UP 0).set F.PCIE_L1 0).inc F.PCIE_LINK_DOWN_CNT).nvmeFail

/-- PCIE_LINK_DOWN. -/
def effPcieLinkDown (h : Hw) : Hw := h.linkDrop
def execPcieLinkDown (s : State) : Host.Outcome State Fault Refusal := s.run effPcieLinkDown

/-! ### Resets of R521 -/

/-- The port's own state returns to reset: link, power state, MSI-X, ATS, PRI, IDE, latches, requests that waited. -/
def Hw.portReset (h : Hw) : Hw :=
  let h := ((h.linkDrop).set F.DSTATE 0).set F.IDE_SECURE 0
  let h := h.resetRange 0x3F00000 0x3F80100
  { h with
    xl := { h.xl with atsOn := false, priOn := true, ats := [], atc := [] }
    pcie := { h.pcie with wait := [], bar2 := [], ide := [] }
    latch := h.latch.filter (fun x => !x.path.host)
    heldRt := h.heldRt.filter (fun x => !x.path.host) }

/-- Host windows go, the host event ring is disabled, its filter takes its default, DRV_GEN reads 0 (R459, R521, R548). -/
def Hw.hostForget (h : Hw) : Hw :=
  let h := (h.resetRange 0x880000 0x890000).set F.DRV_GEN 0
  let h := ((((h.set F.RING_EN 0).set F.RING_LOG2 0).set F.EVT_TAIL 0).set F.EVT_HEAD 0)
  let h := (h.set F.EVR_BASE 0).set F.EVR_IRQ_EN 0
  h.resetRange 0x8B8008 0x8B8010

/-- A reset of R521: Fabric profile only. It acts as a DEV_RESET of scope JOB, with OP_ID 0 (R562). -/
def Hw.hostReset (h : Hw) : Hw :=
  if !h.domOn domYOKE || h.solo then h else ((h.inc F.PCIE_HOST_RESETS).portReset.hostForget).quiesceStart jobBlocks 1 true 0

/-- PERST_N: an accepted assertion. -/
def effPerstN (h : Hw) : Hw := h.hostReset
def execPerstN (s : State) : Host.Outcome State Fault Refusal := s.run effPerstN

/-- FUNCTION_LEVEL_RESET. -/
def effFunctionLevelReset (h : Hw) : Hw := h.hostReset
def execFunctionLevelReset (s : State) : Host.Outcome State Fault Refusal := s.run effFunctionLevelReset

/-- HOT_RESET. -/
def effHotReset (h : Hw) : Hw := h.hostReset
def execHotReset (s : State) : Host.Outcome State Fault Refusal := s.run effHotReset

/-- LINK_DISABLE. -/
def effLinkDisable (h : Hw) : Hw := h.hostReset
def execLinkDisable (s : State) : Host.Outcome State Fault Refusal := s.run effLinkDisable

/-! ### Power states (R526) -/

/-- D3HOT_ENTRY: PCI-PM L1 is entered in D3hot. -/
def effD3hotEntry (h : Hw) : Hw :=
  if !h.domOn domYOKE || h.solo || !h.flag F.LINK_UP || h.get F.DSTATE ≠ 0 then h else (h.set F.DSTATE 3).set F.PCIE_L1 1
def execD3hotEntry (s : State) : Host.Outcome State Fault Refusal := s.run effD3hotEntry

/-- D0_RETURN: the requests that waited proceed in order, and pending messages of unmasked vectors are sent. -/
def effD0Return (h : Hw) : Hw :=
  if h.get F.DSTATE ≠ 3 then h
  else
    let l := h.pcie.wait
    let h := ({ h with pcie := { h.pcie with wait := [] } } : Hw).set F.DSTATE 0
    let h := l.foldl Hw.send (h.set F.PCIE_L1 0)
    (List.range 68).foldl Hw.msixUnmask h
def execD0Return (s : State) : Host.Outcome State Fault Refusal := s.run effD0Return

/-- ASPM_L1_ENTRY: after 10 µs without traffic; traffic ends it. -/
def effAspmL1Entry (h : Hw) : Hw := if h.domOn domYOKE && h.flag F.LINK_UP && h.get F.DSTATE = 0 then h.set F.PCIE_L1 1 else h
def execAspmL1Entry (s : State) : Host.Outcome State Fault Refusal := s.run effAspmL1Entry

/-! ### BAR2 (R524) -/

/-- BAR2_REQUEST: a read of n bytes, or a write of bytes, with EP or not. -/
def effBar2Request (addr : Nat) (write ep : Bool) (bytes : Bytes) (n : Nat) (h : Hw) : Hw :=
  let b : Bar2 := ⟨addr, write, ep, bytes, n⟩
  if !h.domOn domYOKE || h.ideBlocked then h
  else
    let h := h.l1Exit
    if h.get F.DSTATE = 3 || !h.flag (F.RX_POWERED 4) || h.mb.hostOff then h.bar2Fail b 3
    else if h.flag F.SEC_RECOVERY then h.bar2Fail b 2
    else if write && ep then h.inc F.PCIE_POISON_RX
    else ({ h with pcie := { h.pcie with bar2 := h.pcie.bar2 ++ [b] } } : Hw).bar2Go
def execBar2Request (addr : Nat) (write ep : Bool) (bytes : Bytes) (n : Nat) (s : State) : Host.Outcome State Fault Refusal :=
  s.run (effBar2Request addr write ep bytes n)

/-- BAR2_ENABLE_TIMEOUT: the oldest request has waited 10 ms while MEM_CFG ENABLE is 0. -/
def effBar2EnableTimeout (h : Hw) : Hw :=
  match h.pcie.bar2 with
  | [] => h
  | b :: rest => if h.flag F.MEM_CFG_ENABLE then h else ({ h with pcie := { h.pcie with bar2 := rest } } : Hw).bar2Fail b 2
def execBar2EnableTimeout (s : State) : Host.Outcome State Fault Refusal := s.run effBar2EnableTimeout

/-! ### IDE (R527) -/

/-- IDE_KM_KEY_PROG: inside a secure session over DOE; stream 0 is the Link IDE stream, 1 to 4 are selective. -/
def effIdeKmKeyProg (sid stream : Nat) (keys : Bytes) (h : Hw) : Hw :=
  if !h.domOn domYOKE || h.solo || !h.sec.sessions.any (fun x => x.est && x.id = sid && x.doe) || 4 < stream then h
  else
    let sets := ((h.pcie.ide.find? stream).map (·.sets)).getD 0 + 1
    let h := { h with pcie := { h.pcie with ide := h.pcie.ide.set stream ⟨keys, true, sets⟩ } }
    if stream = 0 then h.set F.IDE_SECURE 1 else h
def execIdeKmKeyProg (sid stream : Nat) (keys : Bytes) (s : State) : Host.Outcome State Fault Refusal := s.run (effIdeKmKeyProg sid stream keys)

/-- IDE_INTEGRITY_FAIL: the TLP is dropped, its stream becomes Insecure. -/
def effIdeIntegrityFail (stream : Nat) (h : Hw) : Hw :=
  match h.pcie.ide.find? stream with
  | none => h
  | some k =>
    let h := { h with pcie := { h.pcie with ide := h.pcie.ide.set stream { k with secure := false } } }
    if stream = 0 then h.set F.IDE_SECURE 0 else h
def execIdeIntegrityFail (stream : Nat) (s : State) : Host.Outcome State Fault Refusal := s.run (effIdeIntegrityFail stream)

/-! ### The host event ring (R459, R461) -/

/-- The next record of the live log that the ring takes: none before ringNext, and it passes the filter. -/
def Hw.ringRecord (h : Hw) : Option EvRec :=
  h.evt.log.reverse.find? (fun r => (r.seq + 2 ^ 32 - h.evt.ringNext) % 2 ^ 32 < 2 ^ 31 && h.evFilter 0 r.code r.sev)

/-- EVENT_RING_WRITE (R459): the record is written at EVT_TAIL, EVT_TAIL advances, vector 65 is raised where IRQ_EN is 1. A ring whose address no longer
translates takes nothing. -/
def effEventRingWrite (h : Hw) : Hw :=
  match h.ringRecord with
  | none => h
  | some r =>
    let n := 2 ^ h.get F.RING_LOG2
    let tail := h.get F.EVT_TAIL
    if !h.domOn domYOKE || !h.flag F.RING_EN || (tail + 1) % n = h.get F.EVT_HEAD then h
    else
      match h.vwrite noCache (h.get F.EVR_BASE + 32 * tail) r.bytes with
      | .error _ => h
      | .ok h =>
        let h := ({ h with evt := { h.evt with ringNext := (r.seq + 1) % 2 ^ 32 } } : Hw).set F.EVT_TAIL ((tail + 1) % n)
        if h.flag F.EVR_IRQ_EN then h.msix 65 else h
def execEventRingWrite (s : State) : Host.Outcome State Fault Refusal := s.run effEventRingWrite

end Sys2Proof.Machine
end

