-- ==== Sys2Proof/Machine/Side.lean ====
section
/-!
DEFINITION. Machine/Side.lean: the sideband and the secure sessions: SPDM (R479, R484, R487), MCTP and I3C (R529, R530), PLDM (R531, R532).

The codes of SPDM and PLDM messages are those of their standards (log entry 62): a response is Out.reply, of kind 0x500 plus the SPDM response code, or
0x100 plus the PLDM type.
-/

namespace Sys2Proof.Machine

/-- The SPDM responder answers: it runs in the Yoke domain (R530). -/
def Hw.spdmOn (h : Hw) : Bool := h.domOn domYOKE

/-- Send an SPDM response. -/
def Hw.spdm (h : Hw) (code : Nat) (body : Bytes) : Hw := h.send (.reply (0x500 + code) body)

/-- The signature of the identity key over a message (R478). -/
def idSign (m : Bytes) : Bytes := (List.range 17088).map (Config.signature m)

/-- Send an SPDM response of this body, signed. -/
def Hw.spdmSigned (h : Hw) (code : Nat) (body nonce : Bytes) : Hw := h.spdm code (body ++ idSign (body ++ nonce))

/-- The session of an identifier. -/
def Hw.session (h : Hw) (id : Nat) : Option Sess := h.sec.sessions.find? (fun x => x.id = id)

/-- Change the session of an identifier. -/
def Hw.updSession (h : Hw) (id : Nat) (f : Sess → Sess) : Hw :=
  { h with sec := { h.sec with sessions := h.sec.sessions.map (fun x => if x.id = id then f x else x) } }

/-- A channel that a session claimed is free again, its staging areas are empty (R425, R442). -/
def Hw.unclaim (h : Hw) (id c : Nat) : Hw :=
  if (h.chan c).session = some id then (h.updChan c (fun k => { k with session := none, inp := [], outp := [] })).set (F.MB_SESSION c) 0 else h

/-- A session ends: its channels are unclaimed; a busy command completes (R437); a PLDM update without a session is over (R532). -/
def Hw.sessionEnd (h : Hw) (id : Nat) : Hw :=
  let h := { h with sec := { h.sec with sessions := h.sec.sessions.filter (fun x => x.id ≠ id) } }
  let h := (List.range 4).foldl (fun h c => h.unclaim id c) h
  if h.sec.sessions.any (·.est) then h else { h with side := { h.side with update := none } }

/-! ### SPDM -/

/-- SPDM_GET_MEASUREMENTS: M0 to M8, signed. -/
def effSpdmGetMeasurements (nonce : Bytes) (h : Hw) : Hw :=
  if h.spdmOn then h.spdmSigned 0x60 ((List.range 9).map (fun i => h.regBytes (regMeasure i) 32)).flatten nonce else h
def execSpdmGetMeasurements (nonce : Bytes) (s : State) : Host.Outcome State Fault Refusal := s.run (effSpdmGetMeasurements nonce)

/-- SPDM_KEY_EXCHANGE over MCTP or DOE, of which Solo profile has none (R6): a session under establishment; a fifth is refused with
SessionLimitExceeded. -/
def effSpdmKeyExchange (id : Nat) (doe : Bool) (nonce : Bytes) (h : Hw) : Hw :=
  if !h.spdmOn || (h.session id).isSome || (doe && h.solo) then h
  else if 4 ≤ h.sec.sessions.length then h.spdm 0x7F [0x0A]
  else ({ h with sec := { h.sec with sessions := h.sec.sessions ++ [⟨id, false, nonce, 0, doe⟩] } } : Hw).spdmSigned 0x64 pubKey nonce
def execSpdmKeyExchange (session : SpdmOpen) (nonce : Bytes) (s : State) : Host.Outcome State Fault Refusal :=
  s.run (effSpdmKeyExchange session.id session.doe nonce)

/-- Whether a requester's key may open a session: any while the part is unowned, a delegate's while it is owned (R487). -/
def Hw.delegate (h : Hw) (key : Bytes) : Bool :=
  match h.sec.owner with
  | none => true
  | some r => (List.range (fieldLE r 0x50 1)).any (fun i => sha256 key == slice r (0x60 + 32 * i) 32)

/-- SPDM_FINISH: while the part is owned, the requester authenticates with a delegate's key. A handshake that fails ends. -/
def effSpdmFinish (id : Nat) (key sig : Bytes) (h : Hw) : Hw :=
  match h.session id with
  | none => h
  | some x =>
    if !h.spdmOn || x.est then h
    else if h.sec.owner.isSome && !(h.delegate key && Config.verifies key x.transcript sig) then (h.sessionEnd id).spdm 0x7F [BitVec.ofNat 8 (h.free 10000)]
    else (h.updSession id (fun x => { x with est := true })).spdm 0x65 []
def execSpdmFinish (id : Nat) (key sig : Bytes) (s : State) : Host.Outcome State Fault Refusal := s.run (effSpdmFinish id key sig)

/-- SPDM_CHALLENGE: a response signed with the identity key. -/
def effSpdmChallenge (nonce : Bytes) (h : Hw) : Hw := if h.spdmOn then h.spdmSigned 0x03 (sha256 pubKey) nonce else h
def execSpdmChallenge (nonce : Bytes) (s : State) : Host.Outcome State Fault Refusal := s.run (effSpdmChallenge nonce)

/-- SPDM_GET_CERTIFICATE: the device certificate, unless CERT_MISMATCH is set (R479). -/
def effSpdmGetCertificate (h : Hw) : Hw :=
  if h.spdmOn && !h.flag F.CERT_MISMATCH then h.spdm 0x02 ((List.range Config.certLen).map Config.certByte) else h
def execSpdmGetCertificate (s : State) : Host.Outcome State Fault Refusal := s.run effSpdmGetCertificate

/-- SPDM_KEY_UPDATE: the next keys of an established session. -/
def effSpdmKeyUpdate (id : Nat) (h : Hw) : Hw :=
  if h.spdmOn && h.sessOn id then (h.updSession id (fun x => { x with keyGen := x.keyGen + 1 })).spdm 0x69 [] else h
def execSpdmKeyUpdate (id : Nat) (s : State) : Host.Outcome State Fault Refusal := s.run (effSpdmKeyUpdate id)

/-- SPDM_HEARTBEAT: an established session stays alive. -/
def effSpdmHeartbeat (id : Nat) (h : Hw) : Hw := if h.spdmOn && h.sessOn id then h.spdm 0x68 [] else h
def execSpdmHeartbeat (id : Nat) (s : State) : Host.Outcome State Fault Refusal := s.run (effSpdmHeartbeat id)

/-- SPDM_HEARTBEAT_TIMEOUT: three heartbeats of 60 s were missed. -/
def effSpdmHeartbeatTimeout (id : Nat) (h : Hw) : Hw := if h.spdmOn && h.sessOn id then h.sessionEnd id else h
def execSpdmHeartbeatTimeout (id : Nat) (s : State) : Host.Outcome State Fault Refusal := s.run (effSpdmHeartbeatTimeout id)

/-- SPDM_END_SESSION. -/
def effSpdmEndSession (id : Nat) (h : Hw) : Hw := if h.spdmOn && h.sessOn id then (h.sessionEnd id).spdm 0x6C [] else h
def execSpdmEndSession (id : Nat) (s : State) : Host.Outcome State Fault Refusal := s.run (effSpdmEndSession id)

/-! ### Bus addresses (R529) -/

/-- MCTP_SET_ENDPOINT_ID: answered by Sage too while YOKE is off (R530). -/
def effMctpSetEndpointId (eid : Nat) (h : Hw) : Hw :=
  if h.domOn domAON && 8 ≤ eid && eid < 255 then ({ h with side := { h.side with eid := some eid } } : Hw).send (.reply 0 [0, 0, BitVec.ofNat 8 eid]) else h
def execMctpSetEndpointId (eid : Nat) (s : State) : Host.Outcome State Fault Refusal := s.run (effMctpSetEndpointId eid)

/-- I3C_ENTDAA. -/
def effI3cEntdaa (addr : Nat) (h : Hw) : Hw := if h.domOn domAON && addr < 128 then { h with side := { h.side with i3c := some addr } } else h
def execI3cEntdaa (addr : Nat) (s : State) : Host.Outcome State Fault Refusal := s.run (effI3cEntdaa addr)

/-! ### PLDM (R531, R532) -/

/-- A PLDM response of a type: completion code and body. -/
def Hw.pldm (h : Hw) (typ cc : Nat) (body : Bytes) : Hw := h.send (.reply (0x100 + typ) (BitVec.ofNat 8 cc :: body))

/-- The lowest FADE of an Eyelet, signed. -/
def Hw.lowFade (h : Hw) (e : Nat) : Int :=
  (List.range 36).foldl (fun m l => min m (untwos 16 (h.get (F.LAS_FADE e l)))) (untwos 16 (h.get (F.LAS_FADE e 0)))

/-- The reading of a sensor (R531), 4 bytes. -/
def Hw.sensor (h : Hw) (id : Nat) : Option Nat :=
  if 1 ≤ id && id ≤ 64 then some (twos 32 (untwos 16 (h.get (F.SENSOR_TEMP (id - 1)))))
  else if id = 65 then some (twos 32 (untwos 16 (h.get F.TJ_MAX)))
  else if id = 66 then some (h.get F.VIN_MV)
  else if id = 67 then some (h.get F.IIN_MA)
  else if id = 68 then some (h.get F.PIN_AVG_W)
  else if 69 ≤ id && id ≤ 76 then some (twos 32 (h.lowFade (id - 69)))
  else if id = 100 then some (h.get F.SAGE_CAUSE)
  else if id = 101 then some (h.get F.VIN_WARN)
  else if id = 102 then some (h.get F.THERMTRIP_LATCH)
  else if 110 ≤ id && id ≤ 125 then some (h.get (F.STK_STATE (id - 110)))
  else none

/-- PLDM_SENSOR_READ: while YOKE is off only sensors 1 to 68 are read, the others answer ERROR_NOT_READY (R530). -/
def effPldmSensorRead (id : Nat) (h : Hw) : Hw :=
  if !h.domOn domAON then h
  else if !h.domOn domYOKE && (id = 0 || 68 < id) then h.pldm 2 4 []
  else
    match h.sensor id with
    | some v => h.pldm 2 0 (natLE 4 v)
    | none => h.pldm 2 0x80 []
def execPldmSensorRead (id : Nat) (s : State) : Host.Outcome State Fault Refusal := s.run (effPldmSensorRead id)

/-- The slots of A and B that give the running set no component. -/
def Hw.idleSlots (h : Hw) : List Nat := [1, 2].filter (fun s => !h.sec.comps.any (fun c => c.slot = s))

/-- Write an update's image into a slot and verify it by the checks of IMG_COMMIT; a verify failure is reported, the slot stays as written. -/
def Hw.pldmLoad (h : Hw) (slot : Nat) (image : Bytes) : Hw :=
  let h := ({ h with nor := Mem.clear h.nor (bundleBase slot) 0x8000000 } : Hw).norWrite (bundleBase slot) image
  if h.commitCode slot image.length = 0 then ({ h with side := { h.side with update := some slot } } : Hw).pldm 5 0 [0] else h.pldm 5 0 [1]

/-- PLDM_REQUEST_UPDATE: only inside a secure session; refused where both slots contribute; the later of two updates is told busy (R533). -/
def effPldmRequestUpdate (sid : Nat) (image : Bytes) (h : Hw) : Hw :=
  if !h.domOn domAON then h
  else if !h.domOn domYOKE then h.pldm 5 4 []
  else if !h.sessOn sid then h.pldm 5 1 []
  else if h.side.update.isSome then h.pldm 5 0x81 []
  else
    match h.idleSlots with
    | [] => h.pldm 5 1 []
    | [s] => if image.length ≤ 0x7FFF000 then h.pldmLoad s image else h.pldm 5 1 []
    | _ => if image.length ≤ 0x7FFF000 then h.pldmLoad (if h.choice 10001 then 1 else 2) image else h.pldm 5 1 []
def execPldmRequestUpdate (sid : Nat) (image : Bytes) (s : State) : Host.Outcome State Fault Refusal := s.run (effPldmRequestUpdate sid image)

/-- PLDM_ACTIVATE_FIRMWARE: the verified bundle is committed, for the next boot. -/
def effPldmActivateFirmware (sid : Nat) (h : Hw) : Hw :=
  if !h.domOn domAON then h
  else if !h.domOn domYOKE then h.pldm 5 4 []
  else if !h.sessOn sid then h.pldm 5 1 []
  else
    match h.side.update with
    | none => h.pldm 5 1 []
    | some s => (({ h with side := { h.side with update := none } } : Hw).commitGo s (h.bundle s).length).pldm 5 0 []
def execPldmActivateFirmware (sid : Nat) (s : State) : Host.Outcome State Fault Refusal := s.run (effPldmActivateFirmware sid)

end Sys2Proof.Machine
end

