-- ==== Sys2Proof/Machine/Dispatch.lean ====
section
/-!
DEFINITION. Machine/Dispatch.lean: one arm per command, each a direct call of its meaning.
-/

namespace Sys2Proof.Machine

def exec (i : Instr) (s : State) : Host.Outcome State Fault Refusal :=
  match i with
  | .sqTailDb q v => Sys2Proof.Machine.execSqTailDb q v s
  | .cqHeadDb q v => Sys2Proof.Machine.execCqHeadDb q v s
  | .admitEntry q ext => Sys2Proof.Machine.execAdmitEntry q ext s
  | .fetchInstruction c ext => Sys2Proof.Machine.execFetchInstruction c ext s
  | .assignContinueMma c idx => Sys2Proof.Machine.execAssignContinueMma c idx s
  | .mma a => Sys2Proof.Machine.execMma a s
  | .mmaWritebackDone c idx => Sys2Proof.Machine.execMmaWritebackDone c idx s
  | .cvt v => Sys2Proof.Machine.execCvt v s
  | .vop v => Sys2Proof.Machine.execVop v s
  | .dropout v => Sys2Proof.Machine.execDropout v s
  | .optSgd v => Sys2Proof.Machine.execOptSgd v s
  | .optMomentum v => Sys2Proof.Machine.execOptMomentum v s
  | .optAdamw v => Sys2Proof.Machine.execOptAdamw v s
  | .red v => Sys2Proof.Machine.execRed v s
  | .pleat v => Sys2Proof.Machine.execPleat v s
  | .unpleat v => Sys2Proof.Machine.execUnpleat v s
  | .rng v => Sys2Proof.Machine.execRng v s
  | .vecInstrComplete c idx => Sys2Proof.Machine.execVecInstrComplete c idx s
  | .move d => Sys2Proof.Machine.execMove d s
  | .dmaChunkDone c idx k ext => Sys2Proof.Machine.execDmaChunkDone c idx k ext s
  | .statRegister c idx => Sys2Proof.Machine.execStatRegister c idx s
  | .statQuery c idx => Sys2Proof.Machine.execStatQuery c idx s
  | .statSetscale c idx => Sys2Proof.Machine.execStatSetscale c idx s
  | .statSetctl c idx => Sys2Proof.Machine.execStatSetctl c idx s
  | .statSetwatch c idx => Sys2Proof.Machine.execStatSetwatch c idx s
  | .statLoad c idx => Sys2Proof.Machine.execStatLoad c idx s
  | .signal c idx => Sys2Proof.Machine.execSignal c idx s
  | .wait c idx => Sys2Proof.Machine.execWait c idx s
  | .waitTimeout c idx => Sys2Proof.Machine.execWaitTimeout c idx s
  | .fence c idx => Sys2Proof.Machine.execFence c idx s
  | .mark c idx => Sys2Proof.Machine.execMark c idx s
  | .writeCompletionRecord q => Sys2Proof.Machine.execWriteCompletionRecord q s
  | .queueEnable q w => Sys2Proof.Machine.execQueueEnable q w s
  | .queueDisable q w => Sys2Proof.Machine.execQueueDisable q w s
  | .queueDrained q => Sys2Proof.Machine.execQueueDrained q s
  | .ctxPreempt c => Sys2Proof.Machine.execCtxPreempt c s
  | .contextSave c => Sys2Proof.Machine.execContextSave c s
  | .contextSaveDone c => Sys2Proof.Machine.execContextSaveDone c s
  | .ctxResume c => Sys2Proof.Machine.execCtxResume c s
  | .contextRestore c arrays => Sys2Proof.Machine.execContextRestore c arrays s
  | .contextRestoreDone c => Sys2Proof.Machine.execContextRestoreDone c s
  | .ctxCancel c => Sys2Proof.Machine.execCtxCancel c s
  | .tokenWrite t v => Sys2Proof.Machine.execTokenWrite t v s
  | .stagingCopyStart c idx o => Sys2Proof.Machine.execStagingCopyStart c idx o s
  | .stagingCopyDone c idx o ext => Sys2Proof.Machine.execStagingCopyDone c idx o ext s
  | .stagedWriteback c idx => Sys2Proof.Machine.execStagedWriteback c idx s
  | .spadScrubRead p => Sys2Proof.Machine.execSpadScrubRead p s
  | .treqTailDb v => Sys2Proof.Machine.execTreqTailDb v s
  | .treqRegister ext => Sys2Proof.Machine.execTreqRegister ext s
  | .treqRelease ext => Sys2Proof.Machine.execTreqRelease ext s
  | .treqPin ext => Sys2Proof.Machine.execTreqPin ext s
  | .treqUnpin ext => Sys2Proof.Machine.execTreqUnpin ext s
  | .treqMigrate ext => Sys2Proof.Machine.execTreqMigrate ext s
  | .treqWorkPin ext => Sys2Proof.Machine.execTreqWorkPin ext s
  | .treqWorkUnpin ext => Sys2Proof.Machine.execTreqWorkUnpin ext s
  | .treqQuery ext => Sys2Proof.Machine.execTreqQuery ext s
  | .objectMoveDone n ext => Sys2Proof.Machine.execObjectMoveDone n ext s
  | .hbmRequestAccept addr write bytes => Sys2Proof.Machine.execHbmRequestAccept addr write bytes s
  | .darningAgeFlush line => Sys2Proof.Machine.execDarningAgeFlush line s
  | .hbmReadComplete line => Sys2Proof.Machine.execHbmReadComplete line s
  | .hbmScrubRead stk => Sys2Proof.Machine.execHbmScrubRead stk s
  | .hbmRetrainStart stk ch => Sys2Proof.Machine.execHbmRetrainStart stk ch s
  | .hbmRetrainDone stk pass temp => Sys2Proof.Machine.execHbmRetrainDone stk pass temp s
  | .hbmRetrainRetry stk ch => Sys2Proof.Machine.execHbmRetrainRetry stk ch s
  | .marginScanBurst stk => Sys2Proof.Machine.execMarginScanBurst stk s
  | .marginScanPause stk counts => Sys2Proof.Machine.execMarginScanPause stk counts s
  | .mapoutEvacuated stk => Sys2Proof.Machine.execMapoutEvacuated stk s
  | .relayoutSlice stk usable => Sys2Proof.Machine.execRelayoutSlice stk usable s
  | .relayoutDone stk => Sys2Proof.Machine.execRelayoutDone stk s
  | .pageWalkDone u va acc => Sys2Proof.Machine.execPageWalkDone u va acc s
  | .runAheadStart c idx o => Sys2Proof.Machine.execRunAheadStart c idx o s
  | .atsCompletion addr size grant => Sys2Proof.Machine.execAtsCompletion addr size grant s
  | .priResponse addr code => Sys2Proof.Machine.execPriResponse addr code s
  | .atsInvalidateRequest addr size => Sys2Proof.Machine.execAtsInvalidateRequest addr size s
  | .xlateInval path w => Sys2Proof.Machine.execXlateInval path w s
  | .invalidationDone => Sys2Proof.Machine.execInvalidationDone s
  | .fltRespRetry id => Sys2Proof.Machine.execFltRespRetry id s
  | .fltRespCancel id => Sys2Proof.Machine.execFltRespCancel id s
  | .fltHeadDb v => Sys2Proof.Machine.execFltHeadDb v s
  | .faultTimeout id => Sys2Proof.Machine.execFaultTimeout id s
  | .peerReadTimeout u miss => Sys2Proof.Machine.execPeerReadTimeout u miss s
  | .d2dRetrain link => Sys2Proof.Machine.execD2dRetrain link s
  | .d2dRetrainDone link ok => Sys2Proof.Machine.execD2dRetrainDone link ok s
  | .linkEnWrite l v => Sys2Proof.Machine.execLinkEnWrite l v s
  | .lasersLocked l => Sys2Proof.Machine.execLasersLocked l s
  | .lightDetected l => Sys2Proof.Machine.execLightDetected l s
  | .noLightTimeout l => Sys2Proof.Machine.execNoLightTimeout l s
  | .acquireDone l => Sys2Proof.Machine.execAcquireDone l s
  | .alignDone l => Sys2Proof.Machine.execAlignDone l s
  | .verifyDone l lanes rx tx => Sys2Proof.Machine.execVerifyDone l lanes rx tx s
  | .markerLockLoss l => Sys2Proof.Machine.execMarkerLockLoss l s
  | .retrainTimeout l => Sys2Proof.Machine.execRetrainTimeout l s
  | .eyeletFail e => Sys2Proof.Machine.execEyeletFail e s
  | .frameWrite l f => Sys2Proof.Machine.execFrameWrite l f s
  | .frameReadReq l f => Sys2Proof.Machine.execFrameReadReq l f s
  | .frameReadResp l f => Sys2Proof.Machine.execFrameReadResp l f s
  | .frameColl l f => Sys2Proof.Machine.execFrameColl l f s
  | .frameKeepalive l f => Sys2Proof.Machine.execFrameKeepalive l f s
  | .frameCtrl l f => Sys2Proof.Machine.execFrameCtrl l f s
  | .frameIdle l f => Sys2Proof.Machine.execFrameIdle l f s
  | .ackTimeoutReplay l => Sys2Proof.Machine.execAckTimeoutReplay l s
  | .laneMarker l m => Sys2Proof.Machine.execLaneMarker l m s
  | .laneOpDrop l w => Sys2Proof.Machine.execLaneOpDrop l w s
  | .laneOpAdd l w => Sys2Proof.Machine.execLaneOpAdd l w s
  | .laneOpDupStart l w => Sys2Proof.Machine.execLaneOpDupStart l w s
  | .laneOpDupSwitched l w => Sys2Proof.Machine.execLaneOpDupSwitched l w s
  | .laneOpDropNow l w => Sys2Proof.Machine.execLaneOpDropNow l w s
  | .suddenLaneFailure l w => Sys2Proof.Machine.execSuddenLaneFailure l w s
  | .calSlotStart e => Sys2Proof.Machine.execCalSlotStart e s
  | .calSlotEnd e power => Sys2Proof.Machine.execCalSlotEnd e power s
  | .calOverdue e x => Sys2Proof.Machine.execCalOverdue e x s
  | .laserFadeSample e x power fade => Sys2Proof.Machine.execLaserFadeSample e x power fade s
  | .spareLocked e => Sys2Proof.Machine.execSpareLocked e s
  | .switchoverTimeout e => Sys2Proof.Machine.execSwitchoverTimeout e s
  | .switchoverRetry e => Sys2Proof.Machine.execSwitchoverRetry e s
  | .restoreLaserLocked e => Sys2Proof.Machine.execRestoreLaserLocked e s
  | .restoreMarginTimeout e => Sys2Proof.Machine.execRestoreMarginTimeout e s
  | .linkCmdRethread l port => Sys2Proof.Machine.execLinkCmdRethread l port s
  | .linkCmdRetrain l => Sys2Proof.Machine.execLinkCmdRetrain l s
  | .linkCmdDropLane l w => Sys2Proof.Machine.execLinkCmdDropLane l w s
  | .linkCmdRestoreLane l w => Sys2Proof.Machine.execLinkCmdRestoreLane l w s
  | .linkCmdSpareLane l w => Sys2Proof.Machine.execLinkCmdSpareLane l w s
  | .rethreadStart l => Sys2Proof.Machine.execRethreadStart l s
  | .steeringMoveDone l => Sys2Proof.Machine.execSteeringMoveDone l s
  | .reacquireDone l => Sys2Proof.Machine.execReacquireDone l s
  | .rethreadMarkerTimeout l => Sys2Proof.Machine.execRethreadMarkerTimeout l s
  | .topoEnable => Sys2Proof.Machine.execTopoEnable s
  | .lifReceive l lif => Sys2Proof.Machine.execLifReceive l lif s
  | .lifRetry l => Sys2Proof.Machine.execLifRetry l s
  | .remapWaitExpiry l => Sys2Proof.Machine.execRemapWaitExpiry l s
  | .portWaitExpiry l => Sys2Proof.Machine.execPortWaitExpiry l s
  | .discTmoExpiry => Sys2Proof.Machine.execDiscTmoExpiry s
  | .keepaliveSend => Sys2Proof.Machine.execKeepaliveSend s
  | .keepaliveMiss chip => Sys2Proof.Machine.execKeepaliveMiss chip s
  | .collReduceScatter eng => Sys2Proof.Machine.execCollReduceScatter eng s
  | .collAllGather eng => Sys2Proof.Machine.execCollAllGather eng s
  | .collAllReduce eng => Sys2Proof.Machine.execCollAllReduce eng s
  | .collAllToAll eng => Sys2Proof.Machine.execCollAllToAll eng s
  | .collBroadcast eng => Sys2Proof.Machine.execCollBroadcast eng s
  | .collStepDone c idx => Sys2Proof.Machine.execCollStepDone c idx s
  | .collComplete c idx peers => Sys2Proof.Machine.execCollComplete c idx peers s
  | .collTimeout c idx pos => Sys2Proof.Machine.execCollTimeout c idx pos s
  | .absentScan => Sys2Proof.Machine.execAbsentScan s
  | .relaxClr => Sys2Proof.Machine.execRelaxClr s
  | .snapFreeze => Sys2Proof.Machine.execSnapFreeze s
  | .snapSlotCleared => Sys2Proof.Machine.execSnapSlotCleared s
  | .guardedWriteRelease block => Sys2Proof.Machine.execGuardedWriteRelease block s
  | .snapDataAcked => Sys2Proof.Machine.execSnapDataAcked s
  | .snapCommit => Sys2Proof.Machine.execSnapCommit s
  | .nvmeCompletion status => Sys2Proof.Machine.execNvmeCompletion status s
  | .nvmeTimeout => Sys2Proof.Machine.execNvmeTimeout s
  | .restorePullDone data poison => Sys2Proof.Machine.execRestorePullDone data poison s
  | .mbDbWake c path => Sys2Proof.Machine.execMbDbWake c path s
  | .mbDbSend c path => Sys2Proof.Machine.execMbDbSend c path s
  | .mbBufferWrite c path off bytes => Sys2Proof.Machine.execMbBufferWrite c path off bytes s
  | .transportWake c => Sys2Proof.Machine.execTransportWake c s
  | .transportWriteSend c sid buf => Sys2Proof.Machine.execTransportWriteSend c sid buf s
  | .transportReadStatus c => Sys2Proof.Machine.execTransportReadStatus c s
  | .transportReadBuffer c sid => Sys2Proof.Machine.execTransportReadBuffer c sid s
  | .devIdentify ch seq p => Sys2Proof.Machine.execDevIdentify ch seq p s
  | .devStatus ch seq p => Sys2Proof.Machine.execDevStatus ch seq p s
  | .devResetPart ch seq p => Sys2Proof.Machine.execDevResetPart ch seq p s
  | .devResetJob ch seq p => Sys2Proof.Machine.execDevResetJob ch seq p s
  | .devWriteIn ch seq p => Sys2Proof.Machine.execDevWriteIn ch seq p s
  | .devReadOut ch seq p => Sys2Proof.Machine.execDevReadOut ch seq p s
  | .imgInfo ch seq p => Sys2Proof.Machine.execImgInfo ch seq p s
  | .imgErase ch seq p => Sys2Proof.Machine.execImgErase ch seq p s
  | .imgWrite ch seq p => Sys2Proof.Machine.execImgWrite ch seq p s
  | .imgCommit ch seq p => Sys2Proof.Machine.execImgCommit ch seq p s
  | .imgCfgGet ch seq p => Sys2Proof.Machine.execImgCfgGet ch seq p s
  | .imgCfgSet ch seq p => Sys2Proof.Machine.execImgCfgSet ch seq p s
  | .imgCfgDefault ch seq p => Sys2Proof.Machine.execImgCfgDefault ch seq p s
  | .pwrStatus ch seq p => Sys2Proof.Machine.execPwrStatus ch seq p s
  | .pwrClockCap ch seq p => Sys2Proof.Machine.execPwrClockCap ch seq p s
  | .pwrStandby ch seq p => Sys2Proof.Machine.execPwrStandby ch seq p s
  | .pwrDomain ch seq p => Sys2Proof.Machine.execPwrDomain ch seq p s
  | .jobSetKey ch seq p => Sys2Proof.Machine.execJobSetKey ch seq p s
  | .jobSetBinding ch seq p => Sys2Proof.Machine.execJobSetBinding ch seq p s
  | .jobSetBases ch seq p => Sys2Proof.Machine.execJobSetBases ch seq p s
  | .jobEnable ch seq p => Sys2Proof.Machine.execJobEnable ch seq p s
  | .jobQuiesce ch seq p => Sys2Proof.Machine.execJobQuiesce ch seq p s
  | .jobQuiesced => Sys2Proof.Machine.execJobQuiesced s
  | .jobTapeGet ch seq p => Sys2Proof.Machine.execJobTapeGet ch seq p s
  | .jobTapeSet ch seq p => Sys2Proof.Machine.execJobTapeSet ch seq p s
  | .topoSetCoord ch seq p => Sys2Proof.Machine.execTopoSetCoord ch seq p s
  | .topoLoadPlan ch seq p => Sys2Proof.Machine.execTopoLoadPlan ch seq p s
  | .topoStatus ch seq p => Sys2Proof.Machine.execTopoStatus ch seq p s
  | .topoPeer ch seq p => Sys2Proof.Machine.execTopoPeer ch seq p s
  | .linkEnable ch seq p => Sys2Proof.Machine.execLinkEnable ch seq p s
  | .linkStatus ch seq p => Sys2Proof.Machine.execLinkStatus ch seq p s
  | .linkLaserFactory ch seq p => Sys2Proof.Machine.execLinkLaserFactory ch seq p s
  | .memRetrain ch seq p => Sys2Proof.Machine.execMemRetrain ch seq p s
  | .memMargin ch seq p => Sys2Proof.Machine.execMemMargin ch seq p s
  | .memMarginResult ch seq p => Sys2Proof.Machine.execMemMarginResult ch seq p s
  | .memStackState ch seq p => Sys2Proof.Machine.execMemStackState ch seq p s
  | .memMapout ch seq p => Sys2Proof.Machine.execMemMapout ch seq p s
  | .memMapoutClear ch seq p => Sys2Proof.Machine.execMemMapoutClear ch seq p s
  | .memRegion ch seq p => Sys2Proof.Machine.execMemRegion ch seq p s
  | .memMap ch seq p => Sys2Proof.Machine.execMemMap ch seq p s
  | .memUnmap ch seq p => Sys2Proof.Machine.execMemUnmap ch seq p s
  | .memPeerWindow ch seq p => Sys2Proof.Machine.execMemPeerWindow ch seq p s
  | .memHostWindow ch seq p => Sys2Proof.Machine.execMemHostWindow ch seq p s
  | .memLend ch seq p => Sys2Proof.Machine.execMemLend ch seq p s
  | .memInval ch seq p => Sys2Proof.Machine.execMemInval ch seq p s
  | .memFaultResp ch seq p => Sys2Proof.Machine.execMemFaultResp ch seq p s
  | .qCtxCtl ch seq p => Sys2Proof.Machine.execQCtxCtl ch seq p s
  | .qQueueCtl ch seq p => Sys2Proof.Machine.execQQueueCtl ch seq p s
  | .snapSetBase ch seq p => Sys2Proof.Machine.execSnapSetBase ch seq p s
  | .snapLend ch seq p => Sys2Proof.Machine.execSnapLend ch seq p s
  | .snapWithdraw ch seq p => Sys2Proof.Machine.execSnapWithdraw ch seq p s
  | .snapSuccessor ch seq p => Sys2Proof.Machine.execSnapSuccessor ch seq p s
  | .snapBindBuddy ch seq p => Sys2Proof.Machine.execSnapBindBuddy ch seq p s
  | .snapBindNvme ch seq p => Sys2Proof.Machine.execSnapBindNvme ch seq p s
  | .snapSlots ch seq p => Sys2Proof.Machine.execSnapSlots ch seq p s
  | .snapUnbind ch seq p => Sys2Proof.Machine.execSnapUnbind ch seq p s
  | .snapBuddyLost ch seq p => Sys2Proof.Machine.execSnapBuddyLost ch seq p s
  | .snapRestore ch seq p => Sys2Proof.Machine.execSnapRestore ch seq p s
  | .secGetId ch seq p => Sys2Proof.Machine.execSecGetId ch seq p s
  | .secQuote ch seq p => Sys2Proof.Machine.execSecQuote ch seq p s
  | .secEnrol ch seq p => Sys2Proof.Machine.execSecEnrol ch seq p s
  | .diagChervil ch seq p => Sys2Proof.Machine.execDiagChervil ch seq p s
  | .diagRegRead ch seq p => Sys2Proof.Machine.execDiagRegRead ch seq p s
  | .diagRegWrite ch seq p => Sys2Proof.Machine.execDiagRegWrite ch seq p s
  | .diagEngineMap ch seq p => Sys2Proof.Machine.execDiagEngineMap ch seq p s
  | .diagLoopback ch seq p => Sys2Proof.Machine.execDiagLoopback ch seq p s
  | .evtRing ch seq p => Sys2Proof.Machine.execEvtRing ch seq p s
  | .evtRead ch seq p => Sys2Proof.Machine.execEvtRead ch seq p s
  | .evtFilter ch seq p => Sys2Proof.Machine.execEvtFilter ch seq p s
  | .sageSensors ch seq p => Sys2Proof.Machine.execSageSensors ch seq p s
  | .sagePins ch seq p => Sys2Proof.Machine.execSagePins ch seq p s
  | .sageSetThresh ch seq p => Sys2Proof.Machine.execSageSetThresh ch seq p s
  | .sageLaser ch seq p => Sys2Proof.Machine.execSageLaser ch seq p s
  | .eventRingWrite => Sys2Proof.Machine.execEventRingWrite s
  | .evtHeadDb v => Sys2Proof.Machine.execEvtHeadDb v s
  | .aonPowerUp => Sys2Proof.Machine.execAonPowerUp s
  | .aonPowerLoss => Sys2Proof.Machine.execAonPowerLoss s
  | .vinWindowMet => Sys2Proof.Machine.execVinWindowMet s
  | .pllLock => Sys2Proof.Machine.execPllLock s
  | .bootRomRun tries recovery => Sys2Proof.Machine.execBootRomRun tries recovery s
  | .firmwareReady => Sys2Proof.Machine.execFirmwareReady s
  | .bootWatchdog => Sys2Proof.Machine.execBootWatchdog s
  | .panelBringupDone bad => Sys2Proof.Machine.execPanelBringupDone bad s
  | .perstOutRelease => Sys2Proof.Machine.execPerstOutRelease s
  | .sageSample temps vin iin => Sys2Proof.Machine.execSageSample temps vin iin s
  | .throttleEventFlush => Sys2Proof.Machine.execThrottleEventFlush s
  | .vinReset => Sys2Proof.Machine.execVinReset s
  | .vinOv => Sys2Proof.Machine.execVinOv s
  | .pllLoss => Sys2Proof.Machine.execPllLoss s
  | .thermtrip sensor => Sys2Proof.Machine.execThermtrip sensor s
  | .forceThrottleN level => Sys2Proof.Machine.execForceThrottleN level s
  | .pwrBrakeN level => Sys2Proof.Machine.execPwrBrakeN level s
  | .extThermtripN level => Sys2Proof.Machine.execExtThermtripN level s
  | .resetReqN level => Sys2Proof.Machine.execResetReqN level s
  | .snapReqN level => Sys2Proof.Machine.execSnapReqN level s
  | .pinStuck pin => Sys2Proof.Machine.execPinStuck pin s
  | .perstN => Sys2Proof.Machine.execPerstN s
  | .functionLevelReset => Sys2Proof.Machine.execFunctionLevelReset s
  | .hotReset => Sys2Proof.Machine.execHotReset s
  | .linkDisable => Sys2Proof.Machine.execLinkDisable s
  | .d3hotEntry => Sys2Proof.Machine.execD3hotEntry s
  | .d0Return => Sys2Proof.Machine.execD0Return s
  | .aspmL1Entry => Sys2Proof.Machine.execAspmL1Entry s
  | .bar2Request addr write ep bytes n => Sys2Proof.Machine.execBar2Request addr write ep bytes n s
  | .bar2EnableTimeout => Sys2Proof.Machine.execBar2EnableTimeout s
  | .ideKmKeyProg sid stream keys => Sys2Proof.Machine.execIdeKmKeyProg sid stream keys s
  | .ideIntegrityFail stream => Sys2Proof.Machine.execIdeIntegrityFail stream s
  | .spdmGetMeasurements nonce => Sys2Proof.Machine.execSpdmGetMeasurements nonce s
  | .spdmKeyExchange session nonce => Sys2Proof.Machine.execSpdmKeyExchange session nonce s
  | .spdmEndSession id => Sys2Proof.Machine.execSpdmEndSession id s
  | .spdmHeartbeatTimeout id => Sys2Proof.Machine.execSpdmHeartbeatTimeout id s
  | .mctpSetEndpointId eid => Sys2Proof.Machine.execMctpSetEndpointId eid s
  | .i3cEntdaa addr => Sys2Proof.Machine.execI3cEntdaa addr s
  | .pldmSensorRead id => Sys2Proof.Machine.execPldmSensorRead id s
  | .pldmRequestUpdate sid image => Sys2Proof.Machine.execPldmRequestUpdate sid image s
  | .pldmActivateFirmware sid => Sys2Proof.Machine.execPldmActivateFirmware sid s
  | .registerWrite path off size v => Sys2Proof.Machine.execRegisterWrite path off size v s
  | .counterLowHalfRead path off => Sys2Proof.Machine.execCounterLowHalfRead path off s
  | .voteSweep upsets => Sys2Proof.Machine.execVoteSweep upsets s
  | .mmaLastPromotion c idx => Sys2Proof.Machine.execMmaLastPromotion c idx s
  | .registerRead path off size => Sys2Proof.Machine.execRegisterRead path off size s
  | .partReset => Sys2Proof.Machine.execPartReset s
  | .frameNotDelivered l crc => Sys2Proof.Machine.execFrameNotDelivered l crc s
  | .pcieLinkDown => Sys2Proof.Machine.execPcieLinkDown s
  | .pcieLinkUp speed width ats => Sys2Proof.Machine.execPcieLinkUp speed width ats s
  | .pcieCompletionTimeout u miss => Sys2Proof.Machine.execPcieCompletionTimeout u miss s
  | .priReenable => Sys2Proof.Machine.execPriReenable s
  | .pinFlagClear pin => Sys2Proof.Machine.execPinFlagClear pin s
  | .treqReservedOp ext => Sys2Proof.Machine.execTreqReservedOp ext s
  | .spdmHeartbeat id => Sys2Proof.Machine.execSpdmHeartbeat id s
  | .spdmFinish id key sig => Sys2Proof.Machine.execSpdmFinish id key sig s
  | .spdmChallenge nonce => Sys2Proof.Machine.execSpdmChallenge nonce s
  | .spdmGetCertificate => Sys2Proof.Machine.execSpdmGetCertificate s
  | .spdmKeyUpdate id => Sys2Proof.Machine.execSpdmKeyUpdate id s

end Sys2Proof.Machine
end

