-- ==== Sys2Proof/Machine/Stall.lean ====
section
/-!
DEFINITION. Machine/Stall.lean: what an engine waits for in one cycle of its clock, and the counters that a cycle advances (R194, R195).
-/

namespace Sys2Proof.Machine

/-- A stall cause, in the order in which the first that holds counts (R195). -/
inductive Stall where
  | preempt | token | xlate | notResident | drain | hbm | link
  deriving DecidableEq, Repr

/-- The causes in the order of R195. -/
def stallOrder : List Stall := [.preempt, .token, .xlate, .notResident, .drain, .hbm, .link]

/-- The counter of a cause in engine e's block (R194). -/
def Stall.fld (e : Nat) : Stall → Fld
  | .preempt => F.STL_PREEMPT e
  | .token => F.STL_TOKEN e
  | .xlate => F.STL_XLATE e
  | .notResident => F.STL_NOT_RESIDENT e
  | .drain => F.STL_DRAIN e
  | .hbm => F.STL_HBM_BUSY e
  | .link => F.STL_LINK_CREDIT e

/-- The cache of translations that an engine uses (R270). -/
def engCache (eng : Nat) : Nat := if eng < 256 then panelOfEngine eng else if eng < 288 then 8 + (eng - 256) else eng - 288

/-- The accesses that an instruction has before it, with their lengths: those of the next chunk of an issued MOVE (R277), else its
footprint. -/
def Ent.ahead (e : Ent) : List (Acc × Nat × Nat) :=
  let whole := (lens e.reads).map (Acc.read, ·) ++ (lens e.writes).map (Acc.write, ·)
  if insOpc e.raw = 6 && e.ph == .issued then
    match descIn e.descs (bitsOf e.raw 122 107), descIn e.descs (bitsOf e.raw 106 91) with
    | some d, some s =>
      let hi := min s.count (e.cursor + moveChunk s.fmt)
      (s.stream e.cursor hi).map (Acc.read, ·) ++ (d.stream e.cursor hi).map (Acc.write, ·)
    | _, _ => whole
  else whole

/-- Whether an instruction waits for a region, for scratchpad or for the write guard (R195, R206, R404); a staged result on its way home
waits for its copy (R208). -/
def Hw.notHere (h : Hw) (eng : Nat) (e : Ent) : Bool :=
  let cache := engCache eng
  let writes := if eng < 256 then [] else (e.ahead.filter (fun g => g.1 == .write)).map (·.2)
  (h.resultWait cache (if e.ph == .issued then e.res.segs else []) (if e.ph == .issued then writes else [])).isSome ||
  if eng < 256 then !h.flag F.SPAD_CFG_ENABLE || e.ph == .writeback || (e.ph == .held && !h.allResident (panelOfEngine eng) e)
  else e.ahead.any (fun g => h.spadOff cache g.1 [g.2]) || (e.ph == .held && (e.reads ++ e.writes).any (fun g => h.objBusy g.1 g.2))

/-- Whether one of an instruction's accesses waits for a host translation, or for a page walk: openly, where its engine's cache does not
hold the leaf (R195, R270, R274). -/
def Hw.xlateWaits (h : Hw) (eng : Nat) (e : Ent) : Bool :=
  let cache := engCache eng
  e.ahead.any (fun g => (pageParts g.2.1 g.2.2).any (fun p =>
    (!h.xl.tlbs.any (fun t => t.cache = cache && t.page ≤ p.1 && p.1 < t.page + t.size) && h.choice 95) ||
    match h.translate cache p.1 g.1 with
    | .ok (.host w off) _ => !h.atcHas g.1 (h.hostAddr w off)
    | _ => false))

/-- Whether an instruction waits for HBM: an access needs it, or a page walk, while the block is disabled; or a DMA or Seam engine's access
meets a channel in a window, or a full pool of tags or Darning entries (R195, R238, R244, R253). -/
def Hw.hbmWaits (h : Hw) (eng : Nat) (e : Ent) : Bool :=
  let cache := engCache eng
  e.ahead.any (fun g => (!h.flag F.MEM_CFG_ENABLE && !h.canReach cache g.1 g.2.1 g.2.2) ||
    (256 ≤ eng && (pageParts g.2.1 g.2.2).any (fun p => match h.translate cache p.1 g.1 with
      | .ok (.loc pa) _ => h.memWaits g.1 pa p.2
      | _ => false)))

/-- Whether frames on the links of a COLL's axis wait for credits or for the link (R315). -/
def Hw.creditWaits (h : Hw) (e : Ent) : Bool :=
  insOpc e.raw = 7 && (h.axisLinks (collAxis e.raw)).any (fun l => (h.lk l).queue.any (fun f => !h.canTx l f.vl))

/-- Whether a cause holds an instruction assigned to engine eng (R195). -/
def Hw.stalls (h : Hw) (eng : Nat) (x : Ctx) (e : Ent) : Stall → Bool
  | .preempt => x.st == .preempted || (x.st == .preempting && (e.ph == .held || !x.works))
  | .token => e.ph == .held && !free170 x.window e
  | .xlate => e.flt.isSome || !h.flag F.XLATE_CFG_ENABLE || ((256 ≤ eng || e.ph == .held) && h.xlateWaits eng e)
  | .notResident => h.notHere eng e
  | .drain => eng < 192 && e.ph == .held && insOpc e.raw = 0 && !h.drainRoom eng x e
  | .hbm => (256 ≤ eng || e.ph == .held) && h.hbmWaits eng e
  | .link => (e.ph == .issued && h.creditWaits e) ||
      (e.ph == .held && insOpc e.raw = 7 && h.topoHolds && ((h.axis? (collAxis e.raw)).map (fun a => a.size != 1)).getD false)

/-- The first cause that holds any of some instructions. -/
def Hw.firstStall (h : Hw) (eng : Nat) (l : List (Ctx × Ent)) : Option Stall := stallOrder.find? (fun k => l.any (fun xe => h.stalls eng xe.1 xe.2 k))

/-- The instructions assigned to an engine that have not completed. -/
def Hw.onEngine (h : Hw) (eng : Nat) : List (Ctx × Ent) :=
  (h.shut.ctxs.map (fun c => (c.2.window.filter (fun e => e.engine = some eng)).map (fun e => (c.2, e)))).flatten

/-- Whether the engine's block counts idle whatever it holds (R195): arrays and vector engines while their ENABLE is 0. -/
def Hw.engOff (h : Hw) (eng : Nat) : Bool :=
  (eng < 192 && !h.flag F.ARRAY_CFG_ENABLE) || (192 ≤ eng && eng < 256 && !h.flag F.VEC_CFG_ENABLE)

/-- The counter that a cycle of an engine's clock advances; none in a cycle of work (R195). An array works while operands of an MMA stream in,
a vector, DMA or Seam engine on what it has issued, where that has no cause to wait; else the cause is that of its best candidate, then of
anything it holds. An MMA that only drains waits for nothing (R88). A candidate with no cause issues, or waits for a slab buffer pair (R89). -/
def Hw.engCounter (h : Hw) (eng : Nat) : Option Fld :=
  if h.engOff eng then some (F.STL_IDLE eng)
  else
    let all := h.onEngine eng
    let issued := all.filter (fun xe => xe.2.ph == .issued)
    let busy := issued.filter (fun xe => 192 ≤ eng || xe.2.slab ≠ 0)
    let calm := fun (l : List (Ctx × Ent)) => l.any (fun xe => (h.firstStall eng [xe]).isNone)
    let cause := fun (l : List (Ctx × Ent)) => (h.firstStall eng l).map (Stall.fld eng)
    if calm busy then none
    else if !busy.isEmpty then cause busy
    else
      match h.best eng with
      | some k => cause [(k.x, k.e)]
      | none => if calm issued then none else some ((cause all).getD (F.STL_IDLE eng))

/-- Edges of a clock, an integer division of the 8.0 GHz root (R42), in cycle n of CTRL_CLK, which is 16 cycles of the root. -/
def clkEdges (div n : Nat) : Nat := (16 * (n + 1)) / div - (16 * n) / div

/-- The divider of an engine's clock: ARRAY_CLK, VEC_CLK, SPAD_CLK or FAB_CLK (R195). -/
def Hw.engDiv (h : Hw) (eng : Nat) : Nat :=
  if eng < 192 then h.get F.ARRAY_DIV else if eng < 256 then h.get F.VEC_DIV else if eng < 288 then 4 else 5

/-- What cycle n of CTRL_CLK adds to engine eng's counters: its own clock's edges to one counter, the SPAD_CLK cycles without an edge to
STL_THROTTLE of an array or a vector engine whose divider is above 4 (R195). -/
def Hw.engCounts (h : Hw) (n eng : Nat) : List (Fld × Nat) :=
  if !h.domOn (domPANEL (panelOfEngine eng)) then []
  else
    ((h.engCounter eng).map (fun f => (f, clkEdges (h.engDiv eng) n))).toList ++
    (if eng < 256 && 4 < h.engDiv eng then [(F.STL_THROTTLE eng, 4 - clkEdges (h.engDiv eng) n)] else [])

/-- The CTRL_CLK cycles of held writes (R423), and the FAB_CLK cycles of each link that is enabled and not UP (R334). -/
def Hw.waitCounts (h : Hw) (n : Nat) : List (Fld × Nat) :=
  (if h.bast.held.isEmpty && h.bast.wanted.isEmpty then [] else [(F.HOLD_CYC, 1)]) ++
  (List.range 64).filterMap (fun l => if h.domOn (domEYELET (l / 8)) && h.flag (F.LINK_EN l) && !h.lkUp l then some (F.DOWN_CYC l, clkEdges 5 n) else none)

/-- Add to saturating counters (R194). -/
def Hw.counts (h : Hw) (l : List (Fld × Nat)) : Hw := l.foldl (fun h x => h.inc x.1 x.2) h

end Sys2Proof.Machine
end

