-- ==== Sys2Proof/Machine/Tick.lean ====
section
/-!
DEFINITION. Machine/Tick.lean: what passes with time while no command waits: one cycle of CTRL_CLK (R42, R495).
-/

namespace Sys2Proof.Machine

/-- A free-running counter counts n edges (R495). -/
def Hw.cyc (h : Hw) (f : Fld) (n : Nat) : Hw := h.set f ((h.get f + n) % 2 ^ 64)

/-- The cycle counters count: those of the Yoke clocks, and those of ARRAY_CLK and VEC_CLK at their rungs (R495). -/
def Hw.cycles (h : Hw) : Hw :=
  let n := h.get F.CYC_CTRL
  let h := (h.cyc F.CYC_ARRAY (clkEdges (h.get F.ARRAY_DIV) n)).cyc F.CYC_VEC (clkEdges (h.get F.VEC_DIV) n)
  let h := ((h.cyc F.CYC_SPAD (clkEdges 4 n)).cyc F.CYC_FAB (clkEdges 5 n)).cyc F.CYC_MEM (clkEdges 6 n)
  h.cyc F.CYC_CTRL 1

/-- One cycle of CTRL_CLK passes: the engines' stall counters (R195), the counters of waits and the cycle counters count. -/
def Hw.tick (h : Hw) : Hw :=
  let n := h.get F.CYC_CTRL
  h.cycles.counts (((List.range 292).map (h.engCounts n)).flatten ++ h.waitCounts n)

/-- The part idles for one cycle of CTRL_CLK while YOKE is powered (log entry 19). -/
def State.idle (s : State) : State := if s.hw.domOn domYOKE then { s with hw := s.hw.tick } else s

end Sys2Proof.Machine
end

