-- ==== Sys2Proof/WellFormed.lean ====
section
/-!
DEFINITION. WellFormed.lean: the operands that name something the part has (R2, R7, R424, R428, R453): the bounds of each command's numbers.

A command outside them changes nothing (log entry 17); the check is for who sends commands.
-/

namespace Sys2Proof

/-- Whether a path has an offset: the 64 MiB of BAR0's layout, a device physical address on the internal path, 4 KiB of configuration space. -/
def pathReach (path : Machine.Path) (off : Nat) : Bool :=
  match path with
  | .internal => off < 2 ^ 48
  | .cfg => off < 4096
  | _ => off < 2 ^ 26

/-- Whether a command names only what the part has, with operands of their widths. -/
def Instr.wf (i : Instr) : Bool :=
  match i with
  | .sqTailDb q v => q < 64 && v < 2 ^ 32
  | .cqHeadDb q v => q < 64 && v < 2 ^ 32
  | .admitEntry q _ => q < 64
  | .fetchInstruction c _ => c < 512
  | .assignContinueMma c _ => c < 512
  | .mma a => a < 192
  | .mmaWritebackDone c _ => c < 512
  | .cvt v => v < 64
  | .vop v => v < 64
  | .dropout v => v < 64
  | .optSgd v => v < 64
  | .optMomentum v => v < 64
  | .optAdamw v => v < 64
  | .red v => v < 64
  | .pleat v => v < 64
  | .unpleat v => v < 64
  | .rng v => v < 64
  | .vecInstrComplete c _ => c < 512
  | .move d => d < 32
  | .dmaChunkDone c _ _ _ => c < 512
  | .statRegister c _ => c < 512
  | .statQuery c _ => c < 512
  | .statSetscale c _ => c < 512
  | .statSetctl c _ => c < 512
  | .statSetwatch c _ => c < 512
  | .statLoad c _ => c < 512
  | .signal c _ => c < 512
  | .wait c _ => c < 512
  | .waitTimeout c _ => c < 512
  | .fence c _ => c < 512
  | .mark c _ => c < 512
  | .writeCompletionRecord q => q < 64
  | .queueEnable q w => q < 64 && w < 2 ^ 64
  | .queueDisable q w => q < 64 && w < 2 ^ 64
  | .queueDrained q => q < 64
  | .ctxPreempt c => c < 512
  | .contextSave c => c < 512
  | .contextSaveDone c => c < 512
  | .ctxResume c => c < 512
  | .contextRestore c _ => c < 512
  | .contextRestoreDone c => c < 512
  | .ctxCancel c => c < 512
  | .tokenWrite t v => t < 4096 && v < 2 ^ 32
  | .stagingCopyStart c _ o => c < 512 && o < 4
  | .stagingCopyDone c _ o _ => c < 512 && o < 4
  | .stagedWriteback c _ => c < 512
  | .spadScrubRead p => p < 4
  | .treqTailDb v => v < 2 ^ 32
  | .treqRegister ext => ext.length ≤ 4096
  | .treqRelease ext => ext.length ≤ 4096
  | .treqPin ext => ext.length ≤ 4096
  | .treqUnpin ext => ext.length ≤ 4096
  | .treqMigrate ext => ext.length ≤ 4096
  | .treqWorkPin ext => ext.length ≤ 4096
  | .treqWorkUnpin ext => ext.length ≤ 4096
  | .treqQuery ext => ext.length ≤ 4096
  | .objectMoveDone _ _ => true
  | .hbmRequestAccept addr write _ => addr < 2 ^ 52 && write.all (· < 2 ^ 256)
  | .darningAgeFlush line => line < 2 ^ 44
  | .hbmReadComplete line => line < 2 ^ 44
  | .hbmScrubRead stk => stk < 16
  | .hbmRetrainStart stk ch => stk < 16 && ch < 32
  | .hbmRetrainDone stk _ temp => stk < 16 && temp < 65536
  | .hbmRetrainRetry stk ch => stk < 16 && ch < 32
  | .marginScanBurst stk => stk < 16
  | .marginScanPause stk _ => stk < 16
  | .mapoutEvacuated stk => stk < 16
  | .relayoutSlice stk _ => stk < 16
  | .relayoutDone stk => stk < 16
  | .pageWalkDone _ va _ => va < 2 ^ 52
  | .runAheadStart c _ o => c < 512 && o < 4
  | .atsCompletion addr size grant => addr < 2 ^ 64 && size < 2 ^ 64 && grant.xaddr < 2 ^ 64
  | .priResponse addr _ => addr < 2 ^ 52
  | .atsInvalidateRequest addr size => addr < 2 ^ 52 && size < 2 ^ 52
  | .xlateInval _ w => w < 2 ^ 64
  | .invalidationDone => true
  | .fltRespRetry id => id < 65536
  | .fltRespCancel id => id < 65536
  | .fltHeadDb v => v < 2 ^ 32
  | .faultTimeout id => id < 65536
  | .peerReadTimeout _ miss => miss.va < 2 ^ 52
  | .d2dRetrain link => link < 8
  | .d2dRetrainDone link _ => link < 8
  | .linkEnWrite l _ => l < 64
  | .lasersLocked l => l < 64
  | .lightDetected l => l < 64
  | .noLightTimeout l => l < 64
  | .acquireDone l => l < 64
  | .alignDone l => l < 64
  | .verifyDone l lanes _ _ => l < 64 && lanes < 16
  | .markerLockLoss l => l < 64
  | .retrainTimeout l => l < 64
  | .eyeletFail e => e < 8
  | .frameWrite l f => l < 64 && f.length ≤ 328
  | .frameReadReq l f => l < 64 && f.length ≤ 328
  | .frameReadResp l f => l < 64 && f.length ≤ 328
  | .frameColl l f => l < 64 && f.length ≤ 328
  | .frameKeepalive l f => l < 64 && f.length ≤ 328
  | .frameCtrl l f => l < 64 && f.length ≤ 328
  | .frameIdle l f => l < 64 && f.length ≤ 328
  | .ackTimeoutReplay l => l < 64
  | .laneMarker l m => l < 64 && m.length ≤ 64
  | .laneOpDrop l w => l < 64 && w < 4
  | .laneOpAdd l w => l < 64 && w < 4
  | .laneOpDupStart l w => l < 64 && w < 4
  | .laneOpDupSwitched l w => l < 64 && w < 4
  | .laneOpDropNow l w => l < 64 && w < 4
  | .suddenLaneFailure l w => l < 64 && w < 4
  | .calSlotStart e => e < 8
  | .calSlotEnd e power => e < 8 && power < 65536
  | .calOverdue e x => e < 8 && x < 36
  | .laserFadeSample e x power fade => e < 8 && x < 36 && power < 65536 && fade < 65536
  | .spareLocked e => e < 8
  | .switchoverTimeout e => e < 8
  | .switchoverRetry e => e < 8
  | .restoreLaserLocked e => e < 8
  | .restoreMarginTimeout e => e < 8
  | .linkCmdRethread l port => l < 64 && port < 16
  | .linkCmdRetrain l => l < 64
  | .linkCmdDropLane l w => l < 64 && w < 4
  | .linkCmdRestoreLane l w => l < 64 && w < 4
  | .linkCmdSpareLane l w => l < 64 && w < 4
  | .rethreadStart l => l < 64
  | .steeringMoveDone l => l < 64
  | .reacquireDone l => l < 64
  | .rethreadMarkerTimeout l => l < 64
  | .topoEnable => true
  | .lifReceive l lif => l < 64 && lif.length ≤ 4096
  | .lifRetry l => l < 64
  | .remapWaitExpiry l => l < 64
  | .portWaitExpiry l => l < 64
  | .discTmoExpiry => true
  | .keepaliveSend => true
  | .keepaliveMiss chip => chip < 4096
  | .collReduceScatter eng => eng < 4
  | .collAllGather eng => eng < 4
  | .collAllReduce eng => eng < 4
  | .collAllToAll eng => eng < 4
  | .collBroadcast eng => eng < 4
  | .collStepDone c _ => c < 512
  | .collComplete c _ _ => c < 512
  | .collTimeout c _ _ => c < 512
  | .absentScan => true
  | .relaxClr => true
  | .snapFreeze => true
  | .snapSlotCleared => true
  | .guardedWriteRelease _ => true
  | .snapDataAcked => true
  | .snapCommit => true
  | .nvmeCompletion _ => true
  | .nvmeTimeout => true
  | .restorePullDone _ _ => true
  | .mbDbWake c _ => c < 16
  | .mbDbSend c _ => c < 16
  | .mbBufferWrite c _ off bytes => c < 16 && off + bytes.length ≤ 256
  | .transportWake c => c < 16
  | .transportWriteSend c _ buf => c < 16 && buf.length ≤ 256
  | .transportReadStatus c => c < 16
  | .transportReadBuffer c _ => c < 16
  | .devIdentify ch seq p => ch < 16 && seq < 65536 && p.length ≤ 240
  | .devStatus ch seq p => ch < 16 && seq < 65536 && p.length ≤ 240
  | .devResetPart ch seq p => ch < 16 && seq < 65536 && p.length ≤ 240
  | .devResetJob ch seq p => ch < 16 && seq < 65536 && p.length ≤ 240
  | .devWriteIn ch seq p => ch < 16 && seq < 65536 && p.length ≤ 240
  | .devReadOut ch seq p => ch < 16 && seq < 65536 && p.length ≤ 240
  | .imgInfo ch seq p => ch < 16 && seq < 65536 && p.length ≤ 240
  | .imgErase ch seq p => ch < 16 && seq < 65536 && p.length ≤ 240
  | .imgWrite ch seq p => ch < 16 && seq < 65536 && p.length ≤ 240
  | .imgCommit ch seq p => ch < 16 && seq < 65536 && p.length ≤ 240
  | .imgCfgGet ch seq p => ch < 16 && seq < 65536 && p.length ≤ 240
  | .imgCfgSet ch seq p => ch < 16 && seq < 65536 && p.length ≤ 240
  | .imgCfgDefault ch seq p => ch < 16 && seq < 65536 && p.length ≤ 240
  | .pwrStatus ch seq p => ch < 16 && seq < 65536 && p.length ≤ 240
  | .pwrClockCap ch seq p => ch < 16 && seq < 65536 && p.length ≤ 240
  | .pwrStandby ch seq p => ch < 16 && seq < 65536 && p.length ≤ 240
  | .pwrDomain ch seq p => ch < 16 && seq < 65536 && p.length ≤ 240
  | .jobSetKey ch seq p => ch < 16 && seq < 65536 && p.length ≤ 240
  | .jobSetBinding ch seq p => ch < 16 && seq < 65536 && p.length ≤ 240
  | .jobSetBases ch seq p => ch < 16 && seq < 65536 && p.length ≤ 240
  | .jobEnable ch seq p => ch < 16 && seq < 65536 && p.length ≤ 240
  | .jobQuiesce ch seq p => ch < 16 && seq < 65536 && p.length ≤ 240
  | .jobQuiesced => true
  | .jobTapeGet ch seq p => ch < 16 && seq < 65536 && p.length ≤ 240
  | .jobTapeSet ch seq p => ch < 16 && seq < 65536 && p.length ≤ 240
  | .topoSetCoord ch seq p => ch < 16 && seq < 65536 && p.length ≤ 240
  | .topoLoadPlan ch seq p => ch < 16 && seq < 65536 && p.length ≤ 240
  | .topoStatus ch seq p => ch < 16 && seq < 65536 && p.length ≤ 240
  | .topoPeer ch seq p => ch < 16 && seq < 65536 && p.length ≤ 240
  | .linkEnable ch seq p => ch < 16 && seq < 65536 && p.length ≤ 240
  | .linkStatus ch seq p => ch < 16 && seq < 65536 && p.length ≤ 240
  | .linkLaserFactory ch seq p => ch < 16 && seq < 65536 && p.length ≤ 240
  | .memRetrain ch seq p => ch < 16 && seq < 65536 && p.length ≤ 240
  | .memMargin ch seq p => ch < 16 && seq < 65536 && p.length ≤ 240
  | .memMarginResult ch seq p => ch < 16 && seq < 65536 && p.length ≤ 240
  | .memStackState ch seq p => ch < 16 && seq < 65536 && p.length ≤ 240
  | .memMapout ch seq p => ch < 16 && seq < 65536 && p.length ≤ 240
  | .memMapoutClear ch seq p => ch < 16 && seq < 65536 && p.length ≤ 240
  | .memRegion ch seq p => ch < 16 && seq < 65536 && p.length ≤ 240
  | .memMap ch seq p => ch < 16 && seq < 65536 && p.length ≤ 240
  | .memUnmap ch seq p => ch < 16 && seq < 65536 && p.length ≤ 240
  | .memPeerWindow ch seq p => ch < 16 && seq < 65536 && p.length ≤ 240
  | .memHostWindow ch seq p => ch < 16 && seq < 65536 && p.length ≤ 240
  | .memLend ch seq p => ch < 16 && seq < 65536 && p.length ≤ 240
  | .memInval ch seq p => ch < 16 && seq < 65536 && p.length ≤ 240
  | .memFaultResp ch seq p => ch < 16 && seq < 65536 && p.length ≤ 240
  | .qCtxCtl ch seq p => ch < 16 && seq < 65536 && p.length ≤ 240
  | .qQueueCtl ch seq p => ch < 16 && seq < 65536 && p.length ≤ 240
  | .snapSetBase ch seq p => ch < 16 && seq < 65536 && p.length ≤ 240
  | .snapLend ch seq p => ch < 16 && seq < 65536 && p.length ≤ 240
  | .snapWithdraw ch seq p => ch < 16 && seq < 65536 && p.length ≤ 240
  | .snapSuccessor ch seq p => ch < 16 && seq < 65536 && p.length ≤ 240
  | .snapBindBuddy ch seq p => ch < 16 && seq < 65536 && p.length ≤ 240
  | .snapBindNvme ch seq p => ch < 16 && seq < 65536 && p.length ≤ 240
  | .snapSlots ch seq p => ch < 16 && seq < 65536 && p.length ≤ 240
  | .snapUnbind ch seq p => ch < 16 && seq < 65536 && p.length ≤ 240
  | .snapBuddyLost ch seq p => ch < 16 && seq < 65536 && p.length ≤ 240
  | .snapRestore ch seq p => ch < 16 && seq < 65536 && p.length ≤ 240
  | .secGetId ch seq p => ch < 16 && seq < 65536 && p.length ≤ 240
  | .secQuote ch seq p => ch < 16 && seq < 65536 && p.length ≤ 240
  | .secEnrol ch seq p => ch < 16 && seq < 65536 && p.length ≤ 240
  | .diagChervil ch seq p => ch < 16 && seq < 65536 && p.length ≤ 240
  | .diagRegRead ch seq p => ch < 16 && seq < 65536 && p.length ≤ 240
  | .diagRegWrite ch seq p => ch < 16 && seq < 65536 && p.length ≤ 240
  | .diagEngineMap ch seq p => ch < 16 && seq < 65536 && p.length ≤ 240
  | .diagLoopback ch seq p => ch < 16 && seq < 65536 && p.length ≤ 240
  | .evtRing ch seq p => ch < 16 && seq < 65536 && p.length ≤ 240
  | .evtRead ch seq p => ch < 16 && seq < 65536 && p.length ≤ 240
  | .evtFilter ch seq p => ch < 16 && seq < 65536 && p.length ≤ 240
  | .sageSensors ch seq p => ch < 16 && seq < 65536 && p.length ≤ 240
  | .sagePins ch seq p => ch < 16 && seq < 65536 && p.length ≤ 240
  | .sageSetThresh ch seq p => ch < 16 && seq < 65536 && p.length ≤ 240
  | .sageLaser ch seq p => ch < 16 && seq < 65536 && p.length ≤ 240
  | .eventRingWrite => true
  | .evtHeadDb v => v < 2 ^ 32
  | .aonPowerUp => true
  | .aonPowerLoss => true
  | .vinWindowMet => true
  | .pllLock => true
  | .bootRomRun _ _ => true
  | .firmwareReady => true
  | .bootWatchdog => true
  | .panelBringupDone _ => true
  | .perstOutRelease => true
  | .sageSample temps vin iin => temps.length = 64 && vin < 2 ^ 32 && iin < 2 ^ 32
  | .throttleEventFlush => true
  | .vinReset => true
  | .vinOv => true
  | .pllLoss => true
  | .thermtrip sensor => sensor < 64
  | .forceThrottleN _ => true
  | .pwrBrakeN _ => true
  | .extThermtripN _ => true
  | .resetReqN _ => true
  | .snapReqN _ => true
  | .pinStuck pin => pin < 5
  | .perstN => true
  | .functionLevelReset => true
  | .hotReset => true
  | .linkDisable => true
  | .d3hotEntry => true
  | .d0Return => true
  | .aspmL1Entry => true
  | .bar2Request addr _ _ _ _ => addr < 2 ^ 52
  | .bar2EnableTimeout => true
  | .ideKmKeyProg _ stream _ => stream ≤ 4
  | .ideIntegrityFail stream => stream ≤ 4
  | .spdmGetMeasurements _ => true
  | .spdmKeyExchange _ _ => true
  | .spdmEndSession _ => true
  | .spdmHeartbeatTimeout _ => true
  | .mctpSetEndpointId eid => 8 ≤ eid && eid < 255
  | .i3cEntdaa addr => addr < 128
  | .pldmSensorRead _ => true
  | .pldmRequestUpdate _ _ => true
  | .pldmActivateFirmware _ => true
  | .registerWrite path off size v => pathReach path off && (size = 4 || size = 8) && v < 2 ^ 64
  | .counterLowHalfRead _ off => off < 2 ^ 26
  | .voteSweep _ => true
  | .mmaLastPromotion c _ => c < 512
  | .registerRead path off size => pathReach path off && (size = 4 || size = 8)
  | .partReset => true
  | .frameNotDelivered l _ => l < 64
  | .pcieLinkDown => true
  | .pcieLinkUp speed width _ => 1 ≤ speed && speed ≤ 7 && ([1, 2, 4, 8, 16] : List Nat).contains width
  | .pcieCompletionTimeout _ miss => miss.va < 2 ^ 52 && (miss.code == 0 || miss.code == 1 || miss.code == 4)
  | .priReenable => true
  | .pinFlagClear pin => pin < 5
  | .treqReservedOp ext => ext.length ≤ 4096
  | .spdmHeartbeat _ => true
  | .spdmFinish _ _ _ => true
  | .spdmChallenge _ => true
  | .spdmGetCertificate => true
  | .spdmKeyUpdate _ => true

end Sys2Proof
end

