-- ==== Sys2Proof/Safety.lean ====
section
/-!
DEFINITION. Safety.lean: what counts as a safe state and a safe run, in the terms the statements use.
-/

namespace Sys2Proof.Machine

/-- The order of the power domains (R41): each is powered only while the domain it depends on is; there are 30 of them. -/
def Hw.powerLegal (h : Hw) : Bool :=
  decide (h.dom < 2 ^ 30) && (List.range 29).all (fun k => !h.domOn (k + 1) || h.domOn (domParent (k + 1)))

/-- The monotonic counters of b are not below those of a (R464). -/
def Rpmc.le (a b : Rpmc) : Bool :=
  decide (a.svn ≤ b.svn) && decide (a.cfgGen ≤ b.cfgGen) && decide (a.ownerGen ≤ b.ownerGen) && decide (a.keyFloor ≤ b.keyFloor)

/-- The memories are in their canonical form: HBM, scratchpad, NOR. -/
def Hw.memWf (h : Hw) : Bool := Mem.wf h.hbmBlank h.hbm.mem && Mem.wf h.spadBlank h.spad.mem && Mem.wf norBlank h.nor

/-- The Darning entries (R240): one for a line, each with its bytes by rising offset in the line. -/
def Hw.darnWf (h : Hw) : Bool :=
  decide (h.hbm.darn.map (·.line)).Nodup &&
    h.hbm.darn.all (fun e => decide ((e.bytes.map (·.1)).Pairwise (· < ·)) && e.bytes.all (fun b => b.1 < 256))

/-- The commands that wait name only what the part has. -/
def State.queueWf (s : State) : Bool := s.pending.all Instr.wf

/-- A run of n steps; a state with an empty queue idles on. -/
def State.runs : Nat → State → Option State
  | 0, s => some s
  | n + 1, s =>
    match step s with
    | .next t => State.runs n t
    | _ => none

end Sys2Proof.Machine
end

