-- ==== Sys2Proof/Ready.lean ====
section
/-!
DEFINITION. Ready.lean: when a command of Roino is executed (R432, R561), and how the next state after a command is written, in the terms of the statements.
-/

namespace Sys2Proof.Machine

/-- The next state in which the hardware is h: the counter of open values has advanced, the queue is what is left of it. -/
def State.to (s : State) (h : Hw) : Host.Outcome State Fault Refusal := s.run (fun _ => h)

/-- The hardware that executes a request of an opcode sent on a channel: the request has arrived in the buffer, the channel is BUSY (R432). -/
def Hw.asked (h : Hw) (op ch seq : Nat) (p : Bytes) : Hw :=
  let a := h.arrive op ch seq p
  { a with mb := { a.mb with todo := [] } }

/-- A request sent on a channel is executed (R432 to R438, R561): it arrives, no other waits, the receiver takes messages, it is no replay, no standby
begins, and it passes every check of R561, with these fields and these trailing bytes. -/
def Hw.takes (h : Hw) (op ch seq : Nat) (p : Bytes) (args : List Nat) (tail : Bytes) : Bool :=
  let a := h.asked op ch seq p
  let b := (a.chan ch).buf
  (h.arrive op ch seq p).mb.todo == [ch] && (h.arrive op ch seq p).mbReady ch && (!a.flag F.SEC_RECOVERY || ch == 4) && (a.mbReplay ch).isNone &&
    !a.mb.standby && reqOp b == op &&
    match judge (a.flag F.SEC_RECOVERY) ch b with
    | .ok (_, x, t) => x == args && t == tail
    | .error _ => false

/-- The next state after a channel's command has left the hardware h and is acknowledged with the response r (R432, R433). -/
def State.answers (s : State) (ch : Nat) (h : Hw) (r : Resp) : Host.Outcome State Fault Refusal :=
  s.to ((Hw.mbServe 15 (h.mbFinish ch r)).mbSettle.bar2Go)

/-- The next state after a channel's command has left the hardware h and is to be acknowledged later (R433). -/
def State.owes (s : State) (h : Hw) : Host.Outcome State Fault Refusal := s.to ((Hw.mbServe 15 h).mbSettle.bar2Go)

/-- Vector engine v issues its best candidate k, of a class: its descriptors fit it, no copy is stale, its operands are resident and its Tape slots
are reached (R113, R114, R178, R289). -/
def Hw.vecTakes (h : Hw) (v : Nat) (k : Cand) (isClass : Nat → Bool) : Prop :=
  h.vecOn v ∧ h.best (192 + v) = some k ∧ isClass k.e.raw ∧ vecDescOk (h.vecPre k) k.e.raw ∧ h.staleAct k.c k.e = none ∧ h.allResident (v / 16) k.e ∧
  h.slotsReach k.e ∧ h.vecFits v k.x k.e

/-- Matrix array a issues its best candidate k: nothing fails it, no copy is stale, its operands are resident, its chain is here or has room, a slab
buffer pair is free (R78, R85, R89, R102, R171, R178, R289). -/
def Hw.mmaTakes (h : Hw) (a : Nat) (k : Cand) : Prop :=
  h.arrayOn a ∧ h.best a = some k ∧ h.mmaFails k = none ∧ h.staleAct k.c k.e = none ∧ h.allResident (panelOfEngine a) k.e ∧
  chainHere k.x a k.e ∧ h.drainRoom a k.x k.e ∧ (h.slabs a).length < 2 ∧ h.slotsReach k.e

/-- Instruction i of context c is in the window as e, of this opcode and phase. -/
def Hw.holds (h : Hw) (c i : Nat) (x : Ctx) (e : Ent) : Prop := h.ctx? c = some x ∧ h.ent? c i = some e

/-- The Tailor takes the request r at the head of its ring, which it has read, leaving the hardware a (R213, R215). -/
def Hw.treqTakes (h a : Hw) (ext : Bytes) (r : TreqF) : Prop :=
  h.tailorOn ∧ h.tailor.waiting = none ∧ h.get F.TREQ_ERR = 0 ∧ h.get F.TREQ_HEAD ≠ h.get F.TREQ_TAIL ∧
  ∃ bs, h.vread noCache .read (h.get F.TREQ_BASE + 64 * h.get F.TREQ_HEAD) 64 ext = .ok (a, bs, false) ∧ parseTreq bs = r

/-- The next state after the Tailor has done a request: its answer with this status waits to be written. -/
def State.treqAnswers (s : State) (a : Hw) (obj status : Nat) : Host.Outcome State Fault Refusal :=
  s.to ({ a with tailor := { a.tailor with waiting := some ⟨s.hw.get F.TREQ_HEAD, obj, status⟩ } } : Hw).settle

/-- Lead engine eng issues its best COLL k, of a function, on axis x (R357, R358, R289). -/
def Hw.collTakes (h : Hw) (eng cfn : Nat) (k : Cand) (x : Axis) : Prop :=
  eng < 4 ∧ h.domOn (domPANEL eng) ∧ h.best (288 + eng) = some k ∧ collCfn k.e.raw = cfn ∧ h.axis? (collAxis k.e.raw) = some x ∧ collOk k.e x.size ∧
  (x.size = 1 ∨ h.topoHolds = false ∧ h.collMissing (collAxis k.e.raw) x = none) ∧ h.collsActive eng < 4 ∧ (k.e.reads ++ k.e.writes).any (fun g => h.objBusy g.1 g.2) = false ∧ k.e.slotsUsed.all h.tapeReach

end Sys2Proof.Machine
end

