-- ==== Sys2Proof/Certificates/Slice0/Obligations.lean ====
section
/-!
DEFINITION. Certificates/Slice0/Obligations.lean: the statements about the block.

Most say where a command completes with its own effect, and what the next state then is: all of it, so that what an equation does not name is unchanged.
`s.to h` is the next state whose hardware is h; `Hw.set f v` changes one field of one register word and nothing else.
-/

open Sys2Proof Sys2Proof.Machine

/-! ### Roino commands -/

/-- R441, R442: an accepted command of the DEVICE group is acknowledged with ST_OK and does what its row says: identity and status are reported, PART
scope schedules the reset, JOB scope starts or joins the JOB reset under a new OP_ID, the staging areas are written and read. -/
def Obligations.DeviceCommandsComplete : Prop :=
  (∀ (s : State) (ch seq : Nat) (p : Bytes), s.hw.takes 0x0100 ch seq p [] [] →
    let a := s.hw.asked 0x0100 ch seq p
    exec (.devIdentify ch seq p) s = s.answers ch a ⟨0, pack ([u16 0x1F5C, u16 0x7480, u8 (a.get F.GBL_STEPPING), u8 (a.get F.GBL_PROFILE), u8 a.sec.bootSlot,
      u8 (a.get F.ROINO_VER), u32 (a.compVer 1), u32 (a.compVer 2), u32 (a.compVer 3), u32 (a.compVer 4), u16 a.chipOr,
      u16 (a.get F.YELYEL_VER_major * 256 + a.get F.YELYEL_VER_minor)] ++ (a.regBytes regIdHash 32).map (fun b => u8 b.toNat)) [], 0⟩) ∧
  (∀ (s : State) (ch seq : Nat) (p : Bytes), s.hw.takes 0x0101 ch seq p [] [] →
    let a := s.hw.asked 0x0101 ch seq p
    exec (.devStatus ch seq p) s = s.answers ch a ⟨0, pack [u32 a.dom, u32 a.blockEn, u8 (a.get F.TOPO_STATE), u8 (a.get F.BAST_STATE),
      u16 a.shut.ctxs.length, u32 (a.get F.EVT_SEQ)] [], 0⟩) ∧
  (∀ (s : State) (ch seq : Nat) (p : Bytes), s.hw.takes 0x0102 ch seq (0 :: p.drop 1) [0] [] → ch < 4 →
    let a := s.hw.asked 0x0102 ch seq (0 :: p.drop 1)
    exec (.devResetPart ch seq p) s = s.answers ch { a with mb := { a.mb with partReset := true, hostOff := true } } ⟨0, [], 0⟩) ∧
  (∀ (s : State) (ch seq : Nat) (p : Bytes), s.hw.takes 0x0102 ch seq (1 :: p.drop 1) [1] [] →
    let a := s.hw.asked 0x0102 ch seq (1 :: p.drop 1)
    exec (.devResetJob ch seq p) s = s.answers ch (a.newOp.1.quiesceStart jobBlocks 1 true a.mb.nextOp) ⟨0, [], a.mb.nextOp⟩) ∧
  (∀ (s : State) (ch seq off n : Nat) (p d : Bytes), s.hw.takes 0x0103 ch seq p [off, n, 0] d → 0 < n → n ≤ 232 → off + n ≤ 32768 →
    let a := s.hw.asked 0x0103 ch seq p
    exec (.devWriteIn ch seq p) s = s.answers ch (a.updChan ch (fun k =>
      { k with inp := if off = 0 then d else padTo off k.inp ++ d ++ k.inp.drop (off + n) })) ⟨0, [], 0⟩) ∧
  (∀ (s : State) (ch seq off : Nat) (p : Bytes), s.hw.takes 0x0104 ch seq p [off] [] →
    let a := s.hw.asked 0x0104 ch seq p
    let b := (a.chan ch).outp
    b ≠ [] → off ≤ b.length →
    exec (.devReadOut ch seq p) s =
      s.answers ch a ⟨0, pack [u32 b.length, u16 ((b.drop off).take 232).length, u16 0] [] ++ (b.drop off).take 232, 0⟩)

/-- R443, R467, R474 to R476: an accepted command of the IMAGE group that its checks pass is acknowledged with ST_OK: it reports a slot, erases a slot
that gives the running set nothing, writes erased bytes, commits a bundle that passes every check, reads, stores or clears a Config key. -/
def Obligations.ImageCommandsComplete : Prop :=
  (∀ (s : State) (ch seq slot : Nat) (p : Bytes), s.hw.takes 0x0200 ch seq p [slot] [] → slot < 3 →
    let a := s.hw.asked 0x0200 ch seq p
    a.slotPresent slot → a.bundleValid slot →
    exec (.imgInfo ch seq p) s = s.answers ch a ⟨0, pack [u8 1, u8 1, u16 0, u32 (a.bundle slot).ver, u32 a.rpmc.svn, u32 (a.bundle slot).length] [] ++
      a.norRead (commitAddr slot + 8) 32, 0⟩) ∧
  (∀ (s : State) (ch seq slot : Nat) (p : Bytes), s.hw.takes 0x0201 ch seq p [slot] [] → slot = 1 ∨ slot = 2 →
    let a := s.hw.asked 0x0201 ch seq p
    a.pldmOn slot = false → (a.sec.comps.all (fun c => c.slot ≠ slot)) →
    exec (.imgErase ch seq p) s = s.answers ch { a with nor := Mem.clear a.nor (bundleBase slot) 0x8000000 } ⟨0, [], 0⟩) ∧
  (∀ (s : State) (ch seq slot n off : Nat) (p d : Bytes), s.hw.takes 0x0202 ch seq p [slot, 0, n, off] d → slot = 1 ∨ slot = 2 → 0 < n → n ≤ 232 →
    off % 8 = 0 → off + n ≤ 0x8000000 →
    let a := s.hw.asked 0x0202 ch seq p
    a.pldmOn slot = false → ((a.norRead (bundleBase slot + off) n).all (· = 0xFF)) →
    exec (.imgWrite ch seq p) s = s.answers ch (a.norWrite (bundleBase slot + off) d) ⟨0, [], 0⟩) ∧
  (∀ (s : State) (ch seq slot len : Nat) (p : Bytes), s.hw.takes 0x0203 ch seq p [slot, 0, len] [] → slot = 1 ∨ slot = 2 →
    let a := s.hw.asked 0x0203 ch seq p
    a.pldmOn slot = false → a.commitCode slot len = 0 → a.flag F.SEC_RECOVERY = false → (a.commitGo slot len).flag F.SEC_RECOVERY = false →
    exec (.imgCommit ch seq p) s = s.answers ch (a.commitGo slot len) ⟨0, pack [u32 ((a.commitGo slot len).bundle slot).ver] [], 0⟩) ∧
  (∀ (s : State) (ch seq k : Nat) (p v : Bytes), s.hw.takes 0x0204 ch seq p [k] [] →
    let a := s.hw.asked 0x0204 ch seq p
    a.cfgGet k = some v →
    exec (.imgCfgGet ch seq p) s = s.answers ch a ⟨0, pack [u16 k, u16 v.length, u32 0] [] ++ v, 0⟩) ∧
  (∀ (s : State) (ch seq k n : Nat) (p d : Bytes), s.hw.takes 0x0205 ch seq p [k, n, 0] d →
    let a := s.hw.asked 0x0205 ch seq p
    (cfgLen k).isSome → a.cfgOk k d → a.rpmc.cfgGen ≠ 0xFFFFFFFF →
    exec (.imgCfgSet ch seq p) s = s.answers ch (a.cfgPut k d) ⟨0, [], 0⟩) ∧
  (∀ (s : State) (ch seq k : Nat) (p : Bytes), s.hw.takes 0x0206 ch seq p [k] [] → k = 0xFFFF ∨ (cfgLen k).isSome →
    let a := s.hw.asked 0x0206 ch seq p
    a.rpmc.cfgGen ≠ 0xFFFFFFFF →
    exec (.imgCfgDefault ch seq p) s = s.answers ch (a.cfgDrop (fun x => k = 0xFFFF || x = k)) ⟨0, [], 0⟩)

/-- R444: an accepted command of the POWER group completes: the measured values, the clock cap that Sage applies, standby once nothing runs, an Eyelet or
a stack switched. -/
def Obligations.PowerCommandsComplete : Prop :=
  (∀ (s : State) (ch seq : Nat) (p : Bytes), s.hw.takes 0x0300 ch seq p [] [] →
    let a := s.hw.asked 0x0300 ch seq p
    exec (.pwrStatus ch seq p) s = s.answers ch a ⟨0, pack [u32 (a.get F.VIN_MV), u32 (a.get F.IIN_MA), u32 (a.watts (a.get F.VIN_MV * a.get F.IIN_MA) 0x300),
      u16 (a.get F.TJ_MAX), u8 (a.get F.ARRAY_DIV), u8 (a.get F.VEC_DIV), u8 (a.get F.SAGE_CAUSE), u8 (a.get F.VIN_WARN)] [], 0⟩) ∧
  (∀ (s : State) (ch seq v : Nat) (p : Bytes), s.hw.takes 0x0301 ch seq p [v] [] → v ∈ ([4, 5, 6, 8, 16] : List Nat) →
    exec (.pwrClockCap ch seq p) s = s.answers ch ((s.hw.asked 0x0301 ch seq p).set F.CAP_DIV v) ⟨0, [], 0⟩) ∧
  (∀ (s : State) (ch seq : Nat) (p : Bytes), s.hw.takes 0x0302 ch seq p [] [] →
    let a := s.hw.asked 0x0302 ch seq p
    a.shut.ctxs = [] → a.asyncRuns = false →
    exec (.pwrStandby ch seq p) s = s.answers ch { a with mb := { a.mb with standby := true, hostOff := true } } ⟨0, [], 0⟩) ∧
  (∀ (s : State) (ch seq e : Nat) (p : Bytes), s.hw.takes 0x0303 ch seq p [6 + e, 1] [] → e < 8 →
    let a := s.hw.asked 0x0303 ch seq p
    a.domOn (domPANEL (e / 2)) → a.domOn (domEYELET e) = false →
    exec (.pwrDomain ch seq p) s = s.answers ch (a.eyeletUp e) ⟨0, [], 0⟩) ∧
  (∀ (s : State) (ch seq e : Nat) (p : Bytes), s.hw.takes 0x0303 ch seq p [6 + e, 0] [] → e < 8 →
    let a := s.hw.asked 0x0303 ch seq p
    a.domOn (domEYELET e) → ((List.range 8).all (fun k => a.lkState (8 * e + k) = lsOFF)) →
    exec (.pwrDomain ch seq p) s = s.answers ch (a.eyeletOff e) ⟨0, [], 0⟩) ∧
  (∀ (s : State) (ch seq k : Nat) (p : Bytes), s.hw.takes 0x0303 ch seq p [14 + k, 1] [] → k < 16 →
    let a := s.hw.asked 0x0303 ch seq p
    a.domOn (domPANEL (k / 4)) → a.domOn (domSTACK k) = false →
    exec (.pwrDomain ch seq p) s = s.answers ch (a.stackUp k []) ⟨0, [], 0⟩) ∧
  (∀ (s : State) (ch seq k : Nat) (p : Bytes), s.hw.takes 0x0303 ch seq p [14 + k, 0] [] → k < 16 →
    let a := s.hw.asked 0x0303 ch seq p
    a.domOn (domSTACK k) → a.get (F.STK_STATE k) = 4 →
    exec (.pwrDomain ch seq p) s = s.answers ch (a.stackOff k) ⟨0, [], 0⟩)

/-- R445, R446, R562: an accepted command of the JOB group completes: the key, the binding and the bases are stored, the named blocks are enabled in
ascending order or a quiesce of them starts under a new OP_ID, Tape records are read and written. -/
def Obligations.JobCommandsComplete : Prop :=
  (∀ (s : State) (ch seq key salt : Nat) (p : Bytes), s.hw.takes 0x0400 ch seq p [key, salt] [] →
    let a := s.hw.asked 0x0400 ch seq p
    a.flag F.TRAIN_CFG_ENABLE = false →
    exec (.jobSetKey ch seq p) s = s.answers ch (((((a.set (F.JOB_KEY 0) (elemLE 4 0 key)).set (F.JOB_KEY 1) (elemLE 4 1 key)).set (F.JOB_KEY 2)
      (elemLE 4 2 key)).set (F.JOB_KEY 3) (elemLE 4 3 key)).set F.STREAM_SALT salt) ⟨0, [], 0⟩) ∧
  (∀ (s : State) (ch seq base per cur en : Nat) (p : Bytes), s.hw.takes 0x0401 ch seq p [base, per, cur, en] [] → en ≤ 1 →
    let a := s.hw.asked 0x0401 ch seq p
    a.flag F.TRAIN_CFG_ENABLE = false →
    exec (.jobSetBinding ch seq p) s =
      s.answers ch ((((a.set F.STEP_BASE base).set F.CURSOR_PER_STEP per).set F.CURSOR_BASE cur).set F.BIND_EN en) ⟨0, [], 0⟩) ∧
  (∀ (s : State) (ch seq desc tape root : Nat) (p : Bytes), s.hw.takes 0x0402 ch seq p [7, 0, desc, tape, root, 0, 0] [] → desc < 2 ^ 52 → tape < 2 ^ 52 →
    root < 2 ^ 52 → desc % 0x10000 = 0 → tape % 0x10000 = 0 → root % 0x2000 = 0 →
    let a := s.hw.asked 0x0402 ch seq p
    a.flag F.SHUTTLE_CFG_ENABLE = false → a.flag F.XLATE_CFG_ENABLE = false →
    exec (.jobSetBases ch seq p) s =
      s.answers ch (((a.set F.DESC_BASE desc).set F.TAPE_BASE tape).set F.MMU_ROOT (root / 0x2000)) ⟨0, [], 0⟩) ∧
  (∀ (s : State) (ch seq m : Nat) (p : Bytes), s.hw.takes 0x0403 ch seq p [m] [] → m < 2048 →
    let a := s.hw.asked 0x0403 ch seq p
    (m.testBit 3 = false ∨ a.get F.MMU_ROOT ≠ 0) →
    let t := (List.range 11).foldl (fun h k => if m.testBit k then h.blockOn k else h) a
    exec (.jobEnable ch seq p) s = s.answers ch t ⟨0, pack [u32 t.blockEn] [], 0⟩) ∧
  (∀ (s : State) (ch seq m mode : Nat) (p : Bytes), s.hw.takes 0x0404 ch seq p [m, mode] [] → m < 2048 → mode ≤ 1 →
    let a := s.hw.asked 0x0404 ch seq p
    a.mb.quiesce = none →
    let t := a.newOp.1.quiesceStart m mode false a.mb.nextOp
    exec (.jobQuiesce ch seq p) s = s.answers ch t ⟨0, pack [u32 t.blockEn] [], a.mb.nextOp⟩) ∧
  (∀ (s : State) (ch seq slot : Nat) (p : Bytes), s.hw.takes 0x0405 ch seq p [slot] [] →
    let a := s.hw.asked 0x0405 ch seq p
    a.tapeReach slot → exec (.jobTapeGet ch seq p) s = s.answers ch a ⟨0, a.tapeBytes slot, 0⟩) ∧
  (∀ (s : State) (ch seq slot field v : Nat) (p : Bytes), s.hw.takes 0x0406 ch seq p [slot, field, v] [] → tapeFieldOk field v →
    let a := s.hw.asked 0x0406 ch seq p
    exec (.jobTapeSet ch seq p) s = s.answers ch (a.tapeSoftWrite slot (tapeField (a.tapeBytes slot) field v)) ⟨0, [], 0⟩)

/-- R447, R448: an accepted command of the TOPO and LINK groups completes: the coordinate is stored once, a good plan is loaded, states are reported, the
links named are enabled or disabled, an Eyelet's commissioning assignment is restored. -/
def Obligations.TopologyCommandsComplete : Prop :=
  (∀ (s : State) (ch seq pod board slot : Nat) (p : Bytes), s.hw.takes 0x0500 ch seq p [pod, board, slot] [] → pod ≤ 31 → board ≤ 63 → slot ≤ 15 →
    let a := s.hw.asked 0x0500 ch seq p
    a.flag F.TOPO_VALID = false →
    let t := (List.range 64).foldl (fun h l => if h.lkState l = lsIDENTIFY || h.lkState l = lsHELD then h.identStart l else h)
      ((((a.set F.TOPO_VALID 1).set F.TOPO_POD pod).set F.TOPO_BOARD board).set F.TOPO_SLOT slot)
    exec (.topoSetCoord ch seq p) s = s.answers ch t ⟨0, pack [u16 t.myChip] [], 0⟩) ∧
  (∀ (s : State) (ch seq addr n : Nat) (p b : Bytes) (h : Hw), s.hw.takes 0x0501 ch seq p [addr, n] [] → 0 < n →
    let a := s.hw.asked 0x0501 ch seq p
    inHbm addr → ((List.range (n / 4096 + 2)).all (fun i => a.hbmMapped (min (addr + 4096 * i) (addr + n - 1)) 1)) →
    a.flag F.TOPO_CFG_ENABLE = false → a.flag F.TOPO_VALID → a.readLocal addr n = (h, b, false) → h.planCheck (parsePlan b) = 0 →
    0x400 + 16 * ((parsePlan b).nRanks + (parsePlan b).nSpares) ≤ n →
    let t := h.planLoad (parsePlan b)
    exec (.topoLoadPlan ch seq p) s = s.answers ch t ⟨0, (parsePlan b).digest ++ natLE 2 (t.get F.MY_RANK) ++ natLE 1 (t.get F.IS_SPARE), 0⟩) ∧
  (∀ (s : State) (ch seq : Nat) (p : Bytes), s.hw.takes 0x0502 ch seq p [] [] →
    let a := s.hw.asked 0x0502 ch seq p
    let n (st : Nat) : Nat := ((List.range 64).filter (fun l => a.lkState l = st)).length
    exec (.topoStatus ch seq p) s = s.answers ch a ⟨0, pack [u8 (a.get F.TOPO_STATE), u8 (n lsUP), u8 (n lsHELD), u8 (n lsDARK), u64 a.shortMask] [], 0⟩) ∧
  (∀ (s : State) (ch seq chip i : Nat) (p : Bytes) (g : Plan), s.hw.takes 0x0503 ch seq p [chip] [] →
    let a := s.hw.asked 0x0503 ch seq p
    a.topo.plan = some g → g.find chip = some i →
    exec (.topoPeer ch seq p) s = s.answers ch a ⟨0, pack [u64 (a.get (F.PEER_ENTRY i))] [], 0⟩) ∧
  (∀ (s : State) (ch seq mask en : Nat) (p : Bytes), s.hw.takes 0x0600 ch seq p [mask, en] [] →
    let t := (List.range 64).foldl (fun h l => if mask.testBit l then effLinkEnWrite l (en.testBit l) h else h) (s.hw.asked 0x0600 ch seq p)
    exec (.linkEnable ch seq p) s = s.answers ch t ⟨0, pack [u64 ((List.range 64).foldl (fun m l => m + t.get (F.LINK_EN l) * 2 ^ l) 0)] [], 0⟩) ∧
  (∀ (s : State) (ch seq l : Nat) (p : Bytes), s.hw.takes 0x0601 ch seq p [l] [] → l < 64 →
    let a := s.hw.asked 0x0601 ch seq p
    exec (.linkStatus ch seq p) s = s.answers ch a ⟨0, pack [u32 (a.linkWord l), u16 (a.get (F.LNK_PEER_CHIP l)), u64 (a.get (F.LNK_LANE_MAP l)),
      u64 (a.get (F.RX_MARGIN l)), u32 (a.get (F.TX_MARGIN l))] [], 0⟩) ∧
  (∀ (s : State) (ch seq e : Nat) (p : Bytes), s.hw.takes 0x0602 ch seq p [e] [] → e < 8 →
    let a := s.hw.asked 0x0602 ch seq p
    ((List.range 8).all (fun k => a.lkState (8 * e + k) = lsOFF)) → (a.cfgDrop (· = 0x20 + e)).get (F.EYE_STATE e) ≠ 0 →
    exec (.linkLaserFactory ch seq p) s = s.answers ch ((a.cfgDrop (· = 0x20 + e)).eyeAssign e) ⟨0, [], 0⟩)

/-- R449 to R451, R249 to R257: an accepted command of the MEM group on channels and stacks completes: retrain, margin scan and map-out start under a new
OP_ID, results and states are reported, regions are given and freed. -/
def Obligations.StackCommandsComplete : Prop :=
  (∀ (s : State) (ch seq k c : Nat) (p : Bytes), s.hw.takes 0x0700 ch seq p [k, c] [] → k < 16 → c < 32 →
    let a := s.hw.asked 0x0700 ch seq p
    a.retrainRuns k c = false → a.chOnline k c →
    exec (.memRetrain ch seq p) s = s.answers ch (a.newOp.1.retrainTrigger k c a.mb.nextOp) ⟨0, [], a.mb.nextOp⟩) ∧
  (∀ (s : State) (ch seq k c m f l : Nat) (p : Bytes), s.hw.takes 0x0701 ch seq p [k, c, m, 0, f, l] [] → k < 16 → c < 32 → m < 3 →
    (marginRange m).1 ≤ s8 f → s8 l ≤ (marginRange m).2 → s8 f ≤ s8 l →
    let a := s.hw.asked 0x0701 ch seq p
    (a.hbm.scans.all (fun x => x.stack ≠ k)) → a.chOnline k c →
    let t := a.newOp.1
    exec (.memMargin ch seq p) s = s.answers ch { t with hbm := { t.hbm with scans := t.hbm.scans ++
      [⟨k, c, m, (List.range (s8 l - s8 f + 1).toNat).map (fun (i : Nat) => s8 f + (i : Int)), [], a.mb.nextOp⟩] } } ⟨0, [], a.mb.nextOp⟩) ∧
  (∀ (s : State) (ch seq k c i : Nat) (p : Bytes) (x : Scan) (off : Int) (lanes : List Nat), s.hw.takes 0x0702 ch seq p [k, c, i] [] → k < 16 → c < 32 →
    let a := s.hw.asked 0x0702 ch seq p
    a.hbm.scanRes.find? (fun x => x.stack = k && x.ch = c) = some x → x.done[i]? = some (off, lanes) →
    exec (.memMarginResult ch seq p) s = s.answers ch a ⟨0, pack ([u8 (twos 8 off), u8 x.param] ++ lanes.map u16) [], 0⟩) ∧
  (∀ (s : State) (ch seq k st : Nat) (p : Bytes), s.hw.takes 0x0703 ch seq p [k, st] [] → k < 16 →
    let a := s.hw.asked 0x0703 ch seq p
    (st = 4 ∧ a.get (F.STK_STATE k) = 2 ∧ a.stackUsed k = false) ∨
      (st = 2 ∧ a.get (F.STK_STATE k) = 4 ∧ a.hbm.scans.all (fun x => !(x.stack = k && x.param = 3))) →
    exec (.memStackState ch seq p) s = s.answers ch (a.set (F.STK_STATE k) st) ⟨0, [], 0⟩) ∧
  (∀ (s : State) (ch seq k c : Nat) (p : Bytes), s.hw.takes 0x0704 ch seq p [k, c] [] → k < 16 → c < 32 →
    let a := s.hw.asked 0x0704 ch seq p
    a.hbm.mapout.find? k = none → a.mapoutRefusal k c = 0 →
    exec (.memMapout ch seq p) s = s.answers ch (a.newOp.1.mapoutStart k c a.mb.nextOp) ⟨0, [], a.mb.nextOp⟩) ∧
  (∀ (s : State) (ch seq k : Nat) (p : Bytes), s.hw.takes 0x0705 ch seq p [k] [] → k < 16 →
    let a := s.hw.asked 0x0705 ch seq p
    a.get (F.STK_STATE k) = 4 → exec (.memMapoutClear ch seq p) s = s.answers ch (a.cfgDrop (· = 0x10 + k)) ⟨0, [], 0⟩) ∧
  (∀ (s : State) (ch seq k n b : Nat) (p : Bytes) (t : Hw), s.hw.takes 0x0706 ch seq p [0, k, n] [] → k < 16 → 0 < n → n % 0x10000 = 0 →
    (s.hw.asked 0x0706 ch seq p).allocRegion (some k) n = (t, some b) →
    exec (.memRegion ch seq p) s = s.answers ch t ⟨0, pack [u64 b] [], 0⟩) ∧
  (∀ (s : State) (ch seq k v r : Nat) (p : Bytes), s.hw.takes 0x0706 ch seq p [1, k, v] [] → k < 16 →
    let a := s.hw.asked 0x0706 ch seq p
    (List.range 1024).find? (fun r => a.get (F.REG_SIZE r) ≠ 0 && a.get (F.REG_BASE r) = v) = some r →
    exec (.memRegion ch seq p) s = s.answers ch ((a.set (F.REG_SIZE r) 0).set (F.REG_BASE r) 0) ⟨0, pack [u64 v] [], 0⟩)

/-- R271 to R274, R292, R450: an accepted command of the MEM group on mappings completes: a range is mapped to local memory, a peer window or a host window,
or unmapped with the acknowledgement left to the end of the invalidation, windows and lent ranges are set and cleared, a fault is answered. -/
def Obligations.MappingCommandsComplete : Prop :=
  (∀ (s : State) (ch seq va n addr win tgt fl : Nat) (p : Bytes) (t : Hw), s.hw.takes 0x0707 ch seq p [va, n, addr, win, tgt, fl] [] → va % 0x10000 = 0 →
    n % 0x10000 = 0 → addr % 0x10000 = 0 → 0 < n → va + n ≤ 2 ^ 52 → addr + n ≤ 2 ^ 52 → tgt ≤ 2 → fl ≤ 7 → win ≤ 4095 →
    let a := s.hw.asked 0x0707 ch seq p
    let sp := if tgt = 0 then spadPart addr n else (0, 0)
    (tgt = 0 → win = 0 ∧ a.rangeMapped addr n ∧ a.inReserve addr n = false) → a.spadTaken sp.1 sp.2 = false →
    a.objsAt va n = false → a.mmuRoot ≠ 0 → a.pagesIn (pageFuel n) va n = [] →
    a.mapRange (pageFuel n) va addr n (fun pa => mkLeaf tgt win pa (bitOf fl 0) (bitOf fl 1) (bitOf fl 2)) = (t, true) →
    let b := t.invalRange va n
    exec (.memMap ch seq p) s = s.answers ch (if sp.2 = 0 then b else { b with spad := { b.spad with mapped := b.spad.mapped ++ [sp] } }) ⟨0, [], 0⟩) ∧
  (∀ (s : State) (ch seq va n : Nat) (p : Bytes) (t u : Hw), s.hw.takes 0x0708 ch seq p [va, n] [] → va % 0x10000 = 0 → n % 0x10000 = 0 → 0 < n → va + n ≤ 2 ^ 52 →
    let a := s.hw.asked 0x0708 ch seq p
    a.mmuRoot ≠ 0 → ((a.pagesIn (pageFuel n) va n).any (fun g => !a.objsAt g.1 g.2.2)) → a.objsAt va n = false → a.splitLeaf va = (t, true) →
    t.splitLeaf (va + n) = (u, true) →
    let w := u.unmapRange (pageFuel n) va n
    let m := (a.pagesIn (pageFuel n) va n).foldl (fun m g => match g.2.1 with
      | some pa => cutRange m pa g.2.2
      | none => m) w.spad.mapped
    exec (.memUnmap ch seq p) s =
      s.owes (({ w with spad := { w.spad with mapped := m } } : Hw).invalStart ⟨va / 0x10000, n / 0x10000, false, some ch⟩)) ∧
  (∀ (s : State) (ch seq w chip base n : Nat) (p : Bytes), s.hw.takes 0x0709 ch seq p [w, chip, base, n] [] → w ≤ 4095 →
    let a := s.hw.asked 0x0709 ch seq p
    (n = 0 → exec (.memPeerWindow ch seq p) s = s.answers ch (((a.set (F.PW_CHIP w) 0).set (F.PW_BASE w) 0).set (F.PW_SIZE w) 0) ⟨0, [], 0⟩) ∧
    (0 < n → chip ≤ 32767 → base + n ≤ spadBase → a.solo = false ∨ a.cabled chip →
      exec (.memPeerWindow ch seq p) s = s.answers ch (((a.set (F.PW_CHIP w) chip).set (F.PW_BASE w) base).set (F.PW_SIZE w) n) ⟨0, [], 0⟩)) ∧
  (∀ (s : State) (ch seq w base n : Nat) (p : Bytes), s.hw.takes 0x070A ch seq p [w, base, n] [] → w ≤ 4095 → base + n ≤ 2 ^ 64 →
    let a := s.hw.asked 0x070A ch seq p
    a.solo = false →
    (n = 0 → exec (.memHostWindow ch seq p) s = s.answers ch ((a.set (F.HW_PCIE_BASE w) 0).set (F.HW_SIZE w) 0) ⟨0, [], 0⟩) ∧
    (0 < n → exec (.memHostWindow ch seq p) s = s.answers ch ((a.set (F.HW_PCIE_BASE w) base).set (F.HW_SIZE w) n) ⟨0, [], 0⟩)) ∧
  (∀ (s : State) (ch seq i chip wr base n : Nat) (p : Bytes), s.hw.takes 0x070B ch seq p [i, chip, wr, base, n] [] → i ≤ 255 → wr ≤ 1 →
    let a := s.hw.asked 0x070B ch seq p
    (n = 0 → exec (.memLend ch seq p) s =
      s.answers ch ((((a.set (F.LEND_WR i) 0).set (F.LEND_CHIP i) 0).set (F.LEND_BASE i) 0).set (F.LEND_SIZE i) 0) ⟨0, [], 0⟩) ∧
    (0 < n → chip ≤ 32767 → base + n ≤ spadBase + 4 * panelSize →
      a.flag F.GUEST_VALID = false ∨ (∀ k < 16, base + n ≤ k * stackSize ∨ k * stackSize + a.liningExt ≤ base) →
      exec (.memLend ch seq p) s =
        s.answers ch ((((a.set (F.LEND_WR i) wr).set (F.LEND_CHIP i) chip).set (F.LEND_BASE i) base).set (F.LEND_SIZE i) n) ⟨0, [], 0⟩)) ∧
  (∀ (s : State) (ch seq page n : Nat) (p : Bytes), s.hw.takes 0x070C ch seq p [page, n] [] → page < 2 ^ 36 →
    exec (.memInval ch seq p) s = s.owes ((s.hw.asked 0x070C ch seq p).invalStart ⟨page, n, n = 0xFFFFFFFF, some ch⟩)) ∧
  (∀ (s : State) (ch seq id act : Nat) (p : Bytes), s.hw.takes 0x070D ch seq p [id, act] [] → act = 1 ∨ act = 2 →
    let t := (s.hw.asked 0x070D ch seq p).respond id (act = 1)
    exec (.memFaultResp ch seq p) s = s.answers ch t.1 ⟨0, pack [u8 t.2] [], 0⟩)

/-- R451, R564, R452, R453, R397, R398, R410: an accepted command of the QUEUE and SNAP groups completes: a context is preempted, resumed or cancelled, a queue
stopped or its contexts preempted, resumed or cancelled; the Lining is lent and withdrawn and its successor named, targets are bound, unbound and
declared lost, a restore starts under a new OP_ID, or fails where its source is gone. What a bound target's commit records hold is open (log entry 53). -/
def Obligations.QueueAndSnapshotCommandsComplete : Prop :=
  (∀ (s : State) (ch seq c : Nat) (p : Bytes), s.hw.takes 0x0800 ch seq p [c, 1] [] → c < 512 →
    let a := s.hw.asked 0x0800 ch seq p
    a.ctxState c ≠ 0 → a.get F.CSA_BASE ≠ 0 →
    exec (.qCtxCtl ch seq p) s = s.answers ch (a.preempt c) ⟨0, pack [u8 ((a.preempt c).ctxState c)] [], 0⟩) ∧
  (∀ (s : State) (ch seq c : Nat) (p : Bytes), s.hw.takes 0x0800 ch seq p [c, 2] [] → c < 512 →
    let a := s.hw.asked 0x0800 ch seq p
    a.ctxState c = 5 → exec (.qCtxCtl ch seq p) s = s.answers ch (a.resume c) ⟨0, pack [u8 ((a.resume c).ctxState c)] [], 0⟩) ∧
  (∀ (s : State) (ch seq c : Nat) (p : Bytes), s.hw.takes 0x0800 ch seq p [c, 3] [] → c < 512 →
    let a := s.hw.asked 0x0800 ch seq p
    a.ctxState c ≠ 0 → exec (.qCtxCtl ch seq p) s = s.answers ch (a.cancelCtx c) ⟨0, pack [u8 ((a.cancelCtx c).ctxState c)] [], 0⟩) ∧
  (∀ (s : State) (ch seq q : Nat) (p : Bytes), s.hw.takes 0x0801 ch seq p [q, 1] [] → q < 64 →
    let a := s.hw.asked 0x0801 ch seq p
    exec (.qQueueCtl ch seq p) s = s.answers ch (a.queueStop q) ⟨0, pack [u16 (a.qCtxs q)] [], 0⟩) ∧
  (∀ (s : State) (ch seq q : Nat) (p : Bytes), s.hw.takes 0x0801 ch seq p [q, 2] [] → q < 64 →
    let a := s.hw.asked 0x0801 ch seq p
    let l := a.ctxsOf q (fun x => x.st == .running)
    a.get F.CSA_BASE ≠ 0 → exec (.qQueueCtl ch seq p) s = s.answers ch (l.foldl Hw.preempt a) ⟨0, pack [u16 l.length] [], 0⟩) ∧
  (∀ (s : State) (ch seq q : Nat) (p : Bytes), s.hw.takes 0x0801 ch seq p [q, 3] [] → q < 64 →
    let a := s.hw.asked 0x0801 ch seq p
    let l := a.ctxsOf q (fun x => x.st == .preempted && x.io = 0)
    exec (.qQueueCtl ch seq p) s = s.answers ch (l.foldl Hw.resume a) ⟨0, pack [u16 l.length] [], 0⟩) ∧
  (∀ (s : State) (ch seq q : Nat) (p : Bytes), s.hw.takes 0x0801 ch seq p [q, 4] [] → q < 64 →
    let a := s.hw.asked 0x0801 ch seq p
    let l := a.ctxsOf q Ctx.cancellable
    exec (.qQueueCtl ch seq p) s = s.answers ch (l.foldl Hw.cancelCtx a) ⟨0, pack [u16 l.length] [], 0⟩) ∧
  (∀ (s : State) (ch seq v : Nat) (p : Bytes), s.hw.takes 0x0900 ch seq p [v] [] → v % 8192 = 0 → v < 2 ^ 52 →
    let a := s.hw.asked 0x0900 ch seq p
    a.flag F.BAST_CFG_ENABLE = false → exec (.snapSetBase ch seq p) s = s.answers ch (a.set F.SET_BASE v) ⟨0, [], 0⟩) ∧
  (∀ (s : State) (ch seq g f : Nat) (p : Bytes), s.hw.takes 0x0901 ch seq p [g, f] [] → g ≤ 32767 → f ≤ 2 →
    let a := s.hw.asked 0x0901 ch seq p
    a.flag F.GUEST_VALID = false → ((List.range 16).all (fun k => a.get (F.STK_STATE k) = 2)) → a.extentsUsed f = false →
    exec (.snapLend ch seq p) s = s.answers ch (((a.set F.LINING_FRAC f).set F.GUEST_CHIP g).set F.GUEST_VALID 1) ⟨0, [], 0⟩) ∧
  (∀ (s : State) (ch seq : Nat) (p : Bytes), s.hw.takes 0x0902 ch seq p [] [] →
    let a := s.hw.asked 0x0902 ch seq p
    a.flag F.GUEST_VALID → exec (.snapWithdraw ch seq p) s = s.answers ch ((a.set F.GUEST_VALID 0).set F.SUCC_VALID 0) ⟨0, [], 0⟩) ∧
  (∀ (s : State) (ch seq c : Nat) (p : Bytes), s.hw.takes 0x0903 ch seq p [c] [] → c ≤ 32767 →
    let a := s.hw.asked 0x0903 ch seq p
    a.flag F.GUEST_VALID → exec (.snapSuccessor ch seq p) s = s.answers ch ((a.set F.SUCC_CHIP c).set F.SUCC_VALID 1) ⟨0, [], 0⟩) ∧
  (∀ (s : State) (ch seq c f b : Nat) (p : Bytes), s.hw.takes 0x0904 ch seq p [c, f, b] [] → c ≤ 32767 → f ≤ 2 → (∀ i < 16, elemLE 8 i b < 2 ^ 52) →
    let a := s.hw.asked 0x0904 ch seq p
    let t := (List.range 16).foldl (fun h i => h.set (F.BUDDY_BASE i) (elemLE 8 i b)) (((a.set F.BUDDY_VALID 1).set F.BUDDY_CHIP c).set F.BUDDY_FRAC f)
    a.bast.cap = none → a.peerReach c →
    exec (.snapBindBuddy ch seq p) s = if a.choice 9900 then s.answers ch a ⟨rcNOTFOUND, [], 0⟩
      else s.answers ch ((t.slotRead 0 9901).slotRead 1 9911) ⟨0, [], 0⟩) ∧
  (∀ (s : State) (ch seq sq cq d1 d2 ns q dp l0 l1 bl : Nat) (p : Bytes), s.hw.takes 0x0905 ch seq p [sq, cq, d1, d2, ns, q, dp, l0, l1, bl] [] → dp ≤ 16 →
    let a := s.hw.asked 0x0905 ch seq p
    a.inOneRegion sq (64 * 2 ^ dp) → a.inOneRegion cq (16 * 2 ^ dp) → a.bast.cap = none →
    exec (.snapBindNvme ch seq p) s = s.answers ch (((([sq, cq, d1, d2, l0, l1, bl].zipIdx).foldl (fun h x => h.set (F.NVME_WORD x.2) x.1)
      ((((a.set F.NVME_VALID 1).set F.NVME_DEPTH_LOG2 dp).set F.NVME_QID q).set F.NVME_NSID ns)).slotRead 2 9921).slotRead 3 9931) ⟨0, [], 0⟩) ∧
  (∀ (s : State) (ch seq : Nat) (p : Bytes), s.hw.takes 0x0906 ch seq p [] [] →
    let a := s.hw.asked 0x0906 ch seq p
    exec (.snapSlots ch seq p) s = s.answers ch a ⟨0, pack (((List.range 4).map (fun n =>
      [u8 (a.get (F.SLOT_STATE n)), u16 (a.get (F.SLOT_SETID n)), u64 (a.get (F.SLOT_EPOCH n))])).flatten) [], 0⟩) ∧
  (∀ (s : State) (ch seq t : Nat) (p : Bytes), s.hw.takes 0x0907 ch seq p [t] [] → t ≤ 1 →
    let a := s.hw.asked 0x0907 ch seq p
    let b := match a.bast.cap with
      | some k => if k.nvme = (t == 1) then a.snapAbort 4 else a
      | none => a
    exec (.snapUnbind ch seq p) s = s.answers ch (b.set (if t = 0 then F.BUDDY_VALID else F.NVME_VALID) 0) ⟨0, [], 0⟩) ∧
  (∀ (s : State) (ch seq : Nat) (p : Bytes), s.hw.takes 0x0908 ch seq p [] [] →
    let a := s.hw.asked 0x0908 ch seq p
    a.flag F.BUDDY_VALID → exec (.snapBuddyLost ch seq p) s = s.answers ch a.buddyLost ⟨0, [], 0⟩) ∧
  (∀ (s : State) (ch seq src slot policy mode chip f win b : Nat) (p : Bytes), s.hw.takes 0x0909 ch seq p [src, slot, policy, mode, chip, f, win, b] [] →
    src ≤ 2 → slot ≤ 2 → policy ≤ 2 → mode ≤ 2 → win ≤ 4095 ∨ win = 0xFFFF → (src = 1 → chip ≤ 32767 ∧ f ≤ 2 ∧ ∀ i < 16, elemLE 8 i b < 2 ^ 52) →
    let a := s.hw.asked 0x0909 ch seq p
    a.bast.restore = none → a.restoreBusy = false →
    let n := a.newOp.1
    let realign := if policy = 2 then n.flag F.REALIGN_DEF else decide (policy = 1)
    let pull := if win = 0xFFFF then none else some win
    let r : Restore := ⟨src, if src = 0 then n.get F.BUDDY_CHIP else chip, slot, realign, pull, mode = 1, mode = 2, a.mb.nextOp⟩
    let t := (n.set F.RESTORE_STATUS 1).set F.BAST_STATE (if mode = 2 then 5 else 4)
    let t := { t with bast := { t.bast with restore := some r } }
    exec (.snapRestore ch seq p) s = s.answers ch (if t.sourceGone r then t.restoreFail 0x17 0 0 else t) ⟨0, [], a.mb.nextOp⟩)

/-- R454, R455, R483, R485, R194: an accepted command of the SEC and DIAG groups completes: the identity, a quote that is staged, a new owner record,
a Chervil draw, a register read and written on the diagnostic path, an engine's Panel and kind, the counts of a loopback test (which are open). -/
def Obligations.SecurityAndDiagCommandsComplete : Prop :=
  (∀ (s : State) (ch seq : Nat) (p : Bytes), s.hw.takes 0x0A00 ch seq p [] [] →
    let a := s.hw.asked 0x0A00 ch seq p
    exec (.secGetId ch seq p) s = s.answers ch a ⟨0, pubKey ++ a.regBytes regAttestToken 32, 0⟩) ∧
  (∀ (s : State) (ch seq nonce mask : Nat) (p : Bytes), s.hw.takes 0x0A01 ch seq p [nonce, mask] [] → mask < 2 ^ 16 →
    let a := s.hw.asked 0x0A01 ch seq p
    let b : Hw := { a with sec := { a.sec with quotes := a.sec.quotes + 1 } }
    let q := b.quoteBody (natLE 32 nonce) mask ++ (List.range 17088).map (Config.signature (b.quoteBody (natLE 32 nonce) mask))
    exec (.secQuote ch seq p) s = s.answers ch (b.updChan ch (fun k => { k with outp := q })) ⟨0, pack [u32 q.length] [], 0⟩) ∧
  (∀ (s : State) (ch seq : Nat) (p : Bytes), s.hw.takes 0x0A02 ch seq p [8112] [] → ch < 4 →
    let a := s.hw.asked 0x0A02 ch seq p
    let r := (a.chan ch).inp.take 8112
    r.length = 8112 → recordFormatOk r → bitOf (fieldLE r 6 2) 0 = false → fieldLE r 8 4 = a.rpmc.ownerGen + 1 → slice r 0x10 32 = a.regBytes regIdHash 32 →
    a.sec.owner = none → recordSigned r → a.ownerCopy 0 = none →
    let w := a.norWrite (ownerBase 0) r
    let t : Hw := { w with rpmc := { w.rpmc with ownerGen := w.rpmc.ownerGen + 1 }, sec := { w.sec with owner := some (r.take 0x100) } }
    exec (.secEnrol ch seq p) s = s.answers ch (t.setB F.SEC_OWNED true) ⟨0, [], 0⟩) ∧
  (∀ (s : State) (ch seq key salt step mb layer stream elem : Nat) (p : Bytes), s.hw.takes 0x0B00 ch seq p [key, salt, step, mb, layer, stream, elem] [] →
    stream ≤ 0x7FFFF →
    exec (.diagChervil ch seq p) s = s.answers ch (s.hw.asked 0x0B00 ch seq p) ⟨0, pack [u32 (chervil ⟨elemLE 4 0 key, elemLE 4 1 key, elemLE 4 2 key,
      elemLE 4 3 key, salt, step, mb, layer, stream⟩ elem)] [], 0⟩) ∧
  (∀ (s : State) (ch seq off w v : Nat) (p : Bytes) (t : Hw), s.hw.takes 0x0B01 ch seq p [off, w] [] → w = 4 ∨ w = 8 →
    (s.hw.asked 0x0B01 ch seq p).regRead .diag off w = (t, some v) →
    exec (.diagRegRead ch seq p) s = s.answers ch t ⟨0, pack [u64 v] [], 0⟩) ∧
  (∀ (s : State) (ch seq off w v : Nat) (p : Bytes) (t : Hw), s.hw.takes 0x0B02 ch seq p [off, w, v] [] → w = 8 ∨ (w = 4 ∧ v < 2 ^ 32) →
    (s.hw.asked 0x0B02 ch seq p).regWrite .diag off w v = (t, true) →
    exec (.diagRegWrite ch seq p) s = s.answers ch t ⟨0, [], 0⟩) ∧
  (∀ (s : State) (ch seq e : Nat) (p : Bytes), s.hw.takes 0x0B03 ch seq p [e] [] → e < 292 →
    exec (.diagEngineMap ch seq p) s = s.answers ch (s.hw.asked 0x0B03 ch seq p)
      ⟨0, pack [u8 (panelOfEngine e), u8 (if e < 192 then 0 else if e < 256 then 1 else if e < 288 then 2 else 3)] [], 0⟩) ∧
  (∀ (s : State) (ch seq ms : Nat) (p : Bytes) (g : Plan), s.hw.takes 0x0B04 ch seq p [ms] [] → 0 < ms → ms ≤ 10000 →
    let a := s.hw.asked 0x0B04 ch seq p
    a.lkUp 0 → a.topo.plan = some g → ((g.links[a.plinkOf 0]?).map (·.role)).getD 0 = 1 →
    exec (.diagLoopback ch seq p) s = s.answers ch a ⟨0, pack [u64 (a.free 0xB04), u64 (a.free 0xB05)] [], 0⟩)

/-- R456, R457, R459, R507, R556: an accepted command of the EVENT and SAGE groups completes: the ring is set, records are returned, a filter is set;
sensors, pins and lasers are reported and a threshold is set, through channel 12 where the command came on another. -/
def Obligations.EventAndSageCommandsComplete : Prop :=
  (∀ (s : State) (ch seq base lg irq : Nat) (p : Bytes), s.hw.takes 0x0C00 ch seq p [base, lg, irq] [] → 4 ≤ lg → lg ≤ 16 → irq ≤ 1 → 0 < base → base < 2 ^ 52 →
    let a := s.hw.asked 0x0C00 ch seq p
    a.mmuRoot ≠ 0 → (a.xlateRange noCache .write base (32 * 2 ^ lg)).isOk →
    let t := (a.set F.EVT_TAIL 0).set F.EVT_HEAD 0
    exec (.evtRing ch seq p) s = s.answers ch ((((({ t with evt := { t.evt with ringNext := t.get F.EVT_SEQ } } : Hw).set F.RING_EN 1).set F.RING_LOG2 lg).set
      F.EVR_BASE base).set F.EVR_IRQ_EN irq) ⟨0, [], 0⟩) ∧
  (∀ (s : State) (ch seq from_ : Nat) (p : Bytes), s.hw.takes 0x0C01 ch seq p [from_, 0] [] →
    let a := s.hw.asked 0x0C01 ch seq p
    exec (.evtRead ch seq p) s = s.answers ch a ⟨0, evRead a (a.get F.EVT_SEQ) a.evt.log.length from_
      (fun q => ((a.evt.log[(a.get F.EVT_SEQ + 2 ^ 32 - 1 - q) % 2 ^ 32]?).map EvRec.bytes).getD []), 0⟩) ∧
  (∀ (s : State) (ch seq sub sev mask : Nat) (p : Bytes), s.hw.takes 0x0C02 ch seq p [sub, sev, mask] [] → sub ≤ 2 → sev ≤ 4 →
    exec (.evtFilter ch seq p) s =
      s.answers ch (((s.hw.asked 0x0C02 ch seq p).set (F.EVF_MIN_SEV sub) sev).set (F.EVF_CLASS_MASK sub) mask) ⟨0, [], 0⟩) ∧
  (∀ (s : State) (ch seq f n : Nat) (p : Bytes), s.hw.takes 0x0D00 ch seq p [f, n] [] → f ≤ 63 → 0 < n → n ≤ 64 → f + n ≤ 64 →
    let a := s.hw.asked 0x0D00 ch seq p
    exec (.sageSensors ch seq p) s = s.answers ch (a.relay ch 0) ⟨0, pack ((List.range n).map (fun i => u16 (a.get (F.SENSOR_TEMP (f + i))))) [], 0⟩) ∧
  (∀ (s : State) (ch seq : Nat) (p : Bytes), s.hw.takes 0x0D01 ch seq p [] [] →
    let a := s.hw.asked 0x0D01 ch seq p
    exec (.sagePins ch seq p) s =
      s.answers ch (a.relay ch 0) ⟨0, pack [u32 (a.get F.PIN_LEVEL), u32 (a.get F.PIN_STUCK_BITS), u32 (a.get F.PIN_CHATTER_BITS)] [], 0⟩) ∧
  (∀ (s : State) (ch seq id v : Nat) (p : Bytes), s.hw.takes 0x0D02 ch seq p [id, 0, v] [] → threshOk id v →
    let a := s.hw.asked 0x0D02 ch seq p
    threshOrder (fun i => a.get (F.THRESH_VALUE i)) id v →
    exec (.sageSetThresh ch seq p) s = s.answers ch ((a.set (F.THRESH_VALUE id) v).relay ch 0) ⟨0, [], 0⟩) ∧
  (∀ (s : State) (ch seq e : Nat) (p : Bytes), s.hw.takes 0x0D03 ch seq p [e] [] → e < 8 →
    let a := s.hw.asked 0x0D03 ch seq p
    exec (.sageLaser ch seq p) s = s.answers ch (a.relay ch 0) ⟨0, pack ((List.range 36).map (fun x => u16 (a.get (F.LAS_FADE e x)))) [], 0⟩)


/-! ### The Shuttle: queues, windows, engines -/

/-- R145, R185, R187, R188, R560: doorbells move the pointers of an enabled queue, and set Q_ERR where they are at or above the ring size; a disabled
queue stores them; a submission entry is read at the head and becomes a context, with the lowest free number, counted in ADMITTED; a held record is
written once the ring has room; a queue starts, drains and stops. A doorbell is 32 bits wide (log entry 159). -/
def Obligations.QueueCommandsComplete : Prop :=
  (∀ (s : State) (q v : Nat), s.hw.domOn domYOKE → q < 64 → s.hw.flag (F.Q_ENABLE q) →
    let a := s.hw.set (F.SQ_TAIL_DB_REG q) (v % 2 ^ 32)
    (v % 2 ^ 32 < s.hw.sqSize q → exec (.sqTailDb q v) s = s.to ((a.submitMarks q (v % 2 ^ 32)).set (F.Q_SQ_TAIL q) (v % 2 ^ 32))) ∧
    (s.hw.sqSize q ≤ v % 2 ^ 32 → s.hw.get (F.Q_ERR q) = 0 → exec (.sqTailDb q v) s = s.to (a.queueErr q 1))) ∧
  (∀ (s : State) (q v : Nat), s.hw.domOn domYOKE → q < 64 → s.hw.flag (F.Q_ENABLE q) = false →
    exec (.sqTailDb q v) s = s.to ((s.hw.set (F.SQ_TAIL_DB_REG q) (v % 2 ^ 32)).updQ q (fun k => { k with sqDb := some (v % 2 ^ 32) }))) ∧
  (∀ (s : State) (q v : Nat), s.hw.domOn domYOKE → q < 64 → s.hw.flag (F.Q_ENABLE q) →
    let a := s.hw.set (F.CQ_HEAD_DB_REG q) (v % 2 ^ 32)
    let b := a.set (F.Q_CQ_HEAD q) (v % 2 ^ 32)
    (v % 2 ^ 32 < s.hw.cqSize q → (s.hw.q q).stopped = false → exec (.cqHeadDb q v) s = s.to b) ∧
    (v % 2 ^ 32 < s.hw.cqSize q → (s.hw.q q).stopped → exec (.cqHeadDb q v) s = s.to (b.recDrain (s.hw.q q).held.length q)) ∧
    (s.hw.cqSize q ≤ v % 2 ^ 32 → (s.hw.q q).stopped = false → s.hw.get (F.Q_ERR q) = 0 → exec (.cqHeadDb q v) s = s.to (a.queueErr q 2))) ∧
  (∀ (s : State) (q v : Nat), s.hw.domOn domYOKE → q < 64 → s.hw.flag (F.Q_ENABLE q) = false →
    exec (.cqHeadDb q v) s = s.to ((s.hw.set (F.CQ_HEAD_DB_REG q) (v % 2 ^ 32)).updQ q (fun k => { k with cqDb := some (v % 2 ^ 32) }))) ∧
  (∀ (s : State) (q c : Nat) (ext bs : Bytes) (a : Hw), s.hw.nextQueue = some q → s.hw.stageOff q = false →
    s.hw.vread noCache .read (s.hw.get (F.Q_SQ_BASE q) + 32 * s.hw.get (F.Q_SQ_HEAD q)) 32 ext = .ok (a, bs, false) → a.freeCtxNum = some c →
    let x := mkCtx q (a.flag (F.Q_VS_EN q)) (if a.flag (F.Q_VS_EN q) then a.get (F.Q_QCLASS q) else 0) a.shut.admitSeq bs
    let x := { x with curAt := (a.q q).curAts.headD a.train.curLog.length }
    let cache := if bitOf (fieldLE bs 0x14 4) 16 then [] else a.shut.descCache
    let b := { a with shut := { a.shut with ctxs := a.shut.ctxs.set c x, admitSeq := a.shut.admitSeq + 1, lastQueue := some q, descCache := cache } }
    let b := b.updQ q (fun k => { k with curAts := k.curAts.drop 1 })
    exec (.admitEntry q ext) s = s.to (((b.set (F.Q_SQ_HEAD q) ((s.hw.get (F.Q_SQ_HEAD q) + 1) % b.sqSize q)).inc (F.Q_ADMITTED q)).tryEnd c)) ∧
  (∀ (s : State) (q : Nat) (r : HeldRec) (rest : List HeldRec) (a : Hw), (s.hw.q q).stopped = false → s.hw.cqFull q = false →
    (s.hw.q q).held = r :: rest → s.hw.recWrite q r = .ok a →
    let b := a.updQ q (fun k => { k with held := rest, stopped := false })
    exec (.writeCompletionRecord q) s = s.to (if rest.isEmpty then b.setB (F.Q_CQ_FULL q) false else b)) ∧
  (∀ (s : State) (q w : Nat), s.hw.domOn domYOKE → q < 64 → s.hw.flag (F.Q_ENABLE q) = false →
    exec (.queueEnable q w) s = s.to ((s.hw.queueCfg q w).queueStart q)) ∧
  (∀ (s : State) (q w : Nat), s.hw.domOn domYOKE → q < 64 → s.hw.flag (F.Q_ENABLE q) →
    exec (.queueDisable q w) s = s.to ((s.hw.queueRefused q w).queueStop q)) ∧
  (∀ (s : State) (q : Nat), (s.hw.q q).disabling → s.hw.qCtxs q = 0 →
    exec (.queueDrained q) s = s.to ((s.hw.set (F.Q_ENABLE q) 0).updQ q (fun k => { k with disabling := false })))

/-- R78, R85 to R89, R107, R147, R154, R227: an instruction is fetched at the program counter, joins its context's window with its descriptors and an
engine; a continuing MMA gets the array that holds its tag; an array issues its best candidate, whose result is fixed then and applied as it ends,
directly or through the write-back of its staged destination. That a result is fixed at issue is log entry 101. -/
def Obligations.WindowCommandsComplete : Prop :=
  (∀ (s : State) (c : Nat) (ext bs : Bytes) (x : Ctx) (a : Hw), s.hw.ctx? c = some x → s.hw.mayFetch x → x.window.all (fun e => !e.descs.isEmpty || e.flt.isSome) →
    s.hw.vread (c % 4) .fetch (x.progAddr + 16 * x.pc) 16 ext = .ok (a, bs, false) → insValid (leNat bs) →
    let e := Ent.fresh x.pc (leNat bs)
    let b := a.updCtx c (fun x => { x with pc := x.pc + 1, window := x.window ++ [e] })
    (∀ (t : Hw) (ds : List (Nat × Nat)), b.entDescs (c % 4) (leNat bs) [] = .ok (t, ds) → exec (.fetchInstruction c ext) s = s.to (t.enter c e ds)) ∧
    (∀ f : XFault, b.entDescs (c % 4) (leNat bs) [] = .error f → exec (.fetchInstruction c ext) s = s.to b)) ∧
  (∀ (s : State) (c i : Nat) (x : Ctx) (e : Ent), s.hw.holds c i x e → s.hw.shutOn → s.hw.flag F.TAILOR_CFG_ENABLE → x.st = .running → insOpc e.raw = 0 →
    (mmaF e.raw).mode = 1 → e.engine = none → e.ph = .held → e.descs ≠ [] → (∀ y ∈ x.window, y.index < e.index → y.tagOrder e = false) →
    let eng := match x.chains.find? (·.tag == (mmaF e.raw).tag) with
      | some k => some k.array
      | none => s.hw.assignNormal e.raw e.descs
    exec (.assignContinueMma c i) s = s.to (s.hw.updEnt c i (fun e => { e with engine := eng }))) ∧
  (∀ (s : State) (a : Nat) (k : Cand), s.hw.mmaTakes a k → exec (.mma a) s = s.to (s.hw.mmaStart a k.c k.x k.e)) ∧
  (∀ (s : State) (c i : Nat) (e : Ent), s.hw.working? c i = some e → insOpc e.raw = 0 → e.ph = .issued → s.hw.flag F.SPAD_CFG_ENABLE →
    ((mmaF e.raw).fin = false → exec (.mmaLastPromotion c i) s = s.to (s.hw.mmaEnd c (s.hw.undef e))) ∧
    ((mmaF e.raw).fin → exec (.mmaLastPromotion c i) s = s.to (s.hw.slabFree c i)) ∧
    ((mmaF e.raw).fin → (s.hw.undef e).res.vw = [] → s.hw.resultWait noCache (s.hw.undef e).res.segs [] = none →
      exec (.mmaWritebackDone c i) s = s.to (s.hw.mmaEnd c (s.hw.undef e))) ∧
    ((mmaF e.raw).fin → (s.hw.undef e).res.vw ≠ [] → exec (.mmaWritebackDone c i) s = s.to (s.hw.toWriteback c (s.hw.undef e))))

/-- R113, R114, R123, R139, R157 to R164, R178: a vector engine issues its best candidate where that is of the command's class and function: its
result is fixed then (vecGo); it ends by the one command for all, writing where it wrote, or waiting for its staged destination. That a result is
fixed at issue is log entry 101. -/
def Obligations.VectorCommandsComplete : Prop :=
  ∀ (s : State) (v : Nat) (k : Cand),
    (s.hw.vecTakes v k (fun r => insOpc r = 1) → exec (.cvt v) s = s.to (s.hw.vecGo v k.c k.x k.e)) ∧
    (s.hw.vecTakes v k (fun r => insOpc r = 2 && vfnOf r < 0x30) → exec (.vop v) s = s.to (s.hw.vecGo v k.c k.x k.e)) ∧
    (s.hw.vecTakes v k (fun r => insOpc r = 2 && vfnOf r = 0x30) → exec (.dropout v) s = s.to (s.hw.vecGo v k.c k.x k.e)) ∧
    (s.hw.vecTakes v k (fun r => insOpc r = 2 && vfnOf r = 0x40) → exec (.optSgd v) s = s.to (s.hw.vecGo v k.c k.x k.e)) ∧
    (s.hw.vecTakes v k (fun r => insOpc r = 2 && vfnOf r = 0x41) → exec (.optMomentum v) s = s.to (s.hw.vecGo v k.c k.x k.e)) ∧
    (s.hw.vecTakes v k (fun r => insOpc r = 2 && vfnOf r = 0x42) → exec (.optAdamw v) s = s.to (s.hw.vecGo v k.c k.x k.e)) ∧
    (s.hw.vecTakes v k (fun r => insOpc r = 3) → exec (.red v) s = s.to (s.hw.vecGo v k.c k.x k.e)) ∧
    (s.hw.vecTakes v k (fun r => insOpc r = 4) → exec (.pleat v) s = s.to (s.hw.vecGo v k.c k.x k.e)) ∧
    (s.hw.vecTakes v k (fun r => insOpc r = 5) → exec (.unpleat v) s = s.to (s.hw.vecGo v k.c k.x k.e)) ∧
    (s.hw.vecTakes v k (fun r => insOpc r = 8) → exec (.rng v) s = s.to (s.hw.vecGo v k.c k.x k.e)) ∧
    (∀ (c i : Nat) (e : Ent), s.hw.working? c i = some e → insIsVec e.raw → e.ph = .issued → s.hw.flag F.SPAD_CFG_ENABLE →
      let d := s.hw.undef e
      (d.res.vw = [] → s.hw.resultWait noCache d.res.segs [] = none → exec (.vecInstrComplete c i) s = s.to (s.hw.vecEnd c d)) ∧
      (d.res.vw ≠ [] → exec (.vecInstrComplete c i) s = s.to (s.hw.toWriteback c d)))

/-- R207, R208, R276 to R279, R281 to R284: a MOVE takes a job slot of its DMA engine; each chunk that is written advances its cursor, the last one
completes it; a staging copy takes a job of an engine of its Panel where there is room and ends with the bytes read; a staged destination is written
home before its instruction completes; a source is read ahead. The room of a copy and its engine are as log entries 25 and 51 say. -/
def Obligations.MoveAndStagingCommandsComplete : Prop :=
  (∀ (s : State) (d : Nat) (k : Cand) (dst src : Desc), d < 32 → s.hw.domOn (domPANEL (d / 8)) → s.hw.best (256 + d) = some k → moveOk k.e → s.hw.moveRoom d →
    (k.e.reads ++ k.e.writes).any (fun g => s.hw.objBusy g.1 g.2) = false → descIn k.e.descs (bitsOf k.e.raw 122 107) = some dst →
    descIn k.e.descs (bitsOf k.e.raw 106 91) = some src →
    let cs := moveChunk src.fmt
    let j : Job := { slot := 0, kind := 0, ctx := k.c, index := k.e.index, src := src.addr, dst := dst.addr, cursor := k.e.cursor, parked := false
                     doneChunks := List.range (k.e.cursor / cs) }
    exec (.move d) s = s.to (((s.hw.jobAdd d j).updEnt k.c k.e.index (fun e => { e with ph := .issued })).touch k.e)) ∧
  (∀ (s : State) (c i k : Nat) (ext bs : Bytes) (e : Ent) (j : Job) (src dst : Desc) (a t : Hw), s.hw.ent? c i = some e → insOpc e.raw = 6 →
    e.ph = .issued → e.flt = none →
    let d := e.engine.getD 256 - 256
    (s.hw.jobsOn d).find? (fun j => j.kind = 0 && j.ctx = c && j.index = i && !j.parked) = some j → descIn e.descs (bitsOf e.raw 122 107) = some dst →
    descIn e.descs (bitsOf e.raw 106 91) = some src →
    let cs := moveChunk src.fmt
    let total := (src.count + cs - 1) / cs
    let lo := k * cs
    let hi := min src.count (lo + cs)
    let others := ((s.hw.activeJobs d).filter (fun y => y.kind = 0 && y.slot ≠ j.slot)).foldl (fun n y => n + y.flying 0) 0
    k < total → j.doneChunks.contains k = false → others + j.flying (k + 1) ≤ 16 → s.hw.staleAct c e = none →
    s.hw.canReachAll (8 + d) .read (src.stream lo hi) → s.hw.canReachAll (8 + d) .write (dst.stream lo hi) → s.hw.flag F.SPAD_CFG_ENABLE →
    s.hw.readStream (8 + d) (src.stream lo hi) ext = .ok (a, bs, false) → s.hw.resultWait (8 + d) [] (dst.stream lo hi) = none →
    a.writeStream (8 + d) (dst.stream lo hi) bs = .ok t →
    let b := (t.inc (F.DMA_BYTES_RD d) bs.length).inc (F.DMA_BYTES_WR d) bs.length
    let done := insNat j.doneChunks k
    let cur := min src.count (lowestUndone done * cs)
    let b := b.updJob d c i (fun j => { j with doneChunks := done, cursor := cur })
    let b := b.updEnt c i (fun e => { e with cursor := cur })
    let b := b.moveConsumed d c i (src.aheadStream cur)
    exec (.dmaChunkDone c i k ext) s = s.to (if done.length = total then (b.dropJob d c i).finish c e stOK 0 {} else b)) ∧
  (∀ (s : State) (c i o eng : Nat) (e : Ent) (r : Region) (k : Cand), s.hw.ent? c i = some e → e.engine = some eng → e.regions.find? (·.o == o) = some r →
    eng < 256 → s.hw.best eng = some k → k.c = c → k.e.index = i → s.hw.lacksOnlyRegions eng k → s.hw.stagingOn →
    e.copies.all (fun k => k.opnd ≠ o || k.cut ≠ 0) →
    let p := panelOfEngine eng
    s.hw.resident p e r = false → s.hw.regionOk p r →
    let a := s.hw.dropCopies c i (· = o)
    let need := a.copyBytes p e r
    let b := a.makeRoom (a.copiesIn p).length p need
    b.stageUsed p + need ≤ b.stageSize → (∃ d ∈ dmaOf p, (b.activeJobs d).length < 4) →
    (∀ d ∈ dmaOf p, b.winsUsed p + (if r.rd then (b.windowRanges (8 + d) (lens r.ranges)).length else 0) ≤ 256) →
    ∃ d ∈ dmaOf p, (b.activeJobs d).length < 4 ∧ exec (.stagingCopyStart c i o) s = s.to (b.copyStart d c p e r false 0)) ∧
  (∀ (s : State) (c i o d : Nat) (ext : Bytes) (x : Ctx) (e : Ent) (r : Region) (k : Copy), s.hw.holds c i x e → e.regions.find? (·.o == o) = some r →
    e.copies.find? (fun k => k.opnd = o && !k.done) = some k → s.hw.jobEngine 1 c i (some o) = some d → s.hw.stagingOn → e.flt = none →
    k.ahead = false ∨ s.hw.ready x e →
    s.hw.xl.wins.any (fun w => w.ctx = c && w.index = i && w.opnd = o && w.stale) = false →
    let src := if !r.rd then [] else if k.cut = 0 then lens r.ranges else takeStream k.cut (lens r.ranges)
    src.all (fun g => (s.hw.xlateRange (8 + d) .read g.1 g.2).isOk) →
    let got := s.hw.gatherHome (8 + d) (src.map (fun g => (g.1, g.1 + g.2))) ext
    let bytes := (got.2.1.map (·.2)).flatten
    let a := got.1.inc (F.SPAD_STAGE_BYTES k.panel) bytes.length
    let a := (a.inc (F.DMA_BYTES_RD d) bytes.length).inc (F.DMA_BYTES_WR d) bytes.length
    let end1 := fun (y : Copy) => if y.opnd = o then { y with done := true, data := bytes, bad := got.2.2 } else y
    exec (.stagingCopyDone c i o ext) s = s.to (a.updEnt c i (fun e => { e with copies := e.copies.map end1 }))) ∧
  (∀ (s : State) (c i d : Nat) (e : Ent) (a : Hw), s.hw.working? c i = some e → e.ph = .writeback → e.flt = none → s.hw.stagingOn →
    s.hw.jobEngine 2 c e.index none = some d → e.index = i →
    s.hw.resultWait (8 + d) e.res.segs (e.res.vw.map (fun w => (w.1, w.2.length))) = none →
    s.hw.writeVirt (8 + d) e.res.vw = .ok a →
    let n := e.res.vw.foldl (fun n w => n + w.2.length) 0
    let b := ((a.inc (F.SPAD_STAGE_BYTES (panelOfEngine (e.engine.getD 0))) n).inc (F.DMA_BYTES_RD d) n).inc (F.DMA_BYTES_WR d) n
    exec (.stagedWriteback c i) s = s.to (if insOpc e.raw = 0 then b.mmaEnd c e else b.vecEnd c e)) ∧
  (∀ (s : State) (c i o eng : Nat) (x : Ctx) (e : Ent) (r : Region), s.hw.holds c i x e → s.hw.stagingOn → s.hw.flag F.RA_EN → x.st = .running → e.ph = .held →
    e.flt = none → s.hw.ready x e = false → insOpc e.raw ≠ 6 → e.engine = some eng → eng < 256 →
    e.regions.find? (fun r => r.o = o && r.rd && !r.wr) = some r →
    let p := panelOfEngine eng
    let need := s.hw.copyBytes p e r
    let len := r.ranges.foldl (fun n g => n + (g.2 - g.1)) 0
    e.copies.all (fun k => k.opnd ≠ o) → s.hw.resident p e r = false → s.hw.aheadLen p (lens r.ranges) = len → 0 < len →
    s.hw.stageUsed p + need ≤ s.hw.stageSize → s.hw.stageAhead p + need ≤ s.hw.stageSize / 2 → (∃ d ∈ dmaOf p, (s.hw.activeJobs d).length < 4) →
    (∀ d ∈ dmaOf p, s.hw.winsUsed p + (s.hw.windowRanges (8 + d) (takeStream len (lens r.ranges))).length ≤ 256) →
    r.ranges.any (fun g => s.hw.objBusy g.1 g.2) = false →
    ∃ d ∈ dmaOf p, (s.hw.activeJobs d).length < 4 ∧ exec (.runAheadStart c i o) s = s.to ((s.hw.copyStart d c p e r true 0).inc (F.RA_BYTES p) len)) ∧
  (∀ (s : State) (c i eng : Nat) (x : Ctx) (e : Ent) (src : Desc), s.hw.holds c i x e → s.hw.stagingOn → s.hw.flag F.RA_EN → x.st = .running → e.ph = .held →
    e.flt = none → s.hw.ready x e = false → insOpc e.raw = 6 → e.engine = some eng → descIn e.descs (bitsOf e.raw 106 91) = some src →
    let d := eng - 256
    let p := d / 8
    let all := takeStream (0x40000 - s.hw.aheadHeld d) (src.aheadStream 0)
    let len := all.foldl (fun n g => n + g.2) 0
    let got := takeStream len all
    let ws := s.hw.windowRanges (8 + d) got
    got ≠ [] → s.hw.aheadLen (8 + d) all = len → s.hw.winsUsed p + ws.length ≤ 256 →
    s.hw.xl.wins.any (fun w => w.ctx = c && w.index = e.index) = false →
    exec (.runAheadStart c i 1) s =
      s.to ((s.hw.takeWins p c e.index 1 (e.staleMarks.getD 1 0) ws).inc (F.RA_BYTES p) (got.foldl (fun n g => n + g.2) 0)))

/-- R165, R69, R385, R387: a STAT that is ready, on a record that is reached, clears the slot's mark of an ABSENT event, does its function and completes with
OK: the reset record, the record out, the changed field or fields, the record in. -/
def Obligations.StatCommandsComplete : Prop :=
  ∀ (s : State) (c i : Nat) (x : Ctx) (e : Ent), s.hw.holds c i x e → (e.reads ++ e.writes).any (fun g => s.hw.objBusy g.1 g.2) = false →
    let k := s.hw.absClear (statSlot e)
    let r := k.tapeRec (statSlot e)
    let w := statImm e
    (s.hw.statReady x e 0 →
      exec (.statRegister c i) s =
        s.to (((k.tapePut (statSlot e) (TapeRec.fresh (bitsOf e.raw 87 85 = clsGRAD)).bytes).touch e).finish c e stOK 0 {})) ∧
    (∀ (d : Desc) (t : Hw), s.hw.statReady x e 1 → s.hw.statAux e .write → statDs e = some d →
      k.writeStream noCache (d.stream 0 32) (k.tapeBytes (statSlot e)) = .ok t →
      exec (.statQuery c i) s = s.to ((t.touch e).finish c e stOK 0 {})) ∧
    (s.hw.statReady x e 2 → w % 256 ≠ 0xFF →
      exec (.statSetscale c i) s = s.to (((k.tapeSoftWrite (statSlot e) { r with scaleE := w % 256 }.bytes).touch e).finish c e stOK 0 {})) ∧
    (s.hw.statReady x e 3 → bitsOf w 3 0 = 2 ∨ bitsOf w 3 0 = 3 →
      exec (.statSetctl c i) s = s.to (((k.tapeSoftWrite (statSlot e)
        { r with watchEn := bitOf w 12, margin := bitsOf w 11 8, amaxLen := bitsOf w 7 4, scaleFmt := bitsOf w 3 0 }.bytes).touch e).finish c e stOK 0 {})) ∧
    (s.hw.statReady x e 4 → bitsOf w 31 16 ≠ 0 →
      exec (.statSetwatch c i) s = s.to (((k.tapeSoftWrite (statSlot e)
        { r with starveN := bitsOf w 31 16, ufThresh := bitsOf w 15 0 }.bytes).touch e).finish c e stOK 0 {})) ∧
    (∀ (d : Desc) (t : Hw) (bs : Bytes), s.hw.statReady x e 5 → s.hw.statAux e .read → statDs e = some d →
      k.readStream noCache (d.stream 0 32) [] = .ok (t, bs, false) → tapeBytesOk bs →
      exec (.statLoad c i) s = s.to (((t.tapeSoftWrite (statSlot e) bs).touch e).finish c e stOK 0 {}))

/-- R173 to R177, R385, R387: a SIGNAL sets or adds to its token, a WAIT whose condition holds ends, a WAIT whose time is over ends with the token's
value, a FENCE ends, each once the instructions it waits for are done, a FENCE and a MARK also once the writes of their SCOPE have gone; a TOKEN
register is written; a MARK latches, counts the epoch, starts the absence scan and ends, or is handed to Basting; the scan reads every slot; RELAX_CLR
clears what asks for it. When writes have gone is as log entry 157 says. -/
def Obligations.TokenAndMarkCommandsComplete : Prop :=
  (∀ (s : State) (c i : Nat) (x : Ctx) (e : Ent), s.hw.holds c i x e → s.hw.syncReady x e →
    let t := bitsOf e.raw 121 110
    (insOpc e.raw = 0xA → classesDone x e (bitsOf e.raw 109 105) → bitOf e.raw 122 →
      exec (.signal c i) s = s.to ((s.hw.set (F.TOKEN t) (bitsOf e.raw 31 0)).finish c e stOK 0 {})) ∧
    (insOpc e.raw = 0xA → classesDone x e (bitsOf e.raw 109 105) → bitOf e.raw 122 = false →
      exec (.signal c i) s = s.to ((s.hw.set (F.TOKEN t) ((s.hw.get (F.TOKEN t) + bitsOf e.raw 31 0) % 2 ^ 32)).finish c e stOK 0 {})) ∧
    (insOpc e.raw = 0xB → waitHolds e (s.hw.get (F.TOKEN t)) → exec (.wait c i) s = s.to (s.hw.finish c e stOK 0 {})) ∧
    (insOpc e.raw = 0xB → bitsOf e.raw 109 94 ≠ 0 → waitHolds e (s.hw.get (F.TOKEN t)) = false →
      exec (.waitTimeout c i) s = s.to (s.hw.finish c e stWaitTimeout (s.hw.get (F.TOKEN t)) {})) ∧
    (insOpc e.raw = 0xC → classesDone x e (bitsOf e.raw 109 105) → s.hw.scopeDone (bitsOf e.raw 121 120) →
      exec (.fence c i) s = s.to ((if bitOf e.raw 122 then { s.hw with shut := { s.hw.shut with descCache := [] } } else s.hw).finish c e stOK 0 {})) ∧
    (insOpc e.raw = 0xD → e.marked = false → classesDone x e 0x1F → s.hw.scopeDone 3 →
      let a := s.hw.markLatchOf x
      let a := (a.set F.SHUTTLE_EPOCH ((a.get F.SHUTTLE_EPOCH + 1) % 2 ^ 64)).tailorMark
      let a := if a.flag F.ABSENT_SCAN_EN then { a with train := { a.train with scan := true } } else a
      (bitOf e.raw 122 = false → a.flag F.SNAP_PENDING = false → exec (.mark c i) s = s.to (a.finish c e stOK 0 {})) ∧
      (bitOf e.raw 122 ∨ a.flag F.SNAP_PENDING →
        let b := a.set F.SNAP_PENDING 0
        let m := b.updEnt c i (fun e => { e with marked := true })
        let hand := b.hand c i (if a.flag F.SNAP_PENDING then a.get (F.THRESH_VALUE 9) else bitsOf e.raw 121 106)
        exec (.mark c i) s = s.to { m with bast := { b.bast with hands := b.bast.hands ++ [hand] } }))) ∧
  (∀ (s : State) (t v : Nat), s.hw.domOn domYOKE → t < 4096 → exec (.tokenWrite t v) s = s.to (s.hw.set (F.TOKEN t) (v % 2 ^ 32))) ∧
  (∀ s : State, s.hw.train.scan →
    exec .absentScan s = s.to ((List.range 65536).foldl Hw.absent { s.hw with train := { s.hw.train with scan := false } })) ∧
  (∀ s : State, s.hw.domOn domYOKE → exec .relaxClr s = s.to s.hw.relaxClr)

/-- R180, R184, R193, R294 to R297: CTX_CTL is written and its verb acts; a context whose work can stop is stopped, and its block, its tags and their
images are written to its save area by a DMA engine; it releases what it held; it is read back with its tags placed on arrays, and runs again with the
answers that came meanwhile. The engine of a save or restore is open (log entry 51). -/
def Obligations.ContextCommandsComplete : Prop :=
  (∀ (s : State) (c : Nat), s.hw.domOn domYOKE → c < 512 →
    exec (.ctxPreempt c) s = s.to ((s.hw.set (F.CTX_CTL c) 1).preempt c) ∧
    exec (.ctxResume c) s = s.to ((s.hw.set (F.CTX_CTL c) 2).resume c) ∧
    exec (.ctxCancel c) s = s.to ((s.hw.set (F.CTX_CTL c) 3).cancelCtx c)) ∧
  (∀ (s : State) (c : Nat) (x y : Ctx) (t : Hw), s.hw.ctx? c = some x → x.st = .preempting → x.io = 0 → x.window.all (s.hw.stops x) →
    (∃ d < 32, (s.hw.activeJobs d).length < 4) → s.hw.stopAll c x = some t → t.ctx? c = some y →
    let base := t.saveSlot c
    let a := t.poke base (t.ctxBlock c)
    let a := a.poke (base + 0x100) (((List.range 64).map (tagEntry y)).flatten)
    let a := a.poke (base + 0x500) a.headerRest
    let a := y.chains.foldl (fun h k => h.poke (base + 0x10000 + k.tag * 0x10000) k.image) a
    let n := 0x10000 + y.chains.foldl (fun n k => n + k.image.length) 0
    let b := a.updCtx c (fun x => { x with io := 1 })
    ∃ d < 32, (s.hw.activeJobs d).length < 4 ∧ ∃ src : Nat, exec (.contextSave c) s = s.to ((b.inc (F.DMA_BYTES_WR d) n).jobAdd d
      { slot := 0, kind := 5, ctx := c, index := y.pc, src := src, dst := base, cursor := 0, parked := false, doneChunks := [] })) ∧
  (∀ (s : State) (c : Nat) (x : Ctx), s.hw.ctx? c = some x → x.st = .preempting → x.io = 1 →
    let wins := s.hw.xl.wins.filter (fun w => w.ctx ≠ c)
    let jobs := List.map (fun (d : Nat × List Job) => (d.1, d.2.filter (fun j => j.ctx ≠ c || j.kind = 3 || j.kind = 4))) s.hw.xl.jobs
    exec (.contextSaveDone c) s = s.to ((({ s.hw with xl := { s.hw.xl with wins := wins, jobs := jobs } } : Hw).updCtx c (fun x =>
      { x with st := .preempted, io := 0, chains := x.chains.map (fun k => { k with array := noArray }), window := x.window.map (fun e => { e with copies := [] }) })).drained)) ∧
  (∀ (s : State) (c : Nat) (arrays : List Nat) (x : Ctx) (ks : List Chain), s.hw.ctx? c = some x → x.st = .preempted → x.io = 2 →
    s.hw.placeChains x.chains arrays = some ks → (∃ d < 32, (s.hw.activeJobs d).length < 4) →
    let o := s.hw.readBack c ks
    let n := 0x10000 + o.2.1.foldl (fun n k => n + k.wide.length * k.width) 0
    let io : Nat := 3
    let back := fun (x : Ctx) =>
      { x with io := io, chains := o.2.1, window := x.window.map (bindChains o.2.1), forced := if o.2.2 then some (stPoisoned, x.pc) else x.forced }
    ∃ d < 32, (s.hw.activeJobs d).length < 4 ∧ ∃ dst : Nat, exec (.contextRestore c arrays) s = s.to (((o.1.updCtx c back).inc (F.DMA_BYTES_RD d) n).jobAdd d
      { slot := 0, kind := 6, ctx := c, index := x.pc, src := s.hw.saveSlot c, dst := dst, cursor := 0, parked := false, doneChunks := [] })) ∧
  (∀ (s : State) (c : Nat) (x : Ctx), s.hw.ctx? c = some x → x.st = .preempted → x.io = 3 →
    (x.forced = none → exec (.contextRestoreDone c) s = s.to (x.recorded.foldl (fun h r => h.fltClose r.1 r.2)
      ((s.hw.updCtx c (fun x => { x with st := .running, io := 0, recorded := [] })).takeUp c))) ∧
    (x.forced ≠ none → exec (.contextRestoreDone c) s = s.to ((((((s.hw.post Ev.evCtxRestorePoison [u16 c]).updCtx c (fun x =>
      { x with io := 0, flags := { x.flags with tagsDropped := true } })).takeUp c).failStop c).tryEnd c))))

/-! ### The Tailor, the scratchpads, HBM -/

/-- R205, R213 to R216, R219 to R224, R228: a good tail is taken over; each request that the Tailor takes changes its object, or the space, as its
operation says and is answered; a move whose object nothing touches copies it, maps it at its new place and releases what waited; the scrubber reads
the next line. What a MIGRATE keeps of the request is log entry 152's choice. -/
def Obligations.TailorCommandsComplete : Prop :=
  (∀ (s : State) (v : Nat), s.hw.domOn domYOKE → s.hw.flag F.TAILOR_CFG_ENABLE → v % 65536 < s.hw.treqSize →
    exec (.treqTailDb v) s = s.to (((s.hw.set F.TREQ_TAIL_DB_REG v).set F.TREQ_TAIL (v % 65536)).set F.TREQ_ERR 0).settle) ∧
  (∀ (s : State) (ext : Bytes) (a : Hw) (r : TreqF), s.hw.treqTakes a ext r → r.op = 1 → r.ok → a.obj? r.obj = none →
    a.tailor.objs.any (fun x => x.2.va < r.va + r.size && r.va < x.2.va + x.2.size) = false →
    (List.range 4).any (fun t => r.tierMin ≤ t && t ≤ r.tierMax && a.tierPresent t) →
    let b := { a with tailor := { a.tailor with objs := a.tailor.objs.set r.obj (newObj r (a.tailor.gens.getD r.obj 0) (a.get F.SHUTTLE_EPOCH)) } }
    let p := b.place r.obj r.tierMin 0
    exec (.treqRegister ext) s = s.treqAnswers p.1.lifeEnds r.obj (if p.2 then trOK else trPENDING)) ∧
  (∀ (s : State) (ext : Bytes) (a : Hw) (r : TreqF) (o : Obj), s.hw.treqTakes a ext r → r.ok → a.obj? r.obj = some o →
    let b := a.updObj r.obj (fun o => { o with userTag := r.tag })
    let n := b.get F.SHUTTLE_EPOCH
    (r.op = 2 → exec (.treqRelease ext) s = s.treqAnswers (b.updObj r.obj (fun o => { o with st := .releasing, reason := 7, move := none })) r.obj trOK) ∧
    (r.op = 3 → r.pin = 0 → o.hasPlace →
      exec (.treqPin ext) s = s.treqAnswers ((b.updObj r.obj (fun o => { o with pinned := true, reason := 4, chgEpoch := n })).recWriteObj r.obj) r.obj trOK) ∧
    (∀ t : Nat, r.op = 3 → r.pin ≠ 0 → r.pin % 2 ^ o.alignLog2 = 0 → b.pinTier r.obj r.pin o.size = some t →
      let vs := b.pinVictims r.obj t r.pin o.size
      vs.all (fun x => b.objMovable x.2) →
      exec (.treqPin ext) s = s.treqAnswers ((vs.foldl (fun h v => ((h.place v.1 (t + 1) 2).1).inc F.EVICT_CNT) b).givePlace r.obj t r.pin 4 true) r.obj trOK) ∧
    (r.op = 4 → exec (.treqUnpin ext) s = s.treqAnswers ((b.updObj r.obj (fun o => { o with pinned := false, chgEpoch := n })).recWriteObj r.obj) r.obj trOK) ∧
    (r.op = 5 → o.pinned = false → r.tierMin ≤ o.tierMax → (List.range 4).any (fun t => r.tierMin ≤ t && t ≤ o.tierMax && b.tierPresent t) →
      let p := (b.updObj r.obj (fun o => { o with tierMin := r.tierMin, stackHint := r.hint })).place r.obj r.tierMin 5
      exec (.treqMigrate ext) s = s.treqAnswers p.1 r.obj (if p.2 then trOK else trPENDING)) ∧
    (r.op = 6 → exec (.treqWorkPin ext) s =
      s.treqAnswers ((b.updObj r.obj (fun o => { o with work := some (r.engLo, r.engHi), chgEpoch := n })).recWriteObj r.obj) r.obj trOK) ∧
    (r.op = 7 → exec (.treqWorkUnpin ext) s =
      s.treqAnswers ((b.updObj r.obj (fun o => { o with work := none, chgEpoch := n })).recWriteObj r.obj) r.obj trOK) ∧
    (r.op = 8 → exec (.treqQuery ext) s = s.treqAnswers (b.recWriteObj r.obj) r.obj trOK)) ∧
  (∀ (s : State) (ext : Bytes) (a : Hw) (r : TreqF), s.hw.treqTakes a ext r → r.op = 0 ∨ 8 < r.op → exec (.treqReservedOp ext) s = s.treqAnswers a r.obj trBAD) ∧
  (∀ (s : State) (n d t l reason : Nat) (pin : Bool) (ext : Bytes) (o : Obj) (m : Hw), s.hw.moveSeat n = m → m.obj? n = some o → m.moveEngine n = some d →
    o.st = .migrating → o.move = some (t, l, reason, pin) → m.xlOn → m.objIssued o = false → m.objCaptured o = false → m.moveBlocked n o = false →
    (o.tier ≤ 1 → m.localWaits (d / 8) .read o.loc o.size = false) → (t ≤ 1 → m.localWaits (d / 8) .write l o.size = false) →
    let a := (m.copyMove o.tier o.loc t l o.size ext).inc F.MIGRATE_BYTES o.size
    let a := (a.inc (F.DMA_BYTES_RD d) o.size).inc (F.DMA_BYTES_WR d) o.size
    let a := a.unmapRange (pageFuel o.size) o.va o.size
    let a := (a.mapObj { o with tier := t, loc := l }).invalRange o.va o.size
    exec (.objectMoveDone n ext) s = s.to (a.objChange n (fun o =>
      { o with tier := t, loc := l, st := .placed, move := none, reason := reason, pinned := pin, spilled := o.tierMin < t })).lifeEnds) ∧
  (∀ (s : State) (p : Nat), p < 4 → s.hw.domOn (domPANEL p) → s.hw.get F.SCRUB_PERIOD ≠ 0 →
    let n := s.hw.spad.scrub.getD p 0
    let a := s.hw.spadCheck (spadBase + p * panelSize + 64 * n) 64
    let b := { a with spad := { a.spad with scrub := a.spad.scrub.set p ((n + 1) % panelLines) } }
    exec (.spadScrubRead p) s = s.to (if n + 1 = panelLines then b.inc (F.SPAD_SCRUB_PASSES p) else b))

/-- R238 to R248: a read takes a tag and completes with its line; a write goes to its buffer or the DRAM; the oldest entry of a buffer is flushed; the scrubber
reads the next line that no window holds. -/
def Obligations.HbmAccessCommandsComplete : Prop :=
  (∀ (s : State) (addr mask : Nat) (bytes : Bytes), s.hw.flag F.MEM_CFG_ENABLE → s.hw.stackOn (stackOf addr) → s.hw.hbmMapped (addr / 256 * 256) 256 →
    s.hw.stkTags (stackOf addr) < 8192 → s.hw.chTags (stackOf addr) (s.hw.chanOf addr) < 1024 →
    let l := addr / 256
    (let r : HbmReq := ⟨stackOf addr, s.hw.chanOf addr, l, false, s.hw.peek (l * 256) 256, s.hw.poisoned (l * 256) 256⟩
     exec (.hbmRequestAccept addr none bytes) s = s.to { s.hw with hbm := { s.hw.hbm with reqs := s.hw.hbm.reqs ++ [r] } }) ∧
    (bytes.length = 256 → masked mask bytes ≠ [] →
      (masked mask bytes).length = 256 ∨ s.hw.darnWaits (stackOf addr) (s.hw.chanOf addr) l = false →
      exec (.hbmRequestAccept addr (some mask) bytes) s = s.to (s.hw.pokeMask l mask bytes))) ∧
  (∀ (s : State) (line : Nat) (r : HbmReq), s.hw.hbm.reqs.find? (fun r => !r.write && r.line = line) = some r → s.hw.stackOn r.stack →
    s.hw.chHeld r.stack (s.hw.chanOf (line * 256)) = false →
    let a := { s.hw with hbm := { s.hw.hbm with reqs := s.hw.hbm.reqs.erase r } }
    let o := a.readLocal (line * 256) 256
    let same := s.hw.peek (line * 256) 256 = r.data ∧ s.hw.poisoned (line * 256) 256 = r.bad
    (same → exec (.hbmReadComplete line) s = s.to (o.1.send (.hbmLine line o.2.1 o.2.2)).autoMapouts) ∧
    (¬ same → exec (.hbmReadComplete line) s = s.to (a.send (.hbmLine line r.data r.bad)))) ∧
  (∀ (s : State) (line : Nat) (e : Darn), s.hw.darnOldest (stackOf (line * 256)) = some e → e.line = line → s.hw.stackOn (stackOf (line * 256)) →
    exec (.darningAgeFlush line) s = s.to (s.hw.darnFlushOne e)) ∧
  (∀ (s : State) (k : Nat), s.hw.stackOn k → s.hw.get F.SCRUB_LOG2 ≠ 15 →
    s.hw.hbm.scrubSkip.all (fun l => stackOf (l * 256) ≠ k || s.hw.chHeld k (s.hw.chanOf (l * 256))) →
    let n := s.hw.hbm.scrub.getD k 0
    let l := k * (stackSize / 256) + n
    n < s.hw.get (F.STK_SIZE k) / 256 → s.hw.chHeld k (s.hw.chanOf (l * 256)) = false →
    let a := s.hw.hbmCheck (l * 256) 256
    exec (.hbmScrubRead k) s = s.to (({ a with hbm := { a.hbm with scrub := a.hbm.scrub.set k (n + 1) } } : Hw).scrubEnd k).autoMapouts)

/-- R250 to R260: a window opens for a channel's retrain or its margining burst and closes with the outcome; a failed retrain is asked for once more; a map-out
waits for its range to be clear, copies it slice by slice and takes effect, recorded in the Config bundle. -/
def Obligations.HbmTrainingCommandsComplete : Prop :=
  (∀ (s : State) (k ch op : Nat) (again : Bool), s.hw.hbm.trig.find? (k * 32 + ch) = some (op, again) → s.hw.stackOn k → ch < 32 →
    s.hw.hbm.wins.find? k = none → (s.hw.trigIn k).all (fun c => ch ≤ c) →
    let a := { s.hw with hbm := { s.hw.hbm with trig := s.hw.hbm.trig.del (k * 32 + ch) } }
    exec (.hbmRetrainStart k ch) s = s.to ((a.winOpen k ch 1 ⟨ch, false, op, again⟩).inc (F.CH_RETRAIN_CNT k ch))) ∧
  (∀ (s : State) (k temp : Nat) (w : HbmWin), s.hw.hbm.wins.find? k = some w → w.margin = false →
    let a := (s.hw.winClose k w.ch (if s.hw.scanning k w.ch then 2 else 0)).postOp Ev.evHbmRetrain [u8 k, u8 w.ch, u8 1] w.op
    exec (.hbmRetrainDone k true temp) s = s.to ((a.set (F.RETRAIN_FAILS k w.ch) 0).set (F.CH_TRAIN_TEMP k w.ch) (temp % 256)) ∧
    let b := (s.hw.winClose k w.ch (if s.hw.scanning k w.ch then 2 else 0)).postOp Ev.evHbmRetrain [u8 k, u8 w.ch, u8 2] w.op
    let b := b.inc (F.RETRAIN_FAILS k w.ch)
    let b := if w.again then b else { b with hbm := { b.hbm with retry := insNat b.hbm.retry (k * 32 + w.ch) } }
    exec (.hbmRetrainDone k false temp) s = s.to (if 2 ≤ b.get (F.RETRAIN_FAILS k w.ch) && !b.flag (F.CH_RECOMMEND k w.ch) then
      ((b.recommend k w.ch 1).post Ev.evHbmRetrainFail [u8 k, u8 w.ch]).autoMapouts else b)) ∧
  (∀ (s : State) (k ch : Nat), s.hw.stackOn k → s.hw.hbm.retry.contains (k * 32 + ch) → s.hw.hbm.trig.find? (k * 32 + ch) = none →
    let retry := s.hw.hbm.retry.filter (· ≠ k * 32 + ch)
    let trig := s.hw.hbm.trig.set (k * 32 + ch) (0, true)
    exec (.hbmRetrainRetry k ch) s = s.to { s.hw with hbm := { s.hw.hbm with retry := retry, trig := trig } }) ∧
  (∀ (s : State) (k : Nat) (c : Scan), s.hw.hbm.scans.find? (·.stack == k) = some c → s.hw.stackOn k →
    s.hw.get (F.STK_STATE k) = (if c.param = 3 then 4 else 2) → s.hw.hbm.wins.find? k = none → s.hw.trigIn k = [] →
    exec (.marginScanBurst k) s =
      s.to ((if c.param = 3 && c.done.isEmpty then s.hw.darnFlushAll k else s.hw).winOpen k c.ch 2 ⟨c.ch, true, 0, false⟩)) ∧
  (∀ (s : State) (k : Nat) (counts : List (List Nat)) (w : HbmWin) (c : Scan), s.hw.hbm.wins.find? k = some w → s.hw.hbm.scans.find? (·.stack == k) = some c →
    w.margin → 1 ≤ counts.length → counts.length ≤ 23 → counts.all (fun c => c.length = 64) →
    let c' : Scan := { c with todo := c.todo.drop counts.length, done := c.done ++ (c.todo.take counts.length).zip counts }
    (counts.length < c.todo.length →
      let a := s.hw.winClose k c.ch 2
      exec (.marginScanPause k counts) s = s.to { a with hbm := { a.hbm with scans := a.hbm.scans.map (fun x => if x = c then c' else x) } }) ∧
    (counts.length = c.todo.length →
      let a := s.hw.winClose k c.ch 0
      let res := c' :: a.hbm.scanRes.filter (fun x => !(x.stack = c.stack && x.ch = c.ch))
      let b := { a with hbm := { a.hbm with scans := a.hbm.scans.erase c, scanRes := res } }
      exec (.marginScanPause k counts) s =
        s.to ((if c.param = 3 then b.loseStack k else b).postOp Ev.evMemMarginDone [u8 k, u8 c.ch, u8 c.param, u8 c'.done.length] c.opId))) ∧
  (∀ (s : State) (k : Nat), s.hw.stackOn k → s.hw.get (F.STK_STATE k) = 3 → (s.hw.hbm.mapout.find? k).isSome → s.hw.hbm.relay.contains k = false →
    s.hw.hbm.wins.find? k = none → s.hw.topClear k →
    let a := s.hw.darnFlushAll k
    exec (.mapoutEvacuated k) s = s.to (({ a with hbm := { a.hbm with relay := insNat a.hbm.relay k } } : Hw).set (F.RELAYOUT_W k) 524288)) ∧
  (∀ (s : State) (k : Nat), s.hw.hbm.relay.contains k → 0 < s.hw.get (F.RELAYOUT_W k) → s.hw.hbm.wins.find? k = none → s.hw.trigIn k = [] →
    let w := s.hw.get (F.RELAYOUT_W k)
    let n := s.hw.get (F.N_ACTIVE k) - 1
    let lo := k * stackSize + n * (w - 1) * 4096
    let f := s.hw.flushRange lo (n * 4096)
    let a := f.hbmCheck lo (n * 4096)
    let new := a.hbm.poison.filter (fun l => !f.hbm.poison.contains l)
    let out := ((List.range n).map (fun g => lo + g * 4096)).filter (fun g => a.chanOf g = a.get (F.MAPOUT_CH k))
    let end1 := fun (h : Hw) =>
      ({ h with hbm := { h.hbm with flips := h.hbm.flips.filter (fun e => e.1 < lo || lo + n * 4096 ≤ e.1) } } : Hw).set (F.RELAYOUT_W k) (w - 1)
    exec (.relayoutSlice k true) s = s.to (end1 ((out.filter (fun g => new.any (fun l => l / 16 = g / 4096))).foldl Hw.granuleUe a)) ∧
    exec (.relayoutSlice k false) s = s.to (end1 (out.foldl Hw.granuleUe a))) ∧
  (∀ (s : State) (k c op : Nat), s.hw.hbm.relay.contains k → s.hw.hbm.mapout.find? k = some (c, op) → s.hw.get (F.RELAYOUT_W k) = 0 →
    s.hw.hbm.wins.find? k = none →
    let b := (s.hw.mapoutClear k).chanForget k c
    let mask := b.get (F.STK_MAPOUT k) ||| 2 ^ c
    let t := ((((b.setMapout k mask).set (F.CH_STATE k c) 3).set (F.STK_STATE k) 2).set (F.MAPOUT_CH k) 0).cfgPut (0x10 + k) (natLE 4 mask)
    exec (.relayoutDone k) s = s.to (t.postOp Ev.evHbmMapoutDone [u8 k, u8 c, u8 (t.get (F.N_ACTIVE k))] op))

/-! ### Translation and faults -/

/-- R269 to R275, R522: a walk that ends caches its leaf and asks the host's translation agent where the ATC lacks it; a translation granted is kept and
ends the request, one that is not leads to a page request; the agent's answers are taken; what it invalidates is forgotten; a range is invalidated. -/
def Obligations.TranslationCommandsComplete : Prop :=
  (∀ (s : State) (u : FltUnit) (va : Nat) (nra : Bool) (acc : Acc) (t : Target), s.hw.unitAccess u va acc → s.hw.unitXlate u va acc = .ok t nra → u.isAhead = false →
    let a := (s.hw.countWalk u).noteLeaf (s.hw.unitCache u) va
    ((∀ win off, t ≠ .host win off) → exec (.pageWalkDone u va acc) s = s.to a) ∧
    (∀ win off, t = .host win off → a.xl.atsOn → a.atcHas acc (a.hostAddr win off) = false → a.xl.ats.any (fun r => r.unit == u && r.va = va) = false →
      exec (.pageWalkDone u va acc) s = s.to (a.atsAsk ⟨a.hostAddr win off, u, va, acc, 0⟩))) ∧
  (∀ (s : State) (addr size trans : Nat) (rd wr : Bool) (r : AtsReq), s.hw.xl.ats.find? (fun r => r.addr = addr && (r.stage = 0 || r.stage = 2)) = some r →
    let a := if size = 0 || !(rd || wr) then s.hw else s.hw.atcPut ⟨addr / size * size, size, trans, rd, wr⟩
    let grants := size ≠ 0 ∧ (if r.acc = .write then wr else rd)
    (grants → exec (.atsCompletion addr size ⟨trans, rd, wr⟩) s = s.to (({ a with xl := { a.xl with ats := a.xl.ats.erase r } } : Hw).atsGo r.unit)) ∧
    (¬ grants → r.stage = 2 → exec (.atsCompletion addr size ⟨trans, rd, wr⟩) s = s.to (a.atsFault r .hostPerm 0)) ∧
    (¬ grants → r.stage ≠ 2 → a.xl.priOn →
      let ats := a.xl.ats.map (fun x => if x = r then { r with stage := 3 } else x)
      exec (.atsCompletion addr size ⟨trans, rd, wr⟩) s = s.to ({ a with xl := { a.xl with ats := ats } } : Hw).priSend)) ∧
  (∀ (s : State) (addr : Nat) (r : AtsReq), s.hw.xl.ats.find? (fun r => r.addr / 4096 = addr / 4096 && r.stage = 1) = some r →
    (let ats := s.hw.xl.ats.erase r
     exec (.priResponse addr 0) s = s.to ((({ s.hw with xl := { s.hw.xl with ats := ats } } : Hw).atsAsk { r with stage := 2 }).priSend)) ∧
    exec (.priResponse addr 1) s = s.to (((s.hw.inc F.PRI_FAILS).atsFault r .hostNopage 1).priSend)) ∧
  (∀ s : State, s.hw.domOn domYOKE → s.hw.solo = false → exec .priReenable s = s.to { s.hw with xl := { s.hw.xl with priOn := true } }) ∧
  (∀ (s : State) (addr size : Nat), s.hw.domOn domYOKE → s.hw.xl.atsOn →
    let atc := s.hw.xl.atc.filter (fun t => t.page + t.size ≤ addr || addr + size ≤ t.page)
    exec (.atsInvalidateRequest addr size) s = s.to ((({ s.hw with xl := { s.hw.xl with atc := atc } } : Hw).inc F.ATS_INVALS).send (.ats 2 addr))) ∧
  (∀ (s : State) (path : Path) (w : Nat), s.hw.domOn domYOKE → s.hw.pathHeld path = false → s.hw.invalRuns = false →
    exec (.xlateInval path w) s = s.to (s.hw.setWord 0x600038 (BitVec.ofNat 64 w &&& 0x800FFFFFFFFF0000#64)).xlateInval) ∧
  (∀ (s : State) (x : Inval) (rest : List Inval), s.hw.xl.inval = x :: rest → s.hw.invalWaits x.range = false →
    let a := ({ s.hw with xl := { s.hw.xl with inval := rest } } : Hw).invalRange x.range.1 (x.range.2 - x.range.1)
    let b := a.set F.INVAL_BUSY (!rest.isEmpty).toNat
    (x.chan = none → exec .invalidationDone s = s.to b.heldGo.served) ∧
    (∀ c, x.chan = some c → b.mbBusy c → exec .invalidationDone s = s.to (b.mbFinish c ⟨rcOK, [], 0⟩).heldGo.served))

/-- R37, R289 to R293, R355, R522: an open fault is answered with RETRY or CANCEL and the outcome recorded; the ring's head gives room to records that
wait; a fault open too long is cancelled with EV_FAULT_TIMEOUT; a read that a peer or the host does not answer faults its unit; a die-to-die link
retrains, which ends well or with EV_D2D_FAIL. How a command says why an access failed, and the retrain event, are as log entries 122 and 153 say. -/
def Obligations.FaultCommandsComplete : Prop :=
  (∀ (s : State) (id : Nat), s.hw.domOn domYOKE → (s.hw.xl.faults.find? (id % 65536)).isSome →
    let a (action : Nat) : Hw := (s.hw.set F.FLT_RESP_ACTION action).set F.FAULT_ID id
    exec (.fltRespRetry id) s = s.to (((a 1).fltAnswer (id % 65536) true).respResult (id % 65536) 1) ∧
    exec (.fltRespCancel id) s = s.to (((a 2).fltAnswer (id % 65536) false).respResult (id % 65536) 1)) ∧
  (∀ (s : State) (v : Nat), s.hw.domOn domYOKE → v % 65536 < s.hw.fltRingSize →
    exec (.fltHeadDb v) s = s.to (((s.hw.set F.FLT_HEAD_DB_REG v).set F.FLT_HEAD (v % 65536)).fltDrain (s.hw.xl.heldFlt.length + 1))) ∧
  (∀ (s : State) (id : Nat) (f : Flt), s.hw.xl.faults.find? id = some f → s.hw.get F.FLT_TMO ≠ 0 → s.hw.fltPreempted f = none →
    exec (.faultTimeout id) s = s.to ((s.hw.fltClose id false).post Ev.evFaultTimeout [u16 id, u16 (f.ctx.getD 0)])) ∧
  (∀ (s : State) (va : Nat) (no : Bool) (r : Restore), s.hw.bast.restore = some r → r.source ≠ 2 →
    exec (.peerReadTimeout .bast ⟨va, no⟩) s = s.to (s.hw.restoreFail 0x17 0 0)) ∧
  (∀ (s : State) (u : FltUnit) (va win off : Nat) (nra no : Bool), u ≠ .bast → s.hw.unitAccess u va .read → s.hw.unitXlate u va .read = .ok (.peer win off) nra →
    exec (.peerReadTimeout u ⟨va, no⟩) s =
      s.to (s.hw.unitFault u .read (if no then .peerReject else .peerUnreachable) va 0 0 (s.hw.get (F.PW_CHIP win)))) ∧
  (∀ (s : State) (u : FltUnit) (va code win off : Nat) (nra : Bool), s.hw.unitAccess u va .read → s.hw.unitXlate u va .read = .ok (.host win off) nra →
    (code = 1 ∨ code = 4 → exec (.pcieCompletionTimeout u ⟨va, code⟩) s = s.to (s.hw.unitFault u .read .hostErr va 0 0 code)) ∧
    exec (.pcieCompletionTimeout u ⟨va, 0⟩) s = s.to ((s.hw.inc F.PCIE_CPL_TMO).unitFault u .read .hostErr va 0 0 (s.hw.free 62))) ∧
  (∀ (s : State) (link : Nat), link < 8 → s.hw.domOn domYOKE → s.hw.d2d.failed = false → s.hw.d2d.training.contains link = false →
    let training := insNat s.hw.d2d.training link
    let replays := s.hw.d2d.replays.set link (s.hw.d2d.replays.getD link 0 + 16)
    let retrains := s.hw.d2d.retrains.set link (s.hw.d2d.retrains.getD link 0 + 1)
    let a := { s.hw with d2d := { s.hw.d2d with training := training, replays := replays, retrains := retrains } }
    ∃ args : List Arg, exec (.d2dRetrain link) s = s.to (a.post Ev.evD2dRetrain args)) ∧
  (∀ (s : State) (link : Nat), s.hw.d2d.training.contains link →
    let training := s.hw.d2d.training.filter (· ≠ link)
    let a := { s.hw with d2d := { s.hw.d2d with training := training } }
    exec (.d2dRetrainDone link true) s = s.to a.settle.bar2Go ∧
    let b := ({ a with d2d := { a.d2d with failed := true } } : Hw).post Ev.evD2dFail [u8 link]
    exec (.d2dRetrainDone link false) s = s.to (b.shut.ctxs.foldl (fun h c => h.ctxFatal c.1) b).drained)

/-! ### Links, lanes and frames -/

/-- R317 to R319, R331, R334: LINK_EN starts a link or takes it off; lasers lock, light comes, lanes acquire, align and verify; lock lost on every lane takes the
link DOWN, a retrain that takes too long or a failed Eyelet makes it FAILED; a command restarts or retrains it. -/
def Obligations.LinkCommandsComplete : Prop :=
  (∀ (s : State) (l : Nat), l < 64 → s.hw.domOn domYOKE →
    (s.hw.flag (F.LINK_EN l) = false → exec (.linkEnWrite l true) s = s.to ((s.hw.set (F.LINK_EN l) 1).linkStart l)) ∧
    (s.hw.flag (F.LINK_EN l) → exec (.linkEnWrite l false) s = s.to ((s.hw.set (F.LINK_EN l) 0).linkOff l))) ∧
  (∀ (s : State) (l : Nat), l < 64 →
    (s.hw.lkState l = lsTUNING →
      exec (.lasersLocked l) s = s.to ((((s.hw.linkLasers l 1).updLk l (fun k => { k with noLight := false })).setLk l lsWAITLIGHT).sendCtrl l 0 0 0 0)) ∧
    (s.hw.lkState l = lsWAITLIGHT → exec (.lightDetected l) s = s.to (s.hw.setLk l lsACQUIRE)) ∧
    (s.hw.lkState l = lsWAITLIGHT → (s.hw.lk l).noLight = false →
      exec (.noLightTimeout l) s = s.to ((s.hw.updLk l (fun k => { k with noLight := true })).post Ev.evLinkNoLight [u8 l])) ∧
    (s.hw.lkState l = lsACQUIRE → exec (.acquireDone l) s = s.to (s.hw.setLk l lsALIGN)) ∧
    (s.hw.lkState l = lsRETRAIN → (s.hw.lk l).rtStep = 0 → exec (.acquireDone l) s = s.to (s.hw.updLk l (fun k => { k with rtStep := 1 }))) ∧
    (s.hw.lkState l = lsALIGN → exec (.alignDone l) s = s.to (s.hw.setLk l lsVERIFY)) ∧
    (s.hw.lkState l = lsRETRAIN → (s.hw.lk l).rtStep = 1 → exec (.alignDone l) s = s.to (s.hw.updLk l (fun k => { k with rtStep := 2 }))) ∧
    (∀ lanes rx tx : Nat, s.hw.lkState l = lsVERIFY →
      let a := (s.hw.set (F.RX_MARGIN l) rx).set (F.TX_MARGIN l) tx
      let b := (List.range 4).foldl (fun h w =>
        if h.lanePasses l w lanes then h.laneSvc l w true else (h.laneSvc l w false).post Ev.evLaneFail [u8 l, u8 w]) a
      exec (.verifyDone l lanes rx tx) s = s.to (if b.get (F.LNK_WIDTH l) = 0 then b.setLk l lsACQUIRE else b.identStart l)) ∧
    (s.hw.lkUp l → exec (.markerLockLoss l) s = s.to (s.hw.linkDown l)) ∧
    (s.hw.lkState l = lsRETRAIN →
      exec (.retrainTimeout l) s = s.to (((s.hw.pathSet l (s.hw.get (F.LNK_CUR_PORT l)) false).post Ev.evLinkFail [u8 l]).linkFail l)) ∧
    (let a := s.hw.linkRt l 2 0 0
     (a.lkState l = lsFAILED → exec (.linkCmdRetrain l) s = s.to (a.linkStart l)) ∧
     (a.lkState l = lsUP ∨ a.lkState l = lsHELD ∨ a.lkState l = lsRETHREAD → exec (.linkCmdRetrain l) s = s.to (a.linkDown l)))) ∧
  (∀ (s : State) (e : Nat), e < 8 → s.hw.get (F.EYE_STATE e) = 1 →
    let a := ((s.hw.set (F.EYE_STATE e) 2).updEye e (fun y => { y with failed := true })).post Ev.evEyeletFail [u8 e]
    exec (.eyeletFail e) s = s.to ((List.range 8).foldl (fun h k => h.linkFail (8 * e + k)) a))

/-- R328, R339: a re-thread to a free port is asked for, starts once nothing is unacknowledged, moves the matrix, and ends with a new block and a new sequence, or
with the link DOWN where no marker comes. -/
def Obligations.RethreadCommandsComplete : Prop :=
  ∀ (s : State) (l port : Nat), l < 64 →
    (let a := s.hw.linkRt l 1 port 0
     a.solo = false → port < 12 → a.get (F.LNK_CUR_PORT l) ≠ port → a.portTaken l port = false → a.lkUp l → (a.lk l).rethread = none →
     exec (.linkCmdRethread l port) s = s.to (a.rethreadReq l port)) ∧
    ((s.hw.lk l).rethread = some (port, 0) → s.hw.lkUp l → (s.hw.lk l).retry = [] →
      exec (.rethreadStart l) s = s.to (((s.hw.updLk l (fun k => { k with rethread := some (port, 1) })).inc (F.RETHREADS l)).setLk l lsRETHREAD)) ∧
    ((s.hw.lk l).rethread = some (port, 1) →
      let a := (s.hw.updLk l (fun k => { k with rethread := some (port, 2), lastPort := some port })).set (F.LNK_CUR_PORT l) port
      exec (.steeringMoveDone l) s = s.to (if (a.get (F.PATH_TRAINED (l / 8))).testBit port then a else a.inc (F.RETHREAD_SLOW (l / 8)))) ∧
    ((s.hw.lk l).rethread = some (port, 2) → (s.hw.lk l).toIdent → exec (.reacquireDone l) s = s.to (s.hw.identStart l)) ∧
    ((s.hw.lk l).rethread = some (port, 2) → (s.hw.lk l).toIdent = false →
      let a := (s.hw.updLk l (fun k => { k with rethread := some (port, 3), nextTx := 0, rxNext := 0, discarding := false, credits := k.vlFree, owed := [],
                                                blockCnt := (k.blockCnt + 1) % 2 ^ 35 })).setLk l lsUP
      exec (.reacquireDone l) s = s.to (a.pump (a.lk l).queue.length l)) ∧
    ((s.hw.lk l).rethread = some (port, 2) → exec (.rethreadMarkerTimeout l) s = s.to (s.hw.linkDown l))

/-- R310 to R315, R326, R345, R352 to R356, R359: a frame in sequence is taken on a link that deals, then what it carries back; a WRITE of a peer that may is
stored, a READ_REQ of one that may is answered, other chips' frames go on, a COLL frame reaches its collective, a KEEPALIVE is counted, a CTRL frame gives the far
end's data and version, an IDLE its acknowledgements; a frame that did not arrive whole is asked for again, as is one whose acknowledgement stays away; a lane
marker renews the credits. -/
def Obligations.FrameCommandsComplete : Prop :=
  (∀ (s : State) (l : Nat) (b : Bytes) (f : Machine.Frm), l < 64 → parseFrm b = some f → s.hw.deals l → (s.hw.lk l).rethread = none → f.lseq = (s.hw.lk l).rxNext →
    f.vl ≤ 12 →
    let a := (s.hw.updLk l (fun k => { k with rxNext := (k.rxNext + 1) % 2 ^ 32, discarding := false })).inc (F.FRAMES_RX l)
    let o := a.owe l f.vl
    (f.ftype = ftWRITE → f.dst = o.myChip → f.len ≠ 0 → o.peerMay f.src f.addr f.len true → f.poison = false →
      exec (.frameWrite l b) s = s.to ((o.poke f.addr (f.data.take f.len)).carries l f)) ∧
    (f.ftype = ftWRITE → f.dst ≠ o.myChip → exec (.frameWrite l b) s = s.to ((o.route f (some l)).carries l f)) ∧
    (f.ftype = ftREADREQ → f.dst = o.myChip → o.peerMay f.src f.addr f.len false →
      let r := o.readLocal f.addr f.len
      exec (.frameReadReq l b) s =
        s.to ((r.1.route { mkFrm ftREADRESP 3 f.src r.1.myChip f.tag 0 0 r.2.1 with poison := r.2.2 } none).carries l f)) ∧
    (f.ftype = ftREADREQ → f.dst ≠ o.myChip → exec (.frameReadReq l b) s = s.to ((o.route f (some l)).carries l f)) ∧
    (f.ftype = ftREADRESP → exec (.frameReadResp l b) s = s.to ((if f.dst = o.myChip then o else o.route f (some l)).carries l f)) ∧
    (f.ftype = ftCOLL → exec (.frameColl l b) s = s.to ((a.takeColl l f).carries l f)) ∧
    (f.ftype = ftKEEPALIVE → exec (.frameKeepalive l b) s = s.to ((o.takeKeepalive l f).carries l f))) ∧
  (∀ (s : State) (l : Nat) (b : Bytes) (f : Machine.Frm), l < 64 → parseFrm b = some f → s.hw.deals l → f.ftype = ftIDLE → seqLe f.lseq (s.hw.lk l).rxNext →
    exec (.frameIdle l b) s = s.to (s.hw.carries l f)) ∧
  (∀ (s : State) (l : Nat) (b : Bytes) (f : Machine.Frm), l < 64 → parseFrm b = some f → f.ftype = ftCTRL → lsALIGN ≤ s.hw.lkState l → s.hw.lkState l ≠ lsFAILED →
    s.hw.lkState l ≠ lsDARK → bitsOf (fieldLE f.data 0x10 8) 63 60 ≠ 5 →
    let a := ((s.hw.inc (F.FRAMES_RX l)).markerInfo l f.data).restoreAdd l
    let ver := bitsOf (fieldLE f.data 0x40 8) 47 32
    (a.lkState l ≠ lsIDENTIFY → exec (.frameCtrl l b) s = s.to a) ∧
    (a.lkState l = lsIDENTIFY → a.identOn → (a.lk l).farVer = none →
      let v := (a.updLk l (fun k => { k with farVer := some (ver / 256, ver % 256) })).set (F.FAR_MAJOR l) (ver / 256)
      ver / 256 = v.get F.YELYEL_VER_major →
      exec (.frameCtrl l b) s = s.to ((v.set (F.RUN_MINOR l) (min (ver % 256) (v.get F.YELYEL_VER_minor))).sendLif l))) ∧
  (∀ (s : State) (l : Nat) (crc : Bool), l < 64 → lsACQUIRE ≤ s.hw.lkState l → s.hw.lkState l ≠ lsFAILED →
    let a := s.hw.inc (if crc then F.CRC_ERR l else F.FEC_UNCORR l)
    exec (.frameNotDelivered l crc) s = s.to (if a.deals l then a.gap l else a)) ∧
  (∀ (s : State) (l : Nat), l < 64 → s.hw.deals l → exec (.ackTimeoutReplay l) s = s.to (s.hw.replay l)) ∧
  (∀ (s : State) (l : Nat) (m : Bytes), l < 64 → lsALIGN ≤ s.hw.lkState l → s.hw.lkState l ≠ lsFAILED → m.length = 640 →
    fieldLE m 0x278 8 = crc64 (m.take 0x278) → fieldLE m 6 2 = 0x4D4B →
    let a := (s.hw.markerInfo l m).set (F.LNK_PEER_CHIP l) (fieldLE m 0x46 2)
    (a.lk l).rethread = none → a.deals l → bitsOf (fieldLE m 0x10 8) 63 60 ≠ 4 →
    let b := ((a.updLk l (fun k => { k with credits := k.vlFree })).acked l (fieldLE m 8 4)).restoreAdd l
    exec (.laneMarker l m) s = s.to (b.pump (b.lk l).queue.length l))

/-- R304 to R306, R320 to R326, R329, R334: an announced lane operation takes effect at its block; a failing lane is dropped at once; lanes are calibrated in
rotation; a laser that fades is replaced by a spare, with a retry, a restore, and an end where that fails; lane commands announce and start them. -/
def Obligations.LaneCommandsComplete : Prop :=
  (∀ (s : State) (l w : Nat), l < 64 → w < 4 → s.hw.deals l →
    (∀ (a : Hw) (o : LaneOp), s.hw.takeOp l w 1 = some (a, o) → 1 < a.get (F.LNK_WIDTH l) → (a.lane l w).svc →
      exec (.laneOpDrop l w) s = s.to (a.laneDrop l w o.why)) ∧
    (∀ (a : Hw) (o : LaneOp), s.hw.takeOp l w 2 = some (a, o) → (a.eye (l / 8)).sw = none →
      exec (.laneOpAdd l w) s = s.to ((a.laneSvc l w true).set (F.LSTATE (l / 8) (a.lane l w).laser) 1)) ∧
    (∀ (a : Hw) (o : LaneOp) (k : SwOp), s.hw.takeOp l w 2 = some (a, o) → (a.eye (l / 8)).sw = some k → o.why = 4 → k.link = l → k.lane = w →
      let b := (a.setLane l w ⟨true, k.slot, k.laser⟩).updEye (l / 8) (fun y => { y with sw := none })
      let b := ((b.set (F.SWITCH_BUSY (l / 8)) 0).set (F.LNK_SWITCHOVER l) 0).set (F.LSTATE (l / 8) k.laser) 1
      exec (.laneOpAdd l w) s = s.to (if k.laser = (a.lane l w).laser then b else b.spareUsed (l / 8))) ∧
    (∀ (a : Hw) (o : LaneOp), s.hw.takeOp l w 3 = some (a, o) →
      let dup := fun (k : SwOp) => if k.link = l && k.lane = w then { k with step := 2 } else k
      exec (.laneOpDupStart l w) s = s.to (a.updEye (l / 8) (fun y => { y with sw := y.sw.map dup }))) ∧
    exec (.laneOpDupSwitched l w) s = s.to (s.hw.dupSwitched l w) ∧
    exec (.laneOpDropNow l w) s = s.to (s.hw.dropNow l w) ∧
    exec (.suddenLaneFailure l w) s = s.to (((s.hw.sendCtrl l 5 w (((s.hw.lk l).farSlot).getD w w) (((s.hw.lk l).blockCnt + 1) % 2 ^ 35)).updLk l
      (fun k => { k with discarding := true })).sendIdle l true)) ∧
  (∀ (s : State) (l w : Nat), l < 64 → w < 4 →
    (let a := s.hw.linkRt l 3 0 w
     a.mayDrop l w → exec (.linkCmdDropLane l w) s = s.to (a.announce l 1 w (a.lane l w).slot 0)) ∧
    (let a := s.hw.linkRt l 4 0 w
     a.get (F.LSTATE (l / 8) (a.lane l w).laser) ≠ 5 → a.deals l → (a.lane l w).svc = false → a.calLane l ≠ some w → (a.eye (l / 8)).sw = none →
     exec (.linkCmdRestoreLane l w) s = s.to (a.swStart l w (a.lane l w).laser false 0)) ∧
    (∀ x : Nat,
     let a := s.hw.linkRt l 5 0 w
     a.spare (l / 8) = some x → a.deals l → (a.lane l w).svc → a.calLane l ≠ some w → (a.eye (l / 8)).sw = none → 30 ≤ a.farMargin l w →
     exec (.linkCmdSpareLane l w) s = s.to (a.swStart l w x true 0))) ∧
  (∀ (s : State) (e : Nat), e < 8 → s.hw.get (F.EYE_STATE e) = 1 →
    (s.hw.flag F.CAL_EN → s.hw.flag F.OPT_CFG_ENABLE → (s.hw.eye e).calOn = none → (s.hw.eye e).calAgain = [] →
      let x := s.hw.get (F.CAL_NEXT e)
      let l := 8 * e + x / 4
      let w := x % 4
      let a := s.hw.set (F.CAL_NEXT e) ((x + 1) % 32)
      a.lkUp l → 4 ≤ a.get (F.LNK_WIDTH l) → (a.eye e).sw.any (fun k => k.link = l && k.lane = w) = false → a.mayDrop l w →
      exec (.calSlotStart e) s = s.to ((a.updEye e (fun y => { y with calOn := some x })).announce l 1 w (a.lane l w).slot 3)) ∧
    (∀ x, x < 32 → exec (.calOverdue e x) s = s.to (s.hw.post Ev.evCalOverdue [u8 e, u8 x])) ∧
    (∀ x power fade : Nat, x < 36 →
      let a := (s.hw.set (F.LAS_POWER e x) power).set (F.LAS_FADE e x) fade
      let l := 8 * e + a.get (F.LAS_LINK e x)
      let w := a.get (F.LAS_LANE e x)
      (a.get (F.LSTATE e x) ≠ 1 → exec (.laserFadeSample e x power fade) s = s.to a) ∧
      (a.get (F.LSTATE e x) = 1 → a.lkUp l → (a.lane l w).laser = x → (a.lane l w).svc → (a.lk l).rethread = none →
        (a.eye e).sw.any (fun k => k.link = l && k.lane = w) = false → a.calLane l ≠ some w →
        exec (.laserFadeSample e x power fade) s = s.to (a.fadeAct e x l w (untwos 16 fade))))) ∧
  (∀ (s : State) (e x power : Nat), e < 8 → (s.hw.eye e).calOn = some x →
    let l := 8 * e + x / 4
    let w := x % 4
    s.hw.flag (F.CAL_ACTIVE l) →
    let a := (s.hw.set (F.LAS_POWER e (s.hw.lane l w).laser) power).inc (F.CAL_SLOTS e)
    let b := (a.updEye e (fun y => { y with calOn := none })).set (F.CAL_ACTIVE l) 0
    exec (.calSlotEnd e power) s = s.to (b.announce l 2 w (b.lane l w).slot 3)) ∧
  (∀ (s : State) (e : Nat) (k : SwOp), e < 8 → (s.hw.eye e).sw = some k →
    (k.switchover → k.step = 0 → s.hw.deals k.link →
      let a := (s.hw.set (F.LSTATE e k.laser) 4).updEye e (fun y => { y with sw := some { k with step := 1 } })
      exec (.spareLocked e) s = s.to (a.announce k.link 3 k.lane k.slot 0)) ∧
    (k.switchover → k.step = 2 → k.attempt = 0 →
      exec (.switchoverTimeout e) s = s.to ((s.hw.swEnd e).updEye e (fun y => { y with retry := some (k.link, k.lane) }))) ∧
    (k.switchover → k.step = 2 → k.attempt ≠ 0 →
      let n := 4 * (k.link % 8) + k.lane
      exec (.switchoverTimeout e) s =
        s.to (((s.hw.swEnd e).updEye e (fun y => { y with noSpare := insNat y.noSpare n })).post Ev.evSpareFail [u8 e, u8 k.laser])) ∧
    (k.switchover = false → k.step = 0 →
      exec (.restoreLaserLocked e) s = s.to ((s.hw.updEye e (fun y => { y with sw := some { k with step := 1 } })).sendCtrl k.link 0 k.lane k.slot 0)) ∧
    (k.switchover = false → k.step = 1 → s.hw.farMargin k.link k.lane < 30 →
      exec (.restoreMarginTimeout e) s = s.to ((s.hw.swEnd e).post Ev.evLaneFail [u8 k.link, u8 k.lane]))) ∧
  (∀ (s : State) (e l w x : Nat), e < 8 → (s.hw.eye e).retry = some (l, w) → (s.hw.eye e).sw = none → s.hw.spare e = some x →
    let a := s.hw.updEye e (fun y => { y with retry := none })
    a.deals l → (a.lane l w).svc → exec (.switchoverRetry e) s = s.to (a.swStart l w x true 1))

/-! ### Topology, collectives, snapshots -/

/-- R338, R339, R345 to R349, R356: TOPO_CFG ENABLE starts discovery; a link identity frame is read and the link accepted where it is the one expected; waits end
in a repeated exchange, a remap or a held link; the bundles are evaluated when time is up; keepalives go out and a neighbour that stays silent is dead. -/
def Obligations.DiscoveryCommandsComplete : Prop :=
  (∀ s : State, s.hw.flag F.TOPO_CFG_ENABLE = false → s.hw.domOn domYOKE → exec .topoEnable s = s.to s.hw.topoOn) ∧
  (∀ (s : State) (l : Nat) (b : Bytes), l < 64 → s.hw.identOn → (s.hw.lk l).farVer.isSome →
    s.hw.lkState l = lsIDENTIFY ∨ s.hw.lkState l = lsHELD ∧ s.hw.get (F.DISC_REASON l) ≠ 2 →
    let a := (((s.hw.inc (F.FRAMES_RX l) lifFrames).set (F.FAR_CHIP l) (fieldLE b 0x10 2)).set (F.FAR_LINK l) (fieldLE b 2 1)).set (F.FAR_PLINK l) (fieldLE b 3 1)
    let a := a.set (F.FAR_FPORT l) (fieldLE b 4 1)
    exec (.lifReceive l b) s = s.to (a.lifDecide l b) ∧
    (∀ (p : Plan) (r : Nat) (k : Rank), fieldLE b 0x14 1 % 16 = a.get F.GBL_PROFILE → a.lifBad b = false →
      let seen := (fieldLE b 0x10 2, b.drop 0x10)
      let v := { a with topo := { a.topo with verified := if a.topo.verified.contains seen then a.topo.verified else seen :: a.topo.verified } }
      slice b 0x20 32 = v.regBytes regPlanDigest 32 → a.topo.plan = some p → p.find (fieldLE b 0x10 2) = some r → p.ranks[r]? = some k → k.spare = false →
      a.expected (a.plinkOf l) = some (fieldLE b 0x10 2, fieldLE b 3 1) → fieldLE b 0x10 2 ≠ v.myChip ∨ l = 0 →
      exec (.lifReceive l b) s = s.to (v.linkUp l 1))) ∧
  (∀ (s : State) (l : Nat), l < 64 → s.hw.identOn → s.hw.lkState l = lsHELD → s.hw.get (F.DISC_REASON l) ∈ ([3, 4, 8] : List Nat) →
    exec (.lifRetry l) s = s.to (s.hw.sendLif l)) ∧
  (∀ (s : State) (l chip plink : Nat), l < 64 → s.hw.identOn → (s.hw.lk l).lifPend = some (chip, plink) →
    (∀ q, s.hw.remapTarget l chip plink = some q → exec (.remapWaitExpiry l) s = s.to (s.hw.doRemap l q)) ∧
    (s.hw.remapTarget l chip plink = none → exec (.portWaitExpiry l) s = s.to (s.hw.linkRefuse l false 9 plink chip))) ∧
  (∀ s : State, s.hw.get F.TOPO_STATE = 2 → s.hw.flag F.TOPO_CFG_ENABLE → s.hw.topo.discOver = false →
    exec .discTmoExpiry s = s.to ({ s.hw with topo := { s.hw.topo with discOver := true } } : Hw).topoEval.boardRoutes) ∧
  (∀ s : State, s.hw.flag F.KA_EN → s.hw.flag F.OPT_CFG_ENABLE →
    let count := fun (t : Tab Nat) (c : Nat) => if (s.hw.linksTo c).any (fun l => (s.hw.lk l).kaSeen) then Tab.set t c 0 else Tab.set t c (Tab.getD t c 0 + 1)
    let a := { s.hw with topo := { s.hw.topo with miss := s.hw.neighbours.foldl count s.hw.topo.miss } }
    let data := natLE 8 (a.get F.SHUTTLE_EPOCH) ++ natLE 2 (a.get F.TOPO_STATE) ++ natLE 2 a.boardMask
    exec .keepaliveSend s = s.to ((List.range 64).foldl (fun h l =>
      let h := if (h.lk l).kaSeen then h.updLk l (fun k => { k with kaSeen := false }) else h
      if h.lkUp l then h.sendFrame l (mkFrm ftKEEPALIVE 0 (h.get (F.FAR_CHIP l)) h.myChip 0 0 0 data) else h) a)) ∧
  (∀ (s : State) (chip i : Nat) (p : Plan), s.hw.topo.plan = some p → p.find chip = some i → s.hw.flag F.KA_EN → s.hw.get (PEER_PSTATE i) ≠ 2 →
    s.hw.neighbours.contains chip → max 4 (s.hw.get F.KA_MISSES) ≤ Tab.getD s.hw.topo.miss chip 0 →
    exec (.keepaliveMiss chip) s = s.to ((((s.hw.set (PEER_PSTATE i) 2).post Ev.evPeerDead [u16 chip]).chipLost chip).collPeerDead chip))

/-- R299, R357 to R364: a lead engine issues its best collective (collGo); a step that ends moves on, to the ports of the next step; a collective whose steps are
done writes its result, counts and completes; one that waits too long fails with its position. -/
def Obligations.CollectiveCommandsComplete : Prop :=
  (∀ (s : State) (eng : Nat) (k : Cand) (x : Axis),
    (s.hw.collTakes eng 0 k x → exec (.collReduceScatter eng) s = s.to (s.hw.collGo eng 0 k x)) ∧
    (s.hw.collTakes eng 1 k x → exec (.collAllGather eng) s = s.to (s.hw.collGo eng 1 k x)) ∧
    (s.hw.collTakes eng 2 k x → exec (.collAllReduce eng) s = s.to (s.hw.collGo eng 2 k x)) ∧
    (s.hw.collTakes eng 3 k x → exec (.collAllToAll eng) s = s.to (s.hw.collGo eng 3 k x)) ∧
    (s.hw.collTakes eng 4 k x → exec (.collBroadcast eng) s = s.to (s.hw.collGo eng 4 k x))) ∧
  (∀ (s : State) (c i : Nat) (k : Coll) (e : Ent) (x : Axis), s.hw.collWorks c i = some (k, e) → k.step < k.steps → e.flt = none →
    let next := fun (y : Coll) => if y.ctx = c && y.index = i then { y with step := y.step + 1 } else y
    let a := s.hw.updEnt c i (fun e => { e with part := k.step + 1, cursor := 0 })
    let a := { a with topo := { a.topo with colls := a.topo.colls.map next } }
    a.axis? k.paxis = some x →
    (x.algo ≠ 1 → exec (.collStepDone c i) s = s.to a) ∧
    (x.algo = 1 → exec (.collStepDone c i) s =
      s.to (a.rethreadAxis k.paxis (if k.step + 1 < k.steps then some (halvingStep x k.cfn (k.step + 1)) else none)))) ∧
  (∀ (s : State) (c i : Nat) (peers : List Bytes) (k : Coll) (e : Ent) (x : Ctx) (ax : Axis) (d src : Desc), s.hw.collWorks c i = some (k, e) →
    s.hw.ctx? c = some x → s.hw.axis? k.paxis = some ax → descIn e.descs (collD e.raw) = some d → descIn e.descs (collS e.raw) = some src →
    k.steps ≤ k.step → peers.length = ax.size → e.flt = none → s.hw.flag F.SPAD_CFG_ENABLE →
    k.steps = 0 ∨ ax.algo ≠ 1 ∨ (s.hw.axisLinks k.paxis).all (fun l => (s.hw.lk l).rethread.isNone) →
    let me := if ax.size = 1 then 0 else s.hw.myPos k.paxis
    let root := collRoot e.raw
    k.cfn ≠ 4 ∨ me = root ∨ ax.size = 1 → s.hw.canReachAll k.lead .read (src.stream 0 src.count) →
    ∀ (a t : Hw) (own : Bytes), s.hw.readStream k.lead (src.stream 0 src.count) (peers.getD me []) = .ok (a, own, false) →
    let data := peers.set me own
    (List.range ax.size).all (fun p => (k.cfn = 4 && p ≠ root) || (data.getD p []).length = src.streamLen) →
    let r := a.collResult k ax x e d src data
    let ranges := r.1.map (fun w => (w.1, w.2.length))
    s.hw.canReachAll k.lead .write ranges → s.hw.resultWait k.lead [] ranges = none → a.writePieces k.lead r.1 = .ok t →
    let b := match r.2 with
      | some n => t.tapeComplete c n
      | none => t
    let b := if k.steps = 0 then b else (b.countTx k.paxis (collSends ax k.cfn me root src.streamLen)).straggle k
    exec (.collComplete c i peers) s = s.to ((((b.collGone k).inc (F.SEAM_COLLS k.lead)).finish c e stOK 0 {}).topoDrained)) ∧
  (∀ (s : State) (c i pos : Nat) (k : Coll) (e : Ent), s.hw.collWorks c i = some (k, e) → k.step < k.steps →
    exec (.collTimeout c i pos) s = s.to (s.hw.collFail k crTimeout pos))

/-- R402, R404, R406, R408, R410 to R414: a capture starts with a bound target of enough room, copies the Tape table and the state block and guards its ranges,
copies block by block and lets held writes go, writes the manifest and the header, then the commit record with EV_SNAP_DONE; an NVMe error ends it; a restore
whose image passes every test ends with its state restored. -/
def Obligations.SnapshotCommandsComplete : Prop :=
  (∀ (s : State) (k : Hand) (rest : List Hand) (a : Hw) (nvme : Bool) (mans : List Man) (image : Nat), s.hw.bast.hands = k :: rest → s.hw.bast.cap = none →
    s.hw.bast.restore = none → s.hw.domOn domYOKE → s.hw.flag F.BAST_CFG_ENABLE →
    let job := s.hw.jobBlock k
    ({ s.hw with bast := { s.hw.bast with hands := rest } } : Hw).snapSet k.setid = (a, .ok (nvme, mans, image)) → a.targetBound nvme → image ≤ a.slotBytes nvme →
    let t := a.slotFor nvme
    let n := slotNum nvme t
    let c : Cap := ⟨k, nvme, t, 1, mans, image, [], [], [], [], job, []⟩
    let b := (((a.set (F.SLOT_STATE n) 1).set (F.SLOT_SETID n) k.setid).set (F.SLOT_EPOCH n) k.epoch).set F.BAST_STATE 1
    let b := { b with bast := { b.bast with cap := some c } }
    (nvme = false → b.peerGone (b.get F.BUDDY_CHIP) = false → exec .snapFreeze s = s.to (b.capWrite c 0xFC0 (natLE 8 0))) ∧
    (nvme → b.flag F.LINK_UP → exec .snapFreeze s = s.to (b.capWrite c 0xFC0 (natLE 8 0)))) ∧
  (∀ (s : State) (k : Cap) (a t : Hw) (tape : Bytes) (parts : List CapPart), s.hw.bast.cap = some k → k.stage = 1 →
    s.hw.bastRead 0xFFFF (s.hw.get F.TAPE_BASE) 0x400000 = (a, .ok tape) →
    let rs := (k.mans.map (fun m => m.ranges.map (fun g => (m.desc, g)))).flatten
    ((a.capWrite k 0x200000 tape).capWrite k 0x1000 k.job).capTranslate rs = (t, .ok parts) →
    let k2 : Cap := { k with stage := 2, parts := parts, guard := capGuard parts, vas := rs.map (·.2.1) }
    exec .snapSlotCleared s = s.to ((({ t with bast := { t.bast with cap := some k2 } } : Hw).set F.BAST_STATE 2).epochRelease k.hand)) ∧
  (∀ (s : State) (k : Cap) (block : Nat) (j a : Hw) (bs : Bytes), s.hw.bast.cap = some k → k.stage = 2 → k.copied.find? block = none →
    k.within (block * 65536) ((block + 1) * 65536) ≠ [] → s.hw.capReady k (block * 65536) ((block + 1) * 65536) → s.hw.bastJob k = some j →
    j.capBlock k block = (a, bs, false) →
    let b := a.capWrite k (block * 65536) bs
    let wanted := b.bast.wanted.filter (· ≠ block)
    exec (.guardedWriteRelease block) s =
      s.to ({ b with bast := { b.bast with cap := some { k with copied := k.copied.set block bs }, wanted := wanted } } : Hw).releaseHeld) ∧
  (∀ (s : State) (k : Cap) (j a : Hw) (m : Bytes), s.hw.bast.cap = some k → k.stage = 2 → s.hw.capReady k 0 (k.image + 65536) → s.hw.bastJob k = some j →
    Hw.capEntries k k.mans j = (a, m, false) →
    let man := padTo 0x100000 m
    let digest := sha256 (k.job ++ man)
    let b := ((a.capWrite k 0x2000 man).capWrite k 0x102000 (List.replicate 0xFE000 0)).capWrite k 0 (a.snapHeader k digest)
    let k3 : Cap := { k with stage := 3, guard := [], digest := digest }
    exec .snapDataAcked s = s.to ((({ b with bast := { b.bast with cap := some k3, wanted := [] } } : Hw).releaseHeld).set F.BAST_STATE 3)) ∧
  (∀ (s : State) (k : Cap), s.hw.bast.cap = some k → k.stage = 3 →
    let n := slotNum k.nvme k.slot
    let a := ((s.hw.capWrite k 0xFC0 (commitRecord k.hand.epoch k.digest)).set (F.SLOT_STATE n) 2).inc F.SNAP_DONE_CNT
    let b := ({ a with bast := { a.bast with cap := none } } : Hw).set F.BAST_STATE 0
    exec .snapCommit s = s.to (if b.flag F.SNAP_EVT then b.post Ev.evSnapDone [u64 k.hand.epoch, u16 k.hand.setid, u8 n] else b).drained) ∧
  (∀ s : State, exec (.nvmeCompletion 0) s = s.to s.hw) ∧
  (∀ (s : State) (k : Cap) (status : Nat), s.hw.bast.cap = some k → k.nvme → status ≠ 0 →
    exec (.nvmeCompletion status) s = s.to (s.hw.snapAbort 6) ∧ exec .nvmeTimeout s = s.to (s.hw.snapAbort 6)) ∧
  (∀ (s : State) (r : Restore) (data : Bytes) (poison : List Nat) (step : Nat) (realigned : Bool) (a : Hw), s.hw.bast.restore = some r →
    s.hw.restoreCheck r data poison = .ok (step, realigned) → s.hw.restorePull r data poison = (a, none) →
    r.win = none ∨ replicaTest data (data.drop (fieldLE data 0x18 8)) = none →
    exec (.restorePullDone data poison) s =
      s.to ((if r.verify then a else a.restoreState data step (!r.replica)).restoreDone r data (if realigned then 3 else 2))) ∧
  (∀ (s : State) (z : Quiesce), s.hw.quiesceGo.mb.quiesce = some z → s.hw.quiesceGo.allOff z.blocks → z.reset = false ∨ s.hw.quiesceGo.shut.ctxs = [] →
    let a := s.hw.quiesceGo
    let b := { a with mb := { a.mb with quiesce := none } }
    let b := if z.reset then b.jobReset else b
    exec .jobQuiesced s = s.to (z.ops.foldl (fun h op => h.postOp Ev.evJobQuiesced [u32 h.blockEn] op) b))

/-! ### Registers, mailbox, transports, events -/

/-- R2, R15, R38, R535, R539, R545, R546: an access whose path is open reads or writes its register; a Thimble core reads and writes its SRAM; a read
of configuration space is answered with its word; a sweep corrects every voted word, then upsets land. Addresses on the internal path and the places
of the identity in configuration space are as log entries 154 and 155 say. -/
def Obligations.RegisterCommandsComplete : Prop :=
  (∀ (s : State) (path : Path) (off size v : Nat), path ≠ .cfg → (path = .internal → off < 0x4000000) →
    let a := if path.host then s.hw.l1Exit else s.hw
    (a.gate path off size true = .open_ → exec (.registerRead path off size) s = s.to (a.readGo path off size)) ∧
    (a.gate path off size false = .open_ → exec (.registerWrite path off size v) s = s.to (a.writeGo path off size v).served) ∧
    (isCounter off → a.gate path off 4 true = .open_ → exec (.counterLowHalfRead path off) s = s.to (a.readGo path off 4))) ∧
  (∀ (s : State) (o size v : Nat), s.hw.domOn domYOKE → o < 0x400000 →
    exec (.registerRead .internal (0x11000000000 + o) size) s = s.to (s.hw.send (.readData .internal (Mem.read s.hw.sramBlank s.hw.sram o size))) ∧
    exec (.registerWrite .internal (0x11000000000 + o) size v) s =
      s.to ({ s.hw with sram := Mem.write s.hw.sramBlank s.hw.sram o (natLE size v) } : Hw).served) ∧
  (∀ (s : State) (off : Nat), s.hw.domOn domYOKE → s.hw.solo = false → s.hw.mb.hostOff = false → off < 4096 → s.hw.l1Exit.flag (F.RX_POWERED 4) →
    exec (.registerRead .cfg off 4) s = s.to (s.hw.l1Exit.send (.readData .cfg (natLE 4 (s.hw.l1Exit.cfgWord (off / 4 * 4)))))) ∧
  (∀ (s : State) (upsets : List (Nat × Nat × Nat)), s.hw.domOn domYOKE → upsets.all (fun u => u.1 < 0xFFFF0000) →
    exec (.voteSweep upsets) s = s.to (upsets.foldl (fun h u => h.voteUpset u.1 u.2.1 u.2.2) (s.hw.voteSweep (fun _ => true))))

/-- R425, R430 to R432, R435, R459, R461: doorbells and buffer writes reach their channel; a transport wakes a channel, writes its buffer and sends, reads its status
or its buffer, and is answered; the host ring's head is taken over; a record that its filter passes is written at the ring's tail. -/
def Obligations.MailboxCommandsComplete : Prop :=
  (∀ (s : State) (c : Nat) (path : Path), c < 16 → path ≠ .cfg →
    let a := if path.host then s.hw.l1Exit else s.hw
    a.gate path (0x781000 + 16 * c) 4 false = .open_ →
    exec (.mbDbWake c path) s = s.to (a.writeGo path (0x781000 + 16 * c) 4 0x40000000).served ∧
    exec (.mbDbSend c path) s = s.to (a.writeGo path (0x781000 + 16 * c) 4 0x80000000).served) ∧
  (∀ (s : State) (c off : Nat) (path : Path) (bytes : Bytes), c < 16 → path ≠ .cfg → off % 4 = 0 → bytes.length = 4 → off + 4 ≤ 256 →
    let a := if path.host then s.hw.l1Exit else s.hw
    a.gate path (0x780000 + 256 * c + off) 4 false = .open_ →
    exec (.mbBufferWrite c path off bytes) s = s.to (a.writeGo path (0x780000 + 256 * c + off) 4 (fieldLE bytes 0 4))) ∧
  (∀ (s : State) (c : Nat), s.hw.domOn domAON → c < 4 → s.hw.flag F.THERMTRIP_LATCH = false →
    exec (.transportWake c) s = s.to ((s.hw.wake c).transport 1 rsOK [])) ∧
  (∀ (s : State) (c sid : Nat) (buf : Bytes), s.hw.domOn domAON → c < 4 → s.hw.mbOff c false = false → s.hw.sessOn sid → (s.hw.chan c).session.getD sid = sid →
    let a := ((s.hw.claim c sid).mbWrite c 0 (padTo 256 buf) false).mbSend c false
    exec (.transportWriteSend c sid buf) s = s.to (a.transport 2 (if s.hw.mbBusy c then rsBUSY else rsOK) []).served) ∧
  (∀ (s : State) (c : Nat), s.hw.domOn domAON → c < 4 →
    exec (.transportReadStatus c) s =
      s.to (s.hw.transport 3 rsOK (natLE 4 ((s.hw.word (0x781000 + 16 * c)).toNat / 2 ^ 32) ++ natLE 4 (s.hw.word (0x781008 + 16 * c)).toNat))) ∧
  (∀ (s : State) (c sid : Nat), s.hw.domOn domAON → c < 4 → s.hw.mbOff c false = false → s.hw.sessOn sid → (s.hw.chan c).session = some sid →
    exec (.transportReadBuffer c sid) s = s.to (s.hw.transport 4 rsOK (s.hw.chan c).buf)) ∧
  (∀ (s : State) (v : Nat), s.hw.domOn domYOKE →
    let a := s.hw.set F.EVT_HEAD_DB_REG v
    a.flag F.RING_EN → v % 65536 < 2 ^ a.get F.RING_LOG2 → exec (.evtHeadDb v) s = s.to (a.set F.EVT_HEAD (v % 65536))) ∧
  (∀ (s : State) (r : EvRec) (a : Hw), s.hw.ringRecord = some r → s.hw.domOn domYOKE → s.hw.flag F.RING_EN →
    let tail := s.hw.get F.EVT_TAIL
    let n := 2 ^ s.hw.get F.RING_LOG2
    (tail + 1) % n ≠ s.hw.get F.EVT_HEAD → s.hw.vwrite noCache (s.hw.get F.EVR_BASE + 32 * tail) r.bytes = .ok a →
    let b := ({ a with evt := { a.evt with ringNext := (r.seq + 1) % 2 ^ 32 } } : Hw).set F.EVT_TAIL ((tail + 1) % n)
    exec .eventRingWrite s = s.to (if b.flag F.EVR_IRQ_EN then b.msix 65 else b))

/-! ### Power, clocks, pins, boot -/

/-- R490, R493, R496, R498 to R506: Sage takes a sample and sets the clocks; a throttle change is reported once its millisecond is over; a supply out of its
window, a lost PLL or a thermal trip resets or stops the part; a pin's accepted edge acts, a stuck pin is reported and cleared. -/
def Obligations.SageCommandsComplete : Prop :=
  (∀ (s : State) (temps : List Nat) (vin iin : Nat), s.hw.domOn domAON → temps.length = 64 →
    let a := (s.hw.inc F.CYC_SAGE 1000).voteSweep (fun o => o = 0x800000 || (0x800200 ≤ o && o < 0x800228))
    let a := ((((a.sensorFails temps).sampleRegs temps vin iin).vinSample vin).powerSources vin iin).thermalSources temps
    let a := { a with sage := { a.sage with hist := ((List.range 64).map (reading temps) :: a.sage.hist).take 8 } }
    exec (.sageSample temps vin iin) s = s.to (((a.set F.PIN_AVG_W a.pinAvg).pinsSettle).clocks.tempRetrain temps)) ∧
  (∀ s : State, s.hw.sage.evHold →
    let a := { s.hw with sage := { s.hw.sage with evHold := false, evWait := false } }
    exec .throttleEventFlush s =
      s.to (if s.hw.sage.evWait && a.sage.evLast ≠ some (a.get F.ARRAY_DIV, a.get F.SAGE_CAUSE) then a.throttlePost else a)) ∧
  (∀ s : State, s.hw.domOn domAON →
    let trip := fun (c : Nat) => ({ ((s.hw.yokeReset c).set F.RESET_CAUSE c).set F.ROOT_LOCK 0 with sage := { (s.hw.yokeReset c).sage with vinOk := false } } : Hw).inc F.VIN_RESET_CNT
    exec .vinReset s = s.to ((trip 1).post Ev.evVinReset [u32 ((trip 1).free 0xE10)]) ∧
    exec .vinOv s = s.to ((trip 2).post Ev.evVinReset [u32 ((trip 2).free 0xE10)])) ∧
  (∀ s : State, s.hw.flag F.ROOT_LOCK → exec .pllLoss s = s.to (((s.hw.yokeReset 3).set F.RESET_CAUSE 3).set F.ROOT_LOCK 0)) ∧
  (∀ (s : State) (n : Nat), n < 64 → s.hw.domOn domAON → s.hw.flag F.THERMTRIP_LATCH = false →
    exec (.thermtrip n) s =
      s.to (((s.hw.yokeOff.set F.THERMTRIP_LATCH 1).send (.pin 8 false)).post Ev.evThermtrip [u8 n, u16 (s.hw.get (F.SENSOR_TEMP n))])) ∧
  (∀ (s : State) (level : Bool), s.hw.domOn domAON →
    ((s.hw.get F.PIN_LEVEL).testBit 0 ≠ level → exec (.forceThrottleN level) s = s.to (s.hw.pinEdge 0 level).clocks) ∧
    ((s.hw.get F.PIN_LEVEL).testBit 1 ≠ level → exec (.pwrBrakeN level) s = s.to (s.hw.pinEdge 1 level).clocks)) ∧
  (∀ s : State, s.hw.domOn domAON →
    let e := fun (b : Nat) => s.hw.pinEdge b true
    ((s.hw.get F.PIN_LEVEL).testBit 2 = false →
      exec (.extThermtripN true) s = s.to ((e 2).thermtrip [u8 ((e 2).free 0xE20), u16 ((e 2).free 0xE21)])) ∧
    ((s.hw.get F.PIN_LEVEL).testBit 3 = false → (e 3).pinFlagged 3 = false → exec (.resetReqN true) s = s.to ((e 3).partReset 4)) ∧
    ((s.hw.get F.PIN_LEVEL).testBit 4 = false → (e 4).pinFlagged 4 = false → exec (.snapReqN true) s = s.to (e 4).snapRequest)) ∧
  (∀ (s : State) (b : Nat), s.hw.domOn domAON → b < 5 →
    (b ≠ 2 → (s.hw.get F.PIN_LEVEL).testBit b → (s.hw.get F.PIN_STUCK_BITS).testBit b = false →
      exec (.pinStuck b) s =
        s.to (((s.hw.set F.PIN_STUCK_BITS (s.hw.get F.PIN_STUCK_BITS ||| 2 ^ b)).inc F.PIN_STUCK_CNT).postSage Ev.evPinStuck [u8 b])) ∧
    ((s.hw.get F.PIN_LEVEL).testBit b = false →
      let a := s.hw.set F.PIN_STUCK_BITS (clearBit (s.hw.get F.PIN_STUCK_BITS) b)
      exec (.pinFlagClear b) s = s.to (a.set F.PIN_CHATTER_BITS (clearBit (s.hw.get F.PIN_CHATTER_BITS) b))))

/-- R41, R471 to R473, R489, R491, R493, R508, R518, R520, R528: supply comes and goes, the window and the PLL let YOKE power on, the boot ROM chooses what runs or
enters recovery, Thimble becomes ready or its watchdog resets YOKE, the Panels come up, the downstream reset is released, an asked reset runs. -/
def Obligations.BootCommandsComplete : Prop :=
  (∀ s : State, s.hw.domOn domAON = false →
    ∃ t : Hw, exec .aonPowerUp s = s.to t ∧ t.dom = 1 ∧ t.nor = s.hw.nor ∧ t.rpmc = s.hw.rpmc ∧ t.flag (F.RX_POWERED 12) ∧ t.flag (F.RX_POWERED 13) ∧
      t.shut = Hw.off.shut ∧ t.hbm.mem = [] ∧ t.sec = Hw.off.sec) ∧
  (∀ s : State, exec .aonPowerLoss s =
    s.to { Hw.off with evt := { Hw.off.evt with norNext := s.hw.evt.norNext }, nor := s.hw.nor, rpmc := s.hw.rpmc, out := s.hw.out, freeCtr := s.hw.freeCtr }) ∧
  (∀ s : State, s.hw.domOn domAON → s.hw.domOn domYOKE = false → exec .vinWindowMet s = s.to { s.hw with sage := { s.hw.sage with vinOk := true } }) ∧
  (∀ s : State, s.hw.domOn domAON → s.hw.sage.vinOk → s.hw.flag F.ROOT_LOCK = false → s.hw.flag F.THERMTRIP_LATCH = false →
    exec .pllLock s = s.to (s.hw.set F.ROOT_LOCK 1).yokeOn) ∧
  (∀ (s : State) (tries : Nat), s.hw.domOn domYOKE → s.hw.sec.booted = false →
    let a := s.hw.bootIdentity tries (1 ≤ tries && tries ≤ 8)
    exec (.bootRomRun tries true) s = s.to (a.enterRecovery 3) ∧
    (∀ (l : List Comp) (digest : Bool), Config.mfgRecordOk → 1 ≤ tries → tries ≤ 8 → a.sec.fails < 2 → a.bootDecide 13 [] = some (l, digest) →
      exec (.bootRomRun tries false) s = s.to (a.bootRun l digest))) ∧
  (∀ s : State, s.hw.domOn domYOKE → s.hw.sec.booted → s.hw.flag F.SEC_RECOVERY = false → s.hw.flag (F.RX_POWERED 4) = false →
    let a := (List.range 16).foldl (fun h c => (h.set (F.RX_POWERED c) 1).set (F.WAKING c) 0) s.hw.raiseCounters
    exec .firmwareReady s = s.to (({ a with mb := { a.mb with hostOff := false }, sec := { a.sec with fails := 0 } } : Hw).postOff).served) ∧
  (∀ s : State, s.hw.domOn domYOKE → s.hw.flag (F.RX_POWERED 4) = false →
    let bad := (s.hw.sec.comps.find? (fun c => c.typ = 1)).map (·.digest)
    exec .bootWatchdog s = s.to (({ s.hw with sec := { s.hw.sec with bad := bad, fails := s.hw.sec.fails + 1 } } : Hw).partReset 6)) ∧
  (∀ (s : State) (bad : List Nat), s.hw.domOn domYOKE → s.hw.flag F.SEC_RECOVERY = false → s.hw.flag (F.RX_POWERED 4) → s.hw.domOn (domPANEL 0) = false →
    let a := (List.range 4).foldl (fun h p => h.domUp (domPANEL p)) s.hw
    let b := (List.range 16).foldl (fun h k =>
      (h.setMapout k (leNat ((h.cfgGood (0x10 + k)).getD []))).stackUp k ((bad.filter (fun c => c / 32 = k)).map (· % 32))) a
    exec (.panelBringupDone bad) s = s.to ((List.range 8).foldl Hw.eyeletUp b)) ∧
  (∀ s : State, s.hw.domOn domYOKE → s.hw.solo → s.hw.flag (F.RX_POWERED 4) → s.hw.pcie.perstOut = false →
    exec .perstOutRelease s = s.to (({ s.hw with pcie := { s.hw.pcie with perstOut := true } } : Hw).send (.pin 7 true))) ∧
  (∀ s : State, s.hw.mb.partReset → exec .partReset s = s.to (s.hw.partReset 5))

/-! ### PCIe, SPDM, MCTP, PLDM -/

/-- R521 to R527, R534: the link comes up and goes down; each reset of the host path counts, resets the port, forgets the host and quiesces; D3hot is entered and
left with what waited; L1 is entered; a BAR2 request is queued and done in order, or fails in time; IDE keys are set, and a stream that fails is Insecure. -/
def Obligations.PcieCommandsComplete : Prop :=
  (∀ (s : State) (speed width : Nat) (ats : Bool), s.hw.domOn domYOKE → s.hw.flag F.LINK_UP = false → 1 ≤ speed → speed ≤ 7 →
    width ∈ ([1, 2, 4, 8, 16] : List Nat) →
    let a := (((s.hw.set F.LINK_UP 1).set F.PCIE_SPEED speed).set F.PCIE_WIDTH width).setB F.PCIE_FLIT (decide (6 ≤ speed))
    let a := a.set F.PCIE_L1 0
    exec (.pcieLinkUp speed width ats) s = s.to (if a.solo then a else { a with xl := { a.xl with atsOn := ats, priOn := true } })) ∧
  (∀ s : State, s.hw.flag F.LINK_UP →
    exec .pcieLinkDown s = s.to ((((s.hw.set F.LINK_UP 0).set F.PCIE_L1 0).inc F.PCIE_LINK_DOWN_CNT).nvmeFail)) ∧
  (∀ s : State, s.hw.domOn domYOKE → s.hw.solo = false →
    let t := (((s.hw.inc F.PCIE_HOST_RESETS).portReset).hostForget).quiesceStart jobBlocks 1 true 0
    exec .perstN s = s.to t ∧ exec .functionLevelReset s = s.to t ∧ exec .hotReset s = s.to t ∧ exec .linkDisable s = s.to t) ∧
  (∀ s : State, s.hw.domOn domYOKE → s.hw.solo = false → s.hw.flag F.LINK_UP → s.hw.get F.DSTATE = 0 →
    exec .d3hotEntry s = s.to ((s.hw.set F.DSTATE 3).set F.PCIE_L1 1)) ∧
  (∀ s : State, s.hw.get F.DSTATE = 3 →
    let a := (({ s.hw with pcie := { s.hw.pcie with wait := [] } } : Hw).set F.DSTATE 0).set F.PCIE_L1 0
    exec .d0Return s = s.to ((List.range 68).foldl Hw.msixUnmask (s.hw.pcie.wait.foldl Hw.send a))) ∧
  (∀ s : State, s.hw.domOn domYOKE → s.hw.flag F.LINK_UP → s.hw.get F.DSTATE = 0 → exec .aspmL1Entry s = s.to (s.hw.set F.PCIE_L1 1)) ∧
  (∀ (s : State) (addr n : Nat) (write ep : Bool) (bytes : Bytes), s.hw.domOn domYOKE → s.hw.ideBlocked = false →
    let a := s.hw.l1Exit
    a.get F.DSTATE ≠ 3 → a.flag (F.RX_POWERED 4) → a.mb.hostOff = false → a.flag F.SEC_RECOVERY = false →
    (write && ep → exec (.bar2Request addr write ep bytes n) s = s.to (a.inc F.PCIE_POISON_RX)) ∧
    ((write && ep) = false →
      let b : Hw := { a with pcie := { a.pcie with bar2 := a.pcie.bar2 ++ [⟨addr, write, ep, bytes, n⟩] } }
      exec (.bar2Request addr write ep bytes n) s = s.to b.bar2Go)) ∧
  (∀ (s : State) (b : Bar2) (rest : List Bar2), s.hw.pcie.bar2 = b :: rest → s.hw.flag F.MEM_CFG_ENABLE = false →
    exec .bar2EnableTimeout s = s.to (({ s.hw with pcie := { s.hw.pcie with bar2 := rest } } : Hw).bar2Fail b 2)) ∧
  (∀ (s : State) (sid stream : Nat) (keys : Bytes), s.hw.domOn domYOKE → s.hw.solo = false →
    s.hw.sec.sessions.any (fun x => x.est && x.id = sid && x.doe) → stream ≤ 4 →
    let sets := ((s.hw.pcie.ide.find? stream).map (·.sets)).getD 0 + 1
    let a := { s.hw with pcie := { s.hw.pcie with ide := s.hw.pcie.ide.set stream ⟨keys, true, sets⟩ } }
    exec (.ideKmKeyProg sid stream keys) s = s.to (if stream = 0 then a.set F.IDE_SECURE 1 else a)) ∧
  (∀ (s : State) (stream : Nat) (k : Ide), s.hw.pcie.ide.find? stream = some k →
    let a := { s.hw with pcie := { s.hw.pcie with ide := s.hw.pcie.ide.set stream { k with secure := false } } }
    exec (.ideIntegrityFail stream) s = s.to (if stream = 0 then a.set F.IDE_SECURE 0 else a))

/-- R478, R479, R484, R487, R529 to R532: SPDM messages are answered, a session opens, is kept alive, gets new keys and ends; bus addresses are assigned; a sensor
is read; an update inside a session is loaded into an idle slot and committed. The message codes are the model's (log entry 62). -/
def Obligations.SidebandCommandsComplete : Prop :=
  (∀ (s : State) (nonce : Bytes), s.hw.domOn domYOKE →
    exec (.spdmGetMeasurements nonce) s = s.to (s.hw.spdmSigned 0x60 ((List.range 9).map (fun i => s.hw.regBytes (regMeasure i) 32)).flatten nonce) ∧
    exec (.spdmChallenge nonce) s = s.to (s.hw.spdmSigned 0x03 (sha256 pubKey) nonce) ∧
    (s.hw.flag F.CERT_MISMATCH = false → exec .spdmGetCertificate s = s.to (s.hw.spdm 0x02 ((List.range Config.certLen).map Config.certByte)))) ∧
  (∀ (s : State) (id : Nat) (doe : Bool) (nonce : Bytes), s.hw.domOn domYOKE → s.hw.session id = none → s.hw.sec.sessions.length < 4 →
    doe = false ∨ s.hw.solo = false →
    let a : Hw := { s.hw with sec := { s.hw.sec with sessions := s.hw.sec.sessions ++ [⟨id, false, nonce, 0, doe⟩] } }
    exec (.spdmKeyExchange ⟨id, doe⟩ nonce) s = s.to (a.spdmSigned 0x64 pubKey nonce)) ∧
  (∀ (s : State) (id : Nat) (key sig : Bytes) (x : Sess), s.hw.domOn domYOKE → s.hw.session id = some x → x.est = false →
    s.hw.sec.owner = none ∨ s.hw.delegate key ∧ Config.verifies key x.transcript sig →
    exec (.spdmFinish id key sig) s = s.to ((s.hw.updSession id (fun x => { x with est := true })).spdm 0x65 [])) ∧
  (∀ (s : State) (id : Nat), s.hw.domOn domYOKE → s.hw.sessOn id →
    exec (.spdmKeyUpdate id) s = s.to ((s.hw.updSession id (fun x => { x with keyGen := x.keyGen + 1 })).spdm 0x69 []) ∧
    exec (.spdmHeartbeat id) s = s.to (s.hw.spdm 0x68 []) ∧
    exec (.spdmHeartbeatTimeout id) s = s.to (s.hw.sessionEnd id) ∧
    exec (.spdmEndSession id) s = s.to ((s.hw.sessionEnd id).spdm 0x6C [])) ∧
  (∀ (s : State) (v : Nat), s.hw.domOn domAON →
    (8 ≤ v → v < 255 →
      exec (.mctpSetEndpointId v) s = s.to (({ s.hw with side := { s.hw.side with eid := some v } } : Hw).send (.reply 0 [0, 0, BitVec.ofNat 8 v]))) ∧
    (v < 128 → exec (.i3cEntdaa v) s = s.to { s.hw with side := { s.hw.side with i3c := some v } }) ∧
    (∀ x, s.hw.domOn domYOKE ∨ 1 ≤ v ∧ v ≤ 68 → s.hw.sensor v = some x → exec (.pldmSensorRead v) s = s.to (s.hw.pldm 2 0 (natLE 4 x)))) ∧
  (∀ (s : State) (sid slot : Nat) (image : Bytes), s.hw.domOn domAON → s.hw.domOn domYOKE → s.hw.sessOn sid →
    (s.hw.side.update = none → s.hw.idleSlots = [slot] → image.length ≤ 0x7FFF000 →
      exec (.pldmRequestUpdate sid image) s = s.to (s.hw.pldmLoad slot image)) ∧
    (s.hw.side.update = some slot →
      exec (.pldmActivateFirmware sid) s =
        s.to ((({ s.hw with side := { s.hw.side with update := none } } : Hw).commitGo slot (s.hw.bundle slot).length).pldm 5 0 [])))

/-! ### The queue and the whole machine -/

/-- One step takes the command at the front of the queue and is that command's effect, with the queue's rest left (the block's queue, log entry 19). -/
def Obligations.StepTakesFront : Prop :=
  ∀ (c : Instr) (rest : List Instr) (h : Hw), step ⟨c :: rest, h⟩ = exec c ⟨rest, h⟩

/-- On an empty queue one cycle of CTRL_CLK passes while YOKE is powered, and nothing without it: the model's choice (log entry 19). In the cycle
CYC_CTRL counts one edge, and the counters of the clocks below it count the edges of their divisors of the 8.0 GHz root (R42, R495). An engine of a
powered Panel to which nothing is assigned counts the edges of its own clock as idle and under no other cause (R195). -/
def Obligations.EmptyQueueTicks : Prop :=
  ∀ h : Hw,
    (h.domOn domYOKE → step ⟨[], h⟩ = .next ⟨[], h.tick⟩) ∧ (h.domOn domYOKE = false → step ⟨[], h⟩ = .next ⟨[], h⟩) ∧
    h.tick.get F.CYC_CTRL = (h.get F.CYC_CTRL + 1) % 2 ^ 64 ∧
    h.tick.get F.CYC_SPAD = (h.get F.CYC_SPAD + clkEdges 4 (h.get F.CYC_CTRL)) % 2 ^ 64 ∧
    h.tick.get F.CYC_FAB = (h.get F.CYC_FAB + clkEdges 5 (h.get F.CYC_CTRL)) % 2 ^ 64 ∧
    h.tick.get F.CYC_MEM = (h.get F.CYC_MEM + clkEdges 6 (h.get F.CYC_CTRL)) % 2 ^ 64 ∧
    ∀ e < 292, h.domOn (domPANEL (panelOfEngine e)) → h.onEngine e = [] →
      h.tick.get (F.STL_IDLE e) = min (h.get (F.STL_IDLE e) + clkEdges (h.engDiv e) (h.get F.CYC_CTRL)) (2 ^ 64 - 1) ∧
      ∀ k : Stall, h.tick.get (k.fld e) = h.get (k.fld e)

/-- Every command answers a next state: none ends in a fault or a refusal, none touches the commands that wait, and each advances the counter of open
values by one (log entries 3 and 17: the model's choice). -/
def Obligations.EveryCommandAnswersNext : Prop :=
  ∀ (c : Instr) (s : State), ∃ t : State, exec c s = .next t ∧ t.pending = s.pending ∧ t.hw.freeCtr = s.hw.freeCtr + 1

/-- R192, R301: right after reset the fields read their Reset columns: each queue block's PRIO, ring sizes and the rest, the fault ring's size and
INVAL_LEN. No domain is powered, nothing waits and nothing has left the part (the model's start, log entry 18). -/
def Obligations.ResetState : Prop :=
  State.reset.pending = [] ∧ State.reset.hw.dom = 0 ∧ State.reset.hw.out = [] ∧
  (∀ q < 64, State.reset.hw.get (F.Q_ENABLE q) = 0 ∧ State.reset.hw.get (F.Q_PRIO q) = 7 ∧ State.reset.hw.get (F.Q_VS_EN q) = 0 ∧
    State.reset.hw.get (F.Q_QCLASS q) = 0 ∧ State.reset.hw.get (F.Q_IRQ_EN q) = 0 ∧ State.reset.hw.get (F.Q_MAX_CTX q) = 0 ∧
    State.reset.hw.get (F.Q_SQ_LOG2 q) = 4 ∧ State.reset.hw.get (F.Q_CQ_LOG2 q) = 4 ∧ State.reset.hw.get (F.Q_SQ_HEAD q) = 0 ∧
    State.reset.hw.get (F.Q_CQ_TAIL q) = 0 ∧ State.reset.hw.get (F.Q_ERR q) = 0) ∧
  State.reset.hw.get F.FLT_LOG2 = 4 ∧ State.reset.hw.get F.FLT_TMO = 0 ∧ State.reset.hw.get F.INVAL_LEN = 1 ∧ State.reset.hw.get F.FLT_HEAD = 0

/-- The state right after reset keeps the order of the power domains, holds its memories in canonical form, and its queue names nothing ill formed. -/
def Obligations.ResetMeetsInvariants : Prop :=
  State.reset.hw.powerLegal ∧ State.reset.hw.memWf ∧ State.reset.hw.darnWf ∧ State.reset.queueWf

/-- R41: the order of the power domains is kept by every step from every state that keeps it: YOKE is powered only while AON is, a Panel only while
YOKE is, an Eyelet or a stack only while its Panel is. -/
def Obligations.PowerOrderKept : Prop :=
  ∀ s t : State, s.hw.powerLegal → step s = .next t → t.hw.powerLegal

/-- R464: no step lowers a monotonic counter of NOR, from any state. -/
def Obligations.MonotonicCountersNeverFall : Prop :=
  ∀ s t : State, step s = .next t → Rpmc.le s.hw.rpmc t.hw.rpmc

/-! ### What the parts of the machine compute -/

/-- R310, R312: a frame whose fields fit the widths of R310 is 640 bytes, and a receiver reads from them the frame that was sent: no field is dropped or
overlaps another, and the CRC matches. -/
def Obligations.FrameRoundTrip : Prop :=
  ∀ f : Machine.Frm, f.ftype < 16 → f.vl < 16 → f.len < 65536 → f.lseq < 2 ^ 32 → f.ack < 2 ^ 32 → f.crVl < 16 → f.crCnt < 65536 → f.dst < 65536 →
    f.src < 65536 → f.tag < 2 ^ 32 → f.addr < 2 ^ 64 → f.aux < 2 ^ 64 → f.data.length = 592 → f.tries = 0 →
    f.bytes.length = 640 ∧ parseFrm f.bytes = some f

/-- R376: the cursor of step s is CURSOR_BASE + ((s − STEP_BASE) mod 2^32) × CURSOR_PER_STEP, modulo 2^64, of the declared binding. -/
def Obligations.CursorOfStep : Prop :=
  ∀ (h : Hw) (s : Nat), s < 2 ^ 32 →
    ((h.cursor s : Nat) : Int) =
      ((h.get F.CURSOR_BASE : Int) + ((s : Int) - (h.get F.STEP_BASE : Int)) % 2 ^ 32 * (h.get F.CURSOR_PER_STEP : Int)) % 2 ^ 64

/-- R378: a MARK latches the pair: MARK_STEP, CHERVIL_STEP one beyond it, MARK_CURSOR, and BIND_CHECK by chervil with no salt. Under a binding SKEWED tells
whether the cursor differs from the binding's and SKEW_DELTA by how much; without one both are 0. -/
def Obligations.MarkLatchesPair : Prop :=
  ∀ (h : Hw) (step : Nat), step < 2 ^ 32 →
    let t := h.markLatch step
    let want := h.cursor ((step + 1) % 2 ^ 32)
    let cur := h.get F.DATA_CURSOR
    t.get F.MARK_STEP = step ∧ t.get F.CHERVIL_STEP = (step + 1) % 2 ^ 32 ∧ t.get F.MARK_CURSOR = cur ∧
    t.get F.BIND_CHECK = chervil (bindKey (h.get (F.JOB_KEY 0)) (h.get (F.JOB_KEY 1)) (h.get (F.JOB_KEY 2)) (h.get (F.JOB_KEY 3)) step) cur % 2 ^ 32 ∧
    (h.flag F.BIND_EN = false ∨ h.get F.CURSOR_PER_STEP = 0 → t.get F.SKEWED = 0 ∧ t.get F.SKEW_DELTA = 0) ∧
    (h.flag F.BIND_EN → h.get F.CURSOR_PER_STEP ≠ 0 → cur = want → t.get F.SKEWED = 0 ∧ t.get F.SKEW_DELTA = 0) ∧
    (h.flag F.BIND_EN → h.get F.CURSOR_PER_STEP ≠ 0 → cur ≠ want →
      t.get F.SKEWED = 1 ∧ ((t.get F.SKEW_DELTA : Nat) : Int) = ((cur : Int) - (want : Int)) % 2 ^ 64 ∧
      t.get F.CURSOR_SKEW_CNT = min (h.get F.CURSOR_SKEW_CNT + 1) (2 ^ F.CURSOR_SKEW_CNT.width - 1))

/-- R53: STAT16 encodes a count below 2,048 exactly; a greater one by E = floor(log2 n) − 10 and M = floor(n / 2^(E − 1)) − 2,048, truncated: never above the
count and within a relative 2^−11 of it; a count above the largest encodes as 0xFFFF; the rule's own example. -/
def Obligations.Stat16Encodes : Prop :=
  (∀ w, w < 65536 → stat16Dec w = if w / 2048 = 0 then w else (2048 + w % 2048) * 2 ^ (w / 2048 - 1)) ∧
  (∀ n, n < 2048 → stat16Enc n = n ∧ stat16Dec (stat16Enc n) = n) ∧
  (∀ n, 2048 ≤ n → n ≤ 4095 * 2 ^ 30 →
    let e := Nat.log2 n - 10
    stat16Enc n = e * 2048 + (n / 2 ^ (e - 1) - 2048) ∧ stat16Enc n < 65536 ∧
    stat16Dec (stat16Enc n) ≤ n ∧ (n - stat16Dec (stat16Enc n)) * 2 ^ 11 < n) ∧
  (∀ n, 4095 * 2 ^ 30 < n → stat16Enc n = 0xFFFF) ∧ stat16Dec 0xFFFF = 4396972769280 ∧
  stat16Enc 1000000 = 0x4F42 ∧ stat16Dec 0x4F42 = 999936

/-- R50: a scale byte below 0xFF multiplies an element's value by 2^(X − 127), one of 0xFF makes it a NaN. -/
def Obligations.BlockScaleApplies : Prop :=
  ∀ (n : Bool) (m : Nat) (e : Int) (x : Nat), x < 256 →
    (x ≠ 0xFF → scaleBlock (.fin n m e) x = .fin n m (e + ((x : Int) - 127)) ∧ e8m0 x = some ((x : Int) - 127)) ∧
    (x = 0xFF → (scaleBlock (.fin n m e) x).isNan ∧ e8m0 x = none)

/-- R48: a NaN result is the canonical NaN of the destination with the sign of the source, in BF16, FP16, E4M3 and E5M2, whatever the rounding; any NaN
encoding decodes as a NaN with its sign. -/
def Obligations.NanResultsAreCanonical : Prop :=
  (∀ (n : Bool) (r : Rnd),
    ffBF16.encode r (.nan n) = (if n then 0xFFC0 else 0x7FC0) ∧ ffFP16.encode r (.nan n) = (if n then 0xFE00 else 0x7E00) ∧
    ffE4M3.encode r (.nan n) = (if n then 0xFF else 0x7F) ∧ ffE5M2.encode r (.nan n) = (if n then 0xFE else 0x7E)) ∧
  (∀ m : Nat, 0 < m →
    (m < 128 → ffBF16.decode (0x7F80 + m) = .nan false ∧ ffBF16.decode (0xFF80 + m) = .nan true) ∧
    (m < 1024 → ffFP16.decode (0x7C00 + m) = .nan false ∧ ffFP16.decode (0xFC00 + m) = .nan true) ∧
    (m < 4 → ffE5M2.decode (0x7C + m) = .nan false ∧ ffE5M2.decode (0xFC + m) = .nan true)) ∧
  ffE4M3.decode 0x7F = .nan false ∧ ffE4M3.decode 0xFF = .nan true

/-- R145: the queue the Shuttle takes next can admit, and no queue that can admit has a lower PRIO; it takes none only when no queue can. -/
def Obligations.NextQueueHasLowestPrio : Prop :=
  ∀ h : Hw,
    (∀ q, h.nextQueue = some q → q < 64 ∧ h.canAdmit q ∧ ∀ r < 64, h.canAdmit r → h.get (F.Q_PRIO q) ≤ h.get (F.Q_PRIO r)) ∧
    (h.nextQueue = none → ∀ r < 64, h.canAdmit r = false)

/-- R178: the instruction an engine picks is a candidate of its own, and no candidate's queue has a lower PRIO value; it picks none only when it has no
candidate. -/
def Obligations.BestCandidateHasLowestPrio : Prop :=
  ∀ (h : Hw) (eng : Nat),
    (∀ k, h.best eng = some k → k ∈ h.cands eng ∧ ∀ x ∈ h.cands eng, k.prio ≤ x.prio) ∧
    (h.best eng = none → h.cands eng = [])

/-- R544: each bit of a voted word takes the value that at least two of its three copies hold, and the part reads every field from that word; the voted
fields are those of the rule's table, and only they (the domain controls are no registers). -/
def Obligations.WordIsMajorityOfCopies : Prop :=
  (∀ (h : Hw) (o : Nat) (a b : Word64) (i : Nat), h.votes.find? o = some (a, b) →
    let x := (h.raw o).getLsbD i
    let y := (h.raw o ^^^ a).getLsbD i
    let z := (h.raw o ^^^ b).getLsbD i
    (h.word o).getLsbD i = (if x = y then x else if x = z then x else y)) ∧
  (∀ (h : Hw) (f : Fld), h.get f = f.ofWord (h.word f.word)) ∧
  (∀ (f : Fld) (o : Nat), o % 8 = 0 → (f ∈ votedFields o ↔
    o = f.word ∧ (f = F.STAGE_RES ∨ (∃ k < 16, f = F.STK_MAPOUT k) ∨ f = F.MMU_ROOT ∨ f = F.CSA_BASE ∨ (∃ l < 64, f = F.LINK_EN l) ∨ f = F.LINING_FRAC ∨
      f = F.GBL_PROFILE ∨ f = F.ARRAY_DIV ∨ f = F.VEC_DIV ∨ f = F.CAP_DIV ∨ ∃ i < 10, f = F.THRESH_VALUE i)))

/-- R15, R545: a write of a field stores its value in all three copies: it reads back as written, its copies agree, and every other word of the bank keeps
its value and its copies. -/
def Obligations.FieldWriteStoresAllCopies : Prop :=
  ∀ (h : Hw) (f : Fld) (v : Nat), f.sh + f.width ≤ 64 →
    (h.set f v).get f = v % 2 ^ f.width ∧
    (∀ a b, (h.set f v).votes.find? f.word = some (a, b) → (a ||| b) &&& f.mask = 0) ∧
    (∀ o, o ≠ f.word → (h.set f v).word o = h.word o ∧ (h.set f v).votes.find? o = h.votes.find? o)

/-- R458: an event record is 32 bytes: CODE, SEV, a reserved byte that is 0, SEQ, TIME, ARGS. -/
def Obligations.EventRecordLayout : Prop :=
  ∀ e : EvRec, e.code < 65536 → e.sev < 256 → e.seq < 2 ^ 32 → e.time < 2 ^ 64 → e.args.length ≤ 16 →
    e.bytes.length = 32 ∧ fieldLE e.bytes 0 2 = e.code ∧ fieldLE e.bytes 2 1 = e.sev ∧ fieldLE e.bytes 3 1 = 0 ∧ fieldLE e.bytes 4 4 = e.seq ∧
    fieldLE e.bytes 8 8 = e.time ∧ (e.bytes.drop 16).take e.args.length = e.args

/-! ### Frames -/

/-- R175: a write of a TOKEN register gives that token the value; every other register word, and everything that is not a register, is unchanged. -/
def Obligations.TokenWriteFrame : Prop :=
  ∀ (s : State) (t v : Nat), s.hw.domOn domYOKE → t < 4096 →
    ∃ u : State, exec (.tokenWrite t v) s = .next u ∧ u.hw.get (F.TOKEN t) = v % 2 ^ 32 ∧
      (∀ k, k < 4096 → k ≠ t → u.hw.get (F.TOKEN k) = s.hw.get (F.TOKEN k)) ∧
      (∀ o, o ≠ (F.TOKEN t).word → u.hw.word o = s.hw.word o) ∧
      { u.hw with regs := s.hw.regs, votes := s.hw.votes, freeCtr := s.hw.freeCtr } = s.hw

/-- R541, R542: a write of ARRAY_CFG while ENABLE reads 1 keeps LONGSUM_POLICY; where it would have changed it, CFG_WHILE_ENABLED is set and the count of
refused writes goes up by one, up to 0xFFFF; where it would not, nothing is recorded. -/
def Obligations.EnabledBlockKeepsConfiguration : Prop :=
  ∀ (h : Hw) (v : Nat), h.flag F.ARRAY_CFG_ENABLE →
    let t := (h.regWrite .internal 0x400000 4 v).1
    (h.regWrite .internal 0x400000 4 v).2 ∧ t.get F.LONGSUM_POLICY = h.get F.LONGSUM_POLICY ∧ t.get F.ARRAY_CFG_ENABLE = v / 2 ^ 31 % 2 ∧
    (v % 4 ≠ h.get F.LONGSUM_POLICY → t.get ⟨0x400004, 31, 31⟩ = 1 ∧ t.get ⟨0x400004, 15, 0⟩ = min (h.get ⟨0x400004, 15, 0⟩ + 1) 0xFFFF) ∧
    (v % 4 = h.get F.LONGSUM_POLICY → t.get ⟨0x400004, 31, 31⟩ = h.get ⟨0x400004, 31, 31⟩ ∧
      t.get ⟨0x400004, 15, 0⟩ = h.get ⟨0x400004, 15, 0⟩)

/-- A write of bytes of NOR flash (R462) leaves every byte outside them as it was, and each byte inside reads as written. -/
def Obligations.NorWriteFrame : Prop :=
  ∀ (h : Hw) (a : Nat) (bs : Bytes) (x : Nat),
    (x < a ∨ a + bs.length ≤ x → Mem.get norBlank (h.norWrite a bs).nor x = Mem.get norBlank h.nor x) ∧
    (∀ i, i < bs.length → Mem.get norBlank (h.norWrite a bs).nor (a + i) = bs.getD i 0) ∧
    (Mem.wf norBlank h.nor → Mem.wf norBlank (h.norWrite a bs).nor)

/-- R203, R204, R285: a write of scratchpad that no guard holds leaves every byte outside it, and all of HBM, as it was; where no word of it is poisoned
each byte inside reads as written (no stored word being flipped: what an upset of four bits does is open). -/
def Obligations.ScratchpadWriteFrame : Prop :=
  ∀ (h : Hw) (a : Nat) (bs : Bytes), inSpad a bs.length → h.spad.flips = [] →
    let t := h.pokeRaw a bs
    t.hbm.mem = h.hbm.mem ∧ t.hbm.darn = h.hbm.darn ∧ t.nor = h.nor ∧
    (∀ x, x < a ∨ a + bs.length ≤ x → Mem.get t.spadBlank t.spad.mem x = Mem.get h.spadBlank h.spad.mem x) ∧
    (h.spad.poison = [] → ∀ i, i < bs.length → Mem.get t.spadBlank t.spad.mem (a + i) = bs.getD i 0)

/-- R239 to R243: after a write of HBM that no guard holds, a read finds the bytes written, in DRAM or still in the Darning buffer, and every other byte as
it was, whichever entries were merged or flushed (no line being poisoned or flipped, and the buffer holding one entry a line: DarningKept). -/
def Obligations.HbmWriteFrame : Prop :=
  ∀ (h : Hw) (a : Nat) (bs : Bytes), a + bs.length ≤ spadBase → h.hbm.flips = [] → h.hbm.poison = [] → h.darnWf →
    let t := h.pokeRaw a bs
    t.spad = h.spad ∧ t.nor = h.nor ∧ (bs ≠ [] → t.peek a bs.length = bs) ∧
    (∀ x, x < spadBase → x < a ∨ a + bs.length ≤ x → t.peek x 1 = h.peek x 1)

/-- R240: every step keeps the Darning buffers: one entry a line, its bytes by rising offset. -/
def Obligations.DarningKept : Prop :=
  ∀ s t : State, s.hw.darnWf → step s = .next t → t.hw.darnWf

/-- Every step keeps HBM, scratchpad and NOR in their canonical form, so that equal memories are equal data. -/
def Obligations.MemoriesStayCanonical : Prop :=
  ∀ s t : State, s.hw.memWf → step s = .next t → t.hw.memWf
end

