-- ==== Sys2Proof/Laws/Bank.lean ====
section
/-!
SUPPORT. Laws/Bank.lean: sparse tables and the register bank: a read after a write, and what a write leaves alone.
-/

namespace Sys2Proof

theorem Tab.find_set_same {α : Type} (t : Tab α) (a : Nat) (x : α) : Tab.find? (Tab.set t a x) a = some x := by
  induction t with
  | nil => simp [Tab.set, Tab.find?]
  | cons e r ih =>
    obtain ⟨k, v⟩ := e
    by_cases h1 : a < k
    · simp [Tab.set, Tab.find?, h1]
    · by_cases h2 : a = k
      · simp [Tab.set, Tab.find?, h2]
      · simp [Tab.set, Tab.find?, h1, h2, ih]

theorem Tab.find_set_ne {α : Type} (t : Tab α) {a b : Nat} (x : α) (h : b ≠ a) : Tab.find? (Tab.set t a x) b = Tab.find? t b := by
  induction t with
  | nil => simp [Tab.set, Tab.find?, h]
  | cons e r ih =>
    obtain ⟨k, v⟩ := e
    simp only [Tab.set]
    split
    · simp only [Tab.find?]
      split
      · split
        · rfl
        · omega
      · simp
    · split
      · subst_vars
        simp only [Tab.find?, h, if_false]
      · simp only [Tab.find?, ih]

theorem Tab.find_upd_ne {α : Type} (t : Tab α) {a b : Nat} (f : α → α) (h : b ≠ a) : Tab.find? (Tab.upd t a f) b = Tab.find? t b := by
  induction t with
  | nil => rfl
  | cons e r ih =>
    obtain ⟨k, v⟩ := e
    simp only [Tab.upd, List.map_cons, Tab.find?] at ih ⊢
    by_cases hk : k = a
    · subst hk
      simp only [if_true, h, if_false, ih]
    · simp only [hk, if_false, ih]

theorem Tab.find_upd_same {α : Type} (t : Tab α) (a : Nat) (f : α → α) : Tab.find? (Tab.upd t a f) a = (Tab.find? t a).map f := by
  induction t with
  | nil => rfl
  | cons e r ih =>
    obtain ⟨k, v⟩ := e
    simp only [Tab.upd, List.map_cons, Tab.find?] at ih ⊢
    by_cases hk : k = a
    · subst hk
      simp
    · simp only [hk, if_false, ih]
      have : a ≠ k := fun e => hk e.symm
      simp only [this, if_false]
      split <;> rfl

end Sys2Proof

namespace Sys2Proof.Machine

/-- A write of a field leaves every other word as it was. -/
theorem Hw.word_set_ne (h : Hw) (f : Fld) (v : Nat) {o : Nat} (ho : o ≠ f.word) : (h.set f v).word o = h.word o := by
  simp only [Hw.set, Hw.putBits, Hw.word, Hw.raw, Hw.vmask, Tab.find_set_ne _ _ ho, Tab.find_upd_ne _ _ ho]

/-- A write of a field leaves every field of another word as it was. -/
theorem Hw.get_set_ne (h : Hw) (f g : Fld) (v : Nat) (ho : g.word ≠ f.word) : (h.set f v).get g = h.get g := by
  simp only [Hw.get, Hw.word_set_ne h f v ho]

theorem Hw.flag_set_ne (h : Hw) (f g : Fld) (v : Nat) (ho : g.word ≠ f.word) : (h.set f v).flag g = h.flag g := by
  simp only [Hw.flag, Hw.get_set_ne h f g v ho]

/-- What the word of a field reads after a write of it: the field's bits are the value's, the others are kept. -/
theorem Hw.word_set_same (h : Hw) (f : Fld) (v : Nat) : (h.set f v).word f.word = f.into v (h.word f.word) := by
  simp only [Hw.set, Hw.putBits, Hw.word, Hw.raw, Hw.vmask, Tab.find_set_same, Tab.find_upd_same, Option.getD_some, Fld.into]
  cases h.votes.find? f.word with
  | none => simp
  | some d =>
    simp only [Option.map_some]
    ext i hi
    simp
    grind

/-- A read of a field after a write of it. -/
theorem Hw.get_set_same (h : Hw) (f : Fld) (v : Nat) (hf : f.sh + f.width ≤ 64) : (h.set f v).get f = v % 2 ^ f.width := by
  rw [Hw.get, Hw.word_set_same, Fld.ofWord, Fld.into]
  apply Nat.eq_of_testBit_eq
  intro i
  simp only [Fld.mask, Nat.testBit_mod_two_pow]
  rw [BitVec.testBit_toNat]
  have hn : ¬ f.sh + i < f.sh := by omega
  by_cases hi : i < f.width
  · have hm : (BitVec.ofNat 64 (2 ^ f.width - 1)).getLsbD i = true := by
      rw [BitVec.getLsbD_ofNat, Nat.testBit_two_pow_sub_one]
      simp [hi, show i < 64 by omega]
    simp [- BitVec.getLsbD_eq_getElem, BitVec.getLsbD_ofNat, hi, hn, show i < 64 by omega, show f.sh + i < 64 by omega, Nat.testBit_two_pow_sub_one]
  · have hm : (BitVec.ofNat 64 (2 ^ f.width - 1)).getLsbD i = false := by
      rw [BitVec.getLsbD_ofNat, Nat.testBit_two_pow_sub_one]
      simp [hi]
    simp [hi, hm]

/-- A field fits its width. -/
theorem Hw.get_lt (h : Hw) (f : Fld) (hf : f.sh + f.width ≤ 64) : h.get f < 2 ^ f.width := by
  have h1 : (2 ^ f.width : Nat) ≤ 2 ^ 64 := Nat.pow_le_pow_right (by omega) (by omega)
  have h2 := Nat.two_pow_pos f.width
  have h3 : (((h.word f.word &&& f.mask) >>> f.sh)).toNat < 2 ^ f.width := by
    apply Nat.lt_pow_two_of_testBit
    intro i hi
    rw [BitVec.testBit_toNat]
    simp only [Fld.mask, BitVec.getLsbD_ushiftRight, BitVec.getLsbD_and, BitVec.getLsbD_shiftLeft, BitVec.getLsbD_ofNat, Nat.testBit_two_pow_sub_one]
    simp [show ¬ i < f.width by omega]
  exact h3

@[simp] theorem Hw.set_dom (h : Hw) (f : Fld) (v : Nat) : (h.set f v).dom = h.dom := rfl
@[simp] theorem Hw.set_shut (h : Hw) (f : Fld) (v : Nat) : (h.set f v).shut = h.shut := rfl
@[simp] theorem Hw.set_freeCtr (h : Hw) (f : Fld) (v : Nat) : (h.set f v).freeCtr = h.freeCtr := rfl

end Sys2Proof.Machine
end

