-- ==== Sys2Proof/Laws/Bytes.lean ====
section
/-!
SUPPORT. Laws/Bytes.lean: laws of byte strings: a number written and read back, a field or a slice of a string made of parts.
-/

namespace Sys2Proof.Machine

@[simp] theorem length_natLE (n v : Nat) : (natLE n v).length = n := by
  induction n generalizing v with
  | zero => rfl
  | succ n ih => simp [natLE, ih]

theorem leNat_natLE (n v : Nat) : leNat (natLE n v) = v % 256 ^ n := by
  induction n generalizing v with
  | zero => simp [natLE, leNat, Nat.mod_one]
  | succ n ih =>
    simp only [natLE, leNat, ih, BitVec.toNat_ofNat, Nat.reducePow]
    rw [Nat.pow_succ, Nat.mul_comm (256 ^ n) 256, Nat.mod_mul]

@[simp] theorem length_natBE (n v : Nat) : (natBE n v).length = n := by simp [natBE]

@[simp] theorem length_sha256 (m : Bytes) : (sha256 m).length = 32 := by simp [sha256, List.range_succ]

/-- A field within the first part of a string. -/
theorem fieldLE_append_left {a b : Bytes} {o n : Nat} (h : o + n ≤ a.length) : fieldLE (a ++ b) o n = fieldLE a o n := by
  rw [fieldLE, fieldLE, List.drop_append_of_le_length (by omega), List.take_append_of_le_length (by rw [List.length_drop]; omega)]

/-- A field behind the first part of a string. -/
theorem fieldLE_append_right {a b : Bytes} {o n : Nat} (h : a.length ≤ o) : fieldLE (a ++ b) o n = fieldLE b (o - a.length) n := by
  rw [fieldLE, fieldLE, List.drop_append, List.drop_of_length_le h, List.nil_append]

/-- A slice within the first part of a string. -/
theorem slice_append_left {a b : Bytes} {o n : Nat} (h : o + n ≤ a.length) : slice (a ++ b) o n = slice a o n := by
  rw [slice, slice, List.drop_append_of_le_length (by omega), List.take_append_of_le_length (by rw [List.length_drop]; omega)]

/-- A slice behind the first part of a string. -/
theorem slice_append_right {a b : Bytes} {o n : Nat} (h : a.length ≤ o) : slice (a ++ b) o n = slice b (o - a.length) n := by
  rw [slice, slice, List.drop_append, List.drop_of_length_le h, List.nil_append]

/-- The whole of a string is its slice. -/
theorem slice_self {a : Bytes} {n : Nat} (h : a.length = n) : slice a 0 n = a := by
  rw [slice, List.drop_zero, List.take_of_length_le (by omega), h, Nat.sub_self, List.replicate_zero, List.append_nil]

/-- Past its end a string reads as zeros. -/
theorem slice_past {a : Bytes} {o n : Nat} (h : a.length ≤ o) : slice a o n = List.replicate n 0 := by
  rw [slice, List.drop_of_length_le h, List.take_nil, List.length_nil, Nat.sub_zero, List.nil_append]

end Sys2Proof.Machine
end

