-- ==== Sys2Proof/Laws/State.lean ====
section
/-!
SUPPORT. Laws/State.lean: the fields of the state after a command, one lemma per field, and the shape of every next state.
-/

namespace Sys2Proof.Machine

/-! ### The counter of open values is the one field that stamp changes -/

@[simp] theorem Hw.stamp_regs (h : Hw) (n : Nat) : (h.stamp n).regs = h.regs := rfl
@[simp] theorem Hw.stamp_votes (h : Hw) (n : Nat) : (h.stamp n).votes = h.votes := rfl
@[simp] theorem Hw.stamp_latch (h : Hw) (n : Nat) : (h.stamp n).latch = h.latch := rfl
@[simp] theorem Hw.stamp_heldRt (h : Hw) (n : Nat) : (h.stamp n).heldRt = h.heldRt := rfl
@[simp] theorem Hw.stamp_dom (h : Hw) (n : Nat) : (h.stamp n).dom = h.dom := rfl
@[simp] theorem Hw.stamp_evt (h : Hw) (n : Nat) : (h.stamp n).evt = h.evt := rfl
@[simp] theorem Hw.stamp_shut (h : Hw) (n : Nat) : (h.stamp n).shut = h.shut := rfl
@[simp] theorem Hw.stamp_spad (h : Hw) (n : Nat) : (h.stamp n).spad = h.spad := rfl
@[simp] theorem Hw.stamp_tailor (h : Hw) (n : Nat) : (h.stamp n).tailor = h.tailor := rfl
@[simp] theorem Hw.stamp_hbm (h : Hw) (n : Nat) : (h.stamp n).hbm = h.hbm := rfl
@[simp] theorem Hw.stamp_xl (h : Hw) (n : Nat) : (h.stamp n).xl = h.xl := rfl
@[simp] theorem Hw.stamp_train (h : Hw) (n : Nat) : (h.stamp n).train = h.train := rfl
@[simp] theorem Hw.stamp_opt (h : Hw) (n : Nat) : (h.stamp n).opt = h.opt := rfl
@[simp] theorem Hw.stamp_topo (h : Hw) (n : Nat) : (h.stamp n).topo = h.topo := rfl
@[simp] theorem Hw.stamp_d2d (h : Hw) (n : Nat) : (h.stamp n).d2d = h.d2d := rfl
@[simp] theorem Hw.stamp_bast (h : Hw) (n : Nat) : (h.stamp n).bast = h.bast := rfl
@[simp] theorem Hw.stamp_mb (h : Hw) (n : Nat) : (h.stamp n).mb = h.mb := rfl
@[simp] theorem Hw.stamp_sec (h : Hw) (n : Nat) : (h.stamp n).sec = h.sec := rfl
@[simp] theorem Hw.stamp_sage (h : Hw) (n : Nat) : (h.stamp n).sage = h.sage := rfl
@[simp] theorem Hw.stamp_pcie (h : Hw) (n : Nat) : (h.stamp n).pcie = h.pcie := rfl
@[simp] theorem Hw.stamp_side (h : Hw) (n : Nat) : (h.stamp n).side = h.side := rfl
@[simp] theorem Hw.stamp_sram (h : Hw) (n : Nat) : (h.stamp n).sram = h.sram := rfl
@[simp] theorem Hw.stamp_sramLost (h : Hw) (n : Nat) : (h.stamp n).sramLost = h.sramLost := rfl
@[simp] theorem Hw.stamp_nor (h : Hw) (n : Nat) : (h.stamp n).nor = h.nor := rfl
@[simp] theorem Hw.stamp_rpmc (h : Hw) (n : Nat) : (h.stamp n).rpmc = h.rpmc := rfl
@[simp] theorem Hw.stamp_out (h : Hw) (n : Nat) : (h.stamp n).out = h.out := rfl
@[simp] theorem Hw.stamp_freeCtr (h : Hw) (n : Nat) : (h.stamp n).freeCtr = n := rfl
@[simp] theorem Hw.stamp_get (h : Hw) (n : Nat) (f : Fld) : (h.stamp n).get f = h.get f := rfl
@[simp] theorem Hw.stamp_flag (h : Hw) (n : Nat) (f : Fld) : (h.stamp n).flag f = h.flag f := rfl

/-! ### Every next state -/

/-- A command's next state is known by the hardware it leaves. -/
theorem State.run_eq_to {s : State} {f : Hw → Hw} {t : Hw} (h : f s.hw = t) : s.run f = s.to t := by subst h; rfl

/-- What every command leaves of the queue, and the counter it advances. -/
theorem State.run_next {s t : State} {f : Hw → Hw} (h : s.run f = .next t) :
    t.pending = s.pending ∧ t.hw = (f s.hw).stamp (s.hw.freeCtr + 1) := by
  cases h
  exact ⟨rfl, rfl⟩

end Sys2Proof.Machine
end

