-- ==== Sys2Proof/Laws/Fields.lean ====
section
/-!
SUPPORT. Laws/Fields.lean: what the plainest updates of the hardware leave as it was: one law per update and field.
-/

namespace Sys2Proof.Machine

/-! ### set -/

@[simp] theorem Hw.set_latch (h : Hw) (f : Fld) (v : Nat) : (h.set f v).latch = h.latch := rfl
@[simp] theorem Hw.set_heldRt (h : Hw) (f : Fld) (v : Nat) : (h.set f v).heldRt = h.heldRt := rfl
@[simp] theorem Hw.set_evt (h : Hw) (f : Fld) (v : Nat) : (h.set f v).evt = h.evt := rfl
@[simp] theorem Hw.set_spad (h : Hw) (f : Fld) (v : Nat) : (h.set f v).spad = h.spad := rfl
@[simp] theorem Hw.set_tailor (h : Hw) (f : Fld) (v : Nat) : (h.set f v).tailor = h.tailor := rfl
@[simp] theorem Hw.set_hbm (h : Hw) (f : Fld) (v : Nat) : (h.set f v).hbm = h.hbm := rfl
@[simp] theorem Hw.set_xl (h : Hw) (f : Fld) (v : Nat) : (h.set f v).xl = h.xl := rfl
@[simp] theorem Hw.set_train (h : Hw) (f : Fld) (v : Nat) : (h.set f v).train = h.train := rfl
@[simp] theorem Hw.set_opt (h : Hw) (f : Fld) (v : Nat) : (h.set f v).opt = h.opt := rfl
@[simp] theorem Hw.set_topo (h : Hw) (f : Fld) (v : Nat) : (h.set f v).topo = h.topo := rfl
@[simp] theorem Hw.set_d2d (h : Hw) (f : Fld) (v : Nat) : (h.set f v).d2d = h.d2d := rfl
@[simp] theorem Hw.set_bast (h : Hw) (f : Fld) (v : Nat) : (h.set f v).bast = h.bast := rfl
@[simp] theorem Hw.set_mb (h : Hw) (f : Fld) (v : Nat) : (h.set f v).mb = h.mb := rfl
@[simp] theorem Hw.set_sec (h : Hw) (f : Fld) (v : Nat) : (h.set f v).sec = h.sec := rfl
@[simp] theorem Hw.set_sage (h : Hw) (f : Fld) (v : Nat) : (h.set f v).sage = h.sage := rfl
@[simp] theorem Hw.set_pcie (h : Hw) (f : Fld) (v : Nat) : (h.set f v).pcie = h.pcie := rfl
@[simp] theorem Hw.set_side (h : Hw) (f : Fld) (v : Nat) : (h.set f v).side = h.side := rfl
@[simp] theorem Hw.set_sram (h : Hw) (f : Fld) (v : Nat) : (h.set f v).sram = h.sram := rfl
@[simp] theorem Hw.set_sramLost (h : Hw) (f : Fld) (v : Nat) : (h.set f v).sramLost = h.sramLost := rfl
@[simp] theorem Hw.set_nor (h : Hw) (f : Fld) (v : Nat) : (h.set f v).nor = h.nor := rfl
@[simp] theorem Hw.set_rpmc (h : Hw) (f : Fld) (v : Nat) : (h.set f v).rpmc = h.rpmc := rfl
@[simp] theorem Hw.set_out (h : Hw) (f : Fld) (v : Nat) : (h.set f v).out = h.out := rfl

/-! ### setB -/

@[simp] theorem Hw.setB_latch (h : Hw) (f : Fld) (v : Bool) : (h.setB f v).latch = h.latch := rfl
@[simp] theorem Hw.setB_heldRt (h : Hw) (f : Fld) (v : Bool) : (h.setB f v).heldRt = h.heldRt := rfl
@[simp] theorem Hw.setB_dom (h : Hw) (f : Fld) (v : Bool) : (h.setB f v).dom = h.dom := rfl
@[simp] theorem Hw.setB_evt (h : Hw) (f : Fld) (v : Bool) : (h.setB f v).evt = h.evt := rfl
@[simp] theorem Hw.setB_shut (h : Hw) (f : Fld) (v : Bool) : (h.setB f v).shut = h.shut := rfl
@[simp] theorem Hw.setB_spad (h : Hw) (f : Fld) (v : Bool) : (h.setB f v).spad = h.spad := rfl
@[simp] theorem Hw.setB_tailor (h : Hw) (f : Fld) (v : Bool) : (h.setB f v).tailor = h.tailor := rfl
@[simp] theorem Hw.setB_hbm (h : Hw) (f : Fld) (v : Bool) : (h.setB f v).hbm = h.hbm := rfl
@[simp] theorem Hw.setB_xl (h : Hw) (f : Fld) (v : Bool) : (h.setB f v).xl = h.xl := rfl
@[simp] theorem Hw.setB_train (h : Hw) (f : Fld) (v : Bool) : (h.setB f v).train = h.train := rfl
@[simp] theorem Hw.setB_opt (h : Hw) (f : Fld) (v : Bool) : (h.setB f v).opt = h.opt := rfl
@[simp] theorem Hw.setB_topo (h : Hw) (f : Fld) (v : Bool) : (h.setB f v).topo = h.topo := rfl
@[simp] theorem Hw.setB_d2d (h : Hw) (f : Fld) (v : Bool) : (h.setB f v).d2d = h.d2d := rfl
@[simp] theorem Hw.setB_bast (h : Hw) (f : Fld) (v : Bool) : (h.setB f v).bast = h.bast := rfl
@[simp] theorem Hw.setB_mb (h : Hw) (f : Fld) (v : Bool) : (h.setB f v).mb = h.mb := rfl
@[simp] theorem Hw.setB_sec (h : Hw) (f : Fld) (v : Bool) : (h.setB f v).sec = h.sec := rfl
@[simp] theorem Hw.setB_sage (h : Hw) (f : Fld) (v : Bool) : (h.setB f v).sage = h.sage := rfl
@[simp] theorem Hw.setB_pcie (h : Hw) (f : Fld) (v : Bool) : (h.setB f v).pcie = h.pcie := rfl
@[simp] theorem Hw.setB_side (h : Hw) (f : Fld) (v : Bool) : (h.setB f v).side = h.side := rfl
@[simp] theorem Hw.setB_sram (h : Hw) (f : Fld) (v : Bool) : (h.setB f v).sram = h.sram := rfl
@[simp] theorem Hw.setB_sramLost (h : Hw) (f : Fld) (v : Bool) : (h.setB f v).sramLost = h.sramLost := rfl
@[simp] theorem Hw.setB_nor (h : Hw) (f : Fld) (v : Bool) : (h.setB f v).nor = h.nor := rfl
@[simp] theorem Hw.setB_rpmc (h : Hw) (f : Fld) (v : Bool) : (h.setB f v).rpmc = h.rpmc := rfl
@[simp] theorem Hw.setB_out (h : Hw) (f : Fld) (v : Bool) : (h.setB f v).out = h.out := rfl
@[simp] theorem Hw.setB_freeCtr (h : Hw) (f : Fld) (v : Bool) : (h.setB f v).freeCtr = h.freeCtr := rfl

/-! ### setWord -/

@[simp] theorem Hw.setWord_latch (h : Hw) (o : Nat) (w : Word64) : (h.setWord o w).latch = h.latch := rfl
@[simp] theorem Hw.setWord_heldRt (h : Hw) (o : Nat) (w : Word64) : (h.setWord o w).heldRt = h.heldRt := rfl
@[simp] theorem Hw.setWord_dom (h : Hw) (o : Nat) (w : Word64) : (h.setWord o w).dom = h.dom := rfl
@[simp] theorem Hw.setWord_evt (h : Hw) (o : Nat) (w : Word64) : (h.setWord o w).evt = h.evt := rfl
@[simp] theorem Hw.setWord_shut (h : Hw) (o : Nat) (w : Word64) : (h.setWord o w).shut = h.shut := rfl
@[simp] theorem Hw.setWord_spad (h : Hw) (o : Nat) (w : Word64) : (h.setWord o w).spad = h.spad := rfl
@[simp] theorem Hw.setWord_tailor (h : Hw) (o : Nat) (w : Word64) : (h.setWord o w).tailor = h.tailor := rfl
@[simp] theorem Hw.setWord_hbm (h : Hw) (o : Nat) (w : Word64) : (h.setWord o w).hbm = h.hbm := rfl
@[simp] theorem Hw.setWord_xl (h : Hw) (o : Nat) (w : Word64) : (h.setWord o w).xl = h.xl := rfl
@[simp] theorem Hw.setWord_train (h : Hw) (o : Nat) (w : Word64) : (h.setWord o w).train = h.train := rfl
@[simp] theorem Hw.setWord_opt (h : Hw) (o : Nat) (w : Word64) : (h.setWord o w).opt = h.opt := rfl
@[simp] theorem Hw.setWord_topo (h : Hw) (o : Nat) (w : Word64) : (h.setWord o w).topo = h.topo := rfl
@[simp] theorem Hw.setWord_d2d (h : Hw) (o : Nat) (w : Word64) : (h.setWord o w).d2d = h.d2d := rfl
@[simp] theorem Hw.setWord_bast (h : Hw) (o : Nat) (w : Word64) : (h.setWord o w).bast = h.bast := rfl
@[simp] theorem Hw.setWord_mb (h : Hw) (o : Nat) (w : Word64) : (h.setWord o w).mb = h.mb := rfl
@[simp] theorem Hw.setWord_sec (h : Hw) (o : Nat) (w : Word64) : (h.setWord o w).sec = h.sec := rfl
@[simp] theorem Hw.setWord_sage (h : Hw) (o : Nat) (w : Word64) : (h.setWord o w).sage = h.sage := rfl
@[simp] theorem Hw.setWord_pcie (h : Hw) (o : Nat) (w : Word64) : (h.setWord o w).pcie = h.pcie := rfl
@[simp] theorem Hw.setWord_side (h : Hw) (o : Nat) (w : Word64) : (h.setWord o w).side = h.side := rfl
@[simp] theorem Hw.setWord_sram (h : Hw) (o : Nat) (w : Word64) : (h.setWord o w).sram = h.sram := rfl
@[simp] theorem Hw.setWord_sramLost (h : Hw) (o : Nat) (w : Word64) : (h.setWord o w).sramLost = h.sramLost := rfl
@[simp] theorem Hw.setWord_nor (h : Hw) (o : Nat) (w : Word64) : (h.setWord o w).nor = h.nor := rfl
@[simp] theorem Hw.setWord_rpmc (h : Hw) (o : Nat) (w : Word64) : (h.setWord o w).rpmc = h.rpmc := rfl
@[simp] theorem Hw.setWord_out (h : Hw) (o : Nat) (w : Word64) : (h.setWord o w).out = h.out := rfl
@[simp] theorem Hw.setWord_freeCtr (h : Hw) (o : Nat) (w : Word64) : (h.setWord o w).freeCtr = h.freeCtr := rfl

/-! ### inc -/

@[simp] theorem Hw.inc_latch (h : Hw) (f : Fld) (n : Nat) : (h.inc f n).latch = h.latch := rfl
@[simp] theorem Hw.inc_heldRt (h : Hw) (f : Fld) (n : Nat) : (h.inc f n).heldRt = h.heldRt := rfl
@[simp] theorem Hw.inc_dom (h : Hw) (f : Fld) (n : Nat) : (h.inc f n).dom = h.dom := rfl
@[simp] theorem Hw.inc_evt (h : Hw) (f : Fld) (n : Nat) : (h.inc f n).evt = h.evt := rfl
@[simp] theorem Hw.inc_shut (h : Hw) (f : Fld) (n : Nat) : (h.inc f n).shut = h.shut := rfl
@[simp] theorem Hw.inc_spad (h : Hw) (f : Fld) (n : Nat) : (h.inc f n).spad = h.spad := rfl
@[simp] theorem Hw.inc_tailor (h : Hw) (f : Fld) (n : Nat) : (h.inc f n).tailor = h.tailor := rfl
@[simp] theorem Hw.inc_hbm (h : Hw) (f : Fld) (n : Nat) : (h.inc f n).hbm = h.hbm := rfl
@[simp] theorem Hw.inc_xl (h : Hw) (f : Fld) (n : Nat) : (h.inc f n).xl = h.xl := rfl
@[simp] theorem Hw.inc_train (h : Hw) (f : Fld) (n : Nat) : (h.inc f n).train = h.train := rfl
@[simp] theorem Hw.inc_opt (h : Hw) (f : Fld) (n : Nat) : (h.inc f n).opt = h.opt := rfl
@[simp] theorem Hw.inc_topo (h : Hw) (f : Fld) (n : Nat) : (h.inc f n).topo = h.topo := rfl
@[simp] theorem Hw.inc_d2d (h : Hw) (f : Fld) (n : Nat) : (h.inc f n).d2d = h.d2d := rfl
@[simp] theorem Hw.inc_bast (h : Hw) (f : Fld) (n : Nat) : (h.inc f n).bast = h.bast := rfl
@[simp] theorem Hw.inc_mb (h : Hw) (f : Fld) (n : Nat) : (h.inc f n).mb = h.mb := rfl
@[simp] theorem Hw.inc_sec (h : Hw) (f : Fld) (n : Nat) : (h.inc f n).sec = h.sec := rfl
@[simp] theorem Hw.inc_sage (h : Hw) (f : Fld) (n : Nat) : (h.inc f n).sage = h.sage := rfl
@[simp] theorem Hw.inc_pcie (h : Hw) (f : Fld) (n : Nat) : (h.inc f n).pcie = h.pcie := rfl
@[simp] theorem Hw.inc_side (h : Hw) (f : Fld) (n : Nat) : (h.inc f n).side = h.side := rfl
@[simp] theorem Hw.inc_sram (h : Hw) (f : Fld) (n : Nat) : (h.inc f n).sram = h.sram := rfl
@[simp] theorem Hw.inc_sramLost (h : Hw) (f : Fld) (n : Nat) : (h.inc f n).sramLost = h.sramLost := rfl
@[simp] theorem Hw.inc_nor (h : Hw) (f : Fld) (n : Nat) : (h.inc f n).nor = h.nor := rfl
@[simp] theorem Hw.inc_rpmc (h : Hw) (f : Fld) (n : Nat) : (h.inc f n).rpmc = h.rpmc := rfl
@[simp] theorem Hw.inc_out (h : Hw) (f : Fld) (n : Nat) : (h.inc f n).out = h.out := rfl
@[simp] theorem Hw.inc_freeCtr (h : Hw) (f : Fld) (n : Nat) : (h.inc f n).freeCtr = h.freeCtr := rfl

/-! ### updQ -/

@[simp] theorem Hw.updQ_regs (h : Hw) (q : Nat) (f : QSt → QSt) : (h.updQ q f).regs = h.regs := rfl
@[simp] theorem Hw.updQ_votes (h : Hw) (q : Nat) (f : QSt → QSt) : (h.updQ q f).votes = h.votes := rfl
@[simp] theorem Hw.updQ_latch (h : Hw) (q : Nat) (f : QSt → QSt) : (h.updQ q f).latch = h.latch := rfl
@[simp] theorem Hw.updQ_heldRt (h : Hw) (q : Nat) (f : QSt → QSt) : (h.updQ q f).heldRt = h.heldRt := rfl
@[simp] theorem Hw.updQ_dom (h : Hw) (q : Nat) (f : QSt → QSt) : (h.updQ q f).dom = h.dom := rfl
@[simp] theorem Hw.updQ_evt (h : Hw) (q : Nat) (f : QSt → QSt) : (h.updQ q f).evt = h.evt := rfl
@[simp] theorem Hw.updQ_spad (h : Hw) (q : Nat) (f : QSt → QSt) : (h.updQ q f).spad = h.spad := rfl
@[simp] theorem Hw.updQ_tailor (h : Hw) (q : Nat) (f : QSt → QSt) : (h.updQ q f).tailor = h.tailor := rfl
@[simp] theorem Hw.updQ_hbm (h : Hw) (q : Nat) (f : QSt → QSt) : (h.updQ q f).hbm = h.hbm := rfl
@[simp] theorem Hw.updQ_xl (h : Hw) (q : Nat) (f : QSt → QSt) : (h.updQ q f).xl = h.xl := rfl
@[simp] theorem Hw.updQ_train (h : Hw) (q : Nat) (f : QSt → QSt) : (h.updQ q f).train = h.train := rfl
@[simp] theorem Hw.updQ_opt (h : Hw) (q : Nat) (f : QSt → QSt) : (h.updQ q f).opt = h.opt := rfl
@[simp] theorem Hw.updQ_topo (h : Hw) (q : Nat) (f : QSt → QSt) : (h.updQ q f).topo = h.topo := rfl
@[simp] theorem Hw.updQ_d2d (h : Hw) (q : Nat) (f : QSt → QSt) : (h.updQ q f).d2d = h.d2d := rfl
@[simp] theorem Hw.updQ_bast (h : Hw) (q : Nat) (f : QSt → QSt) : (h.updQ q f).bast = h.bast := rfl
@[simp] theorem Hw.updQ_mb (h : Hw) (q : Nat) (f : QSt → QSt) : (h.updQ q f).mb = h.mb := rfl
@[simp] theorem Hw.updQ_sec (h : Hw) (q : Nat) (f : QSt → QSt) : (h.updQ q f).sec = h.sec := rfl
@[simp] theorem Hw.updQ_sage (h : Hw) (q : Nat) (f : QSt → QSt) : (h.updQ q f).sage = h.sage := rfl
@[simp] theorem Hw.updQ_pcie (h : Hw) (q : Nat) (f : QSt → QSt) : (h.updQ q f).pcie = h.pcie := rfl
@[simp] theorem Hw.updQ_side (h : Hw) (q : Nat) (f : QSt → QSt) : (h.updQ q f).side = h.side := rfl
@[simp] theorem Hw.updQ_sram (h : Hw) (q : Nat) (f : QSt → QSt) : (h.updQ q f).sram = h.sram := rfl
@[simp] theorem Hw.updQ_sramLost (h : Hw) (q : Nat) (f : QSt → QSt) : (h.updQ q f).sramLost = h.sramLost := rfl
@[simp] theorem Hw.updQ_nor (h : Hw) (q : Nat) (f : QSt → QSt) : (h.updQ q f).nor = h.nor := rfl
@[simp] theorem Hw.updQ_rpmc (h : Hw) (q : Nat) (f : QSt → QSt) : (h.updQ q f).rpmc = h.rpmc := rfl
@[simp] theorem Hw.updQ_out (h : Hw) (q : Nat) (f : QSt → QSt) : (h.updQ q f).out = h.out := rfl
@[simp] theorem Hw.updQ_freeCtr (h : Hw) (q : Nat) (f : QSt → QSt) : (h.updQ q f).freeCtr = h.freeCtr := rfl

/-! ### updCtx -/

@[simp] theorem Hw.updCtx_regs (h : Hw) (c : Nat) (f : Ctx → Ctx) : (h.updCtx c f).regs = h.regs := rfl
@[simp] theorem Hw.updCtx_votes (h : Hw) (c : Nat) (f : Ctx → Ctx) : (h.updCtx c f).votes = h.votes := rfl
@[simp] theorem Hw.updCtx_latch (h : Hw) (c : Nat) (f : Ctx → Ctx) : (h.updCtx c f).latch = h.latch := rfl
@[simp] theorem Hw.updCtx_heldRt (h : Hw) (c : Nat) (f : Ctx → Ctx) : (h.updCtx c f).heldRt = h.heldRt := rfl
@[simp] theorem Hw.updCtx_dom (h : Hw) (c : Nat) (f : Ctx → Ctx) : (h.updCtx c f).dom = h.dom := rfl
@[simp] theorem Hw.updCtx_evt (h : Hw) (c : Nat) (f : Ctx → Ctx) : (h.updCtx c f).evt = h.evt := rfl
@[simp] theorem Hw.updCtx_spad (h : Hw) (c : Nat) (f : Ctx → Ctx) : (h.updCtx c f).spad = h.spad := rfl
@[simp] theorem Hw.updCtx_tailor (h : Hw) (c : Nat) (f : Ctx → Ctx) : (h.updCtx c f).tailor = h.tailor := rfl
@[simp] theorem Hw.updCtx_hbm (h : Hw) (c : Nat) (f : Ctx → Ctx) : (h.updCtx c f).hbm = h.hbm := rfl
@[simp] theorem Hw.updCtx_xl (h : Hw) (c : Nat) (f : Ctx → Ctx) : (h.updCtx c f).xl = h.xl := rfl
@[simp] theorem Hw.updCtx_train (h : Hw) (c : Nat) (f : Ctx → Ctx) : (h.updCtx c f).train = h.train := rfl
@[simp] theorem Hw.updCtx_opt (h : Hw) (c : Nat) (f : Ctx → Ctx) : (h.updCtx c f).opt = h.opt := rfl
@[simp] theorem Hw.updCtx_topo (h : Hw) (c : Nat) (f : Ctx → Ctx) : (h.updCtx c f).topo = h.topo := rfl
@[simp] theorem Hw.updCtx_d2d (h : Hw) (c : Nat) (f : Ctx → Ctx) : (h.updCtx c f).d2d = h.d2d := rfl
@[simp] theorem Hw.updCtx_bast (h : Hw) (c : Nat) (f : Ctx → Ctx) : (h.updCtx c f).bast = h.bast := rfl
@[simp] theorem Hw.updCtx_mb (h : Hw) (c : Nat) (f : Ctx → Ctx) : (h.updCtx c f).mb = h.mb := rfl
@[simp] theorem Hw.updCtx_sec (h : Hw) (c : Nat) (f : Ctx → Ctx) : (h.updCtx c f).sec = h.sec := rfl
@[simp] theorem Hw.updCtx_sage (h : Hw) (c : Nat) (f : Ctx → Ctx) : (h.updCtx c f).sage = h.sage := rfl
@[simp] theorem Hw.updCtx_pcie (h : Hw) (c : Nat) (f : Ctx → Ctx) : (h.updCtx c f).pcie = h.pcie := rfl
@[simp] theorem Hw.updCtx_side (h : Hw) (c : Nat) (f : Ctx → Ctx) : (h.updCtx c f).side = h.side := rfl
@[simp] theorem Hw.updCtx_sram (h : Hw) (c : Nat) (f : Ctx → Ctx) : (h.updCtx c f).sram = h.sram := rfl
@[simp] theorem Hw.updCtx_sramLost (h : Hw) (c : Nat) (f : Ctx → Ctx) : (h.updCtx c f).sramLost = h.sramLost := rfl
@[simp] theorem Hw.updCtx_nor (h : Hw) (c : Nat) (f : Ctx → Ctx) : (h.updCtx c f).nor = h.nor := rfl
@[simp] theorem Hw.updCtx_rpmc (h : Hw) (c : Nat) (f : Ctx → Ctx) : (h.updCtx c f).rpmc = h.rpmc := rfl
@[simp] theorem Hw.updCtx_out (h : Hw) (c : Nat) (f : Ctx → Ctx) : (h.updCtx c f).out = h.out := rfl
@[simp] theorem Hw.updCtx_freeCtr (h : Hw) (c : Nat) (f : Ctx → Ctx) : (h.updCtx c f).freeCtr = h.freeCtr := rfl

/-! ### updEnt -/

@[simp] theorem Hw.updEnt_regs (h : Hw) (c i : Nat) (f : Ent → Ent) : (h.updEnt c i f).regs = h.regs := rfl
@[simp] theorem Hw.updEnt_votes (h : Hw) (c i : Nat) (f : Ent → Ent) : (h.updEnt c i f).votes = h.votes := rfl
@[simp] theorem Hw.updEnt_latch (h : Hw) (c i : Nat) (f : Ent → Ent) : (h.updEnt c i f).latch = h.latch := rfl
@[simp] theorem Hw.updEnt_heldRt (h : Hw) (c i : Nat) (f : Ent → Ent) : (h.updEnt c i f).heldRt = h.heldRt := rfl
@[simp] theorem Hw.updEnt_dom (h : Hw) (c i : Nat) (f : Ent → Ent) : (h.updEnt c i f).dom = h.dom := rfl
@[simp] theorem Hw.updEnt_evt (h : Hw) (c i : Nat) (f : Ent → Ent) : (h.updEnt c i f).evt = h.evt := rfl
@[simp] theorem Hw.updEnt_spad (h : Hw) (c i : Nat) (f : Ent → Ent) : (h.updEnt c i f).spad = h.spad := rfl
@[simp] theorem Hw.updEnt_tailor (h : Hw) (c i : Nat) (f : Ent → Ent) : (h.updEnt c i f).tailor = h.tailor := rfl
@[simp] theorem Hw.updEnt_hbm (h : Hw) (c i : Nat) (f : Ent → Ent) : (h.updEnt c i f).hbm = h.hbm := rfl
@[simp] theorem Hw.updEnt_xl (h : Hw) (c i : Nat) (f : Ent → Ent) : (h.updEnt c i f).xl = h.xl := rfl
@[simp] theorem Hw.updEnt_train (h : Hw) (c i : Nat) (f : Ent → Ent) : (h.updEnt c i f).train = h.train := rfl
@[simp] theorem Hw.updEnt_opt (h : Hw) (c i : Nat) (f : Ent → Ent) : (h.updEnt c i f).opt = h.opt := rfl
@[simp] theorem Hw.updEnt_topo (h : Hw) (c i : Nat) (f : Ent → Ent) : (h.updEnt c i f).topo = h.topo := rfl
@[simp] theorem Hw.updEnt_d2d (h : Hw) (c i : Nat) (f : Ent → Ent) : (h.updEnt c i f).d2d = h.d2d := rfl
@[simp] theorem Hw.updEnt_bast (h : Hw) (c i : Nat) (f : Ent → Ent) : (h.updEnt c i f).bast = h.bast := rfl
@[simp] theorem Hw.updEnt_mb (h : Hw) (c i : Nat) (f : Ent → Ent) : (h.updEnt c i f).mb = h.mb := rfl
@[simp] theorem Hw.updEnt_sec (h : Hw) (c i : Nat) (f : Ent → Ent) : (h.updEnt c i f).sec = h.sec := rfl
@[simp] theorem Hw.updEnt_sage (h : Hw) (c i : Nat) (f : Ent → Ent) : (h.updEnt c i f).sage = h.sage := rfl
@[simp] theorem Hw.updEnt_pcie (h : Hw) (c i : Nat) (f : Ent → Ent) : (h.updEnt c i f).pcie = h.pcie := rfl
@[simp] theorem Hw.updEnt_side (h : Hw) (c i : Nat) (f : Ent → Ent) : (h.updEnt c i f).side = h.side := rfl
@[simp] theorem Hw.updEnt_sram (h : Hw) (c i : Nat) (f : Ent → Ent) : (h.updEnt c i f).sram = h.sram := rfl
@[simp] theorem Hw.updEnt_sramLost (h : Hw) (c i : Nat) (f : Ent → Ent) : (h.updEnt c i f).sramLost = h.sramLost := rfl
@[simp] theorem Hw.updEnt_nor (h : Hw) (c i : Nat) (f : Ent → Ent) : (h.updEnt c i f).nor = h.nor := rfl
@[simp] theorem Hw.updEnt_rpmc (h : Hw) (c i : Nat) (f : Ent → Ent) : (h.updEnt c i f).rpmc = h.rpmc := rfl
@[simp] theorem Hw.updEnt_out (h : Hw) (c i : Nat) (f : Ent → Ent) : (h.updEnt c i f).out = h.out := rfl
@[simp] theorem Hw.updEnt_freeCtr (h : Hw) (c i : Nat) (f : Ent → Ent) : (h.updEnt c i f).freeCtr = h.freeCtr := rfl

/-! ### updLk -/

@[simp] theorem Hw.updLk_regs (h : Hw) (l : Nat) (f : LinkSt → LinkSt) : (h.updLk l f).regs = h.regs := rfl
@[simp] theorem Hw.updLk_votes (h : Hw) (l : Nat) (f : LinkSt → LinkSt) : (h.updLk l f).votes = h.votes := rfl
@[simp] theorem Hw.updLk_latch (h : Hw) (l : Nat) (f : LinkSt → LinkSt) : (h.updLk l f).latch = h.latch := rfl
@[simp] theorem Hw.updLk_heldRt (h : Hw) (l : Nat) (f : LinkSt → LinkSt) : (h.updLk l f).heldRt = h.heldRt := rfl
@[simp] theorem Hw.updLk_dom (h : Hw) (l : Nat) (f : LinkSt → LinkSt) : (h.updLk l f).dom = h.dom := rfl
@[simp] theorem Hw.updLk_evt (h : Hw) (l : Nat) (f : LinkSt → LinkSt) : (h.updLk l f).evt = h.evt := rfl
@[simp] theorem Hw.updLk_shut (h : Hw) (l : Nat) (f : LinkSt → LinkSt) : (h.updLk l f).shut = h.shut := rfl
@[simp] theorem Hw.updLk_spad (h : Hw) (l : Nat) (f : LinkSt → LinkSt) : (h.updLk l f).spad = h.spad := rfl
@[simp] theorem Hw.updLk_tailor (h : Hw) (l : Nat) (f : LinkSt → LinkSt) : (h.updLk l f).tailor = h.tailor := rfl
@[simp] theorem Hw.updLk_hbm (h : Hw) (l : Nat) (f : LinkSt → LinkSt) : (h.updLk l f).hbm = h.hbm := rfl
@[simp] theorem Hw.updLk_xl (h : Hw) (l : Nat) (f : LinkSt → LinkSt) : (h.updLk l f).xl = h.xl := rfl
@[simp] theorem Hw.updLk_train (h : Hw) (l : Nat) (f : LinkSt → LinkSt) : (h.updLk l f).train = h.train := rfl
@[simp] theorem Hw.updLk_topo (h : Hw) (l : Nat) (f : LinkSt → LinkSt) : (h.updLk l f).topo = h.topo := rfl
@[simp] theorem Hw.updLk_d2d (h : Hw) (l : Nat) (f : LinkSt → LinkSt) : (h.updLk l f).d2d = h.d2d := rfl
@[simp] theorem Hw.updLk_bast (h : Hw) (l : Nat) (f : LinkSt → LinkSt) : (h.updLk l f).bast = h.bast := rfl
@[simp] theorem Hw.updLk_mb (h : Hw) (l : Nat) (f : LinkSt → LinkSt) : (h.updLk l f).mb = h.mb := rfl
@[simp] theorem Hw.updLk_sec (h : Hw) (l : Nat) (f : LinkSt → LinkSt) : (h.updLk l f).sec = h.sec := rfl
@[simp] theorem Hw.updLk_sage (h : Hw) (l : Nat) (f : LinkSt → LinkSt) : (h.updLk l f).sage = h.sage := rfl
@[simp] theorem Hw.updLk_pcie (h : Hw) (l : Nat) (f : LinkSt → LinkSt) : (h.updLk l f).pcie = h.pcie := rfl
@[simp] theorem Hw.updLk_side (h : Hw) (l : Nat) (f : LinkSt → LinkSt) : (h.updLk l f).side = h.side := rfl
@[simp] theorem Hw.updLk_sram (h : Hw) (l : Nat) (f : LinkSt → LinkSt) : (h.updLk l f).sram = h.sram := rfl
@[simp] theorem Hw.updLk_sramLost (h : Hw) (l : Nat) (f : LinkSt → LinkSt) : (h.updLk l f).sramLost = h.sramLost := rfl
@[simp] theorem Hw.updLk_nor (h : Hw) (l : Nat) (f : LinkSt → LinkSt) : (h.updLk l f).nor = h.nor := rfl
@[simp] theorem Hw.updLk_rpmc (h : Hw) (l : Nat) (f : LinkSt → LinkSt) : (h.updLk l f).rpmc = h.rpmc := rfl
@[simp] theorem Hw.updLk_out (h : Hw) (l : Nat) (f : LinkSt → LinkSt) : (h.updLk l f).out = h.out := rfl
@[simp] theorem Hw.updLk_freeCtr (h : Hw) (l : Nat) (f : LinkSt → LinkSt) : (h.updLk l f).freeCtr = h.freeCtr := rfl

/-! ### updEye -/

@[simp] theorem Hw.updEye_regs (h : Hw) (e : Nat) (f : EyeSt → EyeSt) : (h.updEye e f).regs = h.regs := rfl
@[simp] theorem Hw.updEye_votes (h : Hw) (e : Nat) (f : EyeSt → EyeSt) : (h.updEye e f).votes = h.votes := rfl
@[simp] theorem Hw.updEye_latch (h : Hw) (e : Nat) (f : EyeSt → EyeSt) : (h.updEye e f).latch = h.latch := rfl
@[simp] theorem Hw.updEye_heldRt (h : Hw) (e : Nat) (f : EyeSt → EyeSt) : (h.updEye e f).heldRt = h.heldRt := rfl
@[simp] theorem Hw.updEye_dom (h : Hw) (e : Nat) (f : EyeSt → EyeSt) : (h.updEye e f).dom = h.dom := rfl
@[simp] theorem Hw.updEye_evt (h : Hw) (e : Nat) (f : EyeSt → EyeSt) : (h.updEye e f).evt = h.evt := rfl
@[simp] theorem Hw.updEye_shut (h : Hw) (e : Nat) (f : EyeSt → EyeSt) : (h.updEye e f).shut = h.shut := rfl
@[simp] theorem Hw.updEye_spad (h : Hw) (e : Nat) (f : EyeSt → EyeSt) : (h.updEye e f).spad = h.spad := rfl
@[simp] theorem Hw.updEye_tailor (h : Hw) (e : Nat) (f : EyeSt → EyeSt) : (h.updEye e f).tailor = h.tailor := rfl
@[simp] theorem Hw.updEye_hbm (h : Hw) (e : Nat) (f : EyeSt → EyeSt) : (h.updEye e f).hbm = h.hbm := rfl
@[simp] theorem Hw.updEye_xl (h : Hw) (e : Nat) (f : EyeSt → EyeSt) : (h.updEye e f).xl = h.xl := rfl
@[simp] theorem Hw.updEye_train (h : Hw) (e : Nat) (f : EyeSt → EyeSt) : (h.updEye e f).train = h.train := rfl
@[simp] theorem Hw.updEye_topo (h : Hw) (e : Nat) (f : EyeSt → EyeSt) : (h.updEye e f).topo = h.topo := rfl
@[simp] theorem Hw.updEye_d2d (h : Hw) (e : Nat) (f : EyeSt → EyeSt) : (h.updEye e f).d2d = h.d2d := rfl
@[simp] theorem Hw.updEye_bast (h : Hw) (e : Nat) (f : EyeSt → EyeSt) : (h.updEye e f).bast = h.bast := rfl
@[simp] theorem Hw.updEye_mb (h : Hw) (e : Nat) (f : EyeSt → EyeSt) : (h.updEye e f).mb = h.mb := rfl
@[simp] theorem Hw.updEye_sec (h : Hw) (e : Nat) (f : EyeSt → EyeSt) : (h.updEye e f).sec = h.sec := rfl
@[simp] theorem Hw.updEye_sage (h : Hw) (e : Nat) (f : EyeSt → EyeSt) : (h.updEye e f).sage = h.sage := rfl
@[simp] theorem Hw.updEye_pcie (h : Hw) (e : Nat) (f : EyeSt → EyeSt) : (h.updEye e f).pcie = h.pcie := rfl
@[simp] theorem Hw.updEye_side (h : Hw) (e : Nat) (f : EyeSt → EyeSt) : (h.updEye e f).side = h.side := rfl
@[simp] theorem Hw.updEye_sram (h : Hw) (e : Nat) (f : EyeSt → EyeSt) : (h.updEye e f).sram = h.sram := rfl
@[simp] theorem Hw.updEye_sramLost (h : Hw) (e : Nat) (f : EyeSt → EyeSt) : (h.updEye e f).sramLost = h.sramLost := rfl
@[simp] theorem Hw.updEye_nor (h : Hw) (e : Nat) (f : EyeSt → EyeSt) : (h.updEye e f).nor = h.nor := rfl
@[simp] theorem Hw.updEye_rpmc (h : Hw) (e : Nat) (f : EyeSt → EyeSt) : (h.updEye e f).rpmc = h.rpmc := rfl
@[simp] theorem Hw.updEye_out (h : Hw) (e : Nat) (f : EyeSt → EyeSt) : (h.updEye e f).out = h.out := rfl
@[simp] theorem Hw.updEye_freeCtr (h : Hw) (e : Nat) (f : EyeSt → EyeSt) : (h.updEye e f).freeCtr = h.freeCtr := rfl

/-! ### updChan -/

@[simp] theorem Hw.updChan_regs (h : Hw) (c : Nat) (f : Chan → Chan) : (h.updChan c f).regs = h.regs := rfl
@[simp] theorem Hw.updChan_votes (h : Hw) (c : Nat) (f : Chan → Chan) : (h.updChan c f).votes = h.votes := rfl
@[simp] theorem Hw.updChan_latch (h : Hw) (c : Nat) (f : Chan → Chan) : (h.updChan c f).latch = h.latch := rfl
@[simp] theorem Hw.updChan_heldRt (h : Hw) (c : Nat) (f : Chan → Chan) : (h.updChan c f).heldRt = h.heldRt := rfl
@[simp] theorem Hw.updChan_dom (h : Hw) (c : Nat) (f : Chan → Chan) : (h.updChan c f).dom = h.dom := rfl
@[simp] theorem Hw.updChan_evt (h : Hw) (c : Nat) (f : Chan → Chan) : (h.updChan c f).evt = h.evt := rfl
@[simp] theorem Hw.updChan_shut (h : Hw) (c : Nat) (f : Chan → Chan) : (h.updChan c f).shut = h.shut := rfl
@[simp] theorem Hw.updChan_spad (h : Hw) (c : Nat) (f : Chan → Chan) : (h.updChan c f).spad = h.spad := rfl
@[simp] theorem Hw.updChan_tailor (h : Hw) (c : Nat) (f : Chan → Chan) : (h.updChan c f).tailor = h.tailor := rfl
@[simp] theorem Hw.updChan_hbm (h : Hw) (c : Nat) (f : Chan → Chan) : (h.updChan c f).hbm = h.hbm := rfl
@[simp] theorem Hw.updChan_xl (h : Hw) (c : Nat) (f : Chan → Chan) : (h.updChan c f).xl = h.xl := rfl
@[simp] theorem Hw.updChan_train (h : Hw) (c : Nat) (f : Chan → Chan) : (h.updChan c f).train = h.train := rfl
@[simp] theorem Hw.updChan_opt (h : Hw) (c : Nat) (f : Chan → Chan) : (h.updChan c f).opt = h.opt := rfl
@[simp] theorem Hw.updChan_topo (h : Hw) (c : Nat) (f : Chan → Chan) : (h.updChan c f).topo = h.topo := rfl
@[simp] theorem Hw.updChan_d2d (h : Hw) (c : Nat) (f : Chan → Chan) : (h.updChan c f).d2d = h.d2d := rfl
@[simp] theorem Hw.updChan_bast (h : Hw) (c : Nat) (f : Chan → Chan) : (h.updChan c f).bast = h.bast := rfl
@[simp] theorem Hw.updChan_sec (h : Hw) (c : Nat) (f : Chan → Chan) : (h.updChan c f).sec = h.sec := rfl
@[simp] theorem Hw.updChan_sage (h : Hw) (c : Nat) (f : Chan → Chan) : (h.updChan c f).sage = h.sage := rfl
@[simp] theorem Hw.updChan_pcie (h : Hw) (c : Nat) (f : Chan → Chan) : (h.updChan c f).pcie = h.pcie := rfl
@[simp] theorem Hw.updChan_side (h : Hw) (c : Nat) (f : Chan → Chan) : (h.updChan c f).side = h.side := rfl
@[simp] theorem Hw.updChan_sram (h : Hw) (c : Nat) (f : Chan → Chan) : (h.updChan c f).sram = h.sram := rfl
@[simp] theorem Hw.updChan_sramLost (h : Hw) (c : Nat) (f : Chan → Chan) : (h.updChan c f).sramLost = h.sramLost := rfl
@[simp] theorem Hw.updChan_nor (h : Hw) (c : Nat) (f : Chan → Chan) : (h.updChan c f).nor = h.nor := rfl
@[simp] theorem Hw.updChan_rpmc (h : Hw) (c : Nat) (f : Chan → Chan) : (h.updChan c f).rpmc = h.rpmc := rfl
@[simp] theorem Hw.updChan_out (h : Hw) (c : Nat) (f : Chan → Chan) : (h.updChan c f).out = h.out := rfl
@[simp] theorem Hw.updChan_freeCtr (h : Hw) (c : Nat) (f : Chan → Chan) : (h.updChan c f).freeCtr = h.freeCtr := rfl

/-! ### updObj -/

@[simp] theorem Hw.updObj_regs (h : Hw) (n : Nat) (f : Obj → Obj) : (h.updObj n f).regs = h.regs := rfl
@[simp] theorem Hw.updObj_votes (h : Hw) (n : Nat) (f : Obj → Obj) : (h.updObj n f).votes = h.votes := rfl
@[simp] theorem Hw.updObj_latch (h : Hw) (n : Nat) (f : Obj → Obj) : (h.updObj n f).latch = h.latch := rfl
@[simp] theorem Hw.updObj_heldRt (h : Hw) (n : Nat) (f : Obj → Obj) : (h.updObj n f).heldRt = h.heldRt := rfl
@[simp] theorem Hw.updObj_dom (h : Hw) (n : Nat) (f : Obj → Obj) : (h.updObj n f).dom = h.dom := rfl
@[simp] theorem Hw.updObj_evt (h : Hw) (n : Nat) (f : Obj → Obj) : (h.updObj n f).evt = h.evt := rfl
@[simp] theorem Hw.updObj_shut (h : Hw) (n : Nat) (f : Obj → Obj) : (h.updObj n f).shut = h.shut := rfl
@[simp] theorem Hw.updObj_spad (h : Hw) (n : Nat) (f : Obj → Obj) : (h.updObj n f).spad = h.spad := rfl
@[simp] theorem Hw.updObj_hbm (h : Hw) (n : Nat) (f : Obj → Obj) : (h.updObj n f).hbm = h.hbm := rfl
@[simp] theorem Hw.updObj_xl (h : Hw) (n : Nat) (f : Obj → Obj) : (h.updObj n f).xl = h.xl := rfl
@[simp] theorem Hw.updObj_train (h : Hw) (n : Nat) (f : Obj → Obj) : (h.updObj n f).train = h.train := rfl
@[simp] theorem Hw.updObj_opt (h : Hw) (n : Nat) (f : Obj → Obj) : (h.updObj n f).opt = h.opt := rfl
@[simp] theorem Hw.updObj_topo (h : Hw) (n : Nat) (f : Obj → Obj) : (h.updObj n f).topo = h.topo := rfl
@[simp] theorem Hw.updObj_d2d (h : Hw) (n : Nat) (f : Obj → Obj) : (h.updObj n f).d2d = h.d2d := rfl
@[simp] theorem Hw.updObj_bast (h : Hw) (n : Nat) (f : Obj → Obj) : (h.updObj n f).bast = h.bast := rfl
@[simp] theorem Hw.updObj_mb (h : Hw) (n : Nat) (f : Obj → Obj) : (h.updObj n f).mb = h.mb := rfl
@[simp] theorem Hw.updObj_sec (h : Hw) (n : Nat) (f : Obj → Obj) : (h.updObj n f).sec = h.sec := rfl
@[simp] theorem Hw.updObj_sage (h : Hw) (n : Nat) (f : Obj → Obj) : (h.updObj n f).sage = h.sage := rfl
@[simp] theorem Hw.updObj_pcie (h : Hw) (n : Nat) (f : Obj → Obj) : (h.updObj n f).pcie = h.pcie := rfl
@[simp] theorem Hw.updObj_side (h : Hw) (n : Nat) (f : Obj → Obj) : (h.updObj n f).side = h.side := rfl
@[simp] theorem Hw.updObj_sram (h : Hw) (n : Nat) (f : Obj → Obj) : (h.updObj n f).sram = h.sram := rfl
@[simp] theorem Hw.updObj_sramLost (h : Hw) (n : Nat) (f : Obj → Obj) : (h.updObj n f).sramLost = h.sramLost := rfl
@[simp] theorem Hw.updObj_nor (h : Hw) (n : Nat) (f : Obj → Obj) : (h.updObj n f).nor = h.nor := rfl
@[simp] theorem Hw.updObj_rpmc (h : Hw) (n : Nat) (f : Obj → Obj) : (h.updObj n f).rpmc = h.rpmc := rfl
@[simp] theorem Hw.updObj_out (h : Hw) (n : Nat) (f : Obj → Obj) : (h.updObj n f).out = h.out := rfl
@[simp] theorem Hw.updObj_freeCtr (h : Hw) (n : Nat) (f : Obj → Obj) : (h.updObj n f).freeCtr = h.freeCtr := rfl

/-! ### updJobs -/

@[simp] theorem Hw.updJobs_regs (h : Hw) (d : Nat) (f : List Job → List Job) : (h.updJobs d f).regs = h.regs := rfl
@[simp] theorem Hw.updJobs_votes (h : Hw) (d : Nat) (f : List Job → List Job) : (h.updJobs d f).votes = h.votes := rfl
@[simp] theorem Hw.updJobs_latch (h : Hw) (d : Nat) (f : List Job → List Job) : (h.updJobs d f).latch = h.latch := rfl
@[simp] theorem Hw.updJobs_heldRt (h : Hw) (d : Nat) (f : List Job → List Job) : (h.updJobs d f).heldRt = h.heldRt := rfl
@[simp] theorem Hw.updJobs_dom (h : Hw) (d : Nat) (f : List Job → List Job) : (h.updJobs d f).dom = h.dom := rfl
@[simp] theorem Hw.updJobs_evt (h : Hw) (d : Nat) (f : List Job → List Job) : (h.updJobs d f).evt = h.evt := rfl
@[simp] theorem Hw.updJobs_shut (h : Hw) (d : Nat) (f : List Job → List Job) : (h.updJobs d f).shut = h.shut := rfl
@[simp] theorem Hw.updJobs_spad (h : Hw) (d : Nat) (f : List Job → List Job) : (h.updJobs d f).spad = h.spad := rfl
@[simp] theorem Hw.updJobs_tailor (h : Hw) (d : Nat) (f : List Job → List Job) : (h.updJobs d f).tailor = h.tailor := rfl
@[simp] theorem Hw.updJobs_hbm (h : Hw) (d : Nat) (f : List Job → List Job) : (h.updJobs d f).hbm = h.hbm := rfl
@[simp] theorem Hw.updJobs_train (h : Hw) (d : Nat) (f : List Job → List Job) : (h.updJobs d f).train = h.train := rfl
@[simp] theorem Hw.updJobs_opt (h : Hw) (d : Nat) (f : List Job → List Job) : (h.updJobs d f).opt = h.opt := rfl
@[simp] theorem Hw.updJobs_topo (h : Hw) (d : Nat) (f : List Job → List Job) : (h.updJobs d f).topo = h.topo := rfl
@[simp] theorem Hw.updJobs_d2d (h : Hw) (d : Nat) (f : List Job → List Job) : (h.updJobs d f).d2d = h.d2d := rfl
@[simp] theorem Hw.updJobs_bast (h : Hw) (d : Nat) (f : List Job → List Job) : (h.updJobs d f).bast = h.bast := rfl
@[simp] theorem Hw.updJobs_mb (h : Hw) (d : Nat) (f : List Job → List Job) : (h.updJobs d f).mb = h.mb := rfl
@[simp] theorem Hw.updJobs_sec (h : Hw) (d : Nat) (f : List Job → List Job) : (h.updJobs d f).sec = h.sec := rfl
@[simp] theorem Hw.updJobs_sage (h : Hw) (d : Nat) (f : List Job → List Job) : (h.updJobs d f).sage = h.sage := rfl
@[simp] theorem Hw.updJobs_pcie (h : Hw) (d : Nat) (f : List Job → List Job) : (h.updJobs d f).pcie = h.pcie := rfl
@[simp] theorem Hw.updJobs_side (h : Hw) (d : Nat) (f : List Job → List Job) : (h.updJobs d f).side = h.side := rfl
@[simp] theorem Hw.updJobs_sram (h : Hw) (d : Nat) (f : List Job → List Job) : (h.updJobs d f).sram = h.sram := rfl
@[simp] theorem Hw.updJobs_sramLost (h : Hw) (d : Nat) (f : List Job → List Job) : (h.updJobs d f).sramLost = h.sramLost := rfl
@[simp] theorem Hw.updJobs_nor (h : Hw) (d : Nat) (f : List Job → List Job) : (h.updJobs d f).nor = h.nor := rfl
@[simp] theorem Hw.updJobs_rpmc (h : Hw) (d : Nat) (f : List Job → List Job) : (h.updJobs d f).rpmc = h.rpmc := rfl
@[simp] theorem Hw.updJobs_out (h : Hw) (d : Nat) (f : List Job → List Job) : (h.updJobs d f).out = h.out := rfl
@[simp] theorem Hw.updJobs_freeCtr (h : Hw) (d : Nat) (f : List Job → List Job) : (h.updJobs d f).freeCtr = h.freeCtr := rfl

/-! ### dropWins -/

@[simp] theorem Hw.dropWins_regs (h : Hw) (c i : Nat) (p : Nat → Bool) : (h.dropWins c i p).regs = h.regs := rfl
@[simp] theorem Hw.dropWins_votes (h : Hw) (c i : Nat) (p : Nat → Bool) : (h.dropWins c i p).votes = h.votes := rfl
@[simp] theorem Hw.dropWins_latch (h : Hw) (c i : Nat) (p : Nat → Bool) : (h.dropWins c i p).latch = h.latch := rfl
@[simp] theorem Hw.dropWins_heldRt (h : Hw) (c i : Nat) (p : Nat → Bool) : (h.dropWins c i p).heldRt = h.heldRt := rfl
@[simp] theorem Hw.dropWins_dom (h : Hw) (c i : Nat) (p : Nat → Bool) : (h.dropWins c i p).dom = h.dom := rfl
@[simp] theorem Hw.dropWins_evt (h : Hw) (c i : Nat) (p : Nat → Bool) : (h.dropWins c i p).evt = h.evt := rfl
@[simp] theorem Hw.dropWins_shut (h : Hw) (c i : Nat) (p : Nat → Bool) : (h.dropWins c i p).shut = h.shut := rfl
@[simp] theorem Hw.dropWins_spad (h : Hw) (c i : Nat) (p : Nat → Bool) : (h.dropWins c i p).spad = h.spad := rfl
@[simp] theorem Hw.dropWins_tailor (h : Hw) (c i : Nat) (p : Nat → Bool) : (h.dropWins c i p).tailor = h.tailor := rfl
@[simp] theorem Hw.dropWins_hbm (h : Hw) (c i : Nat) (p : Nat → Bool) : (h.dropWins c i p).hbm = h.hbm := rfl
@[simp] theorem Hw.dropWins_train (h : Hw) (c i : Nat) (p : Nat → Bool) : (h.dropWins c i p).train = h.train := rfl
@[simp] theorem Hw.dropWins_opt (h : Hw) (c i : Nat) (p : Nat → Bool) : (h.dropWins c i p).opt = h.opt := rfl
@[simp] theorem Hw.dropWins_topo (h : Hw) (c i : Nat) (p : Nat → Bool) : (h.dropWins c i p).topo = h.topo := rfl
@[simp] theorem Hw.dropWins_d2d (h : Hw) (c i : Nat) (p : Nat → Bool) : (h.dropWins c i p).d2d = h.d2d := rfl
@[simp] theorem Hw.dropWins_bast (h : Hw) (c i : Nat) (p : Nat → Bool) : (h.dropWins c i p).bast = h.bast := rfl
@[simp] theorem Hw.dropWins_mb (h : Hw) (c i : Nat) (p : Nat → Bool) : (h.dropWins c i p).mb = h.mb := rfl
@[simp] theorem Hw.dropWins_sec (h : Hw) (c i : Nat) (p : Nat → Bool) : (h.dropWins c i p).sec = h.sec := rfl
@[simp] theorem Hw.dropWins_sage (h : Hw) (c i : Nat) (p : Nat → Bool) : (h.dropWins c i p).sage = h.sage := rfl
@[simp] theorem Hw.dropWins_pcie (h : Hw) (c i : Nat) (p : Nat → Bool) : (h.dropWins c i p).pcie = h.pcie := rfl
@[simp] theorem Hw.dropWins_side (h : Hw) (c i : Nat) (p : Nat → Bool) : (h.dropWins c i p).side = h.side := rfl
@[simp] theorem Hw.dropWins_sram (h : Hw) (c i : Nat) (p : Nat → Bool) : (h.dropWins c i p).sram = h.sram := rfl
@[simp] theorem Hw.dropWins_sramLost (h : Hw) (c i : Nat) (p : Nat → Bool) : (h.dropWins c i p).sramLost = h.sramLost := rfl
@[simp] theorem Hw.dropWins_nor (h : Hw) (c i : Nat) (p : Nat → Bool) : (h.dropWins c i p).nor = h.nor := rfl
@[simp] theorem Hw.dropWins_rpmc (h : Hw) (c i : Nat) (p : Nat → Bool) : (h.dropWins c i p).rpmc = h.rpmc := rfl
@[simp] theorem Hw.dropWins_out (h : Hw) (c i : Nat) (p : Nat → Bool) : (h.dropWins c i p).out = h.out := rfl
@[simp] theorem Hw.dropWins_freeCtr (h : Hw) (c i : Nat) (p : Nat → Bool) : (h.dropWins c i p).freeCtr = h.freeCtr := rfl

end Sys2Proof.Machine
end

