-- ==== Sys2Proof/Laws/Link.lean ====
section
/-!
SUPPORT. Laws/Link.lean: laws of the bytes of frames: the range of a CRC, when 640 bytes parse.
-/

namespace Sys2Proof.Machine

theorem crc64Bit_lt (c : Nat) (b : Bool) : crc64Bit c b < 2 ^ 64 := by
  have h : c * 2 % 2 ^ 64 < 2 ^ 64 := Nat.mod_lt _ (by decide)
  simp only [crc64Bit]
  split
  · exact Nat.xor_lt_two_pow h (by decide)
  · exact h

theorem crc64_lt (bs : Bytes) : crc64 bs < 2 ^ 64 := by
  have inner (l : List Nat) (b : Byte) (c : Nat) (h : c < 2 ^ 64) : l.foldl (fun c i => crc64Bit c (b.toNat.testBit (7 - i))) c < 2 ^ 64 := by
    induction l generalizing c with
    | nil => exact h
    | cons i l ih => exact ih _ (crc64Bit_lt ..)
  have outer (l : Bytes) (c : Nat) (h : c < 2 ^ 64) :
      l.foldl (fun c b => (List.range 8).foldl (fun c i => crc64Bit c (b.toNat.testBit (7 - i))) c) c < 2 ^ 64 := by
    induction l generalizing c with
    | nil => exact h
    | cons b l ih => exact ih _ (inner _ _ _ h)
  exact outer bs 0 (by decide)

/-- 632 bytes followed by their CRC: the length and the CRC that R310 gives a frame. -/
theorem crc_of_body (b : Bytes) (h : b.length = 632) :
    (b ++ natLE 8 (crc64 b)).length = 640 ∧ (b ++ natLE 8 (crc64 b)).take 0x278 = b ∧ fieldLE (b ++ natLE 8 (crc64 b)) 0x278 8 = crc64 b := by
  refine ⟨by simp [h], by rw [List.take_append_of_le_length (by omega), List.take_of_length_le (by omega)], ?_⟩
  rw [fieldLE, List.drop_append_of_le_length (by omega), List.drop_of_length_le (by omega), List.nil_append, List.take_of_length_le (by simp), leNat_natLE]
  exact Nat.mod_eq_of_lt (crc64_lt b)

/-- A frame of 632 bytes and their CRC is read, whatever the bytes say (R310, R312). -/
theorem parseFrm_of_body (b : Bytes) (h : b.length = 632) : parseFrm (b ++ natLE 8 (crc64 b)) = some (frmOf (b ++ natLE 8 (crc64 b))) := by
  obtain ⟨h1, h2, h3⟩ := crc_of_body b h
  simp [parseFrm, h1, h2, h3]

end Sys2Proof.Machine
end

