-- ==== Sys2Proof/Laws/Mem.lean ====
section
/-!
SUPPORT. Laws/Mem.lean: byte memory: a read after a write, what a write leaves alone, and that every memory operation keeps the canonical form.
-/

namespace Sys2Proof.Machine

/-- All keys of a canonical memory from `lo` lie above it. -/
theorem Mem.wfFrom_cons {d : Nat → Byte} {lo : Option Nat} {k : Nat} {v : Byte} {r : Memory} :
    Mem.wfFrom d lo ((k, v) :: r) = true ↔ (∀ l, lo = some l → l < k) ∧ v ≠ d k ∧ Mem.wfFrom d (some k) r = true := by
  cases lo <;> simp [Mem.wfFrom, and_assoc]

theorem Mem.wfFrom_mono {d : Nat → Byte} {lo lo' : Option Nat} {m : Memory} (h : Mem.wfFrom d lo m = true)
    (hl : ∀ l', lo' = some l' → ∀ k v r, m = (k, v) :: r → l' < k) : Mem.wfFrom d lo' m = true := by
  cases m with
  | nil => rfl
  | cons c r =>
    obtain ⟨k, v⟩ := c
    rw [Mem.wfFrom_cons] at h ⊢
    exact ⟨fun l' e => hl l' e k v r rfl, h.2⟩

theorem Mem.get_of_wfFrom {d : Nat → Byte} {m : Memory} {l a : Nat} (h : Mem.wfFrom d (some l) m = true) (ha : a ≤ l) : Mem.get d m a = d a := by
  cases m with
  | nil => rfl
  | cons c r =>
    obtain ⟨k, v⟩ := c
    rw [Mem.wfFrom_cons] at h
    have := h.1 l rfl
    simp only [Mem.get, if_pos (show a < k by omega)]

/-- A read of the byte written. -/
theorem Mem.get_put_same (d : Nat → Byte) (m : Memory) (a : Nat) (b : Byte) {lo : Option Nat} (h : Mem.wfFrom d lo m = true) :
    Mem.get d (Mem.put d m a b) a = b := by
  induction m generalizing lo with
  | nil => by_cases hb : b = d a <;> simp [Mem.put, Mem.get, hb]
  | cons c r ih =>
    obtain ⟨k, v⟩ := c
    rw [Mem.wfFrom_cons] at h
    simp only [Mem.put]
    split
    · split
      · simp_all [Mem.get]
      · simp [Mem.get]
    · split
      · subst_vars
        split
        · subst_vars; exact Mem.get_of_wfFrom h.2.2 (Nat.le_refl _)
        · simp [Mem.get]
      · simp only [Mem.get, *, if_false]
        exact ih h.2.2

/-- A write of a byte leaves every other byte as it was. -/
theorem Mem.get_put_ne (d : Nat → Byte) (m : Memory) {a x : Nat} (b : Byte) {lo : Option Nat} (h : Mem.wfFrom d lo m = true) (hx : x ≠ a) :
    Mem.get d (Mem.put d m a b) x = Mem.get d m x := by
  induction m generalizing lo with
  | nil =>
    simp only [Mem.put]
    split
    · rfl
    · simp [Mem.get, hx]
  | cons c r ih =>
    obtain ⟨k, v⟩ := c
    rw [Mem.wfFrom_cons] at h
    simp only [Mem.put]
    split
    · split
      · rfl
      · simp only [Mem.get]
        split
        · rw [if_pos (by omega)]
        · first | rfl | rw [if_neg hx]
    · split
      · subst_vars
        split
        · simp only [Mem.get]
          split
          · exact Mem.get_of_wfFrom h.2.2 (by omega)
          · first | rfl | rw [if_neg hx]
        · simp only [Mem.get, hx, if_false]
      · simp only [Mem.get, ih h.2.2]

/-- A write of a byte keeps the canonical form. -/
theorem Mem.wfFrom_put {d : Nat → Byte} {m : Memory} {lo : Option Nat} (a : Nat) (b : Byte) (h : Mem.wfFrom d lo m = true) (ha : ∀ l, lo = some l → l < a) :
    Mem.wfFrom d lo (Mem.put d m a b) = true := by
  induction m generalizing lo with
  | nil =>
    simp only [Mem.put]
    split
    · rfl
    · rw [Mem.wfFrom_cons]; exact ⟨ha, by assumption, rfl⟩
  | cons c r ih =>
    obtain ⟨k, v⟩ := c
    have h' := h
    rw [Mem.wfFrom_cons] at h
    simp only [Mem.put]
    split
    · split
      · exact h'
      · rw [Mem.wfFrom_cons, Mem.wfFrom_cons]
        exact ⟨ha, by assumption, fun l e => by cases e; assumption, h.2⟩
    · split
      · subst_vars
        split
        · refine Mem.wfFrom_mono h.2.2 ?_
          rintro l' e k' v' r' rfl
          have := (Mem.wfFrom_cons.1 h.2.2).1 _ rfl
          have := ha l' e
          omega
        · rw [Mem.wfFrom_cons]; exact ⟨h.1, by assumption, h.2.2⟩
      · rw [Mem.wfFrom_cons]
        exact ⟨h.1, h.2.1, ih h.2.2 (fun l e => by cases e; omega)⟩

theorem Mem.wf_put {d : Nat → Byte} {m : Memory} (a : Nat) (b : Byte) (h : Mem.wf d m = true) : Mem.wf d (Mem.put d m a b) = true :=
  Mem.wfFrom_put a b h (fun _ e => by cases e)

/-- A write of bytes keeps the canonical form. -/
theorem Mem.wf_write {d : Nat → Byte} (bs : Bytes) {m : Memory} (a : Nat) (h : Mem.wf d m = true) : Mem.wf d (Mem.write d m a bs) = true := by
  induction bs generalizing m a with
  | nil => exact h
  | cons b r ih => exact ih (a + 1) (Mem.wf_put a b h)

/-- A write of bytes leaves every byte outside them as it was. -/
theorem Mem.get_write_ne {d : Nat → Byte} (bs : Bytes) {m : Memory} {a x : Nat} (h : Mem.wf d m = true) (hx : x < a ∨ a + bs.length ≤ x) :
    Mem.get d (Mem.write d m a bs) x = Mem.get d m x := by
  induction bs generalizing m a with
  | nil => rfl
  | cons b r ih =>
    rw [List.length_cons] at hx
    rw [Mem.write, ih (Mem.wf_put a b h) (by omega)]
    exact Mem.get_put_ne d m b h (by omega)

/-- A read of a byte that a write of bytes stored. -/
theorem Mem.get_write_same {d : Nat → Byte} (bs : Bytes) {m : Memory} {a i : Nat} (h : Mem.wf d m = true) (hi : i < bs.length) :
    Mem.get d (Mem.write d m a bs) (a + i) = bs[i] := by
  induction bs generalizing m a i with
  | nil => simp at hi
  | cons b r ih =>
    have hp := Mem.wf_put a b h
    cases i with
    | zero =>
      rw [Mem.write, Mem.get_write_ne r hp (by omega)]
      exact Mem.get_put_same d m a b h
    | succ i =>
      have : a + (i + 1) = a + 1 + i := by omega
      rw [Mem.write, this]
      simpa using ih hp (by simpa using hi)

/-- A read of bytes is as long as asked. -/
@[simp] theorem Mem.length_read (d : Nat → Byte) (m : Memory) (a n : Nat) : (Mem.read d m a n).length = n := by
  induction n generalizing a with
  | zero => rfl
  | succ n ih => simp [Mem.read, ih]

/-- A byte of a read. -/
theorem Mem.getElem_read (d : Nat → Byte) (m : Memory) (a n i : Nat) (hi : i < (Mem.read d m a n).length) : (Mem.read d m a n)[i] = Mem.get d m (a + i) := by
  induction n generalizing a i with
  | zero => simp at hi
  | succ n ih =>
    cases i with
    | zero => rfl
    | succ i =>
      simp only [Mem.read, List.getElem_cons_succ]
      rw [ih]; congr 1; omega

/-- A read after a write of the same bytes. -/
theorem Mem.read_write {d : Nat → Byte} (bs : Bytes) {m : Memory} {a : Nat} (h : Mem.wf d m = true) : Mem.read d (Mem.write d m a bs) a bs.length = bs := by
  apply List.ext_getElem (by simp)
  intro i h1 h2
  rw [Mem.getElem_read, Mem.get_write_same bs h h2]

/-- A read in two parts. -/
theorem Mem.read_add (d : Nat → Byte) (m : Memory) (a n k : Nat) : Mem.read d m a (n + k) = Mem.read d m a n ++ Mem.read d m (a + n) k := by
  induction n generalizing a with
  | zero => simp [Mem.read]
  | succ n ih =>
    rw [show n + 1 + k = (n + k) + 1 by omega]
    simp only [Mem.read, List.cons_append, ih]
    rw [show a + 1 + n = a + (n + 1) by omega]

/-- Above every cell, a byte reads as an unlisted one. -/
theorem Mem.get_above (d : Nat → Byte) (m : Memory) (a : Nat) (h : m.all (fun c => c.1 < a) = true) : Mem.get d m a = d a := by
  induction m with
  | nil => rfl
  | cons c r ih =>
    obtain ⟨k, v⟩ := c
    simp only [List.all_cons, Bool.and_eq_true, decide_eq_true_eq] at h
    simp only [Mem.get, if_neg (show ¬ a < k by omega), if_neg (show ¬ a = k by omega), ih h.2]

/-- Above every cell, where all bytes default to b, a read gives b. -/
theorem Mem.read_above (d : Nat → Byte) (m : Memory) (a n : Nat) (b : Byte) (h : m.all (fun c => c.1 < a) = true) (hb : ∀ i, i < n → d (a + i) = b) :
    Mem.read d m a n = List.replicate n b := by
  apply List.ext_getElem (by simp)
  intro i h1 h2
  rw [Mem.length_read] at h1
  have ha : m.all (fun c => c.1 < a + i) = true := by
    simp only [List.all_eq_true, decide_eq_true_eq] at h ⊢
    intro c hc
    exact Nat.lt_of_lt_of_le (h c hc) (Nat.le_add_right _ _)
  rw [Mem.getElem_read, Mem.get_above _ _ _ ha, hb i h1, List.getElem_replicate]

/-- A write of bytes below a bound lists no cell at or above it. -/
theorem Mem.all_write {d : Nat → Byte} (bs : Bytes) {m : Memory} {a hi : Nat} (h : m.all (fun c => c.1 < hi) = true) (ha : a + bs.length ≤ hi) :
    (Mem.write d m a bs).all (fun c => c.1 < hi) = true := by
  induction bs generalizing m a with
  | nil => exact h
  | cons b r ih =>
    rw [List.length_cons] at ha
    refine ih ?_ (by omega)
    clear ih
    induction m with
    | nil =>
      simp only [Mem.put]
      split
      · rfl
      · simp; omega
    | cons c t iht =>
      obtain ⟨k, v⟩ := c
      simp only [List.all_cons, Bool.and_eq_true, decide_eq_true_eq] at h
      have h3 := iht h.2
      simp only [List.all_eq_true, decide_eq_true_eq] at h h3 ⊢
      intro c hc
      simp only [Mem.put] at hc
      repeat' split at hc
      all_goals try simp only [List.mem_cons] at hc
      all_goals grind

theorem Mem.wfFrom_filter {d : Nat → Byte} {m : Memory} {lo : Option Nat} (p : Nat × Byte → Bool) (h : Mem.wfFrom d lo m = true) :
    Mem.wfFrom d lo (m.filter p) = true := by
  induction m generalizing lo with
  | nil => rfl
  | cons c r ih =>
    obtain ⟨k, v⟩ := c
    rw [Mem.wfFrom_cons] at h
    simp only [List.filter_cons]
    split
    · rw [Mem.wfFrom_cons]; exact ⟨h.1, h.2.1, ih h.2.2⟩
    · refine ih (Mem.wfFrom_mono h.2.2 ?_)
      rintro l' e k' v' r' rfl
      have := (Mem.wfFrom_cons.1 h.2.2).1 _ rfl
      have := h.1 l' e
      omega

/-- Clearing a range keeps the canonical form. -/
theorem Mem.wf_clear {d : Nat → Byte} {m : Memory} (a n : Nat) (h : Mem.wf d m = true) : Mem.wf d (Mem.clear m a n) = true := Mem.wfFrom_filter _ h

/-- The canonical form depends on the defaults of the listed addresses alone. -/
theorem Mem.wfFrom_congr {d e : Nat → Byte} {m : Memory} {lo : Option Nat} (h : Mem.wfFrom d lo m = true) (hd : ∀ c ∈ m, d c.1 = e c.1) :
    Mem.wfFrom e lo m = true := by
  induction m generalizing lo with
  | nil => rfl
  | cons c r ih =>
    obtain ⟨k, v⟩ := c
    rw [Mem.wfFrom_cons] at h ⊢
    exact ⟨h.1, by rw [← hd (k, v) (List.mem_cons_self ..)]; exact h.2.1, ih h.2.2 (fun c hc => hd c (List.mem_cons_of_mem _ hc))⟩

end Sys2Proof.Machine
end

