-- ==== Sys2Proof/Laws/Roino.lean ====
section
/-!
SUPPORT. Laws/Roino.lean: what a request that is executed does, said once for every command of Roino (R432, R433, R561).
-/

namespace Sys2Proof.Machine

/-- A request that is executed passed the checks as the command of its opcode. -/
theorem Hw.takes_judge {h : Hw} {op ch seq : Nat} {p tail : Bytes} {args : List Nat} {c : Cmd} (ht : h.takes op ch seq p args tail = true)
    (hc : cmdOf op = some c) :
    judge ((h.asked op ch seq p).flag F.SEC_RECOVERY) ch ((h.asked op ch seq p).chan ch).buf = .ok (c, args, tail) := by
  simp only [Hw.takes, Bool.and_eq_true, beq_iff_eq] at ht
  obtain ⟨⟨_, hop⟩, hj⟩ := ht
  split at hj
  · rename_i k x t he
    simp only [Bool.and_eq_true, beq_iff_eq] at hj
    obtain ⟨rfl, rfl⟩ := hj
    have : k = c := by
      unfold judge at he
      rw [hop, hc] at he
      simp only at he
      repeat' (split at he)
      all_goals simp_all
    rw [← this]; exact he
  · simp at hj

/-- A request that is executed: what its command does, then the rest. -/
theorem roino_runs {h : Hw} {op ch seq : Nat} {p tail : Bytes} {args : List Nat} {c : Cmd} (ht : h.takes op ch seq p args tail = true)
    (hc : cmdOf op = some c) :
    effRoino op ch seq p h = match c.run (h.asked op ch seq p) ch args tail with
      | (t, some r) => (Hw.mbServe 15 (t.mbFinish ch r)).mbSettle.bar2Go
      | (t, none) => (Hw.mbServe 15 t).mbSettle.bar2Go := by
  have hj := Hw.takes_judge ht hc
  simp only [Hw.takes, Bool.and_eq_true, beq_iff_eq, Bool.or_eq_true, Bool.not_eq_true'] at ht
  obtain ⟨⟨⟨⟨⟨⟨h1, h2⟩, h3⟩, h4⟩, h5⟩, h6⟩, _⟩ := ht
  have hask : h.asked op ch seq p = { h.arrive op ch seq p with mb := { (h.arrive op ch seq p).mb with todo := (h.arrive op ch seq p).mb.todo.filter (· ≠ ch) } } := by
    simp [Hw.asked, h1]
  have hrun : (h.asked op ch seq p).mbRun ch = match c.run (h.asked op ch seq p) ch args tail with
      | (t, some r) => t.mbFinish ch r
      | (t, none) => t := by
    unfold Hw.mbRun
    have h4' : (h.asked op ch seq p).mbReplay ch = none := by simpa using h4
    have h3' : ((h.asked op ch seq p).flag F.SEC_RECOVERY && decide (ch ≠ 4)) = false := by
      rcases h3 with h3 | h3 <;> simp [h3]
    simp only [h3', Bool.false_eq_true, if_false, h4', hj, h5]
    first
      | done
      | (split <;> simp_all)
  unfold effRoino Hw.served
  have : Hw.mbServe 16 (h.arrive op ch seq p) = Hw.mbServe 15 ((h.asked op ch seq p).mbRun ch) := by
    rw [Hw.mbServe, h1, List.find?_cons_of_pos h2]
    simp only [hask, h1]
  rw [this, hrun]
  split <;> rfl
/-- A request that is executed, whose command answers at once. -/
theorem roino_answers {s : State} {f : Hw → Hw} {op ch seq : Nat} {p tail : Bytes} {args : List Nat} {c : Cmd} {t : Hw} {r : Resp}
    (ht : s.hw.takes op ch seq p args tail = true) (hf : f s.hw = effRoino op ch seq p s.hw) (hc : cmdOf op = some c)
    (hr : c.run (s.hw.asked op ch seq p) ch args tail = (t, some r)) : s.run f = s.answers ch t r := by
  have h := roino_runs ht hc
  rw [hr] at h
  simp only [State.answers, State.to, State.run, hf, h]

/-- A request that is executed, whose command is acknowledged later. -/
theorem roino_owes {s : State} {f : Hw → Hw} {op ch seq : Nat} {p tail : Bytes} {args : List Nat} {c : Cmd} {t : Hw}
    (ht : s.hw.takes op ch seq p args tail = true) (hf : f s.hw = effRoino op ch seq p s.hw) (hc : cmdOf op = some c)
    (hr : c.run (s.hw.asked op ch seq p) ch args tail = (t, none)) : s.run f = s.owes t := by
  have h := roino_runs ht hc
  rw [hr] at h
  simp only [State.owes, State.to, State.run, hf, h]

end Sys2Proof.Machine
end

