-- ==== Sys2Proof/Laws/Tick.lean ====
section
/-!
SUPPORT. Laws/Tick.lean: what a cycle of CTRL_CLK changes: registers that count, nothing else.
-/

namespace Sys2Proof.Machine

theorem Hw.get_inc_ne (h : Hw) (f g : Fld) (n : Nat) (ho : g.word ≠ f.word) : (h.inc f n).get g = h.get g := h.get_set_ne f g _ ho

theorem Hw.get_inc_same (h : Hw) (f : Fld) (n : Nat) (hf : f.sh + f.width ≤ 64) : (h.inc f n).get f = min (h.get f + n) (2 ^ f.width - 1) := by
  have := Nat.two_pow_pos f.width
  rw [Hw.inc, Hw.get_set_same _ _ _ hf, Nat.mod_eq_of_lt]; omega

/-- Counting reaches registers only. -/
theorem Hw.counts_eq (h : Hw) (l : List (Fld × Nat)) : ∃ r v, h.counts l = { h with regs := r, votes := v } := by
  induction l generalizing h with
  | nil => exact ⟨h.regs, h.votes, rfl⟩
  | cons x l ih =>
    obtain ⟨r, v, e⟩ := ih (h.inc x.1 x.2)
    exact ⟨r, v, by rw [show h.counts (x :: l) = (h.inc x.1 x.2).counts l from rfl, e]; rfl⟩

/-- A field of a word that holds no counter of the list stays. -/
theorem Hw.get_counts_ne (h : Hw) (l : List (Fld × Nat)) (g : Fld) (hl : ∀ x ∈ l, g.word ≠ x.1.word) : (h.counts l).get g = h.get g := by
  induction l generalizing h with
  | nil => rfl
  | cons x l ih =>
    rw [show h.counts (x :: l) = (h.inc x.1 x.2).counts l from rfl, ih _ (fun y hy => hl y (List.mem_cons_of_mem _ hy)),
      Hw.get_inc_ne _ _ _ _ (hl x List.mem_cons_self)]

/-- The amounts of a list for one counter. -/
def amountsOf (f : Fld) (l : List (Fld × Nat)) : Nat := ((l.filter (fun x => x.1 = f)).map (·.2)).sum

/-- A counter that stands alone in its word takes its amounts, saturating. -/
theorem Hw.get_counts (h : Hw) (l : List (Fld × Nat)) (f : Fld) (hf : f.sh + f.width ≤ 64) (hb : h.get f ≤ 2 ^ f.width - 1)
    (hl : ∀ x ∈ l, x.1 = f ∨ f.word ≠ x.1.word) : (h.counts l).get f = min (h.get f + amountsOf f l) (2 ^ f.width - 1) := by
  induction l generalizing h with
  | nil => simp [Hw.counts, amountsOf]; omega
  | cons x l ih =>
    have hl' : ∀ y ∈ l, y.1 = f ∨ f.word ≠ y.1.word := fun y hy => hl y (List.mem_cons_of_mem _ hy)
    rw [show h.counts (x :: l) = (h.inc x.1 x.2).counts l from rfl]
    obtain e | e := hl x List.mem_cons_self
    · have hs : (h.inc x.1 x.2).get f = min (h.get f + x.2) (2 ^ f.width - 1) := by rw [e]; exact h.get_inc_same f x.2 hf
      rw [ih _ (by omega) hl', hs, show amountsOf f (x :: l) = x.2 + amountsOf f l by simp [amountsOf, e]]
      omega
    · have hn : x.1 ≠ f := fun q => e (by rw [q])
      have hs : (h.inc x.1 x.2).get f = h.get f := h.get_inc_ne _ _ _ e
      rw [ih _ (by omega) hl', hs, show amountsOf f (x :: l) = amountsOf f l by simp [amountsOf, hn]]

/-- A cycle reaches registers only. -/
theorem Hw.tick_eq (h : Hw) : ∃ r v, h.tick = { h with regs := r, votes := v } := by
  obtain ⟨r, v, e⟩ := h.cycles.counts_eq (((List.range 292).map (h.engCounts (h.get F.CYC_CTRL))).flatten ++ h.waitCounts (h.get F.CYC_CTRL))
  exact ⟨r, v, by rw [Hw.tick, e]; rfl⟩

/-- The word of a stall counter in its block. -/
theorem Stall.fld_word (e : Nat) (k : Stall) : ∃ j, j < 7 ∧ (k.fld e).word = 0x490000 + e * 0x80 + 8 * j := by
  cases k <;> simp only [Stall.fld, Fld.word, F.STL_PREEMPT, F.STL_TOKEN, F.STL_XLATE, F.STL_NOT_RESIDENT, F.STL_DRAIN, F.STL_HBM_BUSY, F.STL_LINK_CREDIT]
  · exact ⟨6, by omega, by omega⟩
  · exact ⟨2, by omega, by omega⟩
  · exact ⟨3, by omega, by omega⟩
  · exact ⟨0, by omega, by omega⟩
  · exact ⟨1, by omega, by omega⟩
  · exact ⟨4, by omega, by omega⟩
  · exact ⟨5, by omega, by omega⟩

/-- An engine with nothing assigned has no candidate. -/
theorem Hw.best_none {h : Hw} {e : Nat} (ho : h.onEngine e = []) : h.best e = none := by
  have : h.cands e = [] := by
    simp only [Hw.onEngine, Hw.cands, List.flatten_eq_nil_iff, List.mem_map, forall_exists_index, and_imp] at ho ⊢
    rintro _ c hc rfl
    have := ho _ c hc rfl
    simp only [List.map_eq_nil_iff, List.filter_eq_nil_iff] at this ⊢
    intro x hx
    have := this x hx
    simp_all
  simp [Hw.best, this]

/-- A cycle of an engine with nothing assigned counts idle (R195). -/
theorem Hw.engCounter_idle {h : Hw} {e : Nat} (ho : h.onEngine e = []) : h.engCounter e = some (F.STL_IDLE e) := by
  unfold Hw.engCounter
  split
  · rfl
  · simp [ho, Hw.best_none ho, Hw.firstStall, stallOrder]

/-- An engine counts in its own block only (R194). -/
theorem Hw.engCounts_word {h : Hw} {n e : Nat} {x : Fld × Nat} (hx : x ∈ h.engCounts n e) : ∃ j, j < 9 ∧ x.1.word = 0x490000 + e * 0x80 + 8 * j := by
  unfold Hw.engCounts at hx
  split at hx
  · simp at hx
  · simp only [List.mem_append] at hx
    obtain hx | hx := hx
    · simp only [Option.mem_toList, Option.map_eq_some_iff] at hx
      obtain ⟨f, hf, rfl⟩ := hx
      unfold Hw.engCounter at hf
      have idle : (F.STL_IDLE e).word = 0x490000 + e * 0x80 + 8 * 8 := by simp only [F.STL_IDLE, Fld.word]; omega
      have st : ∀ k : Stall, ∃ j, j < 9 ∧ (k.fld e).word = 0x490000 + e * 0x80 + 8 * j := fun k => by
        obtain ⟨j, a, b⟩ := Stall.fld_word e k; exact ⟨j, by omega, b⟩
      have opt : ∀ o : Option Stall, ∀ g, o.map (Stall.fld e) = some g → ∃ j, j < 9 ∧ g.word = 0x490000 + e * 0x80 + 8 * j := by
        intro o g hg
        simp only [Option.map_eq_some_iff] at hg
        obtain ⟨k, _, rfl⟩ := hg
        exact st k
      split at hf
      · cases hf; exact ⟨8, by omega, idle⟩
      · dsimp only at hf
        split at hf
        · cases hf
        · split at hf
          · exact opt _ _ hf
          · split at hf
            · exact opt _ _ hf
            · split at hf
              · cases hf
              · cases hf
                cases hq : h.firstStall e (h.onEngine e) with
                | none => exact ⟨8, by omega, by simpa [hq] using idle⟩
                | some k => simpa [hq] using st k
    · split at hx
      · simp only [List.mem_singleton] at hx; subst hx
        exact ⟨7, by omega, by simp only [F.STL_THROTTLE, Fld.word]; omega⟩
      · simp at hx

end Sys2Proof.Machine
end

