-- ==== Sys2Proof/Machine/Codes.lean ====
section
/-!
DEFINITION. Machine/Codes.lean: the codes of a lane: the inner BCH code and its interleave (R308), the outer Reed-Solomon code (R309).
-/

namespace Sys2Proof.Machine

/-! ### Fields of characteristic 2 -/

/-- GF(2^m), by the polynomial that reduces it; α is x. -/
structure GF where
  m : Nat
  poly : Nat
  deriving DecidableEq, Repr

/-- GF(2^8) of the inner code (R308) and GF(2^10) of the outer (R309). -/
def gf8 : GF := ⟨8, 0x11D⟩
def gf10 : GF := ⟨10, 0x409⟩

/-- α times an element. -/
def GF.shift (f : GF) (a : Nat) : Nat := if a.testBit (f.m - 1) then (2 * a) ^^^ f.poly else 2 * a

/-- Product, one bit of the second factor at a time from its highest. -/
def GF.mul (f : GF) (a b : Nat) : Nat := (List.range f.m).foldr (fun i p => f.shift p ^^^ (if b.testBit i then a else 0)) 0

/-- α to a power. -/
def GF.alpha (f : GF) (n : Nat) : Nat := (List.range (n % (2 ^ f.m - 1))).foldl (fun a _ => f.shift a) 1

/-- The inverse, a^(2^m − 2): the product of its squares from the first to the last but one. -/
def GF.inv (f : GF) (a : Nat) : Nat :=
  ((List.range (f.m - 1)).foldl (fun (s : Nat × Nat) _ => let q := f.mul s.1 s.1; (q, f.mul s.2 q)) (a, 1)).2

/-! ### Polynomials, by coefficients from x^0 up -/

/-- Sum of two polynomials. -/
def polyAdd : List Nat → List Nat → List Nat
  | [], q => q
  | p, [] => p
  | a :: p, b :: q => (a ^^^ b) :: polyAdd p q

/-- A polynomial times a constant. -/
def GF.scale (f : GF) (c : Nat) (p : List Nat) : List Nat := p.map (f.mul c)

/-- Product of two polynomials. -/
def GF.polyMul (f : GF) : List Nat → List Nat → List Nat
  | [], _ => []
  | a :: p, q => polyAdd (f.scale a q) (0 :: f.polyMul p q)

/-- The value of a polynomial. -/
def GF.eval (f : GF) (p : List Nat) (x : Nat) : Nat := p.foldr (fun c v => c ^^^ f.mul x v) 0

/-- The monic polynomial whose roots are α to the powers listed. -/
def GF.withRoots (f : GF) (es : List Nat) : List Nat := es.foldl (fun g e => f.polyMul g [f.alpha e, 1]) [1]

/-- The remainder of data(x) × x^r divided by a monic polynomial of degree r, for the data from its highest coefficient down. -/
def GF.rest (f : GF) (g : List Nat) (data : List Nat) : List Nat :=
  let low := g.dropLast
  data.foldl (fun r d =>
    let top := d ^^^ (r.getLast?.getD 0)
    polyAdd (0 :: r.dropLast) (f.scale top low)) (List.replicate low.length 0)

/-! ### Decoding -/

/-- The values of a received word at α^b, α^(b+1), …: all zero for a codeword. -/
def GF.syndromes (f : GF) (b n : Nat) (r : List Nat) : List Nat := (List.range n).map (fun i => f.eval r (f.alpha (b + i)))

/-- The shortest recurrence of a list of syndromes (Berlekamp and Massey): the error locator and the number of errors. -/
def GF.locator (f : GF) (s : List Nat) : List Nat × Nat :=
  let out := (List.range s.length).foldl (fun (st : List Nat × List Nat × Nat × Nat × Nat) n =>
    let (c, old, len, gap, was) := st
    let d := (List.range (len + 1)).foldl (fun v i => v ^^^ f.mul (c.getD i 0) (s.getD (n - i) 0)) 0
    if d = 0 then (c, old, len, gap + 1, was)
    else
      let c' := polyAdd c (List.replicate gap 0 ++ f.scale (f.mul d (f.inv was)) old)
      if 2 * len ≤ n then (c', c, n + 1 - len, 1, d) else (c', old, len, gap + 1, was)) ([1], [1], 0, 1, 1)
  (out.1, out.2.2.1)

/-- Correct a received word of a code whose codewords vanish at α^b to α^(b + 2t − 1): at most t symbols; none where it finds no codeword. -/
def GF.correct (f : GF) (b t : Nat) (r : List Nat) : Option (List Nat) :=
  let s := f.syndromes b (2 * t) r
  let (c, n) := f.locator s
  let q := 2 ^ f.m - 1
  let bad := (List.range r.length).filter (fun p => f.eval c (f.alpha (q - p % q)) = 0)
  if t < n || bad.length ≠ n then none
  else
    let omega := (f.polyMul s c).take (2 * t)
    let slope := c.zipIdx.tail.map (fun x => if x.2 % 2 = 1 then x.1 else 0)
    let fix (p : Nat) : Nat :=
      let y := f.alpha (q - p % q)
      f.mul (f.alpha (p * (q + 1 - b))) (f.mul (f.eval omega y) (f.inv (f.eval slope y)))
    let w := r.zipIdx.map (fun x => if bad.contains x.2 then x.1 ^^^ fix x.2 else x.1)
    if (f.syndromes b (2 * t) w).all (· = 0) then some w else none

/-! ### The inner code (R308) -/

/-- The generator of the inner code: the product of the minimal polynomials of α, α^3 and α^5, each over its conjugates. -/
def bchGen : List Nat := gf8.withRoots (([1, 3, 5].map (fun e => (List.range 8).map (fun i => e * 2 ^ i % 255))).flatten)

/-- Bits of a number from the lowest. -/
def bitsLow (n v : Nat) : List Nat := (List.range n).map (fun i => (v.testBit i).toNat)

/-- The number of a list of bits. -/
def ofBits (l : List Nat) : Nat := l.foldr (fun b v => b + 2 * v) 0

/-- Whether 224 bits are a codeword of the code shortened by 31 bits. -/
def bchValid (w : Nat) : Bool := decide (w < 2 ^ 224) && (gf8.syndromes 1 6 (bitsLow 224 w)).all (· = 0)

/-- The codeword of 200 bits: the data above their 24 check bits (log entry 158). -/
def bchEncode (d : Nat) : Nat := d % 2 ^ 200 * 2 ^ 24 + ofBits (gf8.rest bchGen (bitsLow 200 d).reverse)

/-- The codeword within three bits of what was received, where there is one. Soft decisions may reach further, which is open. -/
def bchDecode (w : Nat) : Option Nat := (gf8.correct 1 3 (bitsLow 224 w)).map ofBits

/-- The interleave of 16 codewords: bit i of codeword j at position 16 i + j. -/
def interleave (cw : List Nat) : Nat := ofBits ((List.range 3584).map (fun p => ((cw.getD (p % 16) 0).testBit (p / 16)).toNat))

/-- Codeword j of an interleave. -/
def deinterleave (v j : Nat) : Nat := ofBits ((List.range 224).map (fun i => (v.testBit (16 * i + j)).toNat))

/-! ### The outer code (R309) -/

/-- The generator of the outer code: the product of x − α^i for i from 0 to 31. -/
def rsGen : List Nat := gf10.withRoots (List.range 32)

/-- The 512 data symbols of 640 bytes: symbol i holds bits 10 i to 10 i + 9. -/
def rsSymbols (bs : Bytes) : List Nat := (List.range 512).map (fun i => leNat bs / 2 ^ (10 * i) % 1024)

/-- The 640 bytes of 512 data symbols. -/
def rsBytes (l : List Nat) : Bytes := natLE 640 (l.foldr (fun s v => s + 1024 * v) 0)

/-- The codeword of 640 bytes: 544 symbols, the 32 check symbols lowest (log entry 158). -/
def rsEncode (bs : Bytes) : List Nat := gf10.rest rsGen (rsSymbols bs).reverse ++ rsSymbols bs

/-- The bytes of the codeword within 16 symbols of what was received, where there is one. -/
def rsDecode (r : List Nat) : Option Bytes := (gf10.correct 0 16 r).map (fun w => rsBytes (w.drop 32))

end Sys2Proof.Machine
end

