-- ==== Sys2Proof/Tests/Slice0.lean ====
section
/-!
SUPPORT. Tests/Slice0.lean: tests: every statement's hypotheses are met by a state built here, clause by clause; the spec's own examples; ill formed commands
that the check refuses.
-/

open Sys2Proof Sys2Proof.Machine

namespace Sys2Proof.Tests

set_option Elab.async false
set_option linter.unusedSimpArgs false

/-- A part that has booted, with every domain powered, whose Thimble core takes messages. -/
def on : Hw :=
  (List.range 16).foldl (fun h c => h.set (F.RX_POWERED c) 1) { Hw.off with dom := 0x3FFFFFFF, sec := { Hw.off.sec with booted := true } }

/-- The bytes of a payload: the fields of an opcode's layout, then what trails. -/
def req (op : Nat) (args : List Nat) (tail : Bytes) : Bytes :=
  match cmdOf op with
  | some c => (((layOffs c.lay 0).zip args).foldl (fun acc x => acc ++ List.replicate (x.1.1 - acc.length) 0 ++ natLE x.1.2 x.2) []) ++ tail
  | none => []

/-- The same with a session of SPDM, on which the secure channels depend. -/
def sess : Hw := { on with sec := { on.sec with sessions := [⟨1, true, [], 0, false⟩] } }

/-- A request on channel 1 is taken, with these fields, and the hardware that executes it. -/
def takesS (h : Hw) (op : Nat) (args : List Nat) (tail : Bytes) : Bool := h.takes op 1 1 (req op args tail) args tail
def askedS (h : Hw) (op : Nat) (args : List Nat) (tail : Bytes) : Hw := h.asked op 1 1 (req op args tail)

/-- A request on channel 4 is taken, with these fields. -/
def takesOn (h : Hw) (op : Nat) (args : List Nat) (tail : Bytes) : Bool := h.takes op 4 1 (req op args tail) args tail

/-- The hardware that executes it. -/
def askedOn (h : Hw) (op : Nat) (args : List Nat) (tail : Bytes) : Hw := h.asked op 4 1 (req op args tail)

/-! ### Witnesses: the commands of Roino -/

/-- A part whose stacks are online, with one leaf of each kind mapped: virtual 0 to 512 MiB are HBM from 0, the next 512 MiB scratchpad of Panel 0, the next peer
window 0, the next host window 0; every block that has an ENABLE is enabled. -/
def leaf (i e : Nat) : Bytes × Nat := (natLE 8 e, 0x20000 + 8 * i)

def full : Hw :=
  let h := (List.range 16).foldl (fun h s => ((h.set (F.STK_STATE s) 2).set (F.STK_SIZE s) stackSize).set (F.N_ACTIVE s) 32) on
  let h := (List.range 11).foldl (fun h k => h.set (enableOf k) 1) h
  let h := (((h.set F.MMU_ROOT 8).set F.TAPE_BASE 0x400000).set (F.PW_CHIP 0) 17).set (F.PW_SIZE 0) 0x10000000
  let h := ((h.set (F.HW_PCIE_BASE 0) 0x8000000000).set (F.HW_SIZE 0) 0x10000000)
  let cells := [(natLE 8 (1 + 0x20000), 0x10000), leaf 0 (mkLeaf 0 0 0 true true false), leaf 1 (mkLeaf 0 0 spadBase true true false),
    leaf 2 (mkLeaf 1 0 0 true true false), leaf 3 (mkLeaf 2 0 0 true true false)]
  { h with hbm := { h.hbm with mem := cells.foldl (fun m c => Mem.write (fun _ => 0) m c.2 c.1) [] } }

/-- The same with nothing enabled. -/
def idle : Hw := (List.range 11).foldl (fun h k => h.set (enableOf k) 0) full

theorem witness_DeviceCommandsComplete :
    takesOn on 0x0100 [] [] ∧ takesOn on 0x0101 [] [] ∧ takesS sess 0x0102 [0] [] ∧ takesOn on 0x0102 [1] [] ∧
    takesOn on 0x0103 [4, 4, 0] [1, 2, 3, 4] ∧
    (let h := on.updChan 4 (fun k => { k with outp := [1, 2] })
     takesOn h 0x0104 [2] [] ∧ ((askedOn h 0x0104 [2] []).chan 4).outp = [1, 2]) := by
  decide +kernel

/-- NOR with a bundle's first word in slot A and a commit record of its four bytes. -/
def withSlotA : Hw :=
  (on.norWrite (bundleBase 1) (natLE 4 0x4C444E42)).norWrite (commitAddr 1) (natLE 4 0x54494D43 ++ natLE 4 4 ++ sha256 (natLE 4 0x4C444E42))

/-- A bundle of four empty components, at a slot. -/
def emptyBundle : Bytes :=
  let comp (t : Nat) : Bytes :=
    natLE 1 t ++ natLE 1 3 ++ natLE 2 0 ++ natLE 4 1 ++ natLE 4 0x4000 ++ natLE 4 0 ++ sha256 [] ++
      ((List.range 4).map (fun i => natLE 4 0 ++ natLE 4 (if i + 1 = t then 0 else 9))).flatten ++ List.replicate 16 0
  natLE 4 0x4C444E42 ++ natLE 2 1 ++ [4, 0] ++ natLE 4 7 ++ natLE 4 0 ++ natLE 4 0x4000 ++ List.replicate 0x2C 0 ++
    ((List.range 4).map (fun i => comp (i + 1))).flatten ++ List.replicate 0x40 0

def withBundle : Hw := on.norWrite (bundleBase 1) emptyBundle

theorem witness_ImageCommandsComplete :
    takesOn withSlotA 0x0200 [1] [] ∧ (askedOn withSlotA 0x0200 [1] []).slotPresent 1 ∧ (askedOn withSlotA 0x0200 [1] []).bundleValid 1 ∧
    takesOn on 0x0201 [1] [] ∧ (askedOn on 0x0201 [1] []).pldmOn 1 = false ∧ (askedOn on 0x0201 [1] []).sec.comps = [] ∧
    takesOn on 0x0202 [1, 0, 4, 8] [1, 2, 3, 4] ∧ ((askedOn on 0x0202 [1, 0, 4, 8] [1, 2, 3, 4]).norRead (bundleBase 1 + 8) 4).all (· = 0xFF) ∧
    takesOn (on.cfgPut 1 [0]) 0x0204 [1] [] ∧ (askedOn (on.cfgPut 1 [0]) 0x0204 [1] []).cfgGet 1 = some [0] ∧
    takesS sess 0x0205 [1, 1, 0] [0] ∧ (cfgLen 1).isSome ∧ (askedS sess 0x0205 [1, 1, 0] [0]).cfgOk 1 [0] ∧ on.rpmc.cfgGen ≠ 0xFFFFFFFF ∧
    takesS sess 0x0206 [0xFFFF] [] := by
  decide +kernel

theorem forStepping_of_both (l : List Comp) (h : l.all (fun c => c.steppings = 3) = true) : l.all Comp.forStepping = true := by
  simp only [List.all_eq_true] at h ⊢
  intro c hc
  have := h c hc
  simp only [decide_eq_true_eq] at this
  simp only [Comp.forStepping, this]
  split <;> rfl

/-- The checks of a bundle that need no key. -/
def keylessOk (h : Hw) (b : Bundle) (len : Nat) : Bool :=
  b.formatOk && decide (b.length = len) && !(b.comps.any (fun c => c.size ≠ 0 && (h.compBody c).all (· = 0xFF))) && h.ownerSigOk 1 b &&
    b.comps.all h.compDigestOk && decide (h.rpmc.svn ≤ b.svn) && decide (h.rpmc.keyFloor ≤ b.keyIdx) && consistent b.comps &&
    b.comps.all (fun c => c.steppings = 3)

theorem commitCode_of_keyless (h : Hw) (len : Nat) (hk : keylessOk h (h.bundle 1) len = true) (hv : (h.bundle 1).vendorOk = true) : h.commitCode 1 len = 0 := by
  simp only [keylessOk, Bool.and_eq_true, Bool.not_eq_true', decide_eq_true_eq] at hk
  obtain ⟨⟨⟨⟨⟨⟨⟨⟨h1, h2⟩, h3⟩, h4⟩, h5⟩, h6⟩, h7⟩, h8⟩, h9⟩ := hk
  simp only [Hw.commitCode, h1, h2, h3, h4, h5, h8, hv, forStepping_of_both _ h9, Nat.not_lt.2 h6, Nat.not_lt.2 h7]
  simp

theorem emptyBundle_length : emptyBundle.length = 0x200 := by decide +kernel

theorem withBundle_nor : withBundle.nor = Mem.write norBlank on.nor (bundleBase 1) emptyBundle := by simp only [withBundle, Hw.norWrite]

theorem on_nor : on.nor = [] := by decide +kernel

theorem withBundle_read (n : Nat) : withBundle.norRead (bundleBase 1) (0x200 + n) = emptyBundle ++ List.replicate n 0xFF := by
  have h1 : Mem.read norBlank withBundle.nor (bundleBase 1) 0x200 = emptyBundle := by
    rw [withBundle_nor, on_nor, ← emptyBundle_length]
    exact Mem.read_write emptyBundle rfl
  have h2 : withBundle.nor.all (fun c => c.1 < bundleBase 1 + 0x200) = true := by
    rw [withBundle_nor, on_nor]
    exact Mem.all_write emptyBundle rfl (by simp [emptyBundle_length])
  rw [Hw.norRead, Mem.read_add, h1, Mem.read_above _ _ (bundleBase 1 + 0x200) n 0xFF h2]
  intro i hi
  have h3 : bundleBase 1 = 0x9000000 := rfl
  have h4 : decide (0x9000000 + 0x200 + i < 0x20000) = false := decide_eq_false (by omega)
  have h5 : decide (0x9000000 + 0x200 + i < 0x9000000) = false := decide_eq_false (by omega)
  rw [norBlank, h3, h4, h5, Bool.and_false]
  rfl

theorem withBundle_head : withBundle.bundle 1 = parseBundle 1 (emptyBundle ++ List.replicate 0x3E00 0xFF) := by
  rw [Hw.bundle, show (0x4000 : Nat) = 0x200 + 0x3E00 from rfl, withBundle_read]

/-- IMG_COMMIT: a bundle that passes every check, where the vendor's signature of it verifies (which rests on the vendor's keys: log entry 5). -/
theorem witness_ImgCommit (hv : (withBundle.bundle 1).vendorOk = true) :
    takesOn withBundle 0x0203 [1, 0, 0x4000] [] = true ∧ withBundle.commitCode 1 0x4000 = 0 :=
  ⟨by decide +kernel, commitCode_of_keyless _ _ (by rw [withBundle_head]; decide +kernel) hv⟩

theorem witness_PowerCommandsComplete :
    takesOn on 0x0300 [] [] ∧ takesOn on 0x0301 [6] [] ∧
    takesS sess 0x0302 [] [] ∧ (askedS sess 0x0302 [] []).shut.ctxs = [] ∧ (askedS sess 0x0302 [] []).asyncRuns = false ∧
    (let h := { sess with dom := 0x3FFFFFFF - 2 ^ 13 }
     takesS h 0x0303 [13, 1] [] ∧ (askedS h 0x0303 [13, 1] []).domOn (domPANEL 3) ∧ (askedS h 0x0303 [13, 1] []).domOn (domEYELET 7) = false) ∧
    takesS sess 0x0303 [13, 0] [] ∧ (askedS sess 0x0303 [13, 0] []).domOn (domEYELET 7) ∧
      ((List.range 8).all (fun k => (askedS sess 0x0303 [13, 0] []).lkState (8 * 7 + k) = lsOFF)) ∧
    (let h := { sess with dom := 0x3FFFFFFF - 2 ^ 29 }
     takesS h 0x0303 [29, 1] [] ∧ (askedS h 0x0303 [29, 1] []).domOn (domPANEL 3) ∧ (askedS h 0x0303 [29, 1] []).domOn (domSTACK 15) = false) ∧
    (let h := sess.set (F.STK_STATE 15) 4
     takesS h 0x0303 [29, 0] [] ∧ (askedS h 0x0303 [29, 0] []).domOn (domSTACK 15) ∧ (askedS h 0x0303 [29, 0] []).get (F.STK_STATE 15) = 4) := by
  decide +kernel

theorem witness_JobCommandsComplete :
    takesOn on 0x0400 [2 ^ 127 + 5, 9] [] ∧ (askedOn on 0x0400 [2 ^ 127 + 5, 9] []).flag F.TRAIN_CFG_ENABLE = false ∧
    takesOn on 0x0401 [7, 512, 100, 1] [] ∧
    takesOn on 0x0402 [7, 0, 0x20000, 0x30000, 0x4000, 0, 0] [] ∧ (askedOn on 0x0402 [7, 0, 0x20000, 0x30000, 0x4000, 0, 0] []).flag F.XLATE_CFG_ENABLE = false ∧
    takesOn full 0x0403 [2047] [] ∧ (askedOn full 0x0403 [2047] []).get F.MMU_ROOT ≠ 0 ∧ takesOn on 0x0403 [3] [] ∧
    takesOn full 0x0404 [2047, 1] [] ∧ (askedOn full 0x0404 [2047, 1] []).mb.quiesce = none ∧
    takesOn full 0x0405 [65535] [] ∧ (askedOn full 0x0405 [65535] []).tapeReach 65535 ∧
    takesOn full 0x0406 [3, 2, 0xFFFF] [] ∧ tapeFieldOk 2 0xFFFF := by
  decide +kernel

/-- The same with a session. -/
def fullS : Hw := { full with sec := sess.sec }

/-- The least plan: one rank, this chip, no axis, no link. -/
def planImage : Bytes :=
  natLE 4 0x4E414C50 ++ natLE 2 1 ++ [0, 0] ++ natLE 2 1 ++ natLE 2 0 ++ natLE 2 1 ++ List.replicate 0x402 0

/-- The plan's image in HBM, the coordinate being set. -/
def planned : Hw :=
  let h := idle.set F.TOPO_VALID 1
  { h with hbm := { h.hbm with mem := Mem.write (fun _ => 0) h.hbm.mem 0x1000000 planImage } }

/-- The plan that the image holds, with link 0 as its test link, as loaded. -/
def onePlan : Plan :=
  { image := planImage, nRanks := 1, nSpares := 0, discTmo := 1, tokenCheck := false, solo := false, remapOk := false, degradedOk := false
    axes := [], links := ⟨1, 0, 0, 0, 0⟩ :: List.replicate 63 ⟨0, 0, 0, 0, 0⟩, tokens := [], ranks := [⟨0, false, 0⟩], digest := [] }

def loaded : Hw := let h := on.set (F.LNK_STATE 0) lsUP; { h with topo := { h.topo with plan := some onePlan } }

theorem witness_TopologyCommandsComplete :
    takesS sess 0x0500 [31, 63, 15] [] ∧ (askedS sess 0x0500 [31, 63, 15] []).flag F.TOPO_VALID = false ∧
    takesOn on 0x0502 [] [] ∧ takesOn loaded 0x0503 [0] [] ∧ (askedOn loaded 0x0503 [0] []).topo.plan = some onePlan ∧ onePlan.find 0 = some 0 ∧
    takesOn full 0x0600 [2 ^ 63 + 1, 2 ^ 63] [] ∧ takesOn on 0x0601 [63] [] ∧
    takesS sess 0x0602 [7] [] ∧ ((List.range 8).all (fun k => (askedS sess 0x0602 [7] []).lkState (8 * 7 + k) = lsOFF)) ∧
    (let h := sess.set (F.EYE_STATE 7) 1
     takesS h 0x0602 [7] [] ∧ ((askedS h 0x0602 [7] []).cfgDrop (· = 0x27)).get (F.EYE_STATE 7) ≠ 0) := by
  decide +kernel

theorem witness_TopoLoadPlan :
    takesOn planned 0x0501 [0x1000000, 0x410] [] ∧ inHbm 0x1000000 ∧
    ((List.range 2).all (fun i => (askedOn planned 0x0501 [0x1000000, 0x410] []).hbmMapped (min (0x1000000 + 4096 * i) (0x1000000 + 0x410 - 1)) 1)) ∧
    (askedOn planned 0x0501 [0x1000000, 0x410] []).flag F.TOPO_CFG_ENABLE = false ∧ (askedOn planned 0x0501 [0x1000000, 0x410] []).flag F.TOPO_VALID ∧
    (let r := (askedOn planned 0x0501 [0x1000000, 0x410] []).readLocal 0x1000000 0x410
     r.2.2 = false ∧ r.1.planCheck (parsePlan r.2.1) = 0 ∧ 0x400 + 16 * ((parsePlan r.2.1).nRanks + (parsePlan r.2.1).nSpares) ≤ 0x410) := by
  decide +kernel

/-- A finished scan of channel 31 of stack 15 at one offset. -/
def scanned : Hw := { full with hbm := { full.hbm with scanRes := [⟨15, 31, 1, [], [(-5, [3, 4])], 9⟩] } }

theorem witness_StackCommandsComplete :
    takesOn full 0x0700 [15, 31] [] ∧ (askedOn full 0x0700 [15, 31] []).retrainRuns 15 31 = false ∧ (askedOn full 0x0700 [15, 31] []).chOnline 15 31 ∧
    takesS fullS 0x0701 [15, 31, 2, 0, 0xF8, 3] [] ∧ (marginRange 2).1 ≤ s8 0xF8 ∧ s8 3 ≤ (marginRange 2).2 ∧ s8 0xF8 ≤ s8 3 ∧
    (askedS fullS 0x0701 [15, 31, 2, 0, 0xF8, 3] []).hbm.scans = [] ∧
    takesOn scanned 0x0702 [15, 31, 0] [] ∧
    ((askedOn scanned 0x0702 [15, 31, 0] []).hbm.scanRes.find? (fun x => x.stack = 15 && x.ch = 31)).any (fun x => x.done[0]? == some (-5, [3, 4])) ∧
    takesOn full 0x0703 [15, 4] [] ∧ (askedOn full 0x0703 [15, 4] []).get (F.STK_STATE 15) = 2 ∧ (askedOn full 0x0703 [15, 4] []).stackUsed 15 = false ∧
    (let h := full.set (F.STK_STATE 15) 4
     takesOn h 0x0703 [15, 2] [] ∧ (askedOn h 0x0703 [15, 2] []).get (F.STK_STATE 15) = 4 ∧ (askedOn h 0x0703 [15, 2] []).hbm.scans = []) ∧
    takesOn full 0x0704 [15, 31] [] ∧ (askedOn full 0x0704 [15, 31] []).hbm.mapout.find? 15 = none ∧ (askedOn full 0x0704 [15, 31] []).mapoutRefusal 15 31 = 0 ∧
    (let h := fullS.set (F.STK_STATE 15) 4
     takesS h 0x0705 [15] [] ∧ (askedS h 0x0705 [15] []).get (F.STK_STATE 15) = 4) ∧
    takesOn full 0x0706 [0, 15, 0x10000] [] ∧ ((askedOn full 0x0706 [0, 15, 0x10000] []).allocRegion (some 15) 0x10000).2.isSome ∧
    (let h := (full.set (F.REG_SIZE 0) 0x10000).set (F.REG_BASE 0) 0x70000
     takesOn h 0x0706 [1, 15, 0x70000] [] ∧
     (List.range 1024).find? (fun r => (askedOn h 0x0706 [1, 15, 0x70000] []).get (F.REG_SIZE r) ≠ 0 && (askedOn h 0x0706 [1, 15, 0x70000] []).get (F.REG_BASE r) = 0x70000) = some 0) := by
  decide +kernel

/-- Virtual 2 GiB to 2 GiB + 64 KiB are mapped by a leaf of 64 KiB: the fifth leaf entry is a table at 0x30000. -/
def pageMapped : Hw :=
  let m := Mem.write (fun _ => 0) full.hbm.mem 0x20020 (natLE 8 (1 + 0x30000))
  { full with hbm := { full.hbm with mem := Mem.write (fun _ => 0) m 0x30000 (natLE 8 (mkLeaf 0 0 0x70000 true true false)) } }

/-- What MEM_MAP asks of the hardware that executes it, for a range, an address and a target. -/
def maps (h : Hw) (va n addr win tgt fl : Nat) : Bool :=
  let l := [va, n, addr, win, tgt, fl]
  let a := askedOn h 0x0707 l []
  let sp := if tgt = 0 then spadPart addr n else (0, 0)
  takesOn h 0x0707 l [] && (tgt != 0 || win == 0 && a.rangeMapped addr n && !a.inReserve addr n) && !a.spadTaken sp.1 sp.2 && !a.objsAt va n &&
    a.mmuRoot != 0 && a.pagesIn (pageFuel n) va n == [] &&
    (a.mapRange (pageFuel n) va addr n (fun pa => mkLeaf tgt win pa (bitOf fl 0) (bitOf fl 1) (bitOf fl 2))).2

/-- Local memory, a peer window and a host window; the last page of a page table, the last window, the last address. -/
theorem witness_MemMap :
    maps pageMapped (2 ^ 31 + 0x10000) 0x10000 0x50000 0 0 7 ∧ maps pageMapped (2 ^ 31 + 0x10000) 0x20000 (spadBase + 0x10000) 0 0 3 ∧
    maps pageMapped (2 ^ 31 + 0x1FFF0000) 0x10000 (2 ^ 52 - 0x10000) 4095 1 1 ∧ maps pageMapped (2 ^ 31 + 0x10000) 0x10000 0 4095 2 0 := by
  decide +kernel

theorem witness_MappingCommandsComplete :
    takesOn pageMapped 0x0708 [2 ^ 31, 0x10000] [] ∧
    (let a := askedOn pageMapped 0x0708 [2 ^ 31, 0x10000] []
     a.mmuRoot ≠ 0 ∧ ((a.pagesIn (pageFuel 0x10000) (2 ^ 31) 0x10000).any (fun g => !a.objsAt g.1 g.2.2)) ∧ a.objsAt (2 ^ 31) 0x10000 = false ∧
     (a.splitLeaf (2 ^ 31)).2 ∧ ((a.splitLeaf (2 ^ 31)).1.splitLeaf (2 ^ 31 + 0x10000)).2) ∧
    takesOn on 0x0709 [4095, 32767, 0, spadBase] [] ∧ (askedOn on 0x0709 [4095, 32767, 0, spadBase] []).solo = false ∧ takesOn on 0x0709 [4095, 5, 7, 0] [] ∧
    takesOn on 0x070A [4095, 2 ^ 63, 2 ^ 63] [] ∧ (askedOn on 0x070A [4095, 2 ^ 63, 2 ^ 63] []).solo = false ∧ takesOn on 0x070A [4095, 7, 0] [] ∧
    takesOn on 0x070B [255, 32767, 1, 0, spadBase + 4 * panelSize] [] ∧
    (askedOn on 0x070B [255, 32767, 1, 0, spadBase + 4 * panelSize] []).flag F.GUEST_VALID = false ∧ takesOn on 0x070B [255, 0, 0, 0, 0] [] ∧
    (let h := full.set F.GUEST_VALID 1
     let a := askedOn h 0x070B [255, 32767, 1, 15 * stackSize + h.liningExt, spadBase + 4 * panelSize - 15 * stackSize - h.liningExt] []
     takesOn h 0x070B [255, 32767, 1, 15 * stackSize + h.liningExt, spadBase + 4 * panelSize - 15 * stackSize - h.liningExt] [] ∧ a.flag F.GUEST_VALID ∧
     ∀ k < 16, k * stackSize + a.liningExt ≤ 15 * stackSize + h.liningExt) ∧
    takesOn on 0x070C [2 ^ 36 - 1, 0xFFFFFFFF] [] ∧ takesOn on 0x070C [0, 1] [] ∧ takesOn on 0x070D [0, 1] [] ∧ takesOn on 0x070D [65535, 2] [] := by
  decide +kernel

/-- A context of queue 63 that runs. -/
def ctx0 : Ctx := mkCtx 63 false 0 0 (natLE 8 0x2000 ++ natLE 4 100 ++ List.replicate 20 0)

def withCtx (h : Hw) (c : Nat) (x : Ctx) : Hw := { h with shut := { h.shut with ctxs := h.shut.ctxs.set c x } }

/-- Every Lining slot of chip 5 may be written: it is in the peer table, alive. -/
def peered : Hw := ((on.set (F.CHIP_MAP 5) 3).set (F.PEER_ENTRY 3) (2 ^ 63 + 1 * 2 ^ 59 + 5 * 2 ^ 40))

theorem witness_QueueAndSnapshotCommandsComplete :
    (let h := withCtx (full.set F.CSA_BASE 5) 511 ctx0
     takesOn h 0x0800 [511, 1] [] ∧ (askedOn h 0x0800 [511, 1] []).ctxState 511 ≠ 0 ∧ (askedOn h 0x0800 [511, 1] []).get F.CSA_BASE ≠ 0 ∧
     takesOn h 0x0800 [511, 3] [] ∧ (askedOn h 0x0800 [511, 3] []).ctxState 511 ≠ 0 ∧
     takesOn h 0x0801 [63, 2] [] ∧ (askedOn h 0x0801 [63, 2] []).get F.CSA_BASE ≠ 0 ∧ takesOn h 0x0801 [63, 4] []) ∧
    (let h := withCtx full 511 { ctx0 with st := .preempted }
     takesOn h 0x0800 [511, 2] [] ∧ (askedOn h 0x0800 [511, 2] []).ctxState 511 = 5 ∧ takesOn h 0x0801 [63, 3] []) ∧
    takesOn full 0x0801 [63, 1] [] ∧
    takesOn on 0x0900 [2 ^ 52 - 8192] [] ∧ (askedOn on 0x0900 [2 ^ 52 - 8192] []).flag F.BAST_CFG_ENABLE = false ∧
    takesOn full 0x0901 [32767, 2] [] ∧ (askedOn full 0x0901 [32767, 2] []).flag F.GUEST_VALID = false ∧
      ((List.range 16).all (fun k => (askedOn full 0x0901 [32767, 2] []).get (F.STK_STATE k) = 2)) ∧ (askedOn full 0x0901 [32767, 2] []).extentsUsed 2 = false ∧
    (let h := on.set F.GUEST_VALID 1
     takesOn h 0x0902 [] [] ∧ (askedOn h 0x0902 [] []).flag F.GUEST_VALID ∧ takesOn h 0x0903 [32767] [] ∧ (askedOn h 0x0903 [32767] []).flag F.GUEST_VALID) ∧
    (let h := (on.set (F.REG_SIZE 0) 0x800000).set (F.REG_BASE 0) 0x10000
     takesOn h 0x0905 [0x10000, 0x410000, 1, 2, 3, 4, 16, 5, 6, 7] [] ∧
     (askedOn h 0x0905 [0x10000, 0x410000, 1, 2, 3, 4, 16, 5, 6, 7] []).inOneRegion 0x10000 (64 * 2 ^ 16) ∧
     (askedOn h 0x0905 [0x10000, 0x410000, 1, 2, 3, 4, 16, 5, 6, 7] []).inOneRegion 0x410000 (16 * 2 ^ 16)) ∧
    takesOn on 0x0906 [] [] ∧ takesOn on 0x0907 [0] [] ∧ takesOn on 0x0907 [1] [] ∧ (askedOn on 0x0907 [1] []).bast.cap = none ∧
    (let h := on.set F.BUDDY_VALID 1
     takesOn h 0x0908 [] [] ∧ (askedOn h 0x0908 [] []).flag F.BUDDY_VALID) ∧
    (let h := (on.set F.BAST_CFG_ENABLE 1).set F.BUDDY_VALID 1
     let a := askedOn h 0x0909 [0, 2, 0, 0, 0, 0, 0xFFFF, 0] []
     takesOn h 0x0909 [0, 2, 0, 0, 0, 0, 0xFFFF, 0] [] ∧ a.bast.restore = none ∧ a.restoreBusy = false) ∧
    (let h := on.set F.BAST_CFG_ENABLE 1
     let a := askedOn h 0x0909 [1, 0, 2, 2, 32767, 2, 4095, 2 ^ 1000] []
     takesOn h 0x0909 [1, 0, 2, 2, 32767, 2, 4095, 2 ^ 1000] [] ∧ a.bast.restore = none ∧ a.restoreBusy = false ∧ ∀ i < 16, elemLE 8 i (2 ^ 1000) < 2 ^ 52) := by
  decide +kernel

/-- SNAP_BIND_BUDDY: all but the open answer of the buddy, which is the free choice 9900 of the command. -/
theorem witness_SnapBindBuddy :
    takesOn peered 0x0904 [5, 2, 2 ^ 1000] [] ∧ (∀ i < 16, elemLE 8 i (2 ^ 1000) < 2 ^ 52) ∧ (askedOn peered 0x0904 [5, 2, 2 ^ 1000] []).bast.cap = none ∧
    (askedOn peered 0x0904 [5, 2, 2 ^ 1000] []).peerReach 5 ∧ (askedOn peered 0x0904 [5, 2, 2 ^ 1000] []).freeCtr = 0 := by
  decide +kernel

/-- An owner record for a part whose identity hash reads zero. -/
def ownerRec : Bytes :=
  natLE 4 0x524E574F ++ natLE 2 1 ++ natLE 2 0 ++ natLE 4 1 ++ natLE 4 0 ++ List.replicate 32 0 ++ List.replicate 32 7 ++ [1] ++ List.replicate (8112 - 0x51) 0

def enrolling : Hw := sess.updChan 1 (fun k => { k with inp := ownerRec })

theorem witness_SecurityAndDiagCommandsComplete :
    takesOn on 0x0A00 [] [] ∧ takesOn on 0x0A01 [2 ^ 255 + 1, 0xFFFF] [] ∧ takesOn on 0x0B00 [1, 2, 3, 4, 5, 0x7FFFF, 6] [] ∧
    takesOn full 0x0B01 [0x800068, 8] [] ∧ ((askedOn full 0x0B01 [0x800068, 8] []).regRead .diag 0x800068 8).2.isSome ∧
    takesS fullS 0x0B02 [0x480000, 4, 0xFFFFFFFF] [] ∧ ((askedS fullS 0x0B02 [0x480000, 4, 0xFFFFFFFF] []).regWrite .diag 0x480000 4 0xFFFFFFFF).2 ∧
    takesOn on 0x0B03 [291] [] ∧
    takesOn loaded 0x0B04 [10000] [] ∧ (askedOn loaded 0x0B04 [10000] []).lkUp 0 ∧ (askedOn loaded 0x0B04 [10000] []).topo.plan = some onePlan ∧
      ((onePlan.links[(askedOn loaded 0x0B04 [10000] []).plinkOf 0]?).map (·.role)).getD 0 = 1 := by
  decide +kernel

/-- SEC_ENROL: a record that passes every check but the signature, which rests on the keys (log entry 5), and copy 0 holding no valid record. -/
theorem witness_SecEnrol :
    takesS enrolling 0x0A02 [8112] [] ∧
    (let a := askedS enrolling 0x0A02 [8112] []
     let r := (a.chan 1).inp.take 8112
     r.length = 8112 ∧ recordFormatOk r ∧ bitOf (fieldLE r 6 2) 0 = false ∧ fieldLE r 8 4 = a.rpmc.ownerGen + 1 ∧ slice r 0x10 32 = a.regBytes regIdHash 32 ∧
     a.sec.owner = none ∧ a.ownerCopy 0 = none) := by
  decide +kernel

theorem witness_EventAndSageCommandsComplete :
    takesOn full 0x0C00 [0x800000, 16, 1] [] ∧ (askedOn full 0x0C00 [0x800000, 16, 1] []).mmuRoot ≠ 0 ∧
      ((askedOn full 0x0C00 [0x800000, 16, 1] []).xlateRange noCache .write 0x800000 (32 * 2 ^ 16)).isOk ∧
    takesOn on 0x0C01 [0, 0] [] ∧ takesOn on 0x0C02 [2, 4, 0xFFFF] [] ∧ takesOn on 0x0D00 [63, 1] [] ∧ takesOn on 0x0D01 [] [] ∧
    takesS sess 0x0D02 [2, 0, 700] [] ∧ threshOk 2 700 ∧
    (let h := ((sess.set (F.THRESH_VALUE 0) 1000).set (F.THRESH_VALUE 1) 1050)
     takesS h 0x0D02 [2, 0, 990] [] ∧ threshOrder (fun i => (askedS h 0x0D02 [2, 0, 990] []).get (F.THRESH_VALUE i)) 2 990) ∧
    takesOn on 0x0D03 [7] [] := by
  decide +kernel


/-! ### Witnesses: the Shuttle -/

theorem witness_QueueCommandsComplete :
    (let h := (full.set (F.Q_ENABLE 63) 1).set (F.Q_SQ_LOG2 63) 16
     h.domOn domYOKE ∧ h.flag (F.Q_ENABLE 63) ∧ (2 ^ 32 + 65535) % 2 ^ 32 < h.sqSize 63 ∧ h.sqSize 63 ≤ 65536 % 2 ^ 32 ∧ h.get (F.Q_ERR 63) = 0) ∧
    (full.flag (F.Q_ENABLE 0) = false ∧ full.domOn domYOKE) ∧
    (let h := (full.set (F.Q_ENABLE 63) 1).set (F.Q_CQ_LOG2 63) 4
     let t := h.updQ 63 (fun k => { k with stopped := true })
     15 < h.cqSize 63 ∧ (h.q 63).stopped = false ∧ h.cqSize 63 ≤ 16 ∧ h.get (F.Q_ERR 63) = 0 ∧ (t.q 63).stopped ∧ t.flag (F.Q_ENABLE 63) ∧ 15 < t.cqSize 63) ∧
    (let h := ((((full.set (F.Q_ENABLE 63) 1).set (F.Q_SQ_LOG2 63) 4).set (F.Q_SQ_BASE 63) 0x1000).set (F.Q_SQ_HEAD 63) 15).set (F.Q_SQ_TAIL 63) 0
     h.nextQueue = some 63 ∧ h.stageOff 63 = false ∧
     (match h.vread noCache .read (h.get (F.Q_SQ_BASE 63) + 32 * h.get (F.Q_SQ_HEAD 63)) 32 [] with
      | .ok (a, _, false) => decide (a.freeCtxNum = some 0)
      | _ => false) = true) ∧
    (let h := (((full.set (F.Q_ENABLE 63) 1).set (F.Q_CQ_LOG2 63) 4).set (F.Q_CQ_BASE 63) 0x3000).updQ 63 (fun k => { k with held := [⟨0, List.replicate 32 1, false⟩] })
     (h.q 63).stopped = false ∧ h.cqFull 63 = false ∧ (h.q 63).held = [⟨0, List.replicate 32 1, false⟩] ∧
     (h.recWrite 63 ⟨0, List.replicate 32 1, false⟩).isOk) ∧
    (full.set (F.Q_ENABLE 63) 1).flag (F.Q_ENABLE 63) ∧
    (let h := (full.set (F.Q_ENABLE 63) 1).updQ 63 (fun k => { k with disabling := true })
     (h.q 63).disabling ∧ h.qCtxs 63 = 0) := by
  decide +kernel

/-- An instruction from its fields, each at its low bit. -/
def ins (fs : List (Nat × Nat)) : Nat := fs.foldl (fun n f => n + f.2 * 2 ^ f.1) 0

/-- A tensor of one axis: address, class, format, extent. -/
def dsc (addr cls fmt n : Nat) : Nat :=
  ins [(0, addr), (63, 1), (128, n), (160, 1), (192, 1), (224, 1), (8 * 0x28 + 32, 0xFFFF), (8 * 0x30 + 4, cls), (8 * 0x30, fmt)]

/-- A tensor of two axes, rows of 64 bytes. -/
def dsc2 (addr cls fmt m n : Nat) : Nat :=
  ins [(0, addr), (63, 1), (128, m), (160, n), (192, 1), (224, 1), (256, 64), (8 * 0x28 + 32, 0xFFFF), (8 * 0x30 + 10, 1), (8 * 0x30 + 4, cls), (8 * 0x30, fmt)]

/-- The virtual address of Panel 3's scratchpad: leaf 5. -/
def va3 : Nat := 5 * 0x20000000

/-- An instruction in the window, with its descriptors numbered from 0, on an engine. -/
def entOf (raw : Nat) (ds : List Nat) (eng : Option Nat) : Ent :=
  let l := ds.zipIdx.map (fun p => (p.2, p.1)) ++ [descsRead]
  { Ent.fresh 0 raw with descs := l, engine := eng, reads := (insFoot raw l).1, writes := (insFoot raw l).2 }

/-- Context 511 runs this instruction; the scratchpad's first 64 KiB of Panels 0 and 3 are mapped. -/
def running (e : Ent) : Hw :=
  withCtx { full with
    hbm := { full.hbm with mem := Mem.write (fun _ => 0) full.hbm.mem 0x20028 (natLE 8 (mkLeaf 0 0 (spadBase + 3 * panelSize) true true false)) }
    spad := { full.spad with mapped := [(spadBase, 0x10000), (spadBase + 3 * panelSize, 0x10000)] } } 511 { ctx0 with window := [e] }

def candOf (e : Ent) : Cand := ⟨511, { ctx0 with window := [e] }, e, 7⟩

/-- Window entries for engine 63: destination first, tensors of 32 BF16 elements but where the instruction asks for others. -/
def vecEnt (raw : Nat) (ds : List (Nat × Nat × Nat)) : Ent := entOf raw (ds.zipIdx.map (fun p => dsc (va3 + 0x1000 * p.2) p.1.1 p.1.2.1 p.1.2.2)) (some 255)

def eCvt : Ent := vecEnt (ins [(124, 1), (107, 0), (91, 1)]) [(0, 0, 32), (0, 1, 32)]
def eVop : Ent := vecEnt (ins [(124, 2), (115, 3), (99, 0), (83, 1), (67, 2), (51, noDesc)]) [(0, 0, 32), (0, 0, 32), (0, 0, 32)]
def eDropout : Ent := vecEnt (ins [(124, 2), (115, 0x30), (99, 0), (83, 1), (51, 0x3F800000), (0, 0x10000)]) [(0, 0, 32), (0, 0, 32)]
def eSgd : Ent := vecEnt (ins [(124, 2), (115, 0x40), (99, 0), (83, 1), (67, noDesc), (51, noDesc), (35, 2)]) [(1, 0, 32), (2, 0, 32), (5, 0, 16)]
def eMomentum : Ent := vecEnt (ins [(124, 2), (115, 0x41), (99, 0), (83, 1), (67, 2), (51, noDesc), (35, 3)]) [(1, 0, 32), (2, 0, 32), (3, 0, 32), (5, 0, 16)]
def eAdamw : Ent := vecEnt (ins [(124, 2), (115, 0x42), (99, 0), (83, 1), (67, 2), (51, 3), (35, 4)]) [(1, 0, 32), (2, 0, 32), (3, 0, 32), (3, 0, 32), (5, 0, 16)]
def eRed : Ent := vecEnt (ins [(124, 3), (102, 0), (86, 1), (70, noDesc)]) [(0, 0, 1), (0, 0, 32)]
def ePleat : Ent := vecEnt (ins [(124, 4), (103, 0), (87, 1), (71, 2), (55, 3), (39, 4)]) [(0, 0, 32), (5, 9, 32), (0, 0, 16), (5, 9, 16), (5, 10, 2)]
def eUnpleat : Ent := vecEnt (ins [(124, 5), (118, 1), (102, 0), (86, 1), (70, 2), (54, noDesc), (22, 16)]) [(0, 0, 32), (0, 0, 16), (5, 9, 16)]
def eRng : Ent := vecEnt (ins [(124, 8), (104, 0), (85, 0x10000)]) [(5, 10, 32)]

theorem witness_VectorCommandsComplete :
    (running eCvt).vecTakes 63 (candOf eCvt) (fun r => insOpc r = 1) ∧
    (running eVop).vecTakes 63 (candOf eVop) (fun r => insOpc r = 2 && vfnOf r < 0x30) ∧
    (running eDropout).vecTakes 63 (candOf eDropout) (fun r => insOpc r = 2 && vfnOf r = 0x30) ∧
    (running eSgd).vecTakes 63 (candOf eSgd) (fun r => insOpc r = 2 && vfnOf r = 0x40) ∧
    (running eMomentum).vecTakes 63 (candOf eMomentum) (fun r => insOpc r = 2 && vfnOf r = 0x41) ∧
    (running eAdamw).vecTakes 63 (candOf eAdamw) (fun r => insOpc r = 2 && vfnOf r = 0x42) ∧
    (running eRed).vecTakes 63 (candOf eRed) (fun r => insOpc r = 3) ∧
    (running ePleat).vecTakes 63 (candOf ePleat) (fun r => insOpc r = 4) ∧
    (running eUnpleat).vecTakes 63 (candOf eUnpleat) (fun r => insOpc r = 5) ∧
    (running eRng).vecTakes 63 (candOf eRng) (fun r => insOpc r = 8) := by
  refine ⟨?_, ?_, ?_, ?_, ?_, ?_, ?_, ?_, ?_, ?_⟩ <;> (unfold Hw.vecTakes; decide +kernel)

/-- An instruction that has issued, with what it is to write. -/
def issued (e : Ent) (vw : List (Nat × Bytes)) : Ent := { e with ph := .issued, res := { e.res with segs := [⟨spadBase + 3 * panelSize, [1, 2]⟩], vw := vw } }

theorem witness_VecInstrComplete :
    (let h := running (issued eCvt [])
     let e := issued eCvt []
     h.working? 511 0 = some e ∧ insIsVec e.raw ∧ e.ph = .issued ∧ h.flag F.SPAD_CFG_ENABLE ∧ (h.undef e).res.vw = [] ∧
     h.resultWait noCache (h.undef e).res.segs [] = none) ∧
    (let e := issued eCvt [(va3, [1])]
     (running e).working? 511 0 = some e ∧ ((running e).undef e).res.vw ≠ []) := by
  decide +kernel

/-- D = A × B of 32 × 32 on array 191; MODE and FINAL as given. -/
def mmaRaw (mode fin : Nat) : Nat := ins [(122, fin), (120, mode), (118, 3), (109, 5), (93, 0), (77, 1), (61, 2), (37, 31)]
def eMma (mode fin : Nat) (eng : Option Nat) : Ent := entOf (mmaRaw mode fin) [dsc2 va3 0 0 32 32, dsc2 (va3 + 0x1000) 0 0 32 32, dsc2 (va3 + 0x2000) 0 0 32 32] eng

theorem witness_WindowCommandsComplete :
    (let h := withCtx full 511 ctx0
     h.ctx? 511 = some ctx0 ∧ h.mayFetch ctx0 ∧ ctx0.window.all (fun e => !e.descs.isEmpty || e.flt.isSome) ∧
     (match h.vread (511 % 4) .fetch (ctx0.progAddr + 16 * ctx0.pc) 16 [] with
      | .ok (a, bs, false) =>
        let e := Ent.fresh ctx0.pc (leNat bs)
        insValid (leNat bs) && ((a.updCtx 511 (fun x => { x with pc := x.pc + 1, window := x.window ++ [e] })).entDescs (511 % 4) (leNat bs) []).isOk
      | _ => false) = true) ∧
    (let h := (withCtx full 511 ctx0).set F.DESC_BASE 0x8000000000000
     (match h.vread (511 % 4) .fetch (ctx0.progAddr + 16 * ctx0.pc) 16 [] with
      | .ok (a, bs, false) =>
        let e := Ent.fresh ctx0.pc (leNat bs)
        insValid (leNat bs) && !((a.updCtx 511 (fun x => { x with pc := x.pc + 1, window := x.window ++ [e] })).entDescs (511 % 4) (leNat bs) []).isOk
      | _ => false) = true) ∧
    (let e := eMma 1 0 none
     let h := running e
     let x := { ctx0 with window := [e] }
     h.ctx? 511 = some x ∧ h.ent? 511 0 = some e ∧ h.shutOn ∧ h.flag F.TAILOR_CFG_ENABLE ∧ x.st = .running ∧ insOpc e.raw = 0 ∧ (mmaF e.raw).mode = 1 ∧
     e.engine = none ∧ e.ph = .held ∧ e.descs ≠ [] ∧ (∀ y ∈ x.window, y.index < e.index → y.tagOrder e = false)) ∧
    (running (eMma 0 1 (some 191))).mmaTakes 191 (candOf (eMma 0 1 (some 191))) ∧
    (let e := issued (eMma 0 0 (some 191)) []
     (running e).working? 511 0 = some e ∧ insOpc e.raw = 0 ∧ e.ph = .issued ∧ (mmaF e.raw).fin = false ∧ (running e).flag F.SPAD_CFG_ENABLE) ∧
    (let e := issued (eMma 0 1 (some 191)) []
     (running e).working? 511 0 = some e ∧ insOpc e.raw = 0 ∧ e.ph = .issued ∧ (mmaF e.raw).fin ∧ (running e).flag F.SPAD_CFG_ENABLE ∧
     ((running e).undef e).res.vw = [] ∧ (running e).resultWait noCache ((running e).undef e).res.segs [] = none) ∧
    (let e := issued (eMma 0 1 (some 191)) [(va3, [1])]
     (running e).working? 511 0 = some e ∧ insOpc e.raw = 0 ∧ e.ph = .issued ∧ (mmaF e.raw).fin ∧ (running e).flag F.SPAD_CFG_ENABLE ∧
     ((running e).undef e).res.vw ≠ []) := by
  unfold Hw.mmaTakes
  decide +kernel

/-! ### Witnesses: moves, staging, statistics, synchronisation, contexts -/

/-- A MOVE of 32 BF16 elements from HBM to the scratchpad, on the last DMA engine. -/
def eMove : Ent := entOf (ins [(124, 6), (107, 0), (91, 1)]) [dsc va3 0 0 32, dsc 0x80000 0 0 32] (some 287)
def eMoving : Ent := { eMove with ph := .issued }

/-- The same instruction with its job in the last slot. -/
def moving : Hw := let h := running eMoving; { h with xl := { h.xl with jobs := [(31, [⟨11, 0, 511, 0, 0x80000, va3, 0, false, [], 0⟩])] } }

/-- A VOP whose sources lie in HBM, so that they are staged; 0.25 GiB of reserve and a look ahead. -/
def eFar : Ent := entOf (ins [(124, 2), (115, 3), (99, 0), (83, 1), (67, 2), (51, noDesc)]) [dsc va3 0 0 32, dsc 0x80000 0 0 32, dsc 0x90000 0 0 32] (some 255)

def staging (h : Hw) : Hw := (h.set F.STAGE_RES 16).set F.RA_EN 1

/-- A FENCE holds what follows it. -/
def eFence : Ent := { entOf (ins [(124, 12)]) [] none with index := 0 }
def fenced (e : Ent) : Ctx := { ctx0 with window := [eFence, { e with index := 1 }] }
def fencedHw (e : Ent) : Hw := staging (withCtx (running eMove) 511 (fenced e))

theorem witness_Move :
    (let h := running eMove
     let k := candOf eMove
     h.domOn (domPANEL (31 / 8)) ∧ h.best (256 + 31) = some k ∧ moveOk k.e ∧ h.moveRoom 31 ∧ (k.e.reads ++ k.e.writes).any (fun g => h.objBusy g.1 g.2) = false ∧
     (descIn k.e.descs (bitsOf k.e.raw 122 107)).isSome ∧ (descIn k.e.descs (bitsOf k.e.raw 106 91)).isSome) ∧
    (let e := eMoving
     moving.ent? 511 0 = some e ∧ insOpc e.raw = 6 ∧ e.ph = .issued ∧ e.flt = none ∧ e.engine.getD 256 - 256 = 31 ∧ moving.flag F.SPAD_CFG_ENABLE ∧
     (match (moving.jobsOn 31).find? (fun j => j.kind = 0 && j.ctx = 511 && j.index = 0 && !j.parked), descIn e.descs (bitsOf e.raw 122 107),
        descIn e.descs (bitsOf e.raw 106 91) with
      | some j, some dst, some src =>
        decide (0 < (src.count + moveChunk src.fmt - 1) / moveChunk src.fmt) && !j.doneChunks.contains 0 &&
        decide (((moving.activeJobs 31).filter (fun y => y.kind = 0 && y.slot ≠ j.slot)).foldl (fun n y => n + y.flying 0) 0 + j.flying 1 ≤ 16) &&
        (moving.staleAct 511 e).isNone && (min src.count (moveChunk src.fmt) == 32) &&
        moving.canReachAll (8 + 31) .read (src.stream 0 32) && moving.canReachAll (8 + 31) .write (dst.stream 0 32) &&
        (moving.resultWait (8 + 31) [] (dst.stream 0 32)).isNone &&
        (match moving.readStream (8 + 31) (src.stream 0 32) [] with
         | .ok (a, bs, false) => (a.writeStream (8 + 31) (dst.stream 0 32) bs).isOk
         | _ => false)
      | _, _, _ => false) = true) := by
  decide +kernel

/-- A job of a staging copy or write-back of that instruction, on the last DMA engine. -/
def withJob (h : Hw) (kind o : Nat) : Hw := { h with xl := { h.xl with jobs := [(31, [⟨11, kind, 511, 0, 0x80000, 0, 0, false, [], o⟩])] } }

theorem witness_Staging :
    (let h := staging (running eFar)
     let e := eFar
     h.ent? 511 0 = some e ∧ e.engine = some 255 ∧ h.best 255 = some (candOf e) ∧ h.lacksOnlyRegions 255 (candOf e) ∧ h.stagingOn ∧
     e.copies.all (fun k => k.opnd ≠ 1 || k.cut ≠ 0) ∧
     (match e.regions.find? (·.o == 1) with
      | some r =>
        let a := h.dropCopies 511 0 (· = 1)
        let b := a.makeRoom (a.copiesIn 3).length 3 (a.copyBytes 3 e r)
        !h.resident 3 e r && h.regionOk 3 r && decide (b.stageUsed 3 + a.copyBytes 3 e r ≤ b.stageSize) &&
        (dmaOf 3).any (fun d => (b.activeJobs d).length < 4) &&
        (dmaOf 3).all (fun d => b.winsUsed 3 + (if r.rd then (b.windowRanges (8 + d) (lens r.ranges)).length else 0) ≤ 256)
      | none => false) = true) ∧
    (List.all [0, 32] (fun cut =>
     let e : Ent := { eFar with copies := [⟨1, 3, 0x80000, 0x80040, 64, false, false, false, false, [], [], cut, 0, 0⟩] }
     let h := withJob (staging (running e)) 1 1
     h.ent? 511 0 == some e && h.ctx? 511 == some { ctx0 with window := [e] } && (e.copies.find? (fun k => k.opnd = 1 && !k.done)).any (fun k => !k.ahead) &&
     h.jobEngine 1 511 0 (some 1) == some 31 && h.stagingOn && !h.xl.wins.any (fun w => w.ctx = 511 && w.index = 0 && w.opnd = 1 && w.stale) &&
     (match e.regions.find? (·.o == 1) with
      | some r => ((if cut = 0 then lens r.ranges else takeStream cut (lens r.ranges)).all (fun g => (h.xlateRange (8 + 31) .read g.1 g.2).isOk))
      | none => false)) = true) ∧
    (let e : Ent := { issued eFar [(0x80000, [1, 2])] with ph := .writeback }
     let h := withJob (running e) 2 0
     h.working? 511 0 = some e ∧ e.ph = .writeback ∧ e.flt = none ∧ h.stagingOn ∧ h.jobEngine 2 511 e.index none = some 31 ∧ e.index = 0 ∧
     h.resultWait (8 + 31) e.res.segs (e.res.vw.map (fun w => (w.1, w.2.length))) = none ∧ (h.writeVirt (8 + 31) e.res.vw).isOk) := by
  decide +kernel

theorem witness_RunAhead :
    (let e : Ent := { eFar with index := 1 }
     let h := fencedHw eFar
     h.holds 511 1 (fenced eFar) e ∧ h.stagingOn ∧ h.flag F.RA_EN ∧ (fenced eFar).st = .running ∧ e.ph = .held ∧ e.flt = none ∧
     h.ready (fenced eFar) e = false ∧ insOpc e.raw ≠ 6 ∧ e.engine = some 255 ∧ e.copies.all (fun k => k.opnd ≠ 1) ∧
     (match e.regions.find? (fun r => r.o = 1 && r.rd && !r.wr) with
      | some r =>
        let need := h.copyBytes 3 e r
        let len := r.ranges.foldl (fun n g => n + (g.2 - g.1)) 0
        !h.resident 3 e r && h.aheadLen 3 (lens r.ranges) == len && decide (0 < len) &&
        decide (h.stageUsed 3 + need ≤ h.stageSize) && decide (h.stageAhead 3 + need ≤ h.stageSize / 2) &&
        (dmaOf 3).any (fun d => (h.activeJobs d).length < 4) &&
        (dmaOf 3).all (fun d => h.winsUsed 3 + (h.windowRanges (8 + d) (takeStream len (lens r.ranges))).length ≤ 256) && !r.ranges.any (fun g => h.objBusy g.1 g.2)
      | none => false) = true) ∧
    (let e : Ent := { eMove with index := 1 }
     let h := fencedHw eMove
     h.holds 511 1 (fenced eMove) e ∧ h.stagingOn ∧ h.flag F.RA_EN ∧ e.ph = .held ∧ e.flt = none ∧ h.ready (fenced eMove) e = false ∧ insOpc e.raw = 6 ∧
     e.engine = some 287 ∧ h.xl.wins.any (fun w => w.ctx = 511 && w.index = 1) = false ∧
     (match descIn e.descs (bitsOf e.raw 106 91) with
      | some src =>
        let all := takeStream (0x40000 - h.aheadHeld 31) (src.aheadStream 0)
        let len := all.foldl (fun n g => n + g.2) 0
        let got := takeStream len all
        !got.isEmpty && h.aheadLen (8 + 31) all == len && decide (h.winsUsed 3 + (h.windowRanges (8 + 31) got).length ≤ 256)
      | none => false) = true) := by
  unfold Hw.holds
  decide +kernel

/-- A STAT of a function on slot 65535: class GRAD, this immediate. -/
def eStat (sfn imm : Nat) : Ent :=
  entOf (ins ([(124, 9), (120, sfn), (104, 65535), (0, imm)] ++ (if sfn = 1 ∨ sfn = 5 then [(88, 0)] else [(88, noDesc), (85, 2)]))) [dsc 0x80000 5 9 32] none

/-- A reset record lies where the tensor of eStat does. -/
def tapeSrc (h : Hw) : Hw := { h with hbm := { h.hbm with mem := Mem.write (fun _ => 0) h.hbm.mem 0x80000 (TapeRec.fresh true).bytes } }

theorem witness_StatCommandsComplete :
    (List.all [(0, 0), (1, 0), (2, 0xFE), (3, 2), (3, 3), (4, 2 ^ 16), (5, 0)] (fun (p : Nat × Nat) =>
      let e : Ent := eStat p.1 p.2
      let x : Ctx := { ctx0 with window := [e] }
      (running e).ctx? 511 == some x && (running e).ent? 511 0 == some e && (running e).statReady x e p.1 &&
        !(e.reads ++ e.writes).any (fun g => (running e).objBusy g.1 g.2)) = true) ∧
    (running (eStat 1 0)).statAux (eStat 1 0) .write ∧ (running (eStat 5 0)).statAux (eStat 5 0) .read ∧
    statImm (eStat 2 0xFE) % 256 ≠ 0xFF ∧ bitsOf (statImm (eStat 3 2)) 3 0 = 2 ∧ bitsOf (statImm (eStat 3 3)) 3 0 = 3 ∧ bitsOf (statImm (eStat 4 (2 ^ 16))) 31 16 ≠ 0 ∧
    (match statDs (eStat 1 0), statDs (eStat 5 0) with
     | some d, some d' =>
       (let k := (running (eStat 1 0)).absClear (statSlot (eStat 1 0))
        (k.writeStream noCache (d.stream 0 32) (k.tapeBytes (statSlot (eStat 1 0)))).isOk) &&
       (match ((tapeSrc (running (eStat 5 0))).absClear (statSlot (eStat 5 0))).readStream noCache (d'.stream 0 32) [] with
        | .ok (_, bs, false) => tapeBytesOk bs
        | _ => false)
     | _, _ => false) = true := by
  decide +kernel

/-- An instruction of the Shuttle at the end of a window, alone. -/
def alone (raw : Nat) : Ent := entOf raw [] none
def aloneX (raw : Nat) : Ctx := { ctx0 with window := [alone raw] }

/-- It may act: its opcode, and the classes it waits for are done. -/
def acts (raw opc cmask : Nat) : Bool :=
  (running (alone raw)).syncReady (aloneX raw) (alone raw) && insOpc raw = opc && classesDone (aloneX raw) (alone raw) cmask &&
  (running (alone raw)).ctx? 511 == some (aloneX raw) && (running (alone raw)).ent? 511 0 == some (alone raw)

theorem witness_TokenAndMarkCommandsComplete :
    acts (ins [(124, 0xA), (122, 1), (110, 4095), (105, 31), (0, 7)]) 0xA 31 ∧ bitOf (ins [(124, 0xA), (122, 1), (110, 4095), (105, 31), (0, 7)]) 122 ∧
    acts (ins [(124, 0xA), (110, 4095), (105, 31), (0, 7)]) 0xA 31 ∧
    acts (ins [(124, 0xB)]) 0xB 0 ∧ waitHolds (alone (ins [(124, 0xB)])) 0 ∧
    acts (ins [(124, 0xB), (122, 1), (94, 1), (0, 9)]) 0xB 0 ∧ bitsOf (ins [(124, 0xB), (122, 1), (94, 1), (0, 9)]) 109 94 ≠ 0 ∧
    waitHolds (alone (ins [(124, 0xB), (122, 1), (94, 1), (0, 9)])) 0 = false ∧
    acts (ins [(124, 0xC), (122, 1), (120, 3), (105, 31)]) 0xC 31 ∧ (running (alone (ins [(124, 0xC), (122, 1), (120, 3), (105, 31)]))).scopeDone 3 ∧
    (running (alone (ins [(124, 0xD)]))).scopeDone 3 ∧
    acts (ins [(124, 0xD)]) 0xD 0x1F ∧ (alone (ins [(124, 0xD)])).marked = false ∧ (((running (alone (ins [(124, 0xD)]))).markLatch 0).tailorMark).flag F.SNAP_PENDING = false ∧
    acts (ins [(124, 0xD), (122, 1)]) 0xD 0x1F ∧ bitOf (ins [(124, 0xD), (122, 1)]) 122 ∧
    full.domOn domYOKE ∧ ({ full with train := { full.train with scan := true } } : Hw).train.scan := by
  decide +kernel

/-- A context that is to be preempted, at a stage of its save or restore, with one tag of 32 × 32 held. -/
def saving (st : CtxSt) (io : Nat) : Ctx := { ctx0 with st := st, io := io, chains := [⟨63, 191, 3, false, 32, List.replicate 1024 5, false⟩] }

theorem witness_ContextCommandsComplete :
    full.domOn domYOKE ∧ (full.activeJobs 31).length < 4 ∧
    (List.all [(CtxSt.preempting, 0), (.preempting, 1), (.preempted, 2), (.preempted, 3)] (fun (p : CtxSt × Nat) =>
      (withCtx full 511 (saving p.1 p.2)).ctx? 511 == some (saving p.1 p.2) && (saving p.1 p.2).window.all (full.stops (saving p.1 p.2)) &&
      (saving p.1 p.2).forced.isNone) = true) ∧
    (let x := saving .preempting 0
     ((withCtx full 511 x).stopAll 511 x).any (fun t => (t.ctx? 511).isSome)) ∧
    (let x := saving .preempted 2
     (withCtx full 511 { x with chains := x.chains.map (fun k => { k with array := noArray }) }).placeChains (x.chains.map (fun k => { k with array := noArray })) [191] =
       some x.chains) ∧
    ((withCtx full 511 { saving .preempted 3 with forced := some (stPoisoned, 0) }).ctx? 511).any (fun x => x.forced != none) := by
  decide +kernel

/-! ### Witnesses: the Tailor, the scratchpads, HBM -/

/-- A request at the head of the Tailor's ring: its eight words. -/
def reqRing (ws : List Nat) (o : List (Nat × Obj)) : Hw :=
  let h := (full.set F.TREQ_BASE 0x5000).set F.TREQ_TAIL 1
  { h with
    hbm := { h.hbm with mem := ws.zipIdx.foldl (fun m w => Mem.write (fun _ => 0) m (0x5000 + 8 * w.2) (natLE 8 w.1)) h.hbm.mem }
    tailor := { h.tailor with objs := o } }

/-- The request is taken, with these fields, and leaves hardware of which p holds. -/
def seen (h : Hw) (r : TreqF) (p : Hw → Bool) : Bool :=
  h.tailorOn && h.tailor.waiting.isNone && h.get F.TREQ_ERR == 0 && h.get F.TREQ_HEAD != h.get F.TREQ_TAIL &&
  match h.vread noCache .read (h.get F.TREQ_BASE + 64 * h.get F.TREQ_HEAD) 64 [] with
  | .ok (a, bs, false) => parseTreq bs == r && p a
  | _ => false

theorem treqTakes_of_seen {h : Hw} {r : TreqF} {p : Hw → Bool} (hs : seen h r p = true) : ∃ a, h.treqTakes a [] r ∧ p a = true := by
  simp only [seen, Bool.and_eq_true, beq_iff_eq, Option.isNone_iff_eq_none, bne_iff_ne] at hs
  obtain ⟨⟨⟨⟨h1, h2⟩, h3⟩, h4⟩, h5⟩ := hs
  split at h5
  · rename_i a bs hv
    simp only [Bool.and_eq_true, beq_iff_eq] at h5
    exact ⟨a, ⟨h1, h2, h3, h4, bs, hv, h5.1⟩, h5.2⟩
  · cases h5

/-- A request's fields that an operation on a live object does not name. -/
def treq0 : TreqF := ⟨0, 0, 65535, 0, 0, 0, 0, 0, 0, 0, 0, 0, 0, 0, 0, 0, false⟩

/-- An object of 64 KiB placed in stack 0 above the Lining extent. -/
def obj0 : Obj :=
  { va := 2 ^ 31, size := 0x10000, tierMin := 0, tierMax := 3, prio := 3, cls := 0, alignLog2 := 16, stackHint := 31, affObj := 0xFFFF, lifeEnd := 0
    tier := 1, loc := 2 ^ 32, st := .placed, pinned := false, work := none, spilled := false, reason := 0, chgEpoch := 0, lastUse := 0, userTag := 0, gen := 1
    move := none }

/-- Word 0 and 1 of a request on that object. -/
def opWords (op : Nat) (more : List Nat) : List Nat := [op * 2 ^ 56, 65535 * 2 ^ 48] ++ more
def onObj (op : Nat) (more : List Nat) : Hw := reqRing (opWords op more) [(65535, obj0)]
def hasObj (a : Hw) : Bool := a.obj? 65535 == some obj0

theorem witness_TailorCommandsComplete :
    full.domOn domYOKE ∧ full.flag F.TAILOR_CFG_ENABLE ∧ 0 < full.treqSize ∧
    (let r : TreqF := { treq0 with op := 1, va := 2 ^ 31, size := 0x10000, tierMax := 3, align := 16, aff := 0xFFFF, hint := 31 }
     r.ok ∧ seen (reqRing [2 ^ 56 + 2 ^ 31, 65535 * 2 ^ 48 + 0x10000, 3 * 2 ^ 60 + 16 * 2 ^ 49 + 31 * 2 ^ 44 + 0xFFFF * 2 ^ 16] []) r (fun a =>
       (a.obj? 65535).isNone && !a.tailor.objs.any (fun x => x.2.va < r.va + r.size && r.va < x.2.va + x.2.size) &&
       (List.range 4).any (fun t => r.tierMin ≤ t && t ≤ r.tierMax && a.tierPresent t))) ∧
    { treq0 with op := 2 }.ok ∧ seen (onObj 2 []) { treq0 with op := 2 } hasObj ∧
    { treq0 with op := 3 }.ok ∧ seen (onObj 3 []) { treq0 with op := 3 } hasObj ∧ obj0.hasPlace ∧
    (let r : TreqF := { treq0 with op := 3, pin := 2 ^ 33 }
     r.ok ∧ r.pin % 2 ^ obj0.alignLog2 = 0 ∧ seen (onObj 3 [0, 0, 2 ^ 33]) r (fun a =>
       hasObj a && (a.updObj 65535 (fun o => { o with userTag := 0 })).pinTier 65535 r.pin obj0.size == some 1 &&
       ((a.updObj 65535 (fun o => { o with userTag := 0 })).pinVictims 65535 1 r.pin obj0.size).all (fun x => a.objMovable x.2))) ∧
    { treq0 with op := 4 }.ok ∧ seen (onObj 4 []) { treq0 with op := 4 } hasObj ∧
    { treq0 with op := 5, tierMin := 3, hint := 15 }.ok ∧ seen (onObj 5 [3 * 2 ^ 62 + 15 * 2 ^ 44]) { treq0 with op := 5, tierMin := 3, hint := 15 } (fun a => hasObj a &&
      (List.range 4).any (fun t => 3 ≤ t && t ≤ obj0.tierMax && (a.updObj 65535 (fun o => { o with userTag := 0 })).tierPresent t)) ∧
    3 ≤ obj0.tierMax ∧ obj0.pinned = false ∧
    { treq0 with op := 6, engHi := 287, engLo := 256 }.ok ∧ seen (onObj 6 [0, 0, 0, 287 * 2 ^ 16 + 256]) { treq0 with op := 6, engHi := 287, engLo := 256 } hasObj ∧
    { treq0 with op := 7 }.ok ∧ seen (onObj 7 []) { treq0 with op := 7 } hasObj ∧
    { treq0 with op := 8 }.ok ∧ seen (onObj 8 []) { treq0 with op := 8 } hasObj ∧
    seen (onObj 0 []) { treq0 with op := 0 } (fun _ => true) ∧ seen (onObj 255 []) { treq0 with op := 255 } (fun _ => true) ∧
    (let o : Obj := { obj0 with st := .migrating, move := some (1, 2 ^ 33, 5, false) }
     let h := { reqRing [] [(65535, o)] with xl := { full.xl with jobs := [(31, [⟨3, 3, 0, 65535, 2 ^ 32, 2 ^ 33, 0, false, [], 0⟩])] } }
     let m := h.moveSeat 65535
     m.obj? 65535 = some o ∧ m.moveEngine 65535 = some 31 ∧ o.st = .migrating ∧ o.move = some (1, 2 ^ 33, 5, false) ∧ m.xlOn ∧ m.objIssued o = false ∧
     m.objCaptured o = false ∧ m.moveBlocked 65535 o = false ∧ m.localWaits 3 .read o.loc o.size = false ∧ m.localWaits 3 .write (2 ^ 33) o.size = false) ∧
    full.domOn (domPANEL 3) ∧ (full.set F.SCRUB_PERIOD 4095).get F.SCRUB_PERIOD ≠ 0 := by
  decide +kernel

/-- A line of stack 15 that channel 31 or another holds. -/
def line15 : Nat := 15 * (stackSize / 256) + 1000

theorem witness_HbmAccessCommandsComplete :
    (let addr := line15 * 256
     full.flag F.MEM_CFG_ENABLE ∧ full.stackOn (stackOf addr) ∧ full.hbmMapped (addr / 256 * 256) 256 ∧ full.stkTags (stackOf addr) < 8192 ∧
     full.chTags (stackOf addr) (full.chanOf addr) < 1024 ∧ full.darnWaits (stackOf addr) (full.chanOf addr) (addr / 256) = false ∧
     (List.replicate 256 (1 : Byte)).length = 256 ∧ (masked (2 ^ 256 - 1) (List.replicate 256 1)).length = 256 ∧ masked (2 ^ 255 + 1) (List.replicate 256 1) ≠ []) ∧
    (let r : HbmReq := ⟨15, full.chanOf (line15 * 256), line15, false, full.peek (line15 * 256) 256, false⟩
     let q : HbmReq := { r with data := List.replicate 256 7 }
     let h := { full with hbm := { full.hbm with reqs := [r] } }
     h.hbm.reqs.find? (fun r => !r.write && r.line = line15) = some r ∧ h.stackOn r.stack ∧ h.chHeld r.stack (h.chanOf (line15 * 256)) = false ∧
     h.peek (line15 * 256) 256 = r.data ∧ h.poisoned (line15 * 256) 256 = r.bad ∧ h.peek (line15 * 256) 256 ≠ q.data) ∧
    (let e : Darn := ⟨line15, [(7, 1)]⟩
     let h := { full with hbm := { full.hbm with darn := [e] } }
     h.darnOldest (stackOf (line15 * 256)) = some e ∧ h.stackOn (stackOf (line15 * 256))) ∧
    (let h := full.set F.SCRUB_LOG2 0
     h.stackOn 15 ∧ h.get F.SCRUB_LOG2 ≠ 15 ∧ h.hbm.scrubSkip.all (fun l => stackOf (l * 256) ≠ 15 || h.chHeld 15 (h.chanOf (l * 256))) ∧
     h.hbm.scrub.getD 15 0 < h.get (F.STK_SIZE 15) / 256 ∧ h.chHeld 15 (h.chanOf (15 * (stackSize / 256) * 256)) = false) := by
  decide +kernel

def hbmIs (f : Hbm → Hbm) : Hw := { full with hbm := f full.hbm }

/-- A scan of three offsets. -/
def scan3 : Scan := ⟨15, 31, 3, [-1, 0, 1], [], 9⟩

theorem witness_HbmTrainingCommandsComplete :
    (let h := hbmIs (fun m => { m with trig := [(15 * 32 + 31, (5, false))] })
     h.hbm.trig.find? (15 * 32 + 31) = some (5, false) ∧ h.stackOn 15 ∧ h.hbm.wins.find? 15 = none ∧ (h.trigIn 15).all (fun c => 31 ≤ c)) ∧
    (let w : HbmWin := ⟨31, false, 5, false⟩
     (hbmIs (fun m => { m with wins := [(15, w)] })).hbm.wins.find? 15 = some w ∧ w.margin = false) ∧
    (let h := hbmIs (fun m => { m with retry := [15 * 32 + 31] })
     h.hbm.retry.contains (15 * 32 + 31) ∧ h.hbm.trig.find? (15 * 32 + 31) = none ∧ h.stackOn 15) ∧
    (let h := (hbmIs (fun m => { m with scans := [scan3] })).set (F.STK_STATE 15) 4
     h.hbm.scans.find? (·.stack == 15) = some scan3 ∧ h.stackOn 15 ∧ h.get (F.STK_STATE 15) = (if scan3.param = 3 then 4 else 2) ∧ h.hbm.wins.find? 15 = none ∧ h.trigIn 15 = []) ∧
    (let w : HbmWin := ⟨31, true, 0, false⟩
     let h := hbmIs (fun m => { m with scans := [scan3], wins := [(15, w)] })
     h.hbm.wins.find? 15 = some w ∧ h.hbm.scans.find? (·.stack == 15) = some scan3 ∧ w.margin ∧
     (List.replicate 1 (List.replicate 64 0)).length < scan3.todo.length ∧ (List.replicate 3 (List.replicate 64 0)).length = scan3.todo.length ∧
     (List.replicate 3 (List.replicate 64 0)).all (fun c => c.length = 64)) ∧
    (let h := (hbmIs (fun m => { m with mapout := [(15, (31, 5))] })).set (F.STK_STATE 15) 3
     h.stackOn 15 ∧ h.get (F.STK_STATE 15) = 3 ∧ (h.hbm.mapout.find? 15).isSome ∧ h.hbm.relay.contains 15 = false ∧ h.hbm.wins.find? 15 = none ∧ h.topClear 15) ∧
    (let h := (hbmIs (fun m => { m with mapout := [(15, (31, 5))], relay := [15] })).set (F.RELAYOUT_W 15) 524288
     h.hbm.relay.contains 15 ∧ 0 < h.get (F.RELAYOUT_W 15) ∧ h.hbm.wins.find? 15 = none ∧ h.trigIn 15 = []) ∧
    (let h := hbmIs (fun m => { m with mapout := [(15, (31, 5))], relay := [15] })
     h.hbm.relay.contains 15 ∧ h.hbm.mapout.find? 15 = some (31, 5) ∧ h.get (F.RELAYOUT_W 15) = 0 ∧ h.hbm.wins.find? 15 = none) := by
  decide +kernel

/-! ### Witnesses: translation and faults -/

/-- A program that lies in host memory: leaf 3. -/
def hostCtx : Ctx := { ctx0 with progAddr := 0x60000000 }
def hostHw : Hw := let h := withCtx full 511 hostCtx; { h with xl := { h.xl with atsOn := true } }

theorem witness_TranslationCommandsComplete :
    (let h := withCtx full 511 ctx0
     h.unitAccess (.fetch 511) 0x2000 .fetch ∧ h.unitXlate (.fetch 511) 0x2000 .fetch = .ok (.loc 0x2000) false) ∧
    (let h := hostHw
     let a := (h.countWalk (.fetch 511)).noteLeaf (h.unitCache (.fetch 511)) 0x60000000
     h.unitAccess (.fetch 511) 0x60000000 .fetch ∧ h.unitXlate (.fetch 511) 0x60000000 .fetch = .ok (.host 0 0) false ∧ a.xl.atsOn ∧
     a.atcHas .fetch (a.hostAddr 0 0) = false ∧ (FltUnit.fetch 511).isAhead = false ∧ a.xl.ats.any (fun r => r.unit == .fetch 511 && r.va = 0x60000000) = false) ∧
    (let r : AtsReq := ⟨0x8000000000, .fetch 511, 0x60000000, .fetch, 0⟩
     let h := { full with xl := { full.xl with ats := [r], priOn := true } }
     h.xl.ats.find? (fun r => r.addr = 0x8000000000 && (r.stage = 0 || r.stage = 2)) = some r ∧ r.stage ≠ 2 ∧ h.xl.priOn) ∧
    (let r : AtsReq := ⟨0x8000000000, .fetch 511, 0x60000000, .fetch, 1⟩
     ({ full with xl := { full.xl with ats := [r] } } : Hw).xl.ats.find? (fun r => r.addr / 4096 = 0x8000000FFF / 4096 && r.stage = 1) = some r) ∧
    full.domOn domYOKE ∧ full.solo = false ∧ hostHw.xl.atsOn ∧ hostHw.domOn domYOKE ∧ full.pathHeld .bar0 = false ∧ full.invalRuns = false ∧
    (let x : Inval := ⟨0, 1, true, none⟩
     ({ full with xl := { full.xl with inval := [x, x] } } : Hw).xl.inval = [x, x] ∧ full.invalWaits x.range = false ∧ x.chan = none) ∧
    (let x : Inval := ⟨2 ^ 36 - 1, 1, false, some 15⟩
     let h := (full.set (F.MB_ASTATE 15) 1).set F.INVAL_BUSY 1
     let a := ({ h with xl := { h.xl with inval := [] } } : Hw).invalRange x.range.1 (x.range.2 - x.range.1)
     h.invalWaits x.range = false ∧ x.chan = some 15 ∧ (a.set F.INVAL_BUSY 0).mbBusy 15) := by
  decide +kernel

/-- An open fault with the last number, of the fetch of context 511. -/
def flt0 : Flt := ⟨.fetch 511, [], .hostNopage, .fetch, 0x2000, some 511, true⟩
def faulted : Hw := let h := withCtx full 511 { ctx0 with fetchFlt := some 65535 }; { h with xl := { h.xl with faults := [(65535, flt0)] } }

/-- A MOVE whose source lies in a peer window or a host window, its job under way. -/
def eMoveFrom (va : Nat) : Ent :=
  { entOf (ins [(124, 6), (107, 0), (91, 1)]) [dsc va3 0 0 32, dsc va 0 0 32] (some 287) with ph := .issued }
def movingFrom (va : Nat) : Hw := let h := running (eMoveFrom va); { h with xl := { h.xl with jobs := [(31, [⟨0, 0, 511, 0, va, va3, 0, false, [], 0⟩])] } }

theorem witness_FaultCommandsComplete :
    faulted.domOn domYOKE ∧ (faulted.xl.faults.find? (65535 % 65536)).isSome ∧ 131071 % 65536 < (full.set F.FLT_LOG2 16).fltRingSize ∧
    (let h := faulted.set F.FLT_TMO 1
     h.xl.faults.find? 65535 = some flt0 ∧ h.get F.FLT_TMO ≠ 0 ∧ h.fltPreempted flt0 = none) ∧
    (let r : Restore := ⟨1, 5, 0, false, none, false, false, 0⟩
     ({ full with bast := { full.bast with restore := some r } } : Hw).bast.restore = some r ∧ r.source ≠ 2) ∧
    (movingFrom 0x40000000).unitAccess (.move 511 0) 0x40000000 .read ∧ (movingFrom 0x40000000).unitXlate (.move 511 0) 0x40000000 .read = .ok (.peer 0 0) false ∧
    (movingFrom 0x60000000).unitAccess (.move 511 0) 0x60000000 .read ∧ (movingFrom 0x60000000).unitXlate (.move 511 0) 0x60000000 .read = .ok (.host 0 0) false ∧
    full.d2d.failed = false ∧ full.d2d.training.contains 7 = false ∧
    ({ full with d2d := { full.d2d with training := [7] } } : Hw).d2d.training.contains 7 := by
  decide +kernel

/-! ### Witnesses: links, lanes and frames -/

/-- Link 63 in a state, with four lanes in service on the first lasers of its group; spare lasers free. -/
def lk63 (st : Nat) : Hw :=
  let h := (((full.set (F.LNK_STATE 63) st).set (F.EYE_STATE 7) 1).set (F.LSTATE 7 35) 2).set (F.LNK_CUR_PORT 63) 7
  let h := (List.range 4).foldl (fun h w => (h.setLane 63 w ⟨true, w, 28 + w⟩).set (F.LSTATE 7 (28 + w)) 1) h
  (List.range 4).foldl (fun h w => ((h.set (F.LAS_LINK 7 (28 + w)) 7).set (F.LAS_LANE 7 (28 + w)) w)) h

def st63 (st : Nat) (f : LinkSt → LinkSt) : Hw := (lk63 st).updLk 63 f

theorem witness_LinkCommandsComplete :
    full.domOn domYOKE ∧ full.flag (F.LINK_EN 63) = false ∧ (full.set (F.LINK_EN 63) 1).flag (F.LINK_EN 63) ∧
    (List.all [lsTUNING, lsWAITLIGHT, lsACQUIRE, lsALIGN, lsVERIFY, lsUP, lsRETRAIN] (fun st => (lk63 st).lkState 63 == st)) = true ∧
    ((lk63 lsWAITLIGHT).lk 63).noLight = false ∧ ((lk63 lsRETRAIN).lk 63).rtStep = 0 ∧ ((st63 lsRETRAIN (fun k => { k with rtStep := 1 })).lk 63).rtStep = 1 ∧
    (lk63 lsUP).lkUp 63 ∧ ((lk63 lsFAILED).linkRt 63 2 0 0).lkState 63 = lsFAILED ∧ ((lk63 lsUP).linkRt 63 2 0 0).lkState 63 = lsUP ∧
    ((lk63 lsHELD).linkRt 63 2 0 0).lkState 63 = lsHELD ∧ ((lk63 lsRETHREAD).linkRt 63 2 0 0).lkState 63 = lsRETHREAD ∧ (lk63 lsUP).get (F.EYE_STATE 7) = 1 := by
  decide +kernel

theorem witness_RethreadCommandsComplete :
    (let a := (lk63 lsUP).linkRt 63 1 11 0
     a.solo = false ∧ a.get (F.LNK_CUR_PORT 63) ≠ 11 ∧ a.portTaken 63 11 = false ∧ a.lkUp 63 ∧ (a.lk 63).rethread = none) ∧
    (let h := st63 lsUP (fun k => { k with rethread := some (11, 0) })
     (h.lk 63).rethread = some (11, 0) ∧ h.lkUp 63 ∧ (h.lk 63).retry = []) ∧
    ((st63 lsRETHREAD (fun k => { k with rethread := some (11, 1) })).lk 63).rethread = some (11, 1) ∧
    (let h := st63 lsRETHREAD (fun k => { k with rethread := some (11, 2), toIdent := true })
     (h.lk 63).rethread = some (11, 2) ∧ (h.lk 63).toIdent) ∧
    (let h := st63 lsRETHREAD (fun k => { k with rethread := some (11, 2) })
     (h.lk 63).rethread = some (11, 2) ∧ (h.lk 63).toIdent = false) := by
  decide +kernel

/-- The fields of a frame's bytes, as they are read. -/
def sees (f : Machine.Frm) (p : Machine.Frm → Bool) : Bool := f.body.length == 632 && p (frmOf f.bytes)

theorem parseFrm_of_sees {f : Machine.Frm} {p : Machine.Frm → Bool} (h : sees f p = true) : ∃ g, parseFrm f.bytes = some g ∧ p g = true := by
  simp only [sees, Bool.and_eq_true, beq_iff_eq] at h
  exact ⟨_, parseFrm_of_body f.body h.1, h.2⟩

/-- Chip 5 may read and write 64 KiB from 0x80000. -/
def lent : Hw := (((lk63 lsUP).set (F.LEND_CHIP 255) 5).set (F.LEND_BASE 255) 0x80000).set (F.LEND_SIZE 255) 0x10000

theorem witness_FrameCommandsComplete :
    (let h := (lent.set (F.LEND_WR 255) 1)
     h.deals 63 ∧ (h.lk 63).rethread = none ∧ (h.lk 63).rxNext = 0 ∧ h.myChip = 0 ∧
     sees (mkFrm ftWRITE 1 0 5 0 0x80000 0 [1, 2]) (fun f =>
       let o := ((h.updLk 63 (fun k => { k with rxNext := (k.rxNext + 1) % 2 ^ 32, discarding := false })).inc (F.FRAMES_RX 63)).owe 63 f.vl
       f.lseq == 0 && f.vl == 1 && f.ftype == ftWRITE && f.dst == o.myChip && f.len == 2 && !f.poison && o.peerMay f.src f.addr f.len true) ∧
     sees (mkFrm ftREADREQ 1 0 5 0 0x80000 0 (List.replicate 64 0)) (fun f =>
       let o := ((h.updLk 63 (fun k => { k with rxNext := (k.rxNext + 1) % 2 ^ 32, discarding := false })).inc (F.FRAMES_RX 63)).owe 63 f.vl
       f.lseq == 0 && f.ftype == ftREADREQ && f.dst == o.myChip && o.peerMay f.src f.addr f.len false)) ∧
    sees (mkFrm ftWRITE 12 32767 5 0 0x80000 0 [1, 2]) (fun f => f.lseq == 0 && f.vl == 12 && f.ftype == ftWRITE && f.dst != 0) ∧
    sees (mkFrm ftREADREQ 1 32767 5 0 0x80000 0 []) (fun f => f.lseq == 0 && f.ftype == ftREADREQ && f.dst != 0) ∧
    sees (mkFrm ftREADRESP 3 0 5 0 0x80000 0 [7]) (fun f => f.lseq == 0 && f.ftype == ftREADRESP) ∧
    sees (mkFrm ftCOLL 5 0 5 0 0 0 [7]) (fun f => f.lseq == 0 && f.ftype == ftCOLL && f.vl == 5) ∧
    sees (mkFrm ftKEEPALIVE 0 0 5 0 0 0 []) (fun f => f.lseq == 0 && f.ftype == ftKEEPALIVE) ∧
    sees (mkFrm ftIDLE 0 0 0 0 0 0 []) (fun f => f.ftype == ftIDLE && seqLe f.lseq ((lk63 lsUP).lk 63).rxNext) := by
  decide +kernel

/-- A CTRL frame's data that gives the version 1.0 and no urgent operation. -/
def ctrlData : Bytes := List.replicate 0x40 0 ++ natLE 8 (0x0100 * 2 ^ 32) ++ List.replicate 0x208 0

theorem witness_CtrlAndMarkers :
    sees (mkFrm ftCTRL 0 0 5 0 0 0 ctrlData) (fun f =>
      let h := lk63 lsUP
      f.ftype == ftCTRL && decide (lsALIGN ≤ h.lkState 63) && h.lkState 63 != lsFAILED && h.lkState 63 != lsDARK && bitsOf (fieldLE f.data 0x10 8) 63 60 != 5 &&
      (((h.inc (F.FRAMES_RX 63)).markerInfo 63 f.data).restoreAdd 63).lkState 63 != lsIDENTIFY) ∧
    sees (mkFrm ftCTRL 0 0 5 0 0 0 ctrlData) (fun f =>
      let h := ((lk63 lsIDENTIFY).set F.TOPO_VALID 1).set F.YELYEL_VER_major 1
      let a := ((h.inc (F.FRAMES_RX 63)).markerInfo 63 f.data).restoreAdd 63
      let ver := bitsOf (fieldLE f.data 0x40 8) 47 32
      a.lkState 63 == lsIDENTIFY && a.identOn && (a.lk 63).farVer.isNone &&
      ver / 256 == ((a.updLk 63 (fun k => { k with farVer := some (ver / 256, ver % 256) })).set (F.FAR_MAJOR 63) (ver / 256)).get F.YELYEL_VER_major) ∧
    lsACQUIRE ≤ (lk63 lsUP).lkState 63 ∧ (lk63 lsUP).lkState 63 ≠ lsFAILED ∧ (lk63 lsUP).deals 63 := by
  decide +kernel

/-- A marker of 640 bytes: its magic, nothing else, its CRC. -/
def markerBody : Bytes := List.replicate 6 0 ++ natLE 2 0x4D4B ++ List.replicate 0x270 0
def marker : Bytes := markerBody ++ natLE 8 (crc64 markerBody)

theorem witness_LaneMarker :
    (marker.length = 640 ∧ fieldLE marker 0x278 8 = crc64 (marker.take 0x278)) ∧ fieldLE marker 6 2 = 0x4D4B ∧
    (let a := ((lk63 lsUP).markerInfo 63 marker).set (F.LNK_PEER_CHIP 63) (fieldLE marker 0x46 2)
     (a.lk 63).rethread = none ∧ a.deals 63) ∧ bitsOf (fieldLE marker 0x10 8) 63 60 ≠ 4 := by
  obtain ⟨h1, h2, h3⟩ := crc_of_body markerBody (by decide +kernel)
  exact ⟨⟨h1, by rw [marker, h2, h3]⟩, by decide +kernel, by decide +kernel, by decide +kernel⟩

def swOf (switchover : Bool) (step attempt : Nat) : SwOp := ⟨63, 3, 35, 4, switchover, step, attempt⟩
def swHw (k : SwOp) : Hw := (lk63 lsUP).updEye 7 (fun y => { y with sw := some k })
def opHw (h : Hw) (op why : Nat) : Hw := h.updLk 63 (fun k => { k with ops := [⟨op, 3, 3, 9, why⟩] })

theorem witness_LaneCommandsComplete :
    (lk63 lsUP).deals 63 ∧
    (match (opHw (lk63 lsUP) 1 0).takeOp 63 3 1 with
     | some (a, o) => decide (1 < a.get (F.LNK_WIDTH 63)) && (a.lane 63 3).svc && o.op == 1
     | none => false) = true ∧
    (match (opHw (lk63 lsUP) 2 0).takeOp 63 3 2 with
     | some (a, _) => (a.eye 7).sw.isNone
     | none => false) = true ∧
    (match (opHw (swHw (swOf false 1 0)) 2 4).takeOp 63 3 2 with
     | some (a, o) => (a.eye 7).sw == some (swOf false 1 0) && o.why == 4
     | none => false) = true ∧
    ((opHw (swHw (swOf true 1 0)) 3 0).takeOp 63 3 3).isSome ∧
    ((lk63 lsUP).linkRt 63 3 0 3).mayDrop 63 3 ∧
    (let a := ((lk63 lsUP).setLane 63 3 ⟨false, 3, 31⟩).linkRt 63 4 0 3
     a.get (F.LSTATE 7 (a.lane 63 3).laser) ≠ 5 ∧ a.deals 63 ∧ (a.lane 63 3).svc = false ∧ a.calLane 63 ≠ some 3 ∧ (a.eye 7).sw = none) ∧
    (let a := ((lk63 lsUP).set (F.TX_MARGIN 63) 0x40404040).linkRt 63 5 0 3
     a.spare 7 = some 35 ∧ a.deals 63 ∧ (a.lane 63 3).svc ∧ a.calLane 63 ≠ some 3 ∧ (a.eye 7).sw = none ∧ 30 ≤ a.farMargin 63 3) ∧
    (let h := ((lk63 lsUP).set F.CAL_EN 1).set (F.CAL_NEXT 7) 31
     let a := h.set (F.CAL_NEXT 7) 0
     h.get (F.EYE_STATE 7) = 1 ∧ h.flag F.CAL_EN ∧ h.flag F.OPT_CFG_ENABLE ∧ (h.eye 7).calOn = none ∧ (h.eye 7).calAgain = [] ∧ h.get (F.CAL_NEXT 7) = 31 ∧ a.lkUp 63 ∧
     4 ≤ a.get (F.LNK_WIDTH 63) ∧ (a.eye 7).sw.any (fun k => k.link = 63 && k.lane = 3) = false ∧ a.mayDrop 63 3) ∧
    (let a := ((lk63 lsUP).set (F.LAS_POWER 7 35) 5).set (F.LAS_FADE 7 35) 6
     a.get (F.LSTATE 7 35) ≠ 1) ∧
    (let a := ((lk63 lsUP).set (F.LAS_POWER 7 31) 5).set (F.LAS_FADE 7 31) 6
     a.get (F.LSTATE 7 31) = 1 ∧ a.get (F.LAS_LINK 7 31) = 7 ∧ a.get (F.LAS_LANE 7 31) = 3 ∧ a.lkUp 63 ∧ (a.lane 63 3).laser = 31 ∧ (a.lane 63 3).svc ∧
     (a.lk 63).rethread = none ∧ (a.eye 7).sw.any (fun k => k.link = 63 && k.lane = 3) = false ∧ a.calLane 63 ≠ some 3) ∧
    (let h := ((lk63 lsUP).set (F.CAL_ACTIVE 63) 1).updEye 7 (fun y => { y with calOn := some 31 })
     (h.eye 7).calOn = some 31 ∧ h.flag (F.CAL_ACTIVE 63)) ∧
    (List.all [swOf true 0 0, swOf true 2 0, swOf true 2 1, swOf false 0 0, swOf false 1 0] (fun k => ((swHw k).eye 7).sw == some k)) = true ∧
    (swHw (swOf true 0 0)).deals 63 ∧ (swHw (swOf false 1 0)).farMargin 63 3 < 30 ∧
    (let h := (lk63 lsUP).updEye 7 (fun y => { y with retry := some (63, 3) })
     let a := h.updEye 7 (fun y => { y with retry := none })
     (h.eye 7).retry = some (63, 3) ∧ (h.eye 7).sw = none ∧ h.spare 7 = some 35 ∧ a.deals 63 ∧ (a.lane 63 3).svc) := by
  decide +kernel

/-! ### Witnesses: topology, collectives, snapshots -/

/-- A plan of two chips on one HALVING ring: link 56 goes plus, link 57 minus; the other links are as in onePlan. -/
def ringPlan : Plan :=
  { onePlan with
    nRanks := 2, remapOk := true, axes := [⟨1, 1, 2, 1, 1, 5⟩]
    links := onePlan.links.take 56 ++ [⟨3, 0, 0, 0, 0⟩, ⟨4, 0, 0, 1, 0⟩] ++ onePlan.links.drop 58
    ranks := [⟨0, false, 0⟩, ⟨1, false, 0⟩] }

/-- A plan of two chips of a board. -/
def boardPlan : Plan :=
  { onePlan with
    nRanks := 2, axes := [⟨4, 0, 2, 1, 1, 5⟩], links := [⟨1, 0, 0, 0, 0⟩, ⟨2, 0, 0, 0, 0⟩] ++ onePlan.links.drop 2, ranks := [⟨0, false, 0⟩, ⟨1, false, 0⟩] }

def withPlan (h : Hw) (p : Plan) : Hw :=
  let h := (List.range 64).foldl (fun h l => h.set (F.PLINK l) l) (h.set F.TOPO_VALID 1)
  { h with topo := { h.topo with plan := some p } }

/-- A LIF from this chip's own port, on the loop of onePlan, with nothing in its proof but zeros. -/
def lif : Bytes := [1, 0, 0, 0, 0] ++ List.replicate 16 0 ++ [0xA0] ++ List.replicate 106 0 ++ List.replicate 17088 0

theorem lif_length : lif.length = 17216 := by
  rw [lif]
  simp only [List.length_append, List.length_cons, List.length_nil, List.length_replicate]

/-- Link 0 exchanges, its far end's version known. -/
def exchanging : Hw := ((withPlan full onePlan).set (F.LNK_STATE 0) lsIDENTIFY).updLk 0 (fun k => { k with farVer := some (1, 0) })

theorem witness_LifReceive (hv : Config.verifies (slice lif 0x60 32) (slice lif 0x10 0x70) (lif.drop 0x80) = true) :
    (exchanging.identOn = true ∧ (exchanging.lk 0).farVer.isSome = true ∧ exchanging.lkState 0 = lsIDENTIFY) ∧
    (let a := (((exchanging.inc (F.FRAMES_RX 0) lifFrames).set (F.FAR_CHIP 0) (fieldLE lif 0x10 2)).set (F.FAR_LINK 0) (fieldLE lif 2 1)).set (F.FAR_PLINK 0) (fieldLE lif 3 1)
     let a := a.set (F.FAR_FPORT 0) (fieldLE lif 4 1)
     fieldLE lif 0x14 1 % 16 = a.get F.GBL_PROFILE ∧ a.lifBad lif = false ∧ slice lif 0x20 32 = a.regBytes regPlanDigest 32 ∧ a.topo.plan = some onePlan ∧
     onePlan.find (fieldLE lif 0x10 2) = some 0 ∧ onePlan.ranks[0]? = some ⟨0, false, 0⟩ ∧
     a.expected (a.plinkOf 0) = some (fieldLE lif 0x10 2, fieldLE lif 3 1)) := by
  refine ⟨by decide +kernel, by decide +kernel, ?_, by decide +kernel⟩
  have h1 : lifOk lif = true := by
    simp only [lifOk, lif_length, decide_true, Bool.true_and]
    decide +kernel
  have h2 : onePlan.find (fieldLE lif 0x10 2) = some 0 := by decide +kernel
  have h3 : ((onePlan.ranks[0]?).map (·.keyTag)).getD 0 = 0 := by decide +kernel
  have h4 : onePlan.tokenCheck = false := rfl
  simp only [Hw.lifBad, h1, hv]
  rw [show ((((((exchanging.inc (F.FRAMES_RX 0) lifFrames).set (F.FAR_CHIP 0) (fieldLE lif 0x10 2)).set (F.FAR_LINK 0) (fieldLE lif 2 1)).set (F.FAR_PLINK 0) (fieldLE lif 3 1)).set
    (F.FAR_FPORT 0) (fieldLE lif 4 1)).topo.plan) = some onePlan from by decide +kernel]
  simp only [h2, h3, h4]
  rfl

theorem witness_DiscoveryCommandsComplete :
    (idle.flag F.TOPO_CFG_ENABLE = false ∧ idle.domOn domYOKE) ∧
    (let h := ((withPlan full onePlan).set (F.LNK_STATE 63) lsHELD).set (F.DISC_REASON 63) 8
     h.identOn ∧ h.lkState 63 = lsHELD ∧ h.get (F.DISC_REASON 63) ∈ ([3, 4, 8] : List Nat)) ∧
    (let h := (withPlan full ringPlan).updLk 63 (fun k => { k with lifPend := some (1, 57) })
     h.identOn ∧ (h.lk 63).lifPend = some (1, 57) ∧ h.remapTarget 63 1 57 = some 56) ∧
    (let h := (withPlan full onePlan).updLk 63 (fun k => { k with lifPend := some (1, 57) })
     (h.lk 63).lifPend = some (1, 57) ∧ h.remapTarget 63 1 57 = none) ∧
    (let h := full.set F.TOPO_STATE 2
     h.get F.TOPO_STATE = 2 ∧ h.flag F.TOPO_CFG_ENABLE ∧ h.topo.discOver = false) ∧
    ((full.set F.KA_EN 1).flag F.KA_EN ∧ full.flag F.OPT_CFG_ENABLE) ∧
    (let h := (((withPlan full ringPlan).set F.KA_EN 1).set (F.DISC_OUT 63) 1).set (F.FAR_CHIP 63) 1
     let h := { h with topo := { h.topo with miss := [(1, max 4 (h.get F.KA_MISSES))] } }
     h.topo.plan = some ringPlan ∧ ringPlan.find 1 = some 1 ∧ h.flag F.KA_EN ∧ h.get (PEER_PSTATE 1) ≠ 2 ∧ h.neighbours.contains 1 ∧
     max 4 (h.get F.KA_MISSES) ≤ Tab.getD h.topo.miss 1 0) := by
  decide +kernel

/-- A COLL on axis 0, on the last lead engine: elements of the destination and the source. -/
def eColl (cfn nd ns : Nat) : Ent := entOf (ins [(124, 7), (120, cfn), (101, 0), (85, 1), (69, 1)]) [dsc va3 0 0 nd, dsc (va3 + 0x1000) 0 0 ns] (some 291)

/-- Chip 1 of the board is up on link 1. -/
def boardHw (e : Ent) : Hw := (((withPlan (running e) boardPlan).set (F.LNK_STATE 1) lsUP).set F.TOPO_STATE 3)

theorem witness_CollIssue :
    (boardHw (eColl 0 32 64)).collTakes 3 0 (candOf (eColl 0 32 64)) ⟨4, 0, 2, 1, 1, 5⟩ ∧
    (boardHw (eColl 1 64 32)).collTakes 3 1 (candOf (eColl 1 64 32)) ⟨4, 0, 2, 1, 1, 5⟩ ∧
    (boardHw (eColl 2 32 32)).collTakes 3 2 (candOf (eColl 2 32 32)) ⟨4, 0, 2, 1, 1, 5⟩ ∧
    (boardHw (eColl 3 32 32)).collTakes 3 3 (candOf (eColl 3 32 32)) ⟨4, 0, 2, 1, 1, 5⟩ ∧
    (boardHw (eColl 4 32 32)).collTakes 3 4 (candOf (eColl 4 32 32)) ⟨4, 0, 2, 1, 1, 5⟩ := by
  refine ⟨?_, ?_, ?_, ?_, ?_⟩ <;> (unfold Hw.collTakes; decide +kernel)

/-- An active all-reduce of 32 elements with one step. -/
def coll0 (step : Nat) : Coll := ⟨511, 0, 1, 0, 2, 0, 32, 1, step, [], 0, 3⟩
def collHw (p : Plan) (step : Nat) : Hw :=
  let h := withPlan (running { eColl 2 32 32 with ph := .issued }) p
  { h with topo := { h.topo with colls := [coll0 step] } }

/-- What COLL_COMPLETE asks of the rest: both data as long as the source, room for the result, the writes done. -/
def collWrites (h a : Hw) (e : Ent) (x : Ctx) (d src : Desc) (own : Bytes) : Bool :=
  let data := ([[], List.replicate 64 0x3F] : List Bytes).set 0 own
  let r := a.collResult (coll0 1) ⟨1, 1, 2, 1, 1, 5⟩ x e d src data
  let ranges := r.1.map (fun w => (w.1, w.2.length))
  (List.range 2).all (fun p => (data.getD p []).length = src.streamLen) && h.canReachAll 3 .write ranges && (h.resultWait 3 [] ranges).isNone &&
    (a.writePieces 3 r.1).isOk

theorem witness_CollectiveCommandsComplete :
    (let e : Ent := { eColl 2 32 32 with ph := .issued }
     (collHw boardPlan 0).collWorks 511 0 = some (coll0 0, e) ∧ (coll0 0).step < (coll0 0).steps ∧ e.flt = none ∧ (coll0 0).paxis = 0 ∧
     (collHw boardPlan 0).axis? 0 = some ⟨4, 0, 2, 1, 1, 5⟩ ∧ (collHw ringPlan 0).collWorks 511 0 = some (coll0 0, e) ∧
     (collHw ringPlan 0).axis? 0 = some ⟨1, 1, 2, 1, 1, 5⟩) ∧
    (let h := collHw ringPlan 1
     let e : Ent := { eColl 2 32 32 with ph := .issued }
     let x : Ctx := { ctx0 with window := [e] }
     h.collWorks 511 0 = some (coll0 1, e) ∧ h.ctx? 511 = some x ∧ (coll0 1).steps ≤ (coll0 1).step ∧ h.flag F.SPAD_CFG_ENABLE ∧
     (h.axisLinks 0).all (fun l => (h.lk l).rethread.isNone) ∧ h.myPos 0 = 0 ∧ (coll0 1).cfn ≠ 4 ∧ (coll0 1).lead = 3 ∧
     (match descIn e.descs (collD e.raw), descIn e.descs (collS e.raw) with
      | some d, some src =>
        h.canReachAll 3 .read (src.stream 0 src.count) &&
        match h.readStream 3 (src.stream 0 src.count) [] with
        | .ok (a, own, false) => collWrites h a e x d src own
        | _ => false
      | _, _ => false) = true) := by
  decide +kernel

/-- An epoch handed over, of set 255. -/
def hand0 : Hand := ⟨511, 0, 7, 255, 0, 0, 0, 0, false, 0, 0, 0, false⟩

/-- Set 255 at 0x6000 + 32 × 255 has one entry, descriptor 65535 at its place in the table, which lies at 0xA00000: 64 bytes of HBM. -/
def snapping (nvme : Nat) : Hw :=
  let h := ((full.set F.SET_BASE 0x6000).set F.DESC_BASE 0xA00000)
  let m := Mem.write (fun _ => 0) h.hbm.mem (0x6000 + 32 * 255) (natLE 8 (2 ^ 63 + nvme * 2 ^ 61 + 0x9000) ++ natLE 4 1)
  let m := Mem.write (fun _ => 0) m 0x9000 (natLE 8 (65535 * 2 ^ 48 + 77))
  let m := Mem.write (fun _ => 0) m (0xA00000 + 64 * 65535) (natLE 64 (dsc 0x80000 0 0 32))
  { h with hbm := { h.hbm with mem := m }, bast := { h.bast with hands := [hand0] } }

/-- What SNAP_FREEZE asks of a state, for a target. -/
def freezes (h : Hw) (nvme : Bool) : Bool :=
  match ({ h with bast := { h.bast with hands := [] } } : Hw).snapSet 255 with
  | (a, .ok (v, _, image)) =>
    let n := slotNum v (a.slotFor v)
    let b := (((a.set (F.SLOT_STATE n) 1).set (F.SLOT_SETID n) 255).set (F.SLOT_EPOCH n) 7).set F.BAST_STATE 1
    v == nvme && a.targetBound v && decide (image ≤ a.slotBytes v) && (if v then b.flag F.LINK_UP else !b.peerGone (b.get F.BUDDY_CHIP))
  | _ => false

theorem witness_SnapFreeze :
    (let h := (snapping 0).set F.BUDDY_VALID 1
     h.bast.hands = [hand0] ∧ h.bast.cap = none ∧ h.bast.restore = none ∧ h.domOn domYOKE ∧ h.flag F.BAST_CFG_ENABLE ∧ freezes h false) ∧
    freezes (((((snapping 1).set F.NVME_VALID 1).set F.LINK_UP 1).set (F.NVME_WORD 6) 0x800)) true := by
  decide +kernel

/-- The capture's one entry: 64 bytes, descriptor 65535, at 6 MiB of the image. -/
def man0 : Man := ⟨77, false, false, 65535, dsc 0x80000 0 0 32, 0x600000, 64, 0⟩
def cap0 (stage : Nat) : Cap := ⟨hand0, true, 1, stage, [man0], 0x600040, [], [⟨.loc 0x80000, 64, 0x600000⟩], [], [], [], []⟩
def capHw (k : Cap) : Hw := { full with bast := { full.bast with cap := some k } }

/-- The same while a DMA engine has its copy as a job. -/
def copyHw (k : Cap) : Hw := let h := capHw k; { h with xl := { h.xl with jobs := [(31, [⟨3, 4, 0, 0, 0x80000, 0, 0, false, [], 0⟩])] } }

theorem witness_SnapshotStages :
    (let k : Cap := { cap0 1 with mans := [] }
     let h := capHw k
     h.bast.cap = some k ∧
     (match h.bastRead 0xFFFF (h.get F.TAPE_BASE) 0x400000 with
      | (a, .ok tape) =>
        (match (((a.capWrite k 0x200000 tape).capWrite k 0x1000 k.job).capTranslate ((k.mans.map (fun m => m.ranges.map (fun g => (m.desc, g)))).flatten)).2 with
         | .ok _ => true
         | .error _ => false)
      | _ => false) = true) ∧
    (let k := cap0 2
     let h := copyHw k
     h.bast.cap = some k ∧ k.copied.find? 96 = none ∧ k.within (96 * 65536) (97 * 65536) ≠ [] ∧ h.capReady k (96 * 65536) (97 * 65536) ∧ h.bastJob k = some h ∧
     (h.capBlock k 96).2.2 = false ∧ h.capReady k 0 (k.image + 65536)) ∧
    (Hw.capEntries (cap0 2) (cap0 2).mans (copyHw (cap0 2))).2.2 = false ∧
    (capHw (cap0 3)).bast.cap = some (cap0 3) ∧ (cap0 3).nvme ∧
    (let h : Hw := { idle with mb := { idle.mb with quiesce := some ⟨0x7FF, true, [9]⟩ } }
     h.quiesceGo.mb.quiesce = some ⟨0x7FF, true, [9]⟩ ∧ h.quiesceGo.allOff 0x7FF ∧ h.quiesceGo.shut.ctxs = []) := by
  decide +kernel

/-- An image without entries whose state block and manifest are zeros: their digest, a commit record of epoch 0. -/
def emptyImage (d : Bytes) : Bytes :=
  List.replicate 0x60 0 ++ (d ++ (List.replicate 0xF40 0 ++ (natLE 8 commitMagic ++ (List.replicate 8 0 ++ (d ++ List.replicate 16 0)))))

def verifying : Restore := ⟨0, 5, 0, false, none, false, true, 0⟩

theorem witness_RestorePullDone :
    ∃ (h : Hw) (data : Bytes), h.bast.restore = some verifying ∧ h.restoreCheck verifying data [] = .ok (0, false) ∧
      h.restorePull verifying data [] = (h, none) ∧ verifying.win = none := by
  obtain ⟨d, hd⟩ : ∃ d, d = sha256 (List.replicate 0x101000 0) := ⟨_, rfl⟩
  have hl : d.length = 32 := by rw [hd, length_sha256]
  have len : (emptyImage d).length = 0x1000 := by
    rw [emptyImage]
    simp only [List.length_append, List.length_replicate, length_natLE, hl]
  have cut (o n : Nat) (h1 : 0x80 ≤ o) : slice (emptyImage d) o n =
      slice (List.replicate 0xF40 0 ++ (natLE 8 commitMagic ++ (List.replicate 8 0 ++ (d ++ List.replicate 16 0)))) (o - 0x80) n := by
    rw [emptyImage, slice_append_right (by rw [List.length_replicate]; omega), slice_append_right (by rw [List.length_replicate, hl]; omega), List.length_replicate, hl]
    congr 1 <;> omega
  have dig : slice (emptyImage d) 0x60 32 = d := by
    rw [emptyImage, slice_append_right (by (try simp only [List.length_replicate, length_natLE, hl]) <;> omega), List.length_replicate, slice_append_left (by (try simp only [List.length_replicate, length_natLE, hl]) <;> omega), Nat.sub_self, slice_self hl]
  have dig2 : slice (emptyImage d) 0xFD0 32 = d := by
    rw [cut _ _ (by omega), slice_append_right (by (try simp only [List.length_replicate, length_natLE, hl]) <;> omega), slice_append_right (by (try simp only [List.length_replicate, length_natLE, hl]) <;> omega), slice_append_right (by (try simp only [List.length_replicate, length_natLE, hl]) <;> omega), slice_append_left (by (try simp only [List.length_replicate, length_natLE, hl]) <;> omega)]
    simp only [List.length_replicate, length_natLE]
    exact slice_self hl
  have magic : fieldLE (emptyImage d) 0xFC0 8 = commitMagic := by
    rw [emptyImage, fieldLE_append_right (by (try simp only [List.length_replicate, length_natLE, hl]) <;> omega), fieldLE_append_right (by (try simp only [List.length_replicate, length_natLE, hl]) <;> omega), fieldLE_append_right (by (try simp only [List.length_replicate, length_natLE, hl]) <;> omega), fieldLE_append_left (by (try simp only [List.length_replicate, length_natLE, hl]) <;> omega)]
    simp only [List.length_replicate, hl]
    decide +kernel
  have epoch : slice (emptyImage d) 0xFC8 8 = slice (emptyImage d) 0x10 8 := by
    rw [cut _ _ (by omega), slice_append_right (by (try simp only [List.length_replicate, length_natLE, hl]) <;> omega), slice_append_right (by (try simp only [List.length_replicate, length_natLE, hl]) <;> omega), slice_append_left (by (try simp only [List.length_replicate, length_natLE, hl]) <;> omega), emptyImage, slice_append_left (by (try simp only [List.length_replicate, length_natLE, hl]) <;> omega)]
    simp only [List.length_replicate, length_natLE]
    decide +kernel
  have lay : slice (emptyImage d) 0x40 32 = List.replicate 32 0 := by
    rw [emptyImage, slice_append_left (by (try simp only [List.length_replicate, length_natLE, hl]) <;> omega)]
    decide +kernel
  have rank : fieldLE (emptyImage d) 0xC 2 = 0 := by
    rw [emptyImage, fieldLE_append_left (by (try simp only [List.length_replicate, length_natLE, hl]) <;> omega)]
    decide +kernel
  have none0 : fieldLE (emptyImage d) 0xA 2 = 0 := by
    rw [emptyImage, fieldLE_append_left (by (try simp only [List.length_replicate, length_natLE, hl]) <;> omega)]
    decide +kernel
  have valid : imgValid (emptyImage d) = true := by simp only [imgValid, magic, epoch, dig, dig2, decide_true, Bool.and_true]
  have digest : imgDigestOk (emptyImage d) = true := by
    rw [imgDigestOk, slice_past (Nat.le_of_eq len), dig, hd]
    exact decide_eq_true rfl
  have mans : imgMans (emptyImage d) = [] := by rw [imgMans, none0]; rfl
  refine ⟨{ full with bast := { full.bast with restore := some verifying } }, emptyImage d, rfl, ?_, ?_, rfl⟩
  · have lay' : ({ full with bast := { full.bast with restore := some verifying } } : Hw).layoutDigest = List.replicate 32 0 := by decide +kernel
    have rank' : ({ full with bast := { full.bast with restore := some verifying } } : Hw).get F.MY_RANK = 0 := by decide +kernel
    simp only [Hw.restoreCheck, valid, digest, lay, lay', rank, rank']
    rfl
  · simp only [Hw.restorePull, mans]
    rfl

/-! ### Witnesses: registers, mailbox, transports, events, platform -/

theorem witness_RegisterCommandsComplete :
    on.l1Exit.gate .bar0 0x800068 8 true = .open_ ∧ on.gate .internal 0x480000 4 false = .open_ ∧
    isCounter 0x490000 ∧ on.l1Exit.gate .bar0 0x490000 4 true = .open_ ∧ on.gate .diag 0x490000 4 true = .open_ ∧
    on.l1Exit.gate .bar0 0x480000 4 false = .open_ ∧ (0x3FFFFF : Nat) < 0x400000 ∧ on.solo = false ∧ on.mb.hostOff = false ∧ on.l1Exit.flag (F.RX_POWERED 4) ∧
    on.domOn domYOKE ∧ ([(0x800200, 2, 63)] : List (Nat × Nat × Nat)).all (fun u => u.1 < 0xFFFF0000) := by
  decide +kernel

/-- A session has claimed channel 3; an event waits for the host's ring, at its last place, of 16 records at 0x7000. -/
def claimed : Hw := sess.updChan 3 (fun k => { k with session := some 1 })
def ringing : Hw :=
  let h := ((((full.set F.RING_EN 1).set F.RING_LOG2 4).set F.EVT_TAIL 15).set F.EVT_HEAD 1).set F.EVR_BASE 0x7000
  { h with evt := { h.evt with log := [⟨0x301, 3, 9, 5, List.replicate 16 0⟩] } }

theorem witness_MailboxCommandsComplete :
    on.l1Exit.gate .bar0 (0x781000 + 16 * 15) 4 false = .open_ ∧ on.gate .internal (0x781000 + 16 * 15) 4 false = .open_ ∧
    on.l1Exit.gate .bar0 (0x780000 + 256 * 15 + 252) 4 false = .open_ ∧ on.domOn domAON ∧ on.flag F.THERMTRIP_LATCH = false ∧
    (sess.domOn domAON ∧ sess.mbOff 3 false = false ∧ sess.sessOn 1 ∧ (sess.chan 3).session.getD 1 = 1) ∧
    (claimed.domOn domAON ∧ claimed.mbOff 3 false = false ∧ claimed.sessOn 1 ∧ (claimed.chan 3).session = some 1) ∧
    (let a := ringing.set F.EVT_HEAD_DB_REG 15
     a.flag F.RING_EN ∧ 15 % 65536 < 2 ^ a.get F.RING_LOG2) ∧
    (let h := ringing
     (match h.ringRecord with
      | some r => (h.vwrite noCache (h.get F.EVR_BASE + 32 * h.get F.EVT_TAIL) r.bytes).isOk
      | none => false) = true ∧ h.domOn domYOKE ∧ h.flag F.RING_EN ∧ (h.get F.EVT_TAIL + 1) % 2 ^ h.get F.RING_LOG2 ≠ h.get F.EVT_HEAD) := by
  decide +kernel

theorem witness_SageCommandsComplete :
    on.domOn domAON ∧ (List.replicate 64 40).length = 64 ∧ ({ on with sage := { on.sage with evHold := true } } : Hw).sage.evHold ∧
    (on.set F.ROOT_LOCK 1).flag F.ROOT_LOCK ∧ on.flag F.THERMTRIP_LATCH = false ∧
    (∀ b < 5, (on.get F.PIN_LEVEL).testBit b = false) ∧ (on.pinEdge 3 true).pinFlagged 3 = false ∧ (on.pinEdge 4 true).pinFlagged 4 = false ∧
    (let h := on.set F.PIN_LEVEL 31
     ∀ b < 5, (h.get F.PIN_LEVEL).testBit b ∧ (h.get F.PIN_STUCK_BITS).testBit b = false) := by
  decide +kernel

/-- Powered, not booted: a bundle of four empty components in slot A, with a commit record of its first four bytes. -/
@[irreducible] def bootable : Hw :=
  let h := { Hw.off with dom := 3 }
  (h.norWrite (commitAddr 1) (natLE 4 0x54494D43 ++ natLE 4 4 ++ sha256 (natLE 4 0x4C444E42))).norWrite (bundleBase 1) emptyBundle

theorem off_nor : Hw.off.nor = [] := rfl

def commitOnly : Memory := Mem.write norBlank [] (commitAddr 1) (natLE 4 0x54494D43 ++ natLE 4 4 ++ sha256 (natLE 4 0x4C444E42))

theorem bootable_head : bootable.bundle 1 = parseBundle 1 (emptyBundle ++ List.replicate 0x3E00 0xFF) := by
  have hn : bootable.nor = Mem.write norBlank (Mem.write norBlank [] (commitAddr 1) (natLE 4 0x54494D43 ++ natLE 4 4 ++ sha256 (natLE 4 0x4C444E42))) (bundleBase 1) emptyBundle := by
    simp only [bootable, Hw.norWrite, off_nor]
  have w0 : Mem.wf norBlank [] = true := rfl
  have w1 := Mem.wf_write (natLE 4 0x54494D43 ++ natLE 4 4 ++ sha256 (natLE 4 0x4C444E42)) (commitAddr 1) w0
  have hA : Mem.read norBlank bootable.nor (bundleBase 1) 0x200 = emptyBundle := by
    have h := Mem.read_write (d := norBlank) emptyBundle (a := bundleBase 1) w1
    rw [emptyBundle_length] at h
    rw [hn]
    exact h
  have hB : Mem.read norBlank bootable.nor (bundleBase 1 + 0x200) 0x3E00 = List.replicate 0x3E00 0xFF := by
    rw [hn]
    apply List.ext_getElem
    · rw [Mem.length_read, List.length_replicate]
    · intro i h1 h2
      have hi : i < 0x3E00 := by
        rw [List.length_replicate] at h2
        exact h2
      rw [List.getElem_replicate, Mem.getElem_read]
      have hb : bundleBase 1 = 0x9000000 := rfl
      have hc : commitAddr 1 = 0x9000000 + 0x7FFF000 := rfl
      rw [Mem.get_write_ne _ w1 (by rw [emptyBundle_length]; omega), Mem.get_write_ne _ w0 (by rw [hb, hc]; omega)]
      have h4 : decide (0x9000000 + 0x200 + i < 0x20000) = false := decide_eq_false (by omega)
      have h5 : decide (0x9000000 + 0x200 + i < 0x9000000) = false := decide_eq_false (by omega)
      rw [Mem.get, norBlank, hb, h4, h5, Bool.and_false]
      rfl
  rw [Hw.bundle, show (0x4000 : Nat) = 0x200 + 0x3E00 from rfl, Hw.norRead, Mem.read_add, hA, hB]

/-- The head of that bundle. -/
@[irreducible] def bootHead : Bundle := parseBundle 1 (emptyBundle ++ List.replicate 0x3E00 0xFF)

theorem bootable_bundle : bootable.bundle 1 = bootHead := by
  rw [bootHead]
  exact bootable_head

theorem candidates_of_boot (h : Hw) (h1 : h.bundle 1 = bootHead) (h2 : bootHead.vendorOk = true) (h3 : h.bundleValid 1 = true) (h4 : h.sec.owner = none)
    (h5 : h.rpmc.keyFloor ≤ bootHead.keyIdx ∧ h.rpmc.svn ≤ bootHead.svn) (h6 : h.sec.bad = none) : h.candidates [] 1 = bootHead.comps := by
  have f : bootHead.formatOk = true := by decide +kernel
  have a : h.admissible 1 = true := by simp only [Hw.admissible, h1, h2, h3, f, Hw.ownerSigOk, h4, h5.1, h5.2, decide_true, Bool.and_true, Bool.or_true]
  have st : bootHead.comps.all Comp.forStepping = true := forStepping_of_both _ (by decide +kernel)
  rw [Hw.candidates, a, if_pos rfl, h1, List.filter_eq_self]
  intro c hc
  rw [List.all_eq_true.1 st c hc, h6]
  rfl

theorem setRegBytes_keeps {α : Type} (p : Hw → α) (e : ∀ (g : Hw) (o : Nat) (w : Word64), p (g.setWord o w) = p g) (h : Hw) (o : Nat) (b : Bytes) :
    p (h.setRegBytes o b) = p h :=
  List.foldlRecOn (motive := fun x : Hw => p x = p h) (List.range ((b.length + 7) / 8)) _ rfl (fun x hx _ _ => (e x _ _).trans hx)

theorem ownerRecord_congr {h g : Hw} (n : h.nor = g.nor) (r : h.rpmc = g.rpmc) : h.ownerRecord = g.ownerRecord := by
  have e : ∀ n, h.ownerCopy n = g.ownerCopy n := by
    intro k
    rw [Hw.ownerCopy, Hw.ownerCopy, Hw.norRead, Hw.norRead, n, r]
  rw [Hw.ownerRecord, Hw.ownerRecord, e, e]

/-- What the boot ROM leaves before it loads: anything but registers and the owner. -/
theorem bootIdentity_keeps {α : Type} (q p : Hw → α) (es : ∀ (g : Hw) (f : Fld) (v : Nat), p (g.set f v) = p g)
    (ew : ∀ (g : Hw) (o : Nat) (w : Word64), p (g.setWord o w) = p g)
    (eo : ∀ (g : Hw) (f : Fld) (b : Bool), q (({ g with sec := { g.sec with owner := g.ownerRecord } } : Hw).setB f b) = p g) (h : Hw) :
    q (h.bootIdentity 8 true) = p h :=
  have e2 : ∀ (g : Hw) (a b c d x : Nat), p (((((g.set F.SVN_CTR a).set F.CFG_GEN b).set F.OWNER_GEN c).set F.KEY_FLOOR d).set F.BOOT_ID x) = p g :=
    fun _ _ _ _ _ _ => (es _ _ _).trans ((es _ _ _).trans ((es _ _ _).trans ((es _ _ _).trans (es _ _ _))))
  have e3 : ∀ (g : Hw) (b : Bytes) (c : Bool), p ((g.setRegBytes regIdHash b).setB F.CERT_MISMATCH c) = p g :=
    fun g b _ => (es _ _ _).trans (setRegBytes_keeps p ew g regIdHash b)
  (eo _ _ _).trans ((e2 _ _ _ _ _ _).trans ((e3 _ _ _).trans (es _ _ _)))

theorem bootIdentity_facts (h : Hw) : (h.bootIdentity 8 true).nor = h.nor ∧ (h.bootIdentity 8 true).rpmc = h.rpmc ∧
    (h.bootIdentity 8 true).sec.fails = h.sec.fails ∧ (h.bootIdentity 8 true).sec.bad = h.sec.bad ∧ (h.bootIdentity 8 true).sec.owner = h.ownerRecord :=
  ⟨bootIdentity_keeps Hw.nor Hw.nor (fun _ _ _ => rfl) (fun _ _ _ => rfl) (fun _ _ _ => rfl) h,
   bootIdentity_keeps Hw.rpmc Hw.rpmc (fun _ _ _ => rfl) (fun _ _ _ => rfl) (fun _ _ _ => rfl) h,
   bootIdentity_keeps (fun g => g.sec.fails) (fun g => g.sec.fails) (fun _ _ _ => rfl) (fun _ _ _ => rfl) (fun _ _ _ => rfl) h,
   bootIdentity_keeps (fun g => g.sec.bad) (fun g => g.sec.bad) (fun _ _ _ => rfl) (fun _ _ _ => rfl) (fun _ _ _ => rfl) h,
   bootIdentity_keeps (fun g => g.sec.owner) Hw.ownerRecord (fun _ _ _ => ownerRecord_congr rfl rfl) (fun _ _ _ => ownerRecord_congr rfl rfl)
     (fun _ _ _ => rfl) h⟩

/-- The set of slot A runs where slot B holds nothing valid. -/
theorem bootDecide_of (g : Hw) {l : List Comp} (n : Nat) (c1 : g.candidates [] 1 = l) (v2 : g.bundleValid 2 = false) (b : bestSet (l ++ []) = some l)
    (d : (loadOrder l).find? (fun c => !g.compDigestOk c) = none) : g.bootDecide (n + 1) [] = some (l, false) := by
  have c2 : g.candidates [] 2 = [] := by
    rw [Hw.candidates, Hw.admissible, v2, Bool.false_and, Bool.false_and, Bool.false_and, Bool.false_and, if_neg Bool.false_ne_true]
  rw [Hw.bootDecide, c1, c2, b]
  simp only [d]
  rfl

/-- What the decision reads of the flash is what it holds. -/
theorem bundle_congr {g h : Hw} (n : g.nor = h.nor) : (∀ s, g.bundle s = h.bundle s) ∧ (∀ s, g.bundleValid s = h.bundleValid s) ∧
    (∀ c, g.compDigestOk c = h.compDigestOk c) := by
  have f1 : ∀ (x : Hw) (s : Nat), x.bundle s = parseBundle s (Mem.read norBlank x.nor (bundleBase s) 0x4000) := fun _ _ => rfl
  have f2 : ∀ (x : Hw) (s : Nat), x.bundleValid s = (fun (m : Memory) => ({ Hw.off with nor := m } : Hw).bundleValid s) x.nor := fun _ _ => rfl
  have f3 : ∀ (x : Hw) (c : Comp), x.compDigestOk c = (sha256 (Mem.read norBlank x.nor (bundleBase c.slot + c.off) c.size) == c.digest) := fun _ _ => rfl
  exact ⟨fun s => by rw [f1, f1, n], fun s => by rw [f2, f2, n], fun c => by rw [f3, f3, n]⟩

theorem bootable_commit {n : Nat} (hn : 1 ≤ n) : bootable.norRead (commitAddr n) 64 = Mem.read norBlank commitOnly (commitAddr n) 64 := by
  have e : bootable.nor = Mem.write norBlank commitOnly (bundleBase 1) emptyBundle := by
    simp only [bootable, Hw.norWrite, off_nor, commitOnly]
  have w : Mem.wf norBlank commitOnly = true := Mem.wf_write _ (commitAddr 1) rfl
  have hb : bundleBase 1 = 0x9000000 := rfl
  have hc : 0x9000000 + 0x7FFF000 ≤ commitAddr n := by
    simp only [commitAddr, bundleBase]
    omega
  rw [Hw.norRead, e]
  apply List.ext_getElem
  · rw [Mem.length_read, Mem.length_read]
  · intro i h1 h2
    rw [Mem.getElem_read, Mem.getElem_read, Mem.get_write_ne _ w (by rw [emptyBundle_length]; omega)]

theorem bundleValid_of {h : Hw} {s n : Nat} {r b : Bytes} (hr : h.norRead (commitAddr s) 64 = r) (hn : fieldLE r 4 4 = n) (hb : h.norRead (bundleBase s) n = b) :
    h.bundleValid s = (decide (fieldLE r 0 4 = 0x54494D43) && decide (n ≤ 0x7FFF000) && (sha256 b == slice r 8 32)) := by
  rw [Hw.bundleValid, hr, hn, hb]

theorem bootable_slot1 : bootable.bundleValid 1 = true := by
  rw [bundleValid_of (bootable_commit (Nat.le_refl 1)) (n := 4) (by decide +kernel) rfl]
  decide +kernel

theorem bootable_slot2 : bootable.bundleValid 2 = false := by
  rw [bundleValid_of (bootable_commit (Nat.le_succ 1)) rfl rfl, show decide (fieldLE (Mem.read norBlank commitOnly (commitAddr 2) 64) 0 4 = 0x54494D43) = false by decide +kernel,
    Bool.false_and, Bool.false_and]

theorem bootDecide_after {h : Hw} (h1 : h.bundle 1 = bootHead) (hv : bootHead.vendorOk = true) (v1 : h.bundleValid 1 = true) (v2 : h.bundleValid 2 = false)
    (o : h.ownerRecord = none) (k : h.rpmc.keyFloor ≤ bootHead.keyIdx ∧ h.rpmc.svn ≤ bootHead.svn) (b : h.sec.bad = none)
    (d : (loadOrder bootHead.comps).find? (fun c => !h.compDigestOk c) = none) : (h.bootIdentity 8 true).bootDecide 13 [] = some (bootHead.comps, false) := by
  obtain ⟨en, er, -, eb, eo⟩ := bootIdentity_facts h
  obtain ⟨a1, a2, a3⟩ := bundle_congr en
  have best : bestSet (bootHead.comps ++ []) = some bootHead.comps := by decide +kernel
  have c1 := candidates_of_boot (h.bootIdentity 8 true) ((a1 1).trans h1) hv ((a2 1).trans v1) (eo.trans o) (by rw [er]; exact k) (eb.trans b)
  refine bootDecide_of (h.bootIdentity 8 true) 12 c1 ((a2 2).trans v2) best ?_
  have e : (fun c => !(h.bootIdentity 8 true).compDigestOk c) = (fun c => !h.compDigestOk c) := funext (fun c => by rw [a3 c])
  exact e ▸ d

theorem bootable_decides (hv : bootHead.vendorOk = true) : (bootable.bootIdentity 8 true).bootDecide 13 [] = some (bootHead.comps, false) := by
  have o : bootable.ownerRecord = none := by decide +kernel
  have k : bootable.rpmc.keyFloor ≤ bootHead.keyIdx ∧ bootable.rpmc.svn ≤ bootHead.svn := by decide +kernel
  have b : bootable.sec.bad = none := by decide +kernel
  have d : (loadOrder bootHead.comps).find? (fun c => !bootable.compDigestOk c) = none := by decide +kernel
  exact bootDecide_after bootable_bundle hv bootable_slot1 bootable_slot2 o k b d

theorem bootable_fails : (bootable.bootIdentity 8 true).sec.fails < 2 :=
  lt_of_eq_of_lt (bootIdentity_facts bootable).2.2.1 (by decide +kernel)

/-- BOOT_ROM_RUN with a set to run, where the vendor's signature of the bundle and the manufacturing record are good (log entries 5 and 6). -/
theorem witness_BootRomRun (hv : bootHead.vendorOk = true) :
    (bootable.domOn domYOKE = true ∧ bootable.sec.booted = false ∧ (bootable.bootIdentity 8 true).sec.fails < 2) ∧
    (bootable.bootIdentity 8 true).bootDecide 13 [] = some (bootHead.comps, false) :=
  ⟨⟨by decide +kernel, by decide +kernel, bootable_fails⟩, bootable_decides hv⟩

theorem witness_BootCommandsComplete :
    Hw.off.domOn domAON = false ∧
    (let h := { Hw.off with dom := 1 }
     h.domOn domAON ∧ h.domOn domYOKE = false ∧ (let h := { h with sage := { h.sage with vinOk := true } }
       h.sage.vinOk ∧ h.flag F.ROOT_LOCK = false ∧ h.flag F.THERMTRIP_LATCH = false)) ∧
    (let h := { Hw.off with dom := 3, sec := { Hw.off.sec with booted := true } }
     h.domOn domYOKE ∧ h.sec.booted ∧ h.flag F.SEC_RECOVERY = false ∧ h.flag (F.RX_POWERED 4) = false) ∧
    (let h := { on with dom := 3 }
     h.domOn domYOKE ∧ h.flag F.SEC_RECOVERY = false ∧ h.flag (F.RX_POWERED 4) ∧ h.domOn (domPANEL 0) = false) ∧
    (let h := on.set F.GBL_PROFILE 1
     h.domOn domYOKE ∧ h.solo ∧ h.flag (F.RX_POWERED 4) ∧ h.pcie.perstOut = false) ∧
    ({ on with mb := { on.mb with partReset := true } } : Hw).mb.partReset := by
  decide +kernel

def linked : Hw := on.set F.LINK_UP 1

theorem witness_PcieCommandsComplete :
    on.domOn domYOKE ∧ on.flag F.LINK_UP = false ∧ linked.flag F.LINK_UP ∧ on.solo = false ∧ linked.get F.DSTATE = 0 ∧ (on.set F.DSTATE 3).get F.DSTATE = 3 ∧
    (let a := on.l1Exit
     on.ideBlocked = false ∧ a.get F.DSTATE ≠ 3 ∧ a.flag (F.RX_POWERED 4) ∧ a.mb.hostOff = false ∧ a.flag F.SEC_RECOVERY = false) ∧
    (let b : Bar2 := ⟨2 ^ 40 - 4, false, false, [], 4⟩
     ({ on with pcie := { on.pcie with bar2 := [b] } } : Hw).pcie.bar2 = [b] ∧ on.flag F.MEM_CFG_ENABLE = false) ∧
    ({ on with sec := { on.sec with sessions := [⟨7, true, [], 0, true⟩] } } : Hw).sec.sessions.any (fun x => x.est && x.id = 7 && x.doe) ∧
    ({ on with pcie := { on.pcie with ide := [(0, ⟨[1], true, 1⟩)] } } : Hw).pcie.ide.find? 0 = some ⟨[1], true, 1⟩ := by
  decide +kernel

theorem witness_SidebandCommandsComplete :
    on.domOn domYOKE ∧ on.flag F.CERT_MISMATCH = false ∧ on.session 7 = none ∧ on.sec.sessions.length < 4 ∧
    (let h : Hw := { on with sec := { on.sec with sessions := [⟨7, false, [1], 0, true⟩] } }
     h.session 7 = some ⟨7, false, [1], 0, true⟩ ∧ h.sec.owner = none) ∧
    sess.sessOn 1 ∧ on.domOn domAON ∧ (on.sensor 68).isSome ∧ (on.sensor 125).isSome ∧
    (let h : Hw := { sess with sec := { sess.sec with comps := [⟨1, 1, 3, 0, 1, 0x4000, 0, [], [], (0, 0)⟩] } }
     h.sessOn 1 ∧ h.side.update = none ∧ h.idleSlots = [2]) ∧
    ({ sess with side := { sess.side with update := some 2 } } : Hw).side.update = some 2 := by
  decide +kernel

/-! ### The spec's own examples -/

/-- The spec's example of bit fields (R12 to R14): VALID[31], COUNT[11:4] and MODE[3:0] of 0x8000_0B03. -/
theorem test_bit_fields : bitOf 0x80000B03 31 = true ∧ bitsOf 0x80000B03 11 4 = 176 ∧ bitsOf 0x80000B03 3 0 = 3 ∧ bitsOf 0x80000B03 30 12 = 0 := by
  decide +kernel

/-- The spec's example of R51: a block with amax 13.0 written in FP4 has scale 0x80; 6.5 saturates at 6, −1.45 is −1.5, 0.1 is +0.
Its row of 3.4 says that 1.7 is 2; R57 rounds it to 1.5, the nearer value (log entry 63). -/
theorem test_fp4_block :
    (let xs : List Val := [.fin false 13 0, .fin true 12163482 (-22), .fin false 14260634 (-22), .fin false 838861 (-22)]
     blockScale .e2m1 xs = 0x80 ∧ xs.map (fun v => ffE2M1.encode .rne (v.scale (127 - 0x80))) = [7, 0xB, 3, 0]) := by
  decide +kernel

/-- The spec's example of R58: 1 + 3 × 2^−10 into BF16 under the draws 0x3A5C_9E10 and 0xC49F_0002. -/
theorem test_stochastic_rounding :
    ffBF16.encode (.sr 0x3A5C9E10) (.fin false 1027 (-10)) = 0x3F81 ∧ ffBF16.encode (.sr 0xC49F0002) (.fin false 1027 (-10)) = 0x3F80 := by
  decide +kernel

/-- The spec's example of the Hem companion: steps 1, 21, 22 and 23 of updates by −3 × 2^−15 from 1.0. -/
theorem test_hem_companion :
    (let step (p : Nat × Int) : Nat × Int := hemUpdate p.1 p.2 (.fin true 3 (-15))
     let at_ (n : Nat) : Nat × Int := (List.range n).foldl (fun p _ => step p) (0x3F80, 0)
     at_ 1 = (0x3F80, -3) ∧ at_ 21 = (0x3F80, -63) ∧ at_ 22 = (0x3F7F, 124) ∧ at_ 23 = (0x3F7F, 118)) := by
  decide +kernel

/-- The spec's example of R71: history maxima 3.1, 3.6 and 0.0117 in E4M3, and the first with MARGIN 1. -/
theorem test_tape_scale :
    (let up (v : Val) : Nat := ffBF16.encode .up v
     scaleFromAmax (up ((Val.fin false 31 0).mul (.fin false 13421773 (-27)))) 2 0 = 0x86 ∧ scaleFromAmax (up ((Val.fin false 36 0).mul (.fin false 13421773 (-27)))) 2 0 = 0x85 ∧
     scaleFromAmax (up (.fin false 12268339 (-30))) 2 0 = 0x8E ∧ scaleFromAmax (up ((Val.fin false 31 0).mul (.fin false 13421773 (-27)))) 2 1 = 0x85) := by
  decide +kernel

/-- The spec's example of accumulation (R94 to R97): 32 products of one element drain to 0x3FC1; in two parts of 16 to 0x3F80 and 0x3F01. -/
theorem test_mma_cell :
    (let one : Val := .ofNat 1
     let z : List (Val × Val) := List.replicate 13 (.zero, one)
     let p0 : List (Val × Val) := [(.fin false 1 (-1), one), (.fin false 1 (-1), one), (.fin false 1 (-8), one)] ++ z
     let p1 : List (Val × Val) := [(.fin false 1 (-1), one), (.fin false 1 (-9), one), (.fin false 1 (-10), one)] ++ z
     let cell (l : List (Val × Val)) : Nat := ffBF16.encode .rne (mmaCell ffFP32 ⟨.zero, false⟩ l).v
     cell (p0 ++ p1) = 0x3FC1 ∧ cell p0 = 0x3F80 ∧ cell p1 = 0x3F01) := by
  decide +kernel

/-- The spec's example of an MMA's encoding (R155). -/
theorem test_mma_fields :
    mmaF 0x0C00A002000220024001FFE008010000 = ⟨true, 0, 0, false, false, false, 5, 4096, 128, 256, 0⟩ ∧
    bitOf 0x0C00A002000220024001FFE008010000 123 = true := by
  decide +kernel

/-- The spec's example of R235: 0x3A_1234_5678 with 32 channels. -/
theorem test_hbm_decode : decodeWith (List.range 32) 0x3A12345678 = some (31, 0x5091A678) := by decide +kernel

/-- The spec's example of R200: 0x100_4200_0140 lies in global bank 71, sub-bank 0, row 128; the last offset comes back from its place. -/
theorem test_spad_decode :
    spadDecode 0x02000140 = { bank := 7, sub_bank := 0, row := 128, byte := 0 } ∧ bankOf 0x10042000140 = 71 ∧ spadEncode (spadDecode 0x3FFFFFFF) = 0x3FFFFFFF := by
  decide +kernel

/-- The ends of the ranges of device physical addresses (R38). -/
theorem test_decode_pa :
    decodePa 0xFFFFFFFFFF = .hbm ∧ decodePa 0x100FFFFFFFF = .spad ∧ decodePa 0x10100000000 = .unmapped ∧ decodePa 0x110003FFFFF = .sram 0x3FFFFF ∧
    decodePa 0x12003FFFFFF = .regs 0x3FFFFFF ∧ decodePa 0x12004000000 = .unmapped := by
  decide +kernel

/-- The codes (R308, R309): the inner generator of degree 24, as the product of the minimal polynomials of α, α^3 and α^5; bit 3 of codeword 5 lies at
position 53 of an interleave; the outer generator has degree 32. -/
theorem test_codes :
    bchGen = gf8.polyMul (gf8.polyMul [1, 0, 1, 1, 1, 0, 0, 0, 1] [1, 1, 1, 0, 1, 1, 1, 0, 1]) [1, 1, 0, 0, 1, 1, 1, 1, 1] ∧
    interleave ((List.range 16).map (fun j => if j = 5 then 8 else 0)) = 2 ^ 53 ∧ rsGen.length = 33 := by
  decide +kernel

/-- The spec's example of R269: three levels of tables, and a leaf of 512 MiB at level 1. -/
theorem test_page_walk :
    (let h := full.set F.MMU_ROOT 0x1000000
     let h := (h.poke 0x2000000240 (natLE 8 0x0000002000010001)).poke 0x2000023C48 (natLE 8 0x0000000543210063)
     let far (h : Hw) : Bool := match h.walk 0x123456789ABCD with
       | .leaf e page size 2 => decide (pteAddr e + (0x123456789ABCD - page) = 0x54321ABCD) && size == 65536
       | .leaf e page size 1 => decide (pteAddr e + (0x123456789ABCD - page) = 0x40789ABCD) && size == 2 ^ 29
       | _ => false
     h.mmuRoot = 0x2000000000 ∧ far (h.poke 0x200001D158 (natLE 8 0x0000002000020001)) ∧ far (h.poke 0x200001D158 (natLE 8 0x0000000400000063))) := by
  decide +kernel

/-- The spec's example of R376: MARKs of steps 7,499 and 7,500 with 2,048 samples a step. -/
theorem test_cursor_binding :
    (let h := (((on.set F.STEP_BASE 0).set F.CURSOR_BASE 0).set F.CURSOR_PER_STEP 2048).set F.BIND_EN 1
     let h := h.set F.DATA_CURSOR 15360000
     let a := h.markLatch 7499
     let b := a.markLatch 7500
     a.get F.MARK_STEP = 7499 ∧ a.get F.CHERVIL_STEP = 7500 ∧ a.get F.SKEWED = 0 ∧ b.get F.CHERVIL_STEP = 7501 ∧ b.get F.SKEWED = 1 ∧
     b.get F.SKEW_DELTA = 2 ^ 64 - 2048) := by
  decide +kernel

/-- The spec's example of R398: byte 0x1_2345_6789 of slot 1 of a buddy that lends an eighth. -/
theorem test_buddy_address :
    (let h := (List.range 16).foldl (fun h s => h.set (F.BUDDY_BASE s) (s * 0x1000000000)) (on.set F.BUDDY_FRAC 1)
     h.liningAddr 1 0x123456789 = 0x5112346789) := by
  decide +kernel

/-- The spec's example of R468 on stepping A0: THIMBLE, EYELET and GUSSET of slot B run with slot A's SAGE; without B's GUSSET, all of slot A. -/
theorem test_boot_sets :
    (let v (a b c : Nat) : Nat := a * 2 ^ 24 + b * 2 ^ 16 + c
     let any4 : Nat × Nat := (v 4 0 0, v 4 255 65535)
     let wide : Nat × Nat := (v 4 0 0, v 5 255 65535)
     let r5 : Nat × Nat := (v 5 0 0, v 5 255 65535)
     let comp (slot typ ver : Nat) (range : List (Nat × Nat)) : Comp := ⟨slot, typ, 3, 0, ver, 0, 0, [], range, (0, 0)⟩
     let a : List Comp := [comp 1 1 (v 4 1 0) [any4, any4, any4, any4], comp 1 2 (v 4 1 0) [wide, wide, wide, wide],
       comp 1 3 (v 4 0 0) [any4, any4, any4, any4], comp 1 4 (v 4 0 0) [any4, any4, any4, any4]]
     let s41 : Nat × Nat := (v 4 1 0, v 5 255 65535)
     let t := comp 2 1 (v 5 0 0) [r5, s41, r5, wide]
     let e := comp 2 3 (v 5 0 0) [r5, s41, r5, wide]
     let g := comp 2 4 (v 5 0 0) [s41, wide, wide, wide]
     (bestSet (a ++ [t, e, g])).map (·.map (·.slot)) = some [2, 1, 2, 2] ∧ (bestSet (a ++ [t, e])).map (·.map (·.slot)) = some [1, 1, 1, 1]) := by
  decide +kernel

/-- The spec's example of the gradient watch (R382): the fraction 54,689 / 65,536 trips UF_THRESH 0xC000. -/
theorem test_starve_fraction :
    (let t : TapeStat := ⟨0, 0, 0, false, false, true, 4194304, 120000, 3400000, 0⟩
     fractionTrips (TapeRec.fresh true) t ∧ 3400000 * 65536 / (4194304 - 120000) = 54689) := by
  decide +kernel

/-- The spec's example of R178: backward work first, then the lower micro-batch: C, then B, then A. -/
theorem test_dispatch_order :
    (let k (dir : Bool) (mb : Nat) : Cand :=
       ⟨0, ⟨0, true, 1, dir, 12, mb, 0, false, 0, 0, 0, 0, 0, 0, CtxSt.running, [], [], {}, none, false, none, none, [], 0, 0⟩, entOf 0 [] none, 0⟩
     (k true 2).better (k true 3) ∧ (k true 3).better (k false 5) ∧ (k true 3).better (k true 2) = false ∧ (k false 5).better (k true 3) = false) := by
  decide +kernel

/-- The spec's example of R541 to R543: four writes of ARRAY_CFG and ARRAY_STATUS from ENABLE 1 and policy Continue. -/
theorem test_array_cfg_writes :
    (let h := (on.set F.ARRAY_CFG_ENABLE 1).set F.LONGSUM_POLICY 0
     let cfg (h : Hw) : Option Nat := (h.regRead .internal 0x400000 4).2
     let st (h : Hw) : Option Nat := (h.regRead .internal 0x400004 4).2
     let a := (h.regWrite .internal 0x400000 4 0x80000002).1
     let b := (a.regWrite .internal 0x400000 4 0x00000002).1
     let c := (b.regWrite .internal 0x400000 4 0x80000002).1
     let d := (c.regWrite .internal 0x400004 4 0x80000000).1
     cfg h = some 0x80000000 ∧ (cfg a, st a) = (some 0x80000000, some 0x80000001) ∧ (cfg b, st b) = (some 0, some 0x80000002) ∧
     (cfg c, st c) = (some 0x80000002, some 0x80000002) ∧ (cfg d, st d) = (some 0x80000002, some 2)) := by
  decide +kernel

/-- The spec's example of a queue block (R561): queue 3 with rings of 64 and 256. -/
theorem test_queue_registers :
    (let h := ((on.set (F.Q_ENABLE 3) 1).set (F.Q_PRIO 3) 0).set (F.Q_SQ_LOG2 3) 6
     let h := ((((h.set (F.Q_CQ_LOG2 3) 8).set (F.Q_CQ_HEAD 3) 250).set (F.Q_CQ_TAIL 3) 6).set (F.Q_SQ_TAIL 3) 44).set (F.Q_SQ_HEAD 3) 40
     (h.regRead .internal 0x4810C0 4).2 = some 0x800000C8 ∧ (h.regRead .internal 0x4810D8 8).2 = some 0x00FA0006002C0028) := by
  decide +kernel

/-- The board shuffle of R335: link 5 of slot 3 goes to link 11 of slot 8. -/
theorem test_board_shuffle :
    (withPlan (on.set F.TOPO_SLOT 3) { onePlan with links := List.replicate 64 ⟨2, 0, 0, 0, 0⟩ }).expected 5 = some (8, 11) := by
  decide +kernel

/-- SHA-256 of "abc", as FIPS 180-4 gives it (PRESUMED: outside the spec). -/
theorem test_sha256 :
    leNat (sha256 [0x61, 0x62, 0x63]).reverse = 0xBA7816BF8F01CFEA414140DE5DAE2223B00361A396177A9CB410FF61F20015AD := by
  decide +kernel

/-- No row of the table has bits, so no word spells a command. -/
theorem test_no_word_spells_a_command : decodeTableWord 32 0x12345678 = none ∧ State.reset.withFetchWord 32 0x12345678 = State.reset := by decide +kernel

/-! ### Well-formedness: one term outside each bound, which the check refuses -/

/-- Each names something the part has not, or carries an operand outside its width. -/
theorem test_ill_formed_0 :
    ([.sqTailDb 64 0, .sqTailDb 0 (2 ^ 32), .cqHeadDb 64 0, .cqHeadDb 0 (2 ^ 32), .admitEntry 64 [], .fetchInstruction 512 [],
     .assignContinueMma 512 0, .mma 192, .mmaWritebackDone 512 0, .cvt 64, .vop 64, .dropout 64, .optSgd 64, .optMomentum 64, .optAdamw 64, .red 64,
     .pleat 64, .unpleat 64, .rng 64, .vecInstrComplete 512 0, .move 32, .dmaChunkDone 512 0 0 [], .statRegister 512 0, .statQuery 512 0,
     .statSetscale 512 0, .statSetctl 512 0, .statSetwatch 512 0, .statLoad 512 0, .signal 512 0, .wait 512 0, .waitTimeout 512 0, .fence 512 0,
     .mark 512 0, .writeCompletionRecord 64, .queueEnable 64 0, .queueEnable 0 (2 ^ 64), .queueDisable 64 0, .queueDisable 0 (2 ^ 64),
     .queueDrained 64, .ctxPreempt 512, .contextSave 512, .contextSaveDone 512, .ctxResume 512, .contextRestore 512 [], .contextRestoreDone 512,
     .ctxCancel 512, .tokenWrite 4096 0, .tokenWrite 0 (2 ^ 32), .stagingCopyStart 512 0 0, .stagingCopyStart 0 0 4, .stagingCopyDone 512 0 0 [],
     .stagingCopyDone 0 0 4 [], .stagedWriteback 512 0, .spadScrubRead 4, .treqTailDb (2 ^ 32), .treqRegister (List.replicate 4097 0),
     .treqRelease (List.replicate 4097 0), .treqPin (List.replicate 4097 0), .treqUnpin (List.replicate 4097 0),
     .treqMigrate (List.replicate 4097 0)] : List Instr).all (fun i => !i.wf) = true := by
  decide +kernel

/-- Each names something the part has not, or carries an operand outside its width. -/
theorem test_ill_formed_1 :
    ([.treqWorkPin (List.replicate 4097 0), .treqWorkUnpin (List.replicate 4097 0), .treqQuery (List.replicate 4097 0),
     .hbmRequestAccept (2 ^ 52) none [], .hbmRequestAccept 0 (some (2 ^ 256)) [], .darningAgeFlush (2 ^ 44), .hbmReadComplete (2 ^ 44), .hbmScrubRead 16, .hbmRetrainStart 16 0,
     .hbmRetrainStart 0 32, .hbmRetrainDone 16 false 0, .hbmRetrainDone 0 false 65536, .hbmRetrainRetry 16 0, .hbmRetrainRetry 0 32,
     .marginScanBurst 16, .marginScanPause 16 [], .mapoutEvacuated 16, .relayoutSlice 16 false, .relayoutDone 16,
     .pageWalkDone (.fetch 0) (2 ^ 52) .read, .runAheadStart 512 0 0, .runAheadStart 0 0 4, .atsCompletion (2 ^ 64) 0 ⟨0, true, false⟩, .atsCompletion 0 0 ⟨2 ^ 64, true, false⟩,
     .atsCompletion 0 (2 ^ 64) ⟨0, true, false⟩, .priResponse (2 ^ 52) 0, .atsInvalidateRequest (2 ^ 52) 0, .atsInvalidateRequest 0 (2 ^ 52),
     .xlateInval .bar0 (2 ^ 64), .fltRespRetry 65536, .fltRespCancel 65536, .fltHeadDb (2 ^ 32), .faultTimeout 65536,
     .peerReadTimeout (.fetch 0) ⟨2 ^ 52, true⟩, .d2dRetrain 8, .d2dRetrainDone 8 false, .linkEnWrite 64 false, .lasersLocked 64, .lightDetected 64,
     .noLightTimeout 64, .acquireDone 64, .alignDone 64, .verifyDone 64 0 0 0, .verifyDone 0 16 0 0, .markerLockLoss 64, .retrainTimeout 64,
     .eyeletFail 8, .frameWrite 64 [], .frameWrite 0 (List.replicate 329 0), .frameReadReq 64 [], .frameReadReq 0 (List.replicate 329 0),
     .frameReadResp 64 [], .frameReadResp 0 (List.replicate 329 0), .frameColl 64 [], .frameColl 0 (List.replicate 329 0), .frameKeepalive 64 [],
     .frameKeepalive 0 (List.replicate 329 0), .frameCtrl 64 [], .frameCtrl 0 (List.replicate 329 0), .frameIdle 64 [],
     .frameIdle 0 (List.replicate 329 0), .ackTimeoutReplay 64] : List Instr).all (fun i => !i.wf) = true := by
  decide +kernel

/-- Each names something the part has not, or carries an operand outside its width. -/
theorem test_ill_formed_2 :
    ([.laneMarker 64 [], .laneMarker 0 (List.replicate 65 0), .laneOpDrop 64 0, .laneOpDrop 0 4, .laneOpAdd 64 0, .laneOpAdd 0 4,
     .laneOpDupStart 64 0, .laneOpDupStart 0 4, .laneOpDupSwitched 64 0, .laneOpDupSwitched 0 4, .laneOpDropNow 64 0, .laneOpDropNow 0 4,
     .suddenLaneFailure 64 0, .suddenLaneFailure 0 4, .calSlotStart 8, .calSlotEnd 8 0, .calSlotEnd 0 65536, .calOverdue 8 0, .calOverdue 0 36,
     .laserFadeSample 8 0 0 0, .laserFadeSample 0 36 0 0, .laserFadeSample 0 0 65536 0, .laserFadeSample 0 0 0 65536, .spareLocked 8,
     .switchoverTimeout 8, .switchoverRetry 8, .restoreLaserLocked 8, .restoreMarginTimeout 8, .linkCmdRethread 64 0, .linkCmdRethread 0 16,
     .linkCmdRetrain 64, .linkCmdDropLane 64 0, .linkCmdDropLane 0 4, .linkCmdRestoreLane 64 0, .linkCmdRestoreLane 0 4, .linkCmdSpareLane 64 0,
     .linkCmdSpareLane 0 4, .rethreadStart 64, .steeringMoveDone 64, .reacquireDone 64, .rethreadMarkerTimeout 64, .lifReceive 64 [],
     .lifReceive 0 (List.replicate 4097 0), .lifRetry 64, .remapWaitExpiry 64, .portWaitExpiry 64, .keepaliveMiss 4096, .collReduceScatter 4,
     .collAllGather 4, .collAllReduce 4, .collAllToAll 4, .collBroadcast 4, .collStepDone 512 0, .collComplete 512 0 [], .collTimeout 512 0 0,
     .mbDbWake 16 .bar0, .mbDbSend 16 .bar0, .mbBufferWrite 16 .bar0 0 [], .mbBufferWrite 0 .bar0 256 [0], .transportWake 16] : List Instr).all (fun i => !i.wf) = true := by
  decide +kernel

/-- Each names something the part has not, or carries an operand outside its width. -/
theorem test_ill_formed_3 :
    ([.transportWriteSend 16 0 [], .transportWriteSend 0 0 (List.replicate 257 0), .transportReadStatus 16, .transportReadBuffer 16 0,
     .devIdentify 16 0 [], .devIdentify 0 65536 [], .devIdentify 0 0 (List.replicate 241 0), .devStatus 16 0 [], .devStatus 0 65536 [],
     .devStatus 0 0 (List.replicate 241 0), .devResetPart 16 0 [], .devResetPart 0 65536 [], .devResetPart 0 0 (List.replicate 241 0),
     .devResetJob 16 0 [], .devWriteIn 16 0 [], .devReadOut 16 0 [], .imgInfo 16 0 [], .imgErase 16 0 [], .imgWrite 16 0 [], .imgCommit 16 0 [],
     .imgCfgGet 16 0 [], .imgCfgSet 16 0 [], .imgCfgDefault 16 0 [], .pwrStatus 16 0 [], .pwrClockCap 16 0 [], .pwrStandby 16 0 [],
     .pwrDomain 16 0 [], .jobSetKey 16 0 [], .jobSetBinding 16 0 [], .jobSetBases 16 0 [], .jobEnable 16 0 [], .jobQuiesce 16 0 [],
     .jobTapeGet 16 0 [], .jobTapeSet 16 0 [], .topoSetCoord 16 0 [], .topoLoadPlan 16 0 [], .topoStatus 16 0 [], .topoPeer 16 0 [],
     .linkEnable 16 0 [], .linkStatus 16 0 [], .linkLaserFactory 16 0 [], .memRetrain 16 0 [], .memMargin 16 0 [], .memMarginResult 16 0 [],
     .memStackState 16 0 [], .memMapout 16 0 [], .memMapoutClear 16 0 [], .memRegion 16 0 [], .memMap 16 0 [], .memUnmap 16 0 [],
     .memPeerWindow 16 0 [], .memHostWindow 16 0 [], .memLend 16 0 [], .memInval 16 0 [], .memFaultResp 16 0 [], .qCtxCtl 16 0 [],
     .qQueueCtl 16 0 [], .snapSetBase 16 0 [], .snapLend 16 0 [], .snapWithdraw 16 0 []] : List Instr).all (fun i => !i.wf) = true := by
  decide +kernel

/-- Each names something the part has not, or carries an operand outside its width. -/
theorem test_ill_formed_4 :
    ([.snapSuccessor 16 0 [], .snapBindBuddy 16 0 [], .snapBindNvme 16 0 [], .snapSlots 16 0 [], .snapUnbind 16 0 [], .snapBuddyLost 16 0 [],
     .snapRestore 16 0 [], .secGetId 16 0 [], .secQuote 16 0 [], .secEnrol 16 0 [], .diagChervil 16 0 [], .diagRegRead 16 0 [],
     .diagRegWrite 16 0 [], .diagEngineMap 16 0 [], .diagLoopback 16 0 [], .evtRing 16 0 [], .evtRead 16 0 [], .evtFilter 16 0 [],
     .sageSensors 16 0 [], .sagePins 16 0 [], .sageSetThresh 16 0 [], .sageLaser 16 0 [], .evtHeadDb (2 ^ 32), .sageSample (List.replicate 63 0) 0 0,
     .sageSample (List.replicate 64 0) (2 ^ 32) 0, .sageSample (List.replicate 64 0) 0 (2 ^ 32), .thermtrip 64, .pinStuck 5,
     .bar2Request (2 ^ 52) false false [] 0, .ideKmKeyProg 0 5 [], .ideIntegrityFail 5, .mctpSetEndpointId 7, .mctpSetEndpointId 255, .i3cEntdaa 128,
     .registerWrite .bar0 (2 ^ 26) 4 0, .registerWrite .bar0 0 2 0, .registerWrite .bar0 0 4 (2 ^ 64), .counterLowHalfRead .bar0 (2 ^ 26),
     .mmaLastPromotion 512 0, .registerRead .bar0 (2 ^ 26) 4, .registerRead .bar0 0 2, .registerRead .cfg (2 ^ 26) 4, .frameNotDelivered 64 false, .pcieLinkUp 0 1 false,
     .pcieLinkUp 8 1 false, .pcieLinkUp 1 3 false, .pcieCompletionTimeout (.fetch 0) ⟨2 ^ 52, 0⟩, .pcieCompletionTimeout (.fetch 0) ⟨0, 2⟩, .pinFlagClear 5,
     .treqReservedOp (List.replicate 4097 0)] : List Instr).all (fun i => !i.wf) = true := by
  decide +kernel

/-- Terms inside the bounds, at their ends. -/
theorem test_well_formed :
    ([.sqTailDb 63 (2 ^ 32 - 1), .tokenWrite 4095 0, .mma 191, .rng 63, .devIdentify 15 65535 (List.replicate 240 0), .verifyDone 63 15 0 0,
     .mctpSetEndpointId 254, .registerRead .bar0 (2 ^ 26 - 8) 8, .registerRead .internal 0x110003FFFFC 4, .pcieCompletionTimeout (.fetch 0) ⟨0, 4⟩, .pcieLinkUp 7 16 false, .bar2Request (2 ^ 52 - 1) false false [] 4] : List Instr).all
      (fun i => i.wf) = true := by
  decide +kernel

/-! ### Witnesses: the rules of the whole machine and of its parts -/

/-- A command in front, and none, with YOKE powered and without power. -/
theorem witness_EmptyQueueTicks :
    on.domOn domYOKE = true ∧ Hw.off.domOn domYOKE = false ∧ on.domOn (domPANEL (panelOfEngine 288)) = true ∧ on.onEngine 288 = [] := by
  decide +kernel

/-- R195, R194: an engine with nothing assigned counts idle: array 0, vector engine 192, DMA engine 256 and Seam engine 288. -/
theorem test_idle_engines_count_idle : [0, 192, 256, 288].map on.engCounter = [some (F.STL_IDLE 0), some (F.STL_IDLE 192), some (F.STL_IDLE 256),
    some (F.STL_IDLE 288)] := by
  decide +kernel

/-- A step from reset, which powers AON, and a step of a part that runs. -/
theorem witness_PowerOrderKept :
    (Hw.off.powerLegal = true ∧ ∃ t, step ⟨[.aonPowerUp], Hw.off⟩ = .next t) ∧ full.powerLegal = true ∧ ∃ t, step ⟨[.thermtrip 3], full⟩ = .next t :=
  ⟨⟨by decide +kernel, _, rfl⟩, by decide +kernel, _, rfl⟩

theorem witness_MonotonicCountersNeverFall : ∃ t, step ⟨[.bootWatchdog, .absentScan], full⟩ = .next t := ⟨_, rfl⟩

theorem witness_DarningKept :
    (let h : Hw := { full with hbm := { full.hbm with darn := [⟨3, [(0, 7), (255, 9)]⟩, ⟨2, []⟩] } }
     h.darnWf = true ∧ ∃ t, step ⟨[.darningAgeFlush 3], h⟩ = .next t) :=
  ⟨by decide +kernel, _, rfl⟩

theorem witness_MemoriesStayCanonical : full.memWf = true ∧ ∃ t, step ⟨[.hbmRequestAccept 0x10000 (some 3) (List.replicate 256 1)], full⟩ = .next t :=
  ⟨by decide +kernel, _, rfl⟩

/-- Every field of a frame at the end of its width. -/
theorem witness_FrameRoundTrip :
    (let f : Machine.Frm := ⟨15, 15, true, true, 65535, 2 ^ 32 - 1, 2 ^ 32 - 1, true, 15, 65535, 65535, 65535, 2 ^ 32 - 1, 2 ^ 64 - 1, 2 ^ 64 - 1, List.replicate 592 0xFF, 0⟩
     f.ftype < 16 ∧ f.vl < 16 ∧ f.len < 65536 ∧ f.lseq < 2 ^ 32 ∧ f.ack < 2 ^ 32 ∧ f.crVl < 16 ∧ f.crCnt < 65536 ∧ f.dst < 65536 ∧ f.src < 65536 ∧
     f.tag < 2 ^ 32 ∧ f.addr < 2 ^ 64 ∧ f.aux < 2 ^ 64 ∧ f.data.length = 592 ∧ f.tries = 0) := by
  decide +kernel

/-- The last step number of 32 bits. -/
theorem witness_CursorOfStep : (2 ^ 32 - 1 : Nat) < 2 ^ 32 := by decide

/-- A MARK without a binding, with a binding that agrees, and with one that does not. -/
theorem witness_MarkLatchesPair :
    (7499 : Nat) < 2 ^ 32 ∧ (on.flag F.BIND_EN = false ∨ on.get F.CURSOR_PER_STEP = 0) ∧
    (let h := (on.set F.CURSOR_PER_STEP 2048).set F.BIND_EN 1
     h.flag F.BIND_EN = true ∧ h.get F.CURSOR_PER_STEP ≠ 0 ∧ (h.set F.DATA_CURSOR 15360000).get F.DATA_CURSOR = (h.set F.DATA_CURSOR 15360000).cursor 7500 ∧
     h.get F.DATA_CURSOR ≠ h.cursor 7500) := by
  decide +kernel

/-- Counts and words at the ends of each case. -/
theorem witness_Stat16Encodes :
    (65535 : Nat) < 65536 ∧ (2047 : Nat) < 2048 ∧ (2048 ≤ 2048 ∧ 2048 ≤ 4095 * 2 ^ 30) ∧ (2048 ≤ 4095 * 2 ^ 30 ∧ 4095 * 2 ^ 30 ≤ 4095 * 2 ^ 30) ∧
    4095 * 2 ^ 30 < 4095 * 2 ^ 30 + 1 := by
  decide

theorem witness_BlockScaleApplies : ((0xFE : Nat) < 256 ∧ 0xFE ≠ 0xFF) ∧ (0xFF : Nat) < 256 ∧ 0xFF = 0xFF := by decide

theorem witness_NanResultsAreCanonical : 0 < 127 ∧ 127 < 128 ∧ 1023 < 1024 ∧ 3 < 4 := by decide

/-- Queue 3 can admit and no other; without its doorbell none can. -/
theorem witness_NextQueueHasLowestPrio :
    (let h := ((full.set (F.Q_ENABLE 3) 1).set (F.Q_SQ_TAIL 3) 1)
     h.nextQueue = some 3 ∧ h.canAdmit 3 = true) ∧ full.nextQueue = none := by
  decide +kernel

/-- An engine with one candidate, and one with none. -/
theorem witness_BestCandidateHasLowestPrio :
    (running eCvt).best 255 = some (candOf eCvt) ∧ candOf eCvt ∈ (running eCvt).cands 255 ∧ full.best 255 = none := by
  decide +kernel

/-- A voted word whose second copy differs in a bit. -/
theorem witness_WordIsMajorityOfCopies :
    ({ on with votes := [(0x400000, (1, 0))] } : Hw).votes.find? 0x400000 = some (1, 0) ∧ 0x400000 % 8 = 0 ∧ F.LONGSUM_POLICY.word % 8 = 0 := by
  decide +kernel

theorem witness_FieldWriteStoresAllCopies :
    (F.CURSOR_BASE.sh + F.CURSOR_BASE.width ≤ 64 ∧ F.STAGE_RES.sh + F.STAGE_RES.width ≤ 64) ∧ (0x400000 : Nat) ≠ F.STAGE_RES.word := by decide +kernel

theorem witness_EventRecordLayout :
    (let e : EvRec := ⟨65535, 255, 2 ^ 32 - 1, 2 ^ 64 - 1, List.replicate 16 0xFF⟩
     e.code < 65536 ∧ e.sev < 256 ∧ e.seq < 2 ^ 32 ∧ e.time < 2 ^ 64 ∧ e.args.length ≤ 16) := by
  decide +kernel

theorem witness_TokenWriteFrame : on.domOn domYOKE = true ∧ (4095 : Nat) < 4096 ∧ (0 : Nat) < 4096 ∧ (0 : Nat) ≠ 4095 := by decide +kernel

/-- The policy would change, and would not. -/
theorem witness_EnabledBlockKeepsConfiguration :
    full.flag F.ARRAY_CFG_ENABLE = true ∧ 2 % 4 ≠ full.get F.LONGSUM_POLICY ∧ 0x80000000 % 4 = full.get F.LONGSUM_POLICY := by
  decide +kernel

/-- A byte before the written ones, one after, and one of them. -/
theorem witness_NorWriteFrame : (0x17 : Nat) < 0x18 ∧ 0x18 + [1, 2].length ≤ (0x1A : Nat) ∧ 1 < [1, 2].length ∧ Mem.wf norBlank on.nor = true := by decide +kernel

/-- The last two bytes of scratchpad. -/
theorem witness_ScratchpadWriteFrame :
    inSpad (spadBase + 4 * panelSize - 2) ([1, 2] : Bytes).length = true ∧ full.spad.flips = [] ∧ full.spad.poison = [] ∧
    spadBase < spadBase + 4 * panelSize - 2 := by
  decide +kernel

/-- The last two bytes below scratchpad. -/
theorem witness_HbmWriteFrame :
    spadBase - 2 + ([1, 2] : Bytes).length ≤ spadBase ∧ full.hbm.flips = [] ∧ full.hbm.poison = [] ∧ full.darnWf = true ∧ ([1, 2] : Bytes) ≠ [] ∧ 0 < spadBase := by
  decide +kernel

end Sys2Proof.Tests
end

section
/-!
PROOFS. Number formats (02_number_formats.md): STAT16 counts (R53), NaN encodings (R48), block scales (R50).
-/

namespace Sys2Proof.Machine

/-! ### STAT16 (R53) -/

/-- A word of fields E and M decodes by R53's two cases. -/
theorem stat16Dec_fields {e m : Nat} (he : e < 32) (hm : m < 2048) :
    stat16Dec (e * 2048 + m) = if e = 0 then m else (2048 + m) * 2 ^ (e - 1) := by
  have hE : (e * 2048 + m) / 2048 % 32 = e := by omega
  have hM : (e * 2048 + m) % 2048 = m := by omega
  simp only [stat16Dec, hE, hM]

theorem stat16Dec_of_lt_65536 {w : Nat} (hw : w < 65536) :
    stat16Dec w = if w / 2048 = 0 then w else (2048 + w % 2048) * 2 ^ (w / 2048 - 1) := by
  have hfields := stat16Dec_fields (show w / 2048 < 32 by omega) (Nat.mod_lt w (by decide : 2048 > 0))
  rw [Nat.div_add_mod'] at hfields
  rw [hfields]
  split
  · omega
  · rfl

theorem stat16Enc_of_lt_2048 {n : Nat} (h : n < 2048) : stat16Enc n = n := if_pos h

theorem stat16Enc_of_normal {n : Nat} (hlo : 2048 ≤ n) (hhi : n ≤ 4095 * 2 ^ 30) :
    stat16Enc n = (n.log2 - 10) * 2048 + (n / 2 ^ (n.log2 - 10 - 1) - 2048) := by
  rw [stat16Enc, if_neg (by omega), if_neg (by omega)]

theorem stat16Enc_of_gt {n : Nat} (h : 4095 * 2 ^ 30 < n) : stat16Enc n = 0xFFFF := by
  rw [stat16Enc, if_neg (by omega), if_pos h]

/-- The exponent field of a count of the normal range is one of 1 to 31. -/
theorem stat16_exponent_range {n : Nat} (hlo : 2048 ≤ n) (hhi : n ≤ 4095 * 2 ^ 30) :
    1 ≤ n.log2 - 10 ∧ n.log2 - 10 < 32 := by
  have h11 : 11 ≤ n.log2 := (Nat.le_log2 (by omega)).2 hlo
  have h42 : n.log2 < 42 := (Nat.log2_lt (by omega)).2 (by omega)
  omega

/-- The count over its unit 2^(E − 1) has exactly 12 bits: a leading one and the 11 of M. -/
theorem stat16_significand_range {n : Nat} (hlo : 2048 ≤ n) :
    2048 ≤ n / 2 ^ (n.log2 - 10 - 1) ∧ n / 2 ^ (n.log2 - 10 - 1) < 4096 := by
  have h11 : 11 ≤ n.log2 := (Nat.le_log2 (by omega)).2 hlo
  have hunit : 2 ^ 11 * 2 ^ (n.log2 - 10 - 1) = 2 ^ n.log2 := by
    rw [← Nat.pow_add]
    congr 1
    omega
  constructor
  · rw [Nat.le_div_iff_mul_le (Nat.two_pow_pos _)]
    calc 2048 * 2 ^ (n.log2 - 10 - 1) = 2 ^ n.log2 := hunit
      _ ≤ n := Nat.log2_self_le (by omega)
  · rw [Nat.div_lt_iff_lt_mul (Nat.two_pow_pos _)]
    calc n < 2 ^ (n.log2 + 1) := Nat.lt_log2_self
      _ = 4096 * 2 ^ (n.log2 - 10 - 1) := by rw [Nat.pow_succ, ← hunit]; omega

theorem stat16Enc_lt_65536_of_normal {n : Nat} (hlo : 2048 ≤ n) (hhi : n ≤ 4095 * 2 ^ 30) : stat16Enc n < 65536 := by
  have hexp := stat16_exponent_range hlo hhi
  have hsig := stat16_significand_range hlo
  rw [stat16Enc_of_normal hlo hhi]
  omega

/-- Encoding truncates a count to a multiple of its unit 2^(E − 1). -/
theorem stat16Dec_stat16Enc_of_normal {n : Nat} (hlo : 2048 ≤ n) (hhi : n ≤ 4095 * 2 ^ 30) :
    stat16Dec (stat16Enc n) = n / 2 ^ (n.log2 - 10 - 1) * 2 ^ (n.log2 - 10 - 1) := by
  have hexp := stat16_exponent_range hlo hhi
  have hsig := stat16_significand_range hlo
  rw [stat16Enc_of_normal hlo hhi, stat16Dec_fields hexp.2 (by omega), if_neg (by omega), Nat.add_sub_cancel' hsig.1]

/-- Truncation to a multiple of a unit that goes k times into the number loses less than one part in k. -/
theorem sub_div_mul_self_mul_lt {n p k : Nat} (hp : 0 < p) (hk : 0 < k) (h : k ≤ n / p) : (n - n / p * p) * k < n := by
  calc (n - n / p * p) * k = n % p * k := by rw [Nat.mod_eq_sub_div_mul]
    _ < p * k := Nat.mul_lt_mul_of_pos_right (Nat.mod_lt n hp) hk
    _ ≤ p * (n / p) := Nat.mul_le_mul_left p h
    _ ≤ n := Nat.mul_div_le n p

/-! ### NaN encodings (R48) -/

/-- What the sign adds to an encoding: the bit above the exponent where it is negative. -/
def FF.signBit (f : FF) (n : Bool) : Nat := n.toNat * 2 ^ (f.eb + f.mb)

/-- The sign, the exponent and the fraction of an encoding are the ones it is made of. -/
theorem FF.encoding_fields (f : FF) (n : Bool) {ex frac : Nat} (hex : ex < 2 ^ f.eb) (hfrac : frac < 2 ^ f.mb) :
    (f.signBit n + ex * 2 ^ f.mb + frac) % 2 ^ f.mb = frac ∧
    (f.signBit n + ex * 2 ^ f.mb + frac) / 2 ^ f.mb = n.toNat * 2 ^ f.eb + ex ∧
    (f.signBit n + ex * 2 ^ f.mb + frac) / 2 ^ (f.eb + f.mb) = n.toNat := by
  have hsum : f.signBit n + ex * 2 ^ f.mb + frac = frac + (n.toNat * 2 ^ f.eb + ex) * 2 ^ f.mb := by
    rw [FF.signBit, Nat.pow_add, Nat.add_mul, Nat.mul_assoc, Nat.add_comm]
  have hhigh : (frac + (n.toNat * 2 ^ f.eb + ex) * 2 ^ f.mb) / 2 ^ f.mb = n.toNat * 2 ^ f.eb + ex := by
    rw [Nat.add_mul_div_right _ _ (Nat.two_pow_pos _), Nat.div_eq_of_lt hfrac, Nat.zero_add]
  rw [hsum]
  refine ⟨?_, hhigh, ?_⟩
  · rw [Nat.add_mul_mod_self_right, Nat.mod_eq_of_lt hfrac]
  · rw [Nat.add_comm f.eb, Nat.pow_add, ← Nat.div_div_eq_div_mul, hhigh, Nat.add_comm,
      Nat.add_mul_div_right _ _ (Nat.two_pow_pos _), Nat.div_eq_of_lt hex, Nat.zero_add]

/-- In a format with infinities every encoding of the top exponent and a nonzero fraction, quiet or signalling, is a NaN of its sign. -/
theorem FF.decode_topExponent_of_hasInf {f : FF} (hinf : f.hasInf = true) (n : Bool) {frac : Nat} (hpos : 0 < frac) (hfrac : frac < 2 ^ f.mb) :
    f.decode (f.signBit n + (2 ^ f.eb - 1) * 2 ^ f.mb + frac) = .nan n := by
  have htop : 2 ^ f.eb - 1 < 2 ^ f.eb := Nat.sub_lt (Nat.two_pow_pos _) Nat.one_pos
  obtain ⟨hF, hE, hS⟩ := f.encoding_fields n htop hfrac
  have hsign : decide (n.toNat % 2 = 1) = n := by cases n <;> rfl
  have hex : (n.toNat * 2 ^ f.eb + (2 ^ f.eb - 1)) % 2 ^ f.eb = 2 ^ f.eb - 1 := by
    rw [Nat.mul_add_mod_self_right, Nat.mod_eq_of_lt htop]
  simp only [FF.decode, hF, hE, hS, hsign, hex, hinf, decide_true, Bool.and_self, if_true, if_neg (Nat.ne_of_gt hpos)]

/-- A NaN is not rounded: its encoding depends on its sign only. -/
theorem FF.encode_nan (f : FF) (r : Rnd) (n : Bool) : f.encode r (.nan n) = f.bits (.nan n) := rfl

theorem ffBF16_bits_nan (n : Bool) : ffBF16.bits (.nan n) = if n then 0xFFC0 else 0x7FC0 := by
  cases n <;> decide

theorem ffFP16_bits_nan (n : Bool) : ffFP16.bits (.nan n) = if n then 0xFE00 else 0x7E00 := by
  cases n <;> decide

theorem ffE4M3_bits_nan (n : Bool) : ffE4M3.bits (.nan n) = if n then 0xFF else 0x7F := by
  cases n <;> decide

theorem ffE5M2_bits_nan (n : Bool) : ffE5M2.bits (.nan n) = if n then 0xFE else 0x7E := by
  cases n <;> decide

/-! ### Block scales (R50) -/

theorem e8m0_of_ne {x : Nat} (h : x ≠ 0xFF) : e8m0 x = some ((x : Int) - 127) := if_neg h

theorem e8m0_nan : e8m0 0xFF = none := rfl

theorem scaleBlock_of_ne (v : Val) {x : Nat} (h : x ≠ 0xFF) : scaleBlock v x = v.scale ((x : Int) - 127) := by
  rw [scaleBlock, e8m0_of_ne h]

theorem scaleBlock_nan (v : Val) : scaleBlock v 0xFF = nanOf 6 v.sign false := rfl

end Sys2Proof.Machine

namespace Sys2Proof.Proofs
open Machine

/-- Settles O46: above 2,047 the decoded word is the count truncated to a multiple of 2^(E − 1), a unit that goes at least 2,048 times into it. -/
theorem stat16Encodes : Obligations.Stat16Encodes := by
  refine ⟨fun w hw => stat16Dec_of_lt_65536 hw, fun n hn => ?exact, fun n hlo hhi => ?truncated,
    fun n hn => stat16Enc_of_gt hn, by decide, by decide, by decide⟩
  case exact =>
    have henc := stat16Enc_of_lt_2048 hn
    rw [henc, stat16Dec_of_lt_65536 (by omega), if_pos (by omega)]
    exact ⟨rfl, rfl⟩
  case truncated =>
    refine ⟨stat16Enc_of_normal hlo hhi, stat16Enc_lt_65536_of_normal hlo hhi, ?_⟩
    rw [stat16Dec_stat16Enc_of_normal hlo hhi]
    exact ⟨Nat.div_mul_le_self _ _, sub_div_mul_self_mul_lt (Nat.two_pow_pos _) (by decide) (stat16_significand_range hlo).1⟩

/-- Settles O48: rounding keeps a NaN, whose encoding is the canonical one; the formats with infinities share one decoding law, E4M3 has one NaN of each sign. -/
theorem nanResultsAreCanonical : Obligations.NanResultsAreCanonical := by
  refine ⟨fun n r => ?encode, fun m hm => ⟨fun h => ?bf16, fun h => ?fp16, fun h => ?e5m2⟩, by decide, by decide⟩
  case encode =>
    simp only [FF.encode_nan]
    exact ⟨ffBF16_bits_nan n, ffFP16_bits_nan n, ffE4M3_bits_nan n, ffE5M2_bits_nan n⟩
  case bf16 =>
    have hdec := fun n => FF.decode_topExponent_of_hasInf (f := ffBF16) rfl n hm h
    exact ⟨hdec false, hdec true⟩
  case fp16 =>
    have hdec := fun n => FF.decode_topExponent_of_hasInf (f := ffFP16) rfl n hm h
    exact ⟨hdec false, hdec true⟩
  case e5m2 =>
    have hdec := fun n => FF.decode_topExponent_of_hasInf (f := ffE5M2) rfl n hm h
    exact ⟨hdec false, hdec true⟩

/-- Settles O47, by the two cases of the scale byte. -/
theorem blockScaleApplies : Obligations.BlockScaleApplies := by
  intro n m e x _
  constructor
  · intro hx
    exact ⟨scaleBlock_of_ne _ hx, e8m0_of_ne hx⟩
  · rintro rfl
    rw [scaleBlock_nan]
    exact ⟨rfl, e8m0_nan⟩

end Sys2Proof.Proofs
end

section
/-!
PROOFS. The Shuttle's window and the matrix arrays (03_matrix_arrays.md): fetch, array assignment, issue, promotion and write-back of an MMA
(R78, R85 to R89, R107, R147, R154, R227).
-/

namespace Sys2Proof.Machine

/-! ### Fetch and window entry (R147, R154) -/

/-- A read that meets no poison leaves no byte open. -/
@[simp] theorem Hw.fuzz_false (h : Hw) (site : Nat) (bs : Bytes) : h.fuzz false site bs = bs := rfl

/-- A window in which every instruction has its descriptors or waits for the answer of a fault has none whose descriptors are to be read. -/
theorem find_undescribed_eq_none {w : List Ent} (hread : w.all (fun e => !e.descs.isEmpty || e.flt.isSome)) :
    w.find? (fun e => e.descs.isEmpty && e.flt.isNone) = none := by
  rw [List.find?_eq_none]
  intro e he hunread
  have hentry := List.all_eq_true.1 hread e he
  obtain ⟨hempty, hnone⟩ := Bool.and_eq_true_iff.1 hunread
  rw [hempty, Option.isNone_iff_eq_none.1 hnone] at hentry
  exact Bool.false_ne_true hentry

/-- The hardware once an instruction has been fetched at the program counter, before its descriptors are read (R147). -/
def Hw.fetched (h : Hw) (c : Nat) (e : Ent) : Hw := h.updCtx c (fun x => { x with pc := x.pc + 1, window := x.window ++ [e] })

/-- An instruction of the window gets its descriptors and its engine, or waits for its descriptors where a fault keeps them (R147, R227). -/
def Hw.describe (h : Hw) (c : Nat) (e : Ent) : Hw :=
  match h.entDescs (c % 4) e.raw [] with
  | .error _ => h
  | .ok (t, ds) => t.enter c e ds

theorem Hw.describe_of_ok {h t : Hw} {c : Nat} {e : Ent} {ds : List (Nat × Nat)} (hds : h.entDescs (c % 4) e.raw [] = .ok (t, ds)) :
    h.describe c e = t.enter c e ds := by
  rw [Hw.describe, hds]

theorem Hw.describe_of_error {h : Hw} {c : Nat} {e : Ent} {f : XFault} (hds : h.entDescs (c % 4) e.raw [] = .error f) :
    h.describe c e = h := by
  rw [Hw.describe, hds]

/-- A valid instruction read without poison is fetched, then described. -/
theorem effFetchInstruction_of_valid {h a : Hw} {c : Nat} {ext bs : Bytes} {x : Ctx} (hctx : h.ctx? c = some x) (hmay : h.mayFetch x)
    (hread : x.window.all (fun e => !e.descs.isEmpty || e.flt.isSome))
    (hprog : h.vread (c % 4) .fetch (x.progAddr + 16 * x.pc) 16 ext = .ok (a, bs, false)) (hvalid : insValid (leNat bs)) :
    effFetchInstruction c ext h = (a.fetched c (Ent.fresh x.pc (leNat bs))).describe c (Ent.fresh x.pc (leNat bs)) := by
  simp only [effFetchInstruction, hctx, find_undescribed_eq_none hread, hmay, hprog, Hw.fuzz_false, hvalid, Bool.not_true,
    Bool.false_eq_true, if_false]
  rfl

/-! ### The array of a continuing MMA (R85, R227) -/

/-- The array that a continuing MMA is assigned to: the one that holds its tag, else by the normal rule. -/
def Hw.continueArray (h : Hw) (x : Ctx) (e : Ent) : Option Nat :=
  match x.chains.find? (·.tag == (mmaF e.raw).tag) with
  | some k => some k.array
  | none => h.assignNormal e.raw e.descs

/-- A held MMA that continues a chain and waits for no earlier one of its tag is assigned its array. -/
theorem effAssignContinueMma_of_waiting {h : Hw} {c i : Nat} {x : Ctx} {e : Ent} (hheld : h.holds c i x e) (hon : h.shutOn)
    (htailor : h.flag F.TAILOR_CFG_ENABLE) (hrun : x.st = .running) (hopc : insOpc e.raw = 0) (hmode : (mmaF e.raw).mode = 1)
    (heng : e.engine = none) (hph : e.ph = .held) (hds : e.descs ≠ [])
    (hfirst : ∀ y ∈ x.window, y.index < e.index → y.tagOrder e = false) :
    effAssignContinueMma c i h = h.updEnt c i (fun y => { y with engine := h.continueArray x e }) := by
  obtain ⟨hctx, hent⟩ := hheld
  have hnone : x.window.any (fun y => y.index < e.index && y.tagOrder e) = false := by
    rw [List.any_eq_false]
    intro y hy
    by_cases hlt : y.index < e.index
    · simp [hfirst y hy hlt]
    · simp [hlt]
  have hdsB : e.descs.isEmpty = false := List.isEmpty_eq_false_iff.2 hds
  simp [effAssignContinueMma, hctx, hent, hon, htailor, hrun, hopc, hmode, heng, hph, hdsB, hnone]
  rfl

/-! ### Issue (R78, R85, R89) -/

/-- With a slab buffer pair free and its chain here or with room, an MMA has the room it needs to issue. -/
theorem Hw.mmaRoom_of_slabs_lt {h : Hw} {a : Nat} {k : Cand} (hchain : chainHere k.x a k.e) (hdrain : h.drainRoom a k.x k.e)
    (hslabs : (h.slabs a).length < 2) (hslots : h.slotsReach k.e) : h.mmaRoom a k = true := by
  simp [Hw.mmaRoom, Hw.slabRoom, hchain, hdrain, hslabs, hslots]

/-- An array starts the candidate that it takes. -/
theorem effMma_of_mmaTakes {h : Hw} {a : Nat} {k : Cand} (htakes : h.mmaTakes a k) : effMma a h = h.mmaStart a k.c k.x k.e := by
  obtain ⟨hon, hbest, hok, hfresh, hres, hchain, hdrain, hslabs, hslots⟩ := htakes
  have hroom := Hw.mmaRoom_of_slabs_lt hchain hdrain hslabs hslots
  simp [effMma, hon, hbest, hok, hfresh, hres, hroom]

/-! ### Promotion and write-back (R78, R86, R88, R107) -/

section End
variable {h : Hw} {c i : Nat} {e : Ent} (hwork : h.working? c i = some e) (hopc : insOpc e.raw = 0) (hph : e.ph = .issued)
  (hspad : h.flag F.SPAD_CFG_ENABLE)
include hwork hopc hph hspad

/-- The last promotion of an issued MMA ends it, or, where it is to write D, gives back its slab buffer pair. -/
theorem effMmaLastPromotion_of_issued :
    effMmaLastPromotion c i h = if (mmaF e.raw).fin then h.slabFree c i else h.mmaEnd c (h.undef e) := by
  simp [effMmaLastPromotion, hwork, hopc, hph, hspad]

/-- The write-back of an issued MMA goes by whether its destination is staged. -/
theorem effMmaWritebackDone_of_issued (hfin : (mmaF e.raw).fin) :
    effMmaWritebackDone c i h =
      if (h.undef e).res.vw.isEmpty then (h.resultWait noCache (h.undef e).res.segs []).getD (h.mmaEnd c (h.undef e))
      else h.toWriteback c (h.undef e) := by
  simp [effMmaWritebackDone, hwork, hopc, hph, hspad, hfin]

end End

end Sys2Proof.Machine

namespace Sys2Proof.Proofs
open Machine

/-- Settles O12: each command's effect under its conditions, by the lemma of that command. -/
theorem windowCommandsComplete : Obligations.WindowCommandsComplete := by
  refine ⟨fun s c ext bs x a hctx hmay hread hprog hvalid => ⟨fun t ds hds => ?described, fun f hds => ?undescribed⟩,
    fun s c i x e hheld hon htailor hrun hopc hmode heng hph hds hfirst => ?assign, fun s a k htakes => ?issue,
    fun s c i e hwork hopc hph hspad =>
      ⟨fun hfin => ?promoted, fun hfin => ?slab, fun hfin hvw hwait => ?written, fun hfin hvw => ?staged⟩⟩
  case described =>
    exact State.run_eq_to ((effFetchInstruction_of_valid hctx hmay hread hprog hvalid).trans (Hw.describe_of_ok hds))
  case undescribed =>
    exact State.run_eq_to ((effFetchInstruction_of_valid hctx hmay hread hprog hvalid).trans (Hw.describe_of_error hds))
  case assign => exact State.run_eq_to (effAssignContinueMma_of_waiting hheld hon htailor hrun hopc hmode heng hph hds hfirst)
  case issue => exact State.run_eq_to (effMma_of_mmaTakes htakes)
  case promoted =>
    exact State.run_eq_to ((effMmaLastPromotion_of_issued hwork hopc hph hspad).trans (if_neg (by simp [hfin])))
  case slab => exact State.run_eq_to ((effMmaLastPromotion_of_issued hwork hopc hph hspad).trans (if_pos hfin))
  case written =>
    exact State.run_eq_to ((effMmaWritebackDone_of_issued hwork hopc hph hspad hfin).trans (by rw [hvw, hwait]; rfl))
  case staged =>
    exact State.run_eq_to ((effMmaWritebackDone_of_issued hwork hopc hph hspad hfin).trans (if_neg (by simpa using hvw)))

end Sys2Proof.Proofs
end

section
/-!
PROOFS. The vector engines (04_vector_engine.md): issue and end of a vector instruction (R113, R114, R123, R139, R157 to R164, R178, R208).
-/

namespace Sys2Proof.Machine

/-! ### Issue (R113, R114, R178) -/

/-- An instruction whose descriptors fit it starts with its result fixed (R45; log entry 101). -/
theorem Hw.vecStart_of_vecFits {h : Hw} {v c : Nat} {x : Ctx} {e : Ent} (hfits : h.vecFits v x e) : h.vecStart v c x e = h.vecGo v c x e :=
  if_pos hfits

/-- A vector engine starts the candidate of a class that it takes, whichever the class. -/
theorem Hw.vecIssue_of_vecTakes {h : Hw} {v : Nat} {k : Cand} {isClass : Nat → Bool} (htakes : h.vecTakes v k isClass) :
    h.vecIssue v isClass = h.vecGo v k.c k.x k.e := by
  obtain ⟨hon, hbest, hclass, hdesc, hfresh, hres, hslots, hfits⟩ := htakes
  have hstart := Hw.vecStart_of_vecFits (c := k.c) hfits
  simp [Hw.vecIssue, hon, hbest, hclass, hdesc, hfresh, hres, hslots, hstart]

/-- A command that issues on a vector engine starts the candidate of its class that the engine takes. -/
theorem State.run_vecIssue {s : State} {v : Nat} {k : Cand} {isClass : Nat → Bool} (htakes : s.hw.vecTakes v k isClass) :
    s.run (fun h => h.vecIssue v isClass) = s.to (s.hw.vecGo v k.c k.x k.e) :=
  State.run_eq_to (Hw.vecIssue_of_vecTakes htakes)

/-! ### End (R139, R208) -/

section End
variable {h : Hw} {c i : Nat} {e : Ent} (hwork : h.working? c i = some e) (hvec : insIsVec e.raw) (hph : e.ph = .issued)
  (hspad : h.flag F.SPAD_CFG_ENABLE)
include hwork hvec hph hspad

/-- The end of an issued vector instruction goes by whether its destination is staged. -/
theorem effVecInstrComplete_of_issued :
    effVecInstrComplete c i h =
      if (h.undef e).res.vw.isEmpty then (h.resultWait noCache (h.undef e).res.segs []).getD (h.vecEnd c (h.undef e))
      else h.toWriteback c (h.undef e) := by
  simp [effVecInstrComplete, hwork, hvec, hph, hspad]

/-- With no staged destination, and nothing that its writes wait for, it ends. -/
theorem effVecInstrComplete_of_direct (hvw : (h.undef e).res.vw = []) (hwait : h.resultWait noCache (h.undef e).res.segs [] = none) :
    effVecInstrComplete c i h = h.vecEnd c (h.undef e) := by
  rw [effVecInstrComplete_of_issued hwork hvec hph hspad, hvw, hwait]
  rfl

/-- With a staged destination it waits for its write-back. -/
theorem effVecInstrComplete_of_staged (hvw : (h.undef e).res.vw ≠ []) : effVecInstrComplete c i h = h.toWriteback c (h.undef e) := by
  rw [effVecInstrComplete_of_issued hwork hvec hph hspad, if_neg (by simpa using hvw)]

end End

end Sys2Proof.Machine

namespace Sys2Proof.Proofs
open Machine

/-- Settles O13: the ten classes and functions issue by one lemma, and their common end goes by whether a destination is staged. -/
theorem vectorCommandsComplete : Obligations.VectorCommandsComplete := by
  intro s v k
  refine ⟨State.run_vecIssue, State.run_vecIssue, State.run_vecIssue, State.run_vecIssue, State.run_vecIssue, State.run_vecIssue,
    State.run_vecIssue, State.run_vecIssue, State.run_vecIssue, State.run_vecIssue,
    fun c i e hwork hvec hph hspad => ⟨fun hvw hwait => ?direct, fun hvw => ?staged⟩⟩
  case direct => exact State.run_eq_to (effVecInstrComplete_of_direct hwork hvec hph hspad hvw hwait)
  case staged => exact State.run_eq_to (effVecInstrComplete_of_staged hwork hvec hph hspad hvw)

end Sys2Proof.Proofs
end

section
/-!
PROOFS. The Shuttle's choices (05_tile_programs.md): the queue it admits from next (R145), the instruction an engine picks (R178).
-/

namespace Sys2Proof.Machine

/-! ### The least of a list by a fold -/

/-- What a search for a least element among those of a list that satisfy p answers: one that does and has the least key, or none where none does. -/
def LeastOf {α : Type} (key : α → Nat) (p : α → Prop) (l : List α) : Option α → Prop
  | none => ∀ x ∈ l, ¬ p x
  | some k => k ∈ l ∧ p k ∧ ∀ x ∈ l, p x → key k ≤ key x

/-- One more element does not matter where it does not satisfy p. -/
theorem LeastOf.skip {α : Type} {key : α → Nat} {p : α → Prop} {l : List α} {b : Option α} {x : α} (h : LeastOf key p l b) (hx : ¬ p x) :
    LeastOf key p (l ++ [x]) b := by
  cases b with
  | none =>
    intro y hy
    rcases List.mem_append.1 hy with hy | hy
    · exact h y hy
    · rwa [List.mem_singleton.1 hy]
  | some k =>
    obtain ⟨hmem, hk, hleast⟩ := h
    refine ⟨List.mem_append_left _ hmem, hk, fun y hy hpy => ?_⟩
    rcases List.mem_append.1 hy with hy | hy
    · exact hleast y hy hpy
    · exact absurd (List.mem_singleton.1 hy ▸ hpy) hx

/-- One more element that satisfies p keeps the least where its key is no lower. -/
theorem LeastOf.keep {α : Type} {key : α → Nat} {p : α → Prop} {l : List α} {k x : α} (h : LeastOf key p l (some k)) (hkey : key k ≤ key x) :
    LeastOf key p (l ++ [x]) (some k) := by
  obtain ⟨hmem, hk, hleast⟩ := h
  refine ⟨List.mem_append_left _ hmem, hk, fun y hy hpy => ?_⟩
  rcases List.mem_append.1 hy with hy | hy
  · exact hleast y hy hpy
  · rwa [List.mem_singleton.1 hy]

/-- One more element that satisfies p is the least where no key before it is lower. -/
theorem LeastOf.take {α : Type} {key : α → Nat} {p : α → Prop} {l : List α} {b : Option α} {x : α} (h : LeastOf key p l b) (hx : p x)
    (hkey : ∀ k, b = some k → key x ≤ key k) : LeastOf key p (l ++ [x]) (some x) := by
  refine ⟨List.mem_append_right _ (List.mem_singleton.2 rfl), hx, fun y hy hpy => ?_⟩
  rcases List.mem_append.1 hy with hy | hy
  · cases b with
    | none => exact absurd hpy (h y hy)
    | some k => exact Nat.le_trans (hkey k rfl) (h.2.2 y hy hpy)
  · exact Nat.le_of_eq (congrArg key (List.mem_singleton.1 hy).symm)

/-- The first element that satisfies p is the least so far. -/
theorem LeastOf.first {α : Type} {key : α → Nat} {p : α → Prop} {l : List α} {x : α} (h : LeastOf key p l none) (hx : p x) :
    LeastOf key p (l ++ [x]) (some x) :=
  h.take hx nofun

section Fold
variable {α : Type} {key : α → Nat} {p : α → Prop} {step : Option α → α → Option α}
  (hstep : ∀ (l : List α) (b : Option α) (x : α), LeastOf key p l b → LeastOf key p (l ++ [x]) (step b x))
include hstep

/-- A fold whose every step keeps the search's answer goes on from the answer among the elements before it. -/
theorem LeastOf.foldl_from (l : List α) {seen : List α} {b : Option α} (h : LeastOf key p seen b) :
    LeastOf key p (seen ++ l) (l.foldl step b) := by
  induction l generalizing seen b with
  | nil =>
    rw [List.append_nil]
    exact h
  | cons x l ih =>
    rw [List.foldl_cons, List.append_cons]
    exact ih (hstep seen b x h)

/-- A fold whose every step keeps the search's answer ends with it. -/
theorem LeastOf.foldl (l : List α) : LeastOf key p l (l.foldl step none) := by
  have hempty : LeastOf key p [] none := fun x hx => absurd hx List.not_mem_nil
  exact LeastOf.foldl_from hstep l hempty

end Fold

/-! ### The next queue (R145) -/

/-- The queues from any first one on, round the 64, are all of them. -/
theorem mem_rounds {first q : Nat} : q ∈ (List.range 64).map (fun i => (first + i) % 64) ↔ q < 64 := by
  simp only [List.mem_map, List.mem_range]
  constructor
  · rintro ⟨i, -, rfl⟩
    exact Nat.mod_lt _ (by decide)
  · intro hq
    exact ⟨(q + 64 - first % 64) % 64, Nat.mod_lt _ (by decide), by omega⟩

/-- The queue after the last one admitted from, where the round begins (R145). -/
def Hw.firstQueue (h : Hw) : Nat :=
  match h.shut.lastQueue with
  | some l => l + 1
  | none => 0

/-- The next queue is the least by PRIO among those open to admission. -/
theorem Hw.nextQueue_least (h : Hw) :
    LeastOf (fun q => h.get (F.Q_PRIO q)) (fun q => h.canAdmit q = true) ((List.range 64).map (fun i => (h.firstQueue + i) % 64)) h.nextQueue := by
  unfold Hw.nextQueue
  refine LeastOf.foldl (fun l b q hl => ?_) _
  by_cases hq : h.canAdmit q
  · simp only [hq, Bool.not_true, Bool.false_eq_true, if_false]
    cases b with
    | none => exact hl.first hq
    | some x =>
      dsimp only
      split
      case isTrue hlt => exact hl.take hq (by rintro k ⟨⟩; exact Nat.le_of_lt hlt)
      case isFalse hge => exact hl.keep (by omega)
  · simp only [hq, Bool.not_false, if_true]
    exact hl.skip hq

/-! ### The best candidate (R178) -/

/-- Of two candidates the one that goes first has no higher PRIO value. -/
theorem Cand.prio_le_of_better {a b : Cand} (h : a.better b = true) : a.prio ≤ b.prio := by
  by_cases hne : a.prio = b.prio
  · exact Nat.le_of_eq hne
  · rw [Cand.better, if_pos hne] at h
    exact Nat.le_of_lt (of_decide_eq_true h)

theorem Cand.prio_le_of_not_better {a b : Cand} (h : ¬ a.better b = true) : b.prio ≤ a.prio := by
  by_cases hne : a.prio = b.prio
  · exact Nat.le_of_eq hne.symm
  · rw [Cand.better, if_pos hne, decide_eq_true_eq] at h
    omega

/-- The best candidate is the least by PRIO of all. -/
theorem Hw.best_least (h : Hw) (eng : Nat) : LeastOf Cand.prio (fun _ => True) (h.cands eng) (h.best eng) := by
  refine LeastOf.foldl (fun l b x hl => ?_) _
  cases b with
  | none => exact hl.first trivial
  | some y =>
    dsimp only
    split
    case isTrue hb => exact hl.take trivial (by rintro k ⟨⟩; exact Cand.prio_le_of_better hb)
    case isFalse hb => exact hl.keep (Cand.prio_le_of_not_better hb)

end Sys2Proof.Machine

namespace Sys2Proof.Proofs
open Machine

/-- Settles O49: the round's fold keeps the least PRIO of the queues open to admission, and the round meets every queue. -/
theorem nextQueueHasLowestPrio : Obligations.NextQueueHasLowestPrio := by
  intro h
  have hleast := h.nextQueue_least
  refine ⟨fun q hq => ?taken, fun hnone r hr => ?none⟩
  case taken =>
    rw [hq] at hleast
    obtain ⟨hmem, hcan, hprio⟩ := hleast
    exact ⟨mem_rounds.1 hmem, hcan, fun r hr hadm => hprio r (mem_rounds.2 hr) hadm⟩
  case none =>
    rw [hnone] at hleast
    exact Bool.eq_false_iff.2 (hleast r (mem_rounds.2 hr))

/-- Settles O50: the fold over the candidates keeps one of the least PRIO. -/
theorem bestCandidateHasLowestPrio : Obligations.BestCandidateHasLowestPrio := by
  intro h eng
  have hleast := h.best_least eng
  refine ⟨fun k hk => ?picked, fun hnone => ?none⟩
  case picked =>
    rw [hk] at hleast
    obtain ⟨hmem, -, hprio⟩ := hleast
    exact ⟨hmem, fun x hx => hprio x hx trivial⟩
  case none =>
    rw [hnone] at hleast
    exact List.eq_nil_iff_forall_not_mem.2 (fun x hx => hleast x hx trivial)

end Sys2Proof.Proofs
end

section
/-!
PROOFS. Tokens, SIGNAL, WAIT, FENCE, MARK and the absence scan (05_tile_programs.md, 11_training_support.md): R173 to R177, R385, R387; and what a
write of a token leaves unchanged (R175).
-/

namespace Sys2Proof.Machine

/-! ### Two fields of one word -/

/-- A field replaced in a word leaves a field that shares no bit with it. -/
theorem Fld.ofWord_into_disjoint {f g : Fld} (v : Nat) (w : Word64) (hd : g.mask &&& f.mask = 0) : g.ofWord (f.into v w) = g.ofWord w := by
  have hbits : f.into v w &&& g.mask = w &&& g.mask := by
    ext i hi
    have hbit : (g.mask[i] && f.mask[i]) = false := by rw [← BitVec.getElem_and, hd]; exact BitVec.getElem_zero hi
    simp only [Fld.into, BitVec.getElem_and, BitVec.getElem_or, BitVec.getElem_not]
    grind
  rw [Fld.ofWord, Fld.ofWord, hbits]

/-- A write of a field leaves every field of the same word that shares no bit with it. -/
theorem Hw.get_set_disjoint (h : Hw) {f g : Fld} (v : Nat) (hw : g.word = f.word) (hd : g.mask &&& f.mask = 0) : (h.set f v).get g = h.get g := by
  rw [Hw.get, Hw.get, hw, Hw.word_set_same, Fld.ofWord_into_disjoint v _ hd]

/-! ### Token registers (R175) -/

@[simp] theorem F.TOKEN_word (t : Nat) : (F.TOKEN t).word = 0x488000 + t / 2 * 8 := by
  simp only [Fld.word, F.TOKEN]
  omega

@[simp] theorem F.TOKEN_width (t : Nat) : (F.TOKEN t).width = 32 := rfl

@[simp] theorem F.TOKEN_sh (t : Nat) : (F.TOKEN t).sh = t % 2 * 32 := by
  simp only [Fld.sh, F.TOKEN]
  omega

/-- The two tokens of one word share no bit. -/
theorem F.TOKEN_mask_disjoint {k t : Nat} (hw : (F.TOKEN k).word = (F.TOKEN t).word) (hne : k ≠ t) :
    (F.TOKEN k).mask &&& (F.TOKEN t).mask = 0 := by
  rw [F.TOKEN_word, F.TOKEN_word] at hw
  simp only [Fld.mask, F.TOKEN_sh, F.TOKEN_width]
  rcases Nat.mod_two_eq_zero_or_one t with ht | ht
  · rw [ht, show k % 2 = 1 by omega]
    decide
  · rw [ht, show k % 2 = 0 by omega]
    decide

/-- A write of a token reads back. -/
theorem Hw.get_set_token_same (h : Hw) (t v : Nat) : (h.set (F.TOKEN t) v).get (F.TOKEN t) = v % 2 ^ 32 :=
  h.get_set_same _ v (by rw [F.TOKEN_sh, F.TOKEN_width]; omega)

/-- A write of a token leaves every other token, that of the same word too. -/
theorem Hw.get_set_token_ne (h : Hw) {t k : Nat} (v : Nat) (hne : k ≠ t) : (h.set (F.TOKEN t) v).get (F.TOKEN k) = h.get (F.TOKEN k) := by
  by_cases hw : (F.TOKEN k).word = (F.TOKEN t).word
  · exact h.get_set_disjoint v hw (F.TOKEN_mask_disjoint hw hne)
  · exact h.get_set_ne _ _ v hw

theorem effTokenWrite_of_lt {h : Hw} {t : Nat} (v : Nat) (hon : h.domOn domYOKE) (ht : t < 4096) :
    effTokenWrite t v h = h.set (F.TOKEN t) (v % 2 ^ 32) := by
  simp [effTokenWrite, hon, ht]

/-! ### SIGNAL, WAIT, FENCE and MARK (R173, R174, R176, R177, R385) -/

/-- The hardware once a MARK has latched the pair, counted the epoch, told the Tailor and, where enabled, started the absence scan. -/
def Hw.markTaken (h : Hw) (x : Ctx) : Hw :=
  let a := h.markLatchOf x
  let a := (a.set F.SHUTTLE_EPOCH ((a.get F.SHUTTLE_EPOCH + 1) % 2 ^ 64)).tailorMark
  if a.flag F.ABSENT_SCAN_EN then { a with train := { a.train with scan := true } } else a

/-- The hardware once a MARK is handed to Basting under a set identifier. -/
def Hw.markHanded (h : Hw) (c i setid : Nat) : Hw :=
  let b := h.set F.SNAP_PENDING 0
  { b.updEnt c i (fun e => { e with marked := true }) with bast := { b.bast with hands := b.bast.hands ++ [b.hand c i setid] } }

section Sync
variable {h : Hw} {c i : Nat} {x : Ctx} {e : Ent} (hheld : h.holds c i x e) (hready : h.syncReady x e)
include hheld hready

/-- A SIGNAL ends with its token changed, once the classes it waits for are done. -/
theorem effSignal_of_ready (hopc : insOpc e.raw = 0xA) (hdone : classesDone x e (bitsOf e.raw 109 105)) :
    effSignal c i h = (h.set (F.TOKEN (bitsOf e.raw 121 110)) (signalVal e (h.get (F.TOKEN (bitsOf e.raw 121 110))))).finish c e stOK 0 {} := by
  obtain ⟨hctx, hent⟩ := hheld
  simp [effSignal, hctx, hent, hopc, hready, hdone]

/-- A WAIT ends once its condition holds. -/
theorem effWait_of_holds (hopc : insOpc e.raw = 0xB) (hcond : waitHolds e (h.get (F.TOKEN (bitsOf e.raw 121 110)))) :
    effWait c i h = h.finish c e stOK 0 {} := by
  obtain ⟨hctx, hent⟩ := hheld
  simp [effWait, hctx, hent, hopc, hready, hcond]

/-- A WAIT with a time ends with its token's value where its condition has not held. -/
theorem effWaitTimeout_of_not_holds (hopc : insOpc e.raw = 0xB) (htmo : bitsOf e.raw 109 94 ≠ 0)
    (hcond : waitHolds e (h.get (F.TOKEN (bitsOf e.raw 121 110))) = false) :
    effWaitTimeout c i h = h.finish c e stWaitTimeout (h.get (F.TOKEN (bitsOf e.raw 121 110))) {} := by
  obtain ⟨hctx, hent⟩ := hheld
  simp [effWaitTimeout, hctx, hent, hopc, hready, htmo, hcond]

/-- A FENCE ends once the classes it waits for are done and the writes of its SCOPE have gone; with its bit 122 the descriptor cache is dropped. -/
theorem effFence_of_done (hopc : insOpc e.raw = 0xC) (hdone : classesDone x e (bitsOf e.raw 109 105)) (hscope : h.scopeDone (bitsOf e.raw 121 120)) :
    effFence c i h = (if bitOf e.raw 122 then { h with shut := { h.shut with descCache := [] } } else h).finish c e stOK 0 {} := by
  obtain ⟨hctx, hent⟩ := hheld
  simp [effFence, hctx, hent, hopc, hready, hdone, hscope]

/-- A MARK is taken once everything before it is done; it is handed to Basting with SNAP or on a request, and else ends. -/
theorem effMark_of_done (hopc : insOpc e.raw = 0xD) (hfresh : e.marked = false) (hdone : classesDone x e 0x1F) (hscope : h.scopeDone 3) :
    effMark c i h =
      if bitOf e.raw 122 || (h.markTaken x).flag F.SNAP_PENDING then
        (h.markTaken x).markHanded c i
          (if (h.markTaken x).flag F.SNAP_PENDING then (h.markTaken x).get (F.THRESH_VALUE 9) else bitsOf e.raw 121 106)
      else (h.markTaken x).finish c e stOK 0 {} := by
  obtain ⟨hctx, hent⟩ := hheld
  simp only [effMark, hctx, hent, hopc, hready, hfresh, hdone, hscope, decide_true, Bool.not_false, Bool.and_self, if_true]
  rfl

end Sync

end Sys2Proof.Machine

namespace Sys2Proof.Proofs
open Machine

/-- Settles O54: the token's word is the one word written, and its other token shares no bit with it. -/
theorem tokenWriteFrame : Obligations.TokenWriteFrame := by
  intro s t v hon ht
  have heff := effTokenWrite_of_lt v hon ht
  refine ⟨⟨s.pending, (s.hw.set (F.TOKEN t) (v % 2 ^ 32)).stamp (s.hw.freeCtr + 1)⟩, State.run_eq_to heff, ?value, ?tokens, ?words, rfl⟩
  case value => rw [Hw.stamp_get, Hw.get_set_token_same, Nat.mod_mod]
  case tokens => exact fun k _ hne => s.hw.get_set_token_ne _ hne
  case words => exact fun o ho => s.hw.word_set_ne _ _ ho

/-- Settles O16: each command's effect under its conditions, by the lemma of that command. -/
theorem tokenAndMarkCommandsComplete : Obligations.TokenAndMarkCommandsComplete := by
  refine ⟨fun s c i x e hheld hready => ⟨fun hopc hdone hset => ?signalSet, fun hopc hdone hadd => ?signalAdd, fun hopc hcond => ?wait,
    fun hopc htmo hcond => ?waitTimeout, fun hopc hdone hscope => ?fence,
    fun hopc hfresh hdone hscope => ⟨fun hsnap hpend => ?markEnds, fun hsnap => ?markHanded⟩⟩,
    fun s t v hon ht => ?tokenWrite, fun s hscan => ?scan, fun s hon => ?relaxClr⟩
  case signalSet =>
    exact State.run_eq_to ((effSignal_of_ready hheld hready hopc hdone).trans (by rw [signalVal, if_pos hset]))
  case signalAdd =>
    exact State.run_eq_to ((effSignal_of_ready hheld hready hopc hdone).trans (by rw [signalVal, if_neg (by simp [hadd])]))
  case wait => exact State.run_eq_to (effWait_of_holds hheld hready hopc hcond)
  case waitTimeout => exact State.run_eq_to (effWaitTimeout_of_not_holds hheld hready hopc htmo hcond)
  case fence => exact State.run_eq_to (effFence_of_done hheld hready hopc hdone hscope)
  case markEnds =>
    have hnot : ¬ (bitOf e.raw 122 || (s.hw.markTaken x).flag F.SNAP_PENDING) = true := by
      rw [hsnap, show (s.hw.markTaken x).flag F.SNAP_PENDING = false from hpend]
      decide
    exact State.run_eq_to ((effMark_of_done hheld hready hopc hfresh hdone hscope).trans (if_neg hnot))
  case markHanded =>
    exact State.run_eq_to ((effMark_of_done hheld hready hopc hfresh hdone hscope).trans (if_pos (Bool.or_eq_true_iff.2 hsnap)))
  case tokenWrite => exact State.run_eq_to (effTokenWrite_of_lt v hon ht)
  case scan => exact State.run_eq_to (if_pos hscan)
  case relaxClr => exact State.run_eq_to (if_pos hon)

end Sys2Proof.Proofs
end

section
/-!
PROOFS. STAT (05_tile_programs.md): R165, R69, R387.
-/

namespace Sys2Proof.Machine

/-! ### The functions of a STAT (R165) -/

/-- A QUERY writes the record to its tensor. -/
theorem Hw.statRun_query {h t : Hw} {e : Ent} {d : Desc} (hd : statDs e = some d)
    (hw : h.writeStream noCache (d.stream 0 32) (h.tapeBytes (statSlot e)) = .ok t) : h.statRun e 1 = (t, stOK) := by
  simp only [Hw.statRun, hd, hw]

/-- A change of the record that R69 allows is stored. -/
theorem Hw.statSet_of_good (h : Hw) (e : Ent) {bad : Bool} (f : TapeRec → TapeRec) (hgood : bad = false) :
    h.statSet e bad f = (h.tapeSoftWrite (statSlot e) (f (h.tapeRec (statSlot e))).bytes, stOK) := by
  rw [hgood]
  rfl

theorem Hw.statRun_setscale (h : Hw) {e : Ent} (hgood : statImm e % 256 ≠ 0xFF) :
    h.statRun e 2 = (h.tapeSoftWrite (statSlot e) { h.tapeRec (statSlot e) with scaleE := statImm e % 256 }.bytes, stOK) := by
  rw [Hw.statRun, Hw.statSet_of_good h e _ (decide_eq_false hgood)]

theorem Hw.statRun_setctl (h : Hw) {e : Ent} (hgood : bitsOf (statImm e) 3 0 = 2 ∨ bitsOf (statImm e) 3 0 = 3) :
    h.statRun e 3 = (h.tapeSoftWrite (statSlot e)
      { h.tapeRec (statSlot e) with
        watchEn := bitOf (statImm e) 12, margin := bitsOf (statImm e) 11 8
        amaxLen := bitsOf (statImm e) 7 4, scaleFmt := bitsOf (statImm e) 3 0 }.bytes, stOK) := by
  have hbad : (decide (bitsOf (statImm e) 3 0 ≠ 2) && decide (bitsOf (statImm e) 3 0 ≠ 3)) = false := by
    rcases hgood with h2 | h3
    · simp [h2]
    · simp [h3]
  rw [Hw.statRun, Hw.statSet_of_good h e _ hbad]

theorem Hw.statRun_setwatch (h : Hw) {e : Ent} (hgood : bitsOf (statImm e) 31 16 ≠ 0) :
    h.statRun e 4 = (h.tapeSoftWrite (statSlot e)
      { h.tapeRec (statSlot e) with starveN := bitsOf (statImm e) 31 16, ufThresh := bitsOf (statImm e) 15 0 }.bytes, stOK) := by
  rw [Hw.statRun, Hw.statSet_of_good h e _ (decide_eq_false hgood)]

/-- A LOAD of 64 bytes that R69 allows, read without poison, stores them. -/
theorem Hw.statRun_load {h t : Hw} {e : Ent} {d : Desc} {bs : Bytes} (hd : statDs e = some d)
    (hr : h.readStream noCache (d.stream 0 32) [] = .ok (t, bs, false)) (hok : tapeBytesOk bs) :
    h.statRun e 5 = (t.tapeSoftWrite (statSlot e) bs, stOK) := by
  simp only [Hw.statRun, hd, hr, hok, Bool.not_true, Bool.false_eq_true, if_false]

/-! ### A STAT that may run -/

section Do
variable {h t : Hw} {c i sfn st : Nat} {x : Ctx} {e : Ent} (hheld : h.holds c i x e)
  (hfree : (e.reads ++ e.writes).any (fun g => h.objBusy g.1 g.2) = false) (hready : h.statReady x e sfn)
include hheld hfree hready

/-- A STAT whose tensor is reached and in no object that moves clears the slot's mark, does its function and completes. -/
theorem Hw.statDo_of_reached (hwrite : sfn = 1 → h.statAux e .write) (hread : sfn = 5 → h.statAux e .read)
    (hrun : (h.absClear (statSlot e)).statRun e sfn = (t, st)) : h.statDo c i sfn = (t.touch e).finish c e st 0 {} := by
  obtain ⟨hctx, hent⟩ := hheld
  have haux (n : Nat) (acc : Acc) (hacc : sfn = n → h.statAux e acc) : (sfn ≠ n || h.statAux e acc) = true := by
    by_cases hn : sfn = n
    · simp [hacc hn]
    · simp [hn]
  rw [Hw.statDo, hctx, hent]
  simp only [hready, haux 1 .write hwrite, haux 5 .read hread, hfree, Bool.not_false, Bool.and_self, if_true, hrun]

/-- A STAT of a function with no tensor. -/
theorem Hw.statDo_of_noTensor (hsfn : sfn < 5 ∧ sfn ≠ 1) (hrun : (h.absClear (statSlot e)).statRun e sfn = (t, st)) :
    h.statDo c i sfn = (t.touch e).finish c e st 0 {} :=
  Hw.statDo_of_reached hheld hfree hready (fun h1 => absurd h1 hsfn.2) (fun h5 => absurd h5 (Nat.ne_of_lt hsfn.1)) hrun

end Do

end Sys2Proof.Machine

namespace Sys2Proof.Proofs
open Machine

/-- Settles O15: a STAT that may run does its function, case by case of the function. -/
theorem statCommandsComplete : Obligations.StatCommandsComplete := by
  intro s c i x e hheld hfree
  refine ⟨fun hready => ?register, fun d t hready haux hd hw => ?query, fun hready hgood => ?setscale, fun hready hgood => ?setctl,
    fun hready hgood => ?setwatch, fun d t bs hready haux hd hr hok => ?load⟩
  case register => exact State.run_eq_to (Hw.statDo_of_noTensor hheld hfree hready (by decide) rfl)
  case query => exact State.run_eq_to (Hw.statDo_of_reached hheld hfree hready (fun _ => haux) nofun (Hw.statRun_query hd hw))
  case setscale => exact State.run_eq_to (Hw.statDo_of_noTensor hheld hfree hready (by decide) (Hw.statRun_setscale _ hgood))
  case setctl => exact State.run_eq_to (Hw.statDo_of_noTensor hheld hfree hready (by decide) (Hw.statRun_setctl _ hgood))
  case setwatch => exact State.run_eq_to (Hw.statDo_of_noTensor hheld hfree hready (by decide) (Hw.statRun_setwatch _ hgood))
  case load => exact State.run_eq_to (Hw.statDo_of_reached hheld hfree hready nofun (fun _ => haux) (Hw.statRun_load hd hr hok))

end Sys2Proof.Proofs
end

section
/-!
PROOFS. Preemption, save and restore of contexts (05_tile_programs.md, 08_translation_dma_faults.md): R180, R184, R193, R294 to R297.
-/

namespace Sys2Proof.Machine

/-! ### The engine that takes a job (R276; log entry 51) -/

/-- An index taken modulo its length finds an element of a list that has one. -/
theorem exists_mem_getElem?_mod {α : Type} {l : List α} {x : α} (n : Nat) (hx : x ∈ l) : ∃ y ∈ l, l[n % max 1 l.length]? = some y := by
  have hpos : 0 < l.length := List.length_pos_of_mem hx
  have hidx : n % max 1 l.length < l.length := by
    rw [Nat.max_eq_right hpos]
    exact Nat.mod_lt _ hpos
  exact ⟨_, List.getElem_mem hidx, List.getElem?_eq_getElem hidx⟩

/-- Where some engine has room, one that has room takes the job. -/
theorem Hw.seat_of_room {h : Hw} {ds : List Nat} (hroom : ∃ d ∈ ds, (h.activeJobs d).length < 4) :
    ∃ d ∈ ds, (h.activeJobs d).length < 4 ∧ h.seat ds = some d := by
  obtain ⟨d, hd, hlt⟩ := hroom
  have hseats : d ∈ ds.filter (fun d => (h.activeJobs d).length < 4) := List.mem_filter.2 ⟨hd, decide_eq_true hlt⟩
  obtain ⟨k, hk, hget⟩ := exists_mem_getElem?_mod (h.free 50) hseats
  obtain ⟨hmem, hfits⟩ := List.mem_filter.1 hk
  exact ⟨k, hmem, of_decide_eq_true hfits, hget⟩

/-- Of the 32 engines. -/
theorem Hw.seat_of_room_range {h : Hw} (hroom : ∃ d < 32, (h.activeJobs d).length < 4) :
    ∃ d < 32, (h.activeJobs d).length < 4 ∧ h.seat (List.range 32) = some d := by
  simpa only [List.mem_range] using Hw.seat_of_room (ds := List.range 32) (by simpa only [List.mem_range] using hroom)

/-! ### CTX_CTL (R180, R184, R193) -/

section Ctl
variable {h : Hw} {c : Nat} (hon : h.domOn domYOKE) (hc : c < 512)
include hon hc

theorem effCtxPreempt_of_lt : effCtxPreempt c h = (h.set (F.CTX_CTL c) 1).preempt c := by
  simp [effCtxPreempt, hon, hc]

theorem effCtxResume_of_lt : effCtxResume c h = (h.set (F.CTX_CTL c) 2).resume c := by
  simp [effCtxResume, hon, hc]

theorem effCtxCancel_of_lt : effCtxCancel c h = (h.set (F.CTX_CTL c) 3).cancelCtx c := by
  simp [effCtxCancel, hon, hc]

end Ctl

/-! ### Save (R294 to R296) -/

/-- The hardware t of stopped work once the block, the tags and the images of its context y are written to the save area, by engine d. -/
def Hw.ctxWritten (t : Hw) (c d : Nat) (y : Ctx) : Hw :=
  let base := t.saveSlot c
  let a := t.poke base (t.ctxBlock c)
  let a := a.poke (base + 0x100) (((List.range 64).map (tagEntry y)).flatten)
  let a := a.poke (base + 0x500) a.headerRest
  let a := y.chains.foldl (fun h k => h.poke (base + 0x10000 + k.tag * 0x10000) k.image) a
  (a.updCtx c (fun x => { x with io := 1 })).inc (F.DMA_BYTES_WR d) (0x10000 + y.chains.foldl (fun n k => n + k.image.length) 0)

/-- Once the work of a preempting context has stopped, an engine with room takes the save. -/
theorem effContextSave_of_stopped {h t : Hw} {c d : Nat} {x y : Ctx} (hctx : h.ctx? c = some x) (hst : x.st = .preempting) (hio : x.io = 0)
    (hstops : x.window.all (h.stops x)) (hseat : h.seat (List.range 32) = some d) (hstop : h.stopAll c x = some t) (hy : t.ctx? c = some y) :
    effContextSave c h = (t.ctxWritten c d y).jobAdd d
      { slot := 0, kind := 5, ctx := c, index := y.pc, src := (t.ctxWritten c d y).free 53, dst := t.saveSlot c, cursor := 0, parked := false
        doneChunks := [] } := by
  simp only [effContextSave, hctx, hst, hio, hstops, hseat, hstop, hy, beq_self_eq_true, decide_true, Bool.and_self, Bool.not_true,
    Bool.false_eq_true, if_false]
  rfl

/-- The end of the save releases what the context held. -/
theorem effContextSaveDone_of_saving {h : Hw} {c : Nat} {x : Ctx} (hctx : h.ctx? c = some x) (hst : x.st = .preempting) (hio : x.io = 1) :
    effContextSaveDone c h =
      (({ h with xl := { h.xl with
          wins := h.xl.wins.filter (fun w => w.ctx ≠ c)
          jobs := List.map (fun (d : Nat × List Job) => (d.1, d.2.filter (fun j => j.ctx ≠ c || j.kind = 3 || j.kind = 4))) h.xl.jobs } } : Hw).updCtx c
        (fun x => { x with
          st := .preempted, io := 0
          chains := x.chains.map (fun k => { k with array := noArray })
          window := x.window.map (fun e => { e with copies := [] }) })).drained := by
  simp only [effContextSaveDone, hctx, hst, hio, beq_self_eq_true, decide_true, Bool.and_self, if_true]

/-! ### Restore (R296, R297) -/

/-- The hardware once engine d has read the save area of a context back, which answered o: its chains are back on their arrays. -/
def Hw.ctxRestored (o : Hw × List Chain × Bool) (c d : Nat) : Hw :=
  (o.1.updCtx c (fun x => { x with
    io := 3, chains := o.2.1, window := x.window.map (bindChains o.2.1), forced := if o.2.2 then some (stPoisoned, x.pc) else x.forced })).inc
    (F.DMA_BYTES_RD d) (0x10000 + o.2.1.foldl (fun n k => n + k.wide.length * k.width) 0)

/-- A context that asks to be restored, whose chains have arrays, is read back by an engine with room. -/
theorem effContextRestore_of_placed {h : Hw} {c d : Nat} {arrays : List Nat} {x : Ctx} {ks : List Chain} (hctx : h.ctx? c = some x)
    (hst : x.st = .preempted) (hio : x.io = 2) (hplace : h.placeChains x.chains arrays = some ks) (hseat : h.seat (List.range 32) = some d) :
    effContextRestore c arrays h = (Hw.ctxRestored (h.readBack c ks) c d).jobAdd d
      { slot := 0, kind := 6, ctx := c, index := x.pc, src := h.saveSlot c, dst := (Hw.ctxRestored (h.readBack c ks) c d).free 53, cursor := 0
        parked := false, doneChunks := [] } := by
  simp only [effContextRestore, hctx, hst, hio, hplace, hseat, beq_self_eq_true, decide_true, Bool.and_self, Bool.not_true, Bool.false_eq_true,
    if_false]
  rfl

section RestoreDone
variable {h : Hw} {c : Nat} {x : Ctx} (hctx : h.ctx? c = some x) (hst : x.st = .preempted) (hio : x.io = 3)
include hctx hst hio

/-- A context read back without poison runs again, and the answers recorded meanwhile apply. -/
theorem effContextRestoreDone_of_clean (hforced : x.forced = none) :
    effContextRestoreDone c h = x.recorded.foldl (fun h r => h.fltClose r.1 r.2)
      ((h.updCtx c (fun x => { x with st := .running, io := 0, recorded := [] })).takeUp c) := by
  simp only [effContextRestoreDone, hctx, hst, hio, hforced, beq_self_eq_true, decide_true, Bool.and_self, Bool.not_true, Bool.false_eq_true,
    if_false, Option.isSome_none]

/-- A context with a forced end, as after poison, is stopped. -/
theorem effContextRestoreDone_of_forced (hforced : x.forced ≠ none) :
    effContextRestoreDone c h = ((((h.post Ev.evCtxRestorePoison [u16 c]).updCtx c (fun x =>
      { x with io := 0, flags := { x.flags with tagsDropped := true } })).takeUp c).failStop c).tryEnd c := by
  simp only [effContextRestoreDone, hctx, hst, hio, Option.isSome_iff_ne_none.2 hforced, beq_self_eq_true, decide_true, Bool.and_self,
    Bool.not_true, Bool.false_eq_true, if_false, if_true]

end RestoreDone

end Sys2Proof.Machine

namespace Sys2Proof.Proofs
open Machine

/-- Settles O17: each command's effect under its conditions, by the lemma of that command; the engine of a save or restore is the one that
seat answers. -/
theorem contextCommandsComplete : Obligations.ContextCommandsComplete := by
  refine ⟨fun s c hon hc => ⟨?preempt, ?resume, ?cancel⟩, fun s c x y t hctx hst hio hstops hroom hstop hy => ?save,
    fun s c x hctx hst hio => ?saveDone, fun s c arrays x ks hctx hst hio hplace hroom => ?restore,
    fun s c x hctx hst hio => ⟨fun hforced => ?clean, fun hforced => ?forced⟩⟩
  case preempt => exact State.run_eq_to (effCtxPreempt_of_lt hon hc)
  case resume => exact State.run_eq_to (effCtxResume_of_lt hon hc)
  case cancel => exact State.run_eq_to (effCtxCancel_of_lt hon hc)
  case save =>
    obtain ⟨d, hd, hlt, hseat⟩ := Hw.seat_of_room_range hroom
    exact ⟨d, hd, hlt, _, State.run_eq_to (effContextSave_of_stopped hctx hst hio hstops hseat hstop hy)⟩
  case saveDone => exact State.run_eq_to (effContextSaveDone_of_saving hctx hst hio)
  case restore =>
    obtain ⟨d, hd, hlt, hseat⟩ := Hw.seat_of_room_range hroom
    exact ⟨d, hd, hlt, _, State.run_eq_to (effContextRestore_of_placed hctx hst hio hplace hseat)⟩
  case clean => exact State.run_eq_to (effContextRestoreDone_of_clean hctx hst hio hforced)
  case forced => exact State.run_eq_to (effContextRestoreDone_of_forced hctx hst hio hforced)

end Sys2Proof.Proofs
end

section
/-!
PROOFS. Submission and completion queues (05_tile_programs.md): doorbells, admission, held records, start, drain and stop (R145, R185, R187, R188, R560).
-/

namespace Sys2Proof.Machine

/-! ### The words of a queue and of its doorbells -/

section DoorbellWords
variable (h : Hw) {q : Nat} {db : Fld} (v : Nat) (hq : q < 64) (hdb : 0x500000 ≤ db.word)
include hq hdb

/-- A write above the queues' blocks, as of a doorbell register, leaves every field of a block. -/
theorem Hw.get_set_doorbell {k : Nat} (hk : k < 0x40) (hi lo : Nat) :
    (h.set db v).get ⟨0x481000 + q * 0x40 + k, hi, lo⟩ = h.get ⟨0x481000 + q * 0x40 + k, hi, lo⟩ := by
  refine h.get_set_ne _ _ v (Nat.ne_of_lt (Nat.lt_of_lt_of_le ?_ hdb))
  simp only [Fld.word]
  omega

theorem Hw.enable_set_doorbell : (h.set db v).flag (F.Q_ENABLE q) = h.flag (F.Q_ENABLE q) :=
  congrArg (· != 0) (h.get_set_doorbell v hq hdb (k := 0) (by decide) 31 31)

theorem Hw.err_set_doorbell : (h.set db v).get (F.Q_ERR q) = h.get (F.Q_ERR q) :=
  h.get_set_doorbell v hq hdb (by decide) 30 28

theorem Hw.sqSize_set_doorbell : (h.set db v).sqSize q = h.sqSize q :=
  congrArg (2 ^ ·) (h.get_set_doorbell v hq hdb (k := 0) (by decide) 9 5)

theorem Hw.cqSize_set_doorbell : (h.set db v).cqSize q = h.cqSize q :=
  congrArg (2 ^ ·) (h.get_set_doorbell v hq hdb (k := 0) (by decide) 4 0)

end DoorbellWords

theorem F.SQ_TAIL_DB_REG_word (q : Nat) : 0x500000 ≤ (F.SQ_TAIL_DB_REG q).word := by
  simp only [Fld.word, F.SQ_TAIL_DB_REG]
  omega

theorem F.CQ_HEAD_DB_REG_word (q : Nat) : 0x500000 ≤ (F.CQ_HEAD_DB_REG q).word := by
  simp only [Fld.word, F.CQ_HEAD_DB_REG]
  omega

/-! ### Events leave the Shuttle -/

@[simp] theorem Hw.evAppend_shut (h : Hw) (e : EvCode) (time : Nat) (args : Bytes) : (h.evAppend e time args).shut = h.shut := by
  unfold Hw.evAppend
  simp only
  split <;> split <;> rfl

@[simp] theorem Hw.evRecord_shut (h : Hw) (e : EvCode) (time : Nat) (args : Bytes) : (h.evRecord e time args).shut = h.shut := by
  rw [Hw.evRecord]
  split
  · rw [Hw.evAppend_shut, Hw.evAppend_shut]
  · exact h.evAppend_shut e time args

@[simp] theorem Hw.post_shut (h : Hw) (e : EvCode) (args : List Arg) : (h.post e args).shut = h.shut := by
  rw [Hw.post]
  split
  · exact h.evRecord_shut ..
  · rfl

/-- The report of a queue's error leaves what the queues hold. -/
theorem Hw.queueErr_q (h : Hw) (p err q : Nat) : (h.queueErr p err).q q = h.q q := by
  rw [Hw.q, Hw.queueErr, Hw.post_shut, Hw.set_shut, ← Hw.q]

/-! ### Doorbells (R187, R560) -/

/-- A bad doorbell of a queue without an error is its error. -/
theorem Hw.badDoorbell_of_noErr {h : Hw} {q : Nat} (err : Nat) (herr : h.get (F.Q_ERR q) = 0) : h.badDoorbell q err = h.queueErr q err := by
  rw [Hw.badDoorbell, if_neg (by omega)]

theorem Hw.sqTailAct_of_lt {h : Hw} {q v : Nat} (hv : v < h.sqSize q) : h.sqTailAct q v = (h.submitMarks q v).set (F.Q_SQ_TAIL q) v :=
  if_neg (by omega)

theorem Hw.sqTailAct_of_ge {h : Hw} {q v : Nat} (hv : h.sqSize q ≤ v) (herr : h.get (F.Q_ERR q) = 0) : h.sqTailAct q v = h.queueErr q 1 :=
  (if_pos hv).trans (Hw.badDoorbell_of_noErr 1 herr)

/-- A good completion doorbell moves the head; after a ring fault the held records are tried again. -/
theorem Hw.cqHeadAct_of_lt {h : Hw} {q v : Nat} (hv : v < h.cqSize q) :
    h.cqHeadAct q v =
      if (h.q q).stopped then (h.set (F.Q_CQ_HEAD q) v).recDrain (h.q q).held.length q else h.set (F.Q_CQ_HEAD q) v := by
  simp only [Hw.cqHeadAct, if_neg (Nat.not_le_of_lt hv)]
  rfl

theorem Hw.cqHeadAct_of_ge {h : Hw} {q v : Nat} (hv : h.cqSize q ≤ v) (herr : h.get (F.Q_ERR q) = 0) (hgoes : (h.q q).stopped = false) :
    h.cqHeadAct q v = h.queueErr q 2 := by
  have hstill : ¬ ((h.queueErr q 2).q q).stopped = true := by simp [Hw.queueErr_q, hgoes]
  rw [Hw.cqHeadAct, if_pos hv, Hw.badDoorbell_of_noErr 2 herr]
  exact if_neg hstill

section Doorbells
variable {h : Hw} {q : Nat} (hon : h.domOn domYOKE) (hq : q < 64)
include hon hq

/-- A submission doorbell is kept in its register, and acted on or stored (R187). -/
theorem effSqTailDb_of_lt (v : Nat) :
    effSqTailDb q v h =
      if h.flag (F.Q_ENABLE q) then (h.set (F.SQ_TAIL_DB_REG q) (v % 2 ^ 32)).sqTailAct q (v % 2 ^ 32)
      else (h.set (F.SQ_TAIL_DB_REG q) (v % 2 ^ 32)).updQ q (fun k => { k with sqDb := some (v % 2 ^ 32) }) := by
  simp only [effSqTailDb, hon, hq, decide_true, Bool.and_self, Bool.not_true, Bool.false_eq_true, if_false,
    h.enable_set_doorbell _ hq (F.SQ_TAIL_DB_REG_word q)]

/-- A completion doorbell is kept in its register, and acted on or stored (R187). -/
theorem effCqHeadDb_of_lt (v : Nat) :
    effCqHeadDb q v h =
      if h.flag (F.Q_ENABLE q) then (h.set (F.CQ_HEAD_DB_REG q) (v % 2 ^ 32)).cqHeadAct q (v % 2 ^ 32)
      else (h.set (F.CQ_HEAD_DB_REG q) (v % 2 ^ 32)).updQ q (fun k => { k with cqDb := some (v % 2 ^ 32) }) := by
  simp only [effCqHeadDb, hon, hq, decide_true, Bool.and_self, Bool.not_true, Bool.false_eq_true, if_false,
    h.enable_set_doorbell _ hq (F.CQ_HEAD_DB_REG_word q)]

end Doorbells

/-! ### Admission and held records (R145, R185) -/

/-- The hardware once the entry read for a queue has become a context of number c (R145, R377). -/
def Hw.admitted (a : Hw) (q c head : Nat) (bs : Bytes) : Hw :=
  let x := mkCtx q (a.flag (F.Q_VS_EN q)) (if a.flag (F.Q_VS_EN q) then a.get (F.Q_QCLASS q) else 0) a.shut.admitSeq bs
  let x := { x with curAt := (a.q q).curAts.headD a.train.curLog.length }
  let b := { a with shut := { a.shut with
    ctxs := a.shut.ctxs.set c x, admitSeq := a.shut.admitSeq + 1, lastQueue := some q
    descCache := if bitOf (fieldLE bs 0x14 4) 16 then [] else a.shut.descCache } }
  let b := b.updQ q (fun k => { k with curAts := k.curAts.drop 1 })
  ((b.set (F.Q_SQ_HEAD q) ((head + 1) % b.sqSize q)).inc (F.Q_ADMITTED q)).tryEnd c

/-- The entry at the head of the next queue, read without poison, is admitted under the lowest free number. -/
theorem effAdmitEntry_of_next {h a : Hw} {q c : Nat} {ext bs : Bytes} (hnext : h.nextQueue = some q) (hstage : h.stageOff q = false)
    (hread : h.vread noCache .read (h.get (F.Q_SQ_BASE q) + 32 * h.get (F.Q_SQ_HEAD q)) 32 ext = .ok (a, bs, false)) (hfree : a.freeCtxNum = some c) :
    effAdmitEntry q ext h = a.admitted q c (h.get (F.Q_SQ_HEAD q)) bs := by
  simp only [effAdmitEntry, hstage, hnext, hread, hfree, Hw.fuzz_false, Bool.and_false, Bool.false_eq_true, if_false, ne_eq, not_true_eq_false]
  rfl

/-- The first held record is written where the ring has room. -/
theorem Hw.recDrain_one_of_room {h a : Hw} {q : Nat} {r : HeldRec} {rest : List HeldRec} (hheld : (h.q q).held = r :: rest) (hroom : h.cqFull q = false)
    (hwrite : h.recWrite q r = .ok a) :
    h.recDrain 1 q =
      let b := a.updQ q (fun k => { k with held := rest, stopped := false })
      if rest.isEmpty then b.setB (F.Q_CQ_FULL q) false else b := by
  simp only [Hw.recDrain, hheld, hroom, hwrite, Bool.false_eq_true, if_false]

theorem effWriteCompletionRecord_of_room {h : Hw} {q : Nat} (hgoes : (h.q q).stopped = false) (hroom : h.cqFull q = false) :
    effWriteCompletionRecord q h = h.recDrain 1 q :=
  if_neg (by simp [hgoes, hroom])

/-! ### Start, drain and stop (R188) -/

theorem effQueueEnable_of_off {h : Hw} {q : Nat} (w : Nat) (hon : h.domOn domYOKE) (hq : q < 64) (hoff : h.flag (F.Q_ENABLE q) = false) :
    effQueueEnable q w h = (h.queueCfg q w).queueStart q := by
  simp [effQueueEnable, hon, hq, hoff]

theorem effQueueDisable_of_on {h : Hw} {q : Nat} (w : Nat) (hon : h.domOn domYOKE) (hq : q < 64) (hen : h.flag (F.Q_ENABLE q)) :
    effQueueDisable q w h = (h.queueRefused q w).queueStop q := by
  simp [effQueueDisable, hon, hq, hen]

/-- A draining queue with no context in use reads ENABLE 0. -/
theorem Hw.queueDrain_of_empty {h : Hw} {q : Nat} (hdis : (h.q q).disabling) (hnone : h.qCtxs q = 0) :
    h.queueDrain q = (h.set (F.Q_ENABLE q) 0).updQ q (fun k => { k with disabling := false }) :=
  if_pos (by simp [hdis, hnone])

end Sys2Proof.Machine

namespace Sys2Proof.Proofs
open Machine

/-- Settles O11: each command's effect under its conditions, by the lemma of that command; a doorbell's register lies in no word of the queue's block. -/
theorem queueCommandsComplete : Obligations.QueueCommandsComplete := by
  refine ⟨fun s q v hon hq hen => ⟨fun hv => ?sqMoves, fun hv herr => ?sqBad⟩, fun s q v hon hq hoff => ?sqStored,
    fun s q v hon hq hen => ⟨fun hv hgoes => ?cqMoves, fun hv hstopped => ?cqDrains, fun hv hgoes herr => ?cqBad⟩,
    fun s q v hon hq hoff => ?cqStored, fun s q c ext bs a hnext hstage hread hfree => ?admission,
    fun s q r rest a hgoes hroom hheld hwrite => ?record, fun s q w hon hq hoff => ?start, fun s q w hon hq hen => ?stop,
    fun s q hdis hnone => ?drained⟩
  case sqMoves =>
    rw [← s.hw.sqSize_set_doorbell (v % 2 ^ 32) hq (F.SQ_TAIL_DB_REG_word q)] at hv
    exact State.run_eq_to ((effSqTailDb_of_lt hon hq v).trans ((if_pos hen).trans (Hw.sqTailAct_of_lt hv)))
  case sqBad =>
    rw [← s.hw.sqSize_set_doorbell (v % 2 ^ 32) hq (F.SQ_TAIL_DB_REG_word q)] at hv
    rw [← s.hw.err_set_doorbell (v % 2 ^ 32) hq (F.SQ_TAIL_DB_REG_word q)] at herr
    exact State.run_eq_to ((effSqTailDb_of_lt hon hq v).trans ((if_pos hen).trans (Hw.sqTailAct_of_ge hv herr)))
  case sqStored => exact State.run_eq_to ((effSqTailDb_of_lt hon hq v).trans (if_neg (by simp [hoff])))
  case cqMoves =>
    rw [← s.hw.cqSize_set_doorbell (v % 2 ^ 32) hq (F.CQ_HEAD_DB_REG_word q)] at hv
    have hact := (Hw.cqHeadAct_of_lt hv).trans (if_neg (ne_true_of_eq_false hgoes))
    exact State.run_eq_to ((effCqHeadDb_of_lt hon hq v).trans ((if_pos hen).trans hact))
  case cqDrains =>
    rw [← s.hw.cqSize_set_doorbell (v % 2 ^ 32) hq (F.CQ_HEAD_DB_REG_word q)] at hv
    have hact := (Hw.cqHeadAct_of_lt hv).trans (if_pos hstopped)
    exact State.run_eq_to ((effCqHeadDb_of_lt hon hq v).trans ((if_pos hen).trans hact))
  case cqBad =>
    rw [← s.hw.cqSize_set_doorbell (v % 2 ^ 32) hq (F.CQ_HEAD_DB_REG_word q)] at hv
    rw [← s.hw.err_set_doorbell (v % 2 ^ 32) hq (F.CQ_HEAD_DB_REG_word q)] at herr
    exact State.run_eq_to ((effCqHeadDb_of_lt hon hq v).trans ((if_pos hen).trans (Hw.cqHeadAct_of_ge hv herr hgoes)))
  case cqStored => exact State.run_eq_to ((effCqHeadDb_of_lt hon hq v).trans (if_neg (by simp [hoff])))
  case admission => exact State.run_eq_to (effAdmitEntry_of_next hnext hstage hread hfree)
  case record => exact State.run_eq_to ((effWriteCompletionRecord_of_room hgoes hroom).trans (Hw.recDrain_one_of_room hheld hroom hwrite))
  case start => exact State.run_eq_to (effQueueEnable_of_off w hon hq hoff)
  case stop => exact State.run_eq_to (effQueueDisable_of_on w hon hq hen)
  case drained => exact State.run_eq_to (Hw.queueDrain_of_empty hdis hnone)

end Sys2Proof.Proofs
end

section
/-!
PROOFS. The registers of the queues and of faults right after reset (R192, R301).
-/

namespace Sys2Proof.Machine

/-- Right after reset a field reads its part of the Reset column. -/
theorem Hw.off_get (f : Fld) : Hw.off.get f = f.ofWord (BitVec.ofNat 64 (resetWord f.word)) := by
  have hword : Hw.off.word f.word = BitVec.ofNat 64 (resetWord f.word) := BitVec.xor_zero
  rw [Hw.get, hword]

/-- Reset columns of the words of a queue block (R192): word 0 holds PRIO and the ring sizes, the others are 0. -/
theorem resetWord_queue {q j : Nat} (hq : q < 64) (hj : j < 8) :
    resetWord (0x481000 + q * 0x40 + 8 * j) = if j = 0 then 0x70000084 else 0 := by
  unfold resetWord
  rw [if_pos (by simp; omega)]
  split <;> split <;> omega

/-- What a field of word j of a queue block reads right after reset. -/
theorem Hw.off_get_queue {q j : Nat} (hq : q < 64) (hj : j < 8) (hi lo : Nat) :
    Hw.off.get ⟨0x481000 + q * 0x40 + 8 * j, hi, lo⟩ = (⟨0, hi, lo⟩ : Fld).ofWord (BitVec.ofNat 64 (if j = 0 then 0x70000084 else 0)) := by
  have hword : (⟨0x481000 + q * 0x40 + 8 * j, hi, lo⟩ : Fld).word = 0x481000 + q * 0x40 + 8 * j := by
    simp only [Fld.word]
    omega
  have hsh : (⟨0x481000 + q * 0x40 + 8 * j, hi, lo⟩ : Fld).sh = (⟨0, hi, lo⟩ : Fld).sh := by
    simp only [Fld.sh]
    omega
  rw [Hw.off_get, hword, resetWord_queue hq hj, Fld.ofWord, Fld.ofWord, Fld.mask, Fld.mask, hsh]
  rfl

end Sys2Proof.Machine

namespace Sys2Proof.Proofs
open Machine

/-- Settles O39: every field reads its part of the Reset column of its word, as no word has been written. -/
theorem resetState : Obligations.ResetState := by
  refine ⟨rfl, rfl, rfl, fun q hq => ?queues, (Hw.off_get _).trans (by decide), (Hw.off_get _).trans (by decide),
    (Hw.off_get _).trans (by decide), (Hw.off_get _).trans (by decide)⟩
  case queues =>
    have hword (j : Nat) (hj : j < 8) (hi lo : Nat) := Hw.off_get_queue hq hj hi lo
    exact ⟨hword 0 (by decide) 31 31, hword 0 (by decide) 30 28, hword 0 (by decide) 27 27, hword 0 (by decide) 26 24,
      hword 0 (by decide) 23 23, hword 0 (by decide) 19 10, hword 0 (by decide) 9 5, hword 0 (by decide) 4 0,
      hword 3 (by decide) 15 0, hword 3 (by decide) 47 32, hword 4 (by decide) 30 28⟩

end Sys2Proof.Proofs
end

section
/-!
PROOFS. MOVE and its chunks, staging copies, write-back and run-ahead (06_scratchpad_placement.md, 08_translation_dma_faults.md): R207, R208, R276
to R279, R281 to R284, R558.
-/

namespace Sys2Proof.Machine

/-! ### MOVE (R276 to R279) -/

/-- A MOVE whose descriptors fit takes a job of its engine where the engine has room and no object moves under it. -/
theorem effMove_of_room {h : Hw} {d : Nat} {k : Cand} {dst src : Desc} (hd : d < 32) (hon : h.domOn (domPANEL (d / 8)))
    (hbest : h.best (256 + d) = some k) (hok : moveOk k.e) (hroom : h.moveRoom d)
    (hfree : (k.e.reads ++ k.e.writes).any (fun g => h.objBusy g.1 g.2) = false)
    (hdst : descIn k.e.descs (bitsOf k.e.raw 122 107) = some dst) (hsrc : descIn k.e.descs (bitsOf k.e.raw 106 91) = some src) :
    effMove d h = ((h.jobAdd d (moveJob k.c k.e src.addr dst.addr (moveChunk src.fmt))).updEnt k.c k.e.index
      (fun e => { e with ph := .issued })).touch k.e := by
  simp [effMove, hd, hon, hbest, hok, hroom, hfree, hdst, hsrc]

/-- While the scratchpad's ports are on, no access waits for them (R229). -/
theorem Hw.spadOff_of_enabled {h : Hw} (hspad : h.flag F.SPAD_CFG_ENABLE) (cache : Nat) (acc : Acc) (rs : List (Nat × Nat)) :
    h.spadOff cache acc rs = false := by
  rw [Hw.spadOff, hspad]
  rfl

/-- The chunks in flight or done of the other MOVEs of an engine, less those done (R277). -/
def Hw.otherChunks (h : Hw) (d : Nat) (j : Job) : Nat :=
  ((h.activeJobs d).filter (fun y => y.kind = 0 && y.slot ≠ j.slot)).foldl (fun n y => n + y.flying 0) 0

/-- The hardware once chunk k of the MOVE e is counted, its bytes bs being written: the cursor has advanced, and the last chunk completes the
instruction (R278, R279, R285). -/
def Hw.chunkCounted (h : Hw) (d c i k : Nat) (e : Ent) (j : Job) (src : Desc) (bs : Bytes) : Hw :=
  let done := insNat j.doneChunks k
  let cur := min src.count (lowestUndone done * moveChunk src.fmt)
  let b := (h.inc (F.DMA_BYTES_RD d) bs.length).inc (F.DMA_BYTES_WR d) bs.length
  let b := b.updJob d c i (fun j => { j with doneChunks := done, cursor := cur })
  let b := b.updEnt c i (fun e => { e with cursor := cur })
  let b := b.moveConsumed d c i (src.aheadStream cur)
  if done.length = (src.count + moveChunk src.fmt - 1) / moveChunk src.fmt then (b.dropJob d c i).finish c e stOK 0 {} else b

/-- The ranges of a tensor that chunk k of a MOVE from src covers (R277). -/
def Desc.chunkOf (d src : Desc) (k : Nat) : List (Nat × Nat) :=
  d.stream (k * moveChunk src.fmt) (min src.count (k * moveChunk src.fmt + moveChunk src.fmt))

/-- Chunk k of the MOVE e, job j of DMA engine d, is in flight, and its ranges can be reached (R277, R559). -/
structure Hw.ChunkDue (h : Hw) (c i k d : Nat) (e : Ent) (j : Job) (dst src : Desc) : Prop where
  ent : h.ent? c i = some e
  isMove : insOpc e.raw = 6
  issued : e.ph = .issued
  noFault : e.flt = none
  engine : e.engine.getD 256 - 256 = d
  job : (h.jobsOn d).find? (fun j => j.kind = 0 && j.ctx = c && j.index = i && !j.parked) = some j
  dstDesc : descIn e.descs (bitsOf e.raw 122 107) = some dst
  srcDesc : descIn e.descs (bitsOf e.raw 106 91) = some src
  inMove : k < (src.count + moveChunk src.fmt - 1) / moveChunk src.fmt
  undone : j.doneChunks.contains k = false
  inFlight : h.otherChunks d j + j.flying (k + 1) ≤ 16
  notStale : h.staleAct c e = none
  reads : h.canReachAll (8 + d) .read (src.chunkOf src k)
  writes : h.canReachAll (8 + d) .write (dst.chunkOf src k)
  portsOn : h.flag F.SPAD_CFG_ENABLE

/-- A chunk in flight whose source is read without poison and whose destination is written is counted. -/
theorem effDmaChunkDone_of_written {h a t : Hw} {c i k d : Nat} {ext bs : Bytes} {e : Ent} {j : Job} {src dst : Desc}
    (hdue : h.ChunkDue c i k d e j dst src) (hread : h.readStream (8 + d) (src.chunkOf src k) ext = .ok (a, bs, false))
    (hwait : h.resultWait (8 + d) [] (dst.chunkOf src k) = none) (hwrite : a.writeStream (8 + d) (dst.chunkOf src k) bs = .ok t) :
    effDmaChunkDone c i k ext h = t.chunkCounted d c i k e j src bs := by
  obtain ⟨hent, hopc, hph, hflt, rfl, hjob, hdst, hsrc, hlt, hnew, hroom, hfresh, hreads, hwrites, hspad⟩ := hdue
  unfold Desc.chunkOf at hreads hwrites hread hwait hwrite
  rw [Hw.otherChunks] at hroom
  simp only [effDmaChunkDone, hent, hjob, hdst, hsrc, hopc, hph, hflt, hlt, hnew, hroom, hfresh, hreads, hwrites, hread, hwait, hwrite,
    Hw.spadOff_of_enabled hspad, beq_self_eq_true, decide_true, Option.isNone_none, Bool.not_false, Bool.not_true, Bool.and_self, Bool.or_self,
    Bool.false_eq_true, if_false]
  rfl

/-! ### Staging copies (R207, R558) -/

/-- The hardware once the copies of operand o are discarded and run-ahead copies have made room for its region in Panel p (R283, R558). -/
def Hw.roomMade (h : Hw) (c i o p : Nat) (e : Ent) (r : Region) : Hw :=
  let a := h.dropCopies c i (· = o)
  a.makeRoom (a.copiesIn p).length p (a.copyBytes p e r)

/-- Operand o, region r of the instruction e, is to be copied to Panel p: the instruction is its engine's best candidate and is held by the residency
test alone, and no whole copy of the region is there or on its way (R207, R558). -/
structure Hw.CopyDue (h : Hw) (c i o eng p : Nat) (e : Ent) (r : Region) (k : Cand) : Prop where
  ent : h.ent? c i = some e
  engine : e.engine = some eng
  ofPanel : eng < 256
  panel : panelOfEngine eng = p
  region : e.regions.find? (·.o == o) = some r
  best : h.best eng = some k
  bestCtx : k.c = c
  bestIndex : k.e.index = i
  lacking : h.lacksOnlyRegions eng k
  on : h.stagingOn
  uncopied : e.copies.all (fun k => k.opnd ≠ o || k.cut ≠ 0)
  away : h.resident p e r = false
  reached : h.regionOk p r

/-- A demand copy that is due starts on the engine of its Panel that has a job for it, where the reserve and the windows have room. -/
theorem effStagingCopyStart_of_room {h b : Hw} {c i o eng p d : Nat} {e : Ent} {r : Region} {k : Cand} (hdue : h.CopyDue c i o eng p e r k)
    (hb : h.roomMade c i o p e r = b) (hseat : b.seat (dmaOf p) = some d)
    (hbytes : b.stageUsed p + (h.dropCopies c i (· = o)).copyBytes p e r ≤ b.stageSize)
    (hwins : b.winsUsed p + (if r.rd then (b.windowRanges (8 + d) (lens r.ranges)).length else 0) ≤ 256) :
    effStagingCopyStart c i o h = b.copyStart d c p e r false 0 := by
  obtain ⟨hent, heng, hlt, rfl, hreg, hbest, hctx, hidx, hlacks, hon, hnone, haway, hok⟩ := hdue
  subst hb
  unfold Hw.roomMade at hseat hbytes hwins ⊢
  simp only [effStagingCopyStart, hent, heng, hreg, hlt, hbest, hctx, hidx, hlacks, hon, hnone, haway, hok, hseat, Nat.not_lt.2 hbytes,
    Nat.not_lt.2 hwins, decide_true, decide_false, Bool.not_false, Bool.not_true, Bool.and_self, Bool.or_self, Bool.false_eq_true, if_false]

/-- The source that a staging copy still has to read: nothing of a region that is only written, and no more than up to its cut (R207, R283). -/
def Copy.source (k : Copy) (r : Region) : List (Nat × Nat) :=
  if !r.rd then [] else if k.cut = 0 then lens r.ranges else takeStream k.cut (lens r.ranges)

/-- The hardware once DMA engine d has read the source of the copy k of operand o, which is then done and holds the bytes. -/
def Hw.copyRead (h : Hw) (d c i o : Nat) (k : Copy) (r : Region) (ext : Bytes) : Hw :=
  let got := h.gatherHome (8 + d) ((k.source r).map (fun g => (g.1, g.1 + g.2))) ext
  let bytes := (got.2.1.map (·.2)).flatten
  let a := got.1.inc (F.SPAD_STAGE_BYTES k.panel) bytes.length
  let a := (a.inc (F.DMA_BYTES_RD d) bytes.length).inc (F.DMA_BYTES_WR d) bytes.length
  a.updEnt c i (fun e => { e with copies := e.copies.map (fun y => if y.opnd = o then { y with done := true, data := bytes, bad := got.2.2 } else y) })

/-- A staging copy whose window is not stale ends with the bytes of its source; one that runs ahead does so once its instruction is ready. -/
theorem effStagingCopyDone_of_translated {h : Hw} {c i o d : Nat} {ext : Bytes} {x : Ctx} {e : Ent} {r : Region} {k : Copy} (hheld : h.holds c i x e)
    (hreg : e.regions.find? (·.o == o) = some r) (hcopy : e.copies.find? (fun k => k.opnd = o && !k.done) = some k)
    (hjob : h.jobEngine 1 c i (some o) = some d) (hon : h.stagingOn) (hflt : e.flt = none) (hlate : k.ahead = false ∨ h.ready x e)
    (hfresh : h.xl.wins.any (fun w => w.ctx = c && w.index = i && w.opnd = o && w.stale) = false)
    (hxlate : (k.source r).all (fun g => (h.xlateRange (8 + d) .read g.1 g.2).isOk)) :
    effStagingCopyDone c i o ext h = h.copyRead d c i o k r ext := by
  obtain ⟨hctx, hent⟩ := hheld
  have hearly : (k.ahead && !h.ready x e) = false := by
    rcases hlate with hdemand | hready
    · rw [hdemand, Bool.false_and]
    · rw [hready, Bool.not_true, Bool.and_false]
  have hall : (k.source r).any (fun g => !(h.xlateRange (8 + d) .read g.1 g.2).isOk) = false := by
    rw [← List.not_all_eq_any_not, hxlate, Bool.not_true]
  rw [Copy.source] at hall
  simp only [effStagingCopyDone, hctx, hent, hreg, hcopy, hjob, hon, hflt, hfresh, hearly, hall, Option.map_some, Option.getD_some,
    Option.isNone_none, Option.isSome_none, Bool.not_true, Bool.and_self, Bool.false_eq_true, if_false]
  rfl

/-! ### Write-back (R208) -/

/-- Work whose write-back has a job already takes no other. -/
theorem Hw.writebackJob_of_some {h : Hw} {c d : Nat} {e : Ent} (hjob : h.jobEngine 2 c e.index none = some d) : h.writebackJob c e = h := by
  rw [Hw.writebackJob, hjob]
  rfl

/-- The hardware once DMA engine d has written n bytes of a staged destination of the instruction e home: it completes. -/
def Hw.writtenHome (h : Hw) (d c n : Nat) (e : Ent) : Hw :=
  let b := ((h.inc (F.SPAD_STAGE_BYTES (panelOfEngine (e.engine.getD 0))) n).inc (F.DMA_BYTES_RD d) n).inc (F.DMA_BYTES_WR d) n
  if insOpc e.raw = 0 then b.mmaEnd c e else b.vecEnd c e

/-- A staged destination that translates is written home by the engine that has its job. -/
theorem effStagedWriteback_of_job {h a : Hw} {c i d : Nat} {e : Ent} (hwork : h.working? c i = some e) (hph : e.ph = .writeback)
    (hflt : e.flt = none) (hon : h.stagingOn) (hjob : h.jobEngine 2 c e.index none = some d) (hidx : e.index = i)
    (hwait : h.resultWait (8 + d) e.res.segs (e.res.vw.map (fun w => (w.1, w.2.length))) = none) (hwrite : h.writeVirt (8 + d) e.res.vw = .ok a) :
    effStagedWriteback c i h = a.writtenHome d c (e.res.vw.foldl (fun n w => n + w.2.length) 0) e := by
  have hsame := Hw.writebackJob_of_some hjob
  subst hidx
  simp only [effStagedWriteback, hwork, hph, hflt, hon, hsame, hjob, hwait, hwrite, beq_self_eq_true, Option.isNone_none, Bool.and_self,
    Bool.not_true, Bool.false_eq_true, if_false]
  rfl

/-! ### Run-ahead (R281 to R284) -/

/-- Whether an instruction of a running context that is not ready yet may be read ahead for (R281, R559). -/
def Hw.mayReadAhead (h : Hw) (x : Ctx) (e : Ent) : Prop :=
  h.stagingOn ∧ h.flag F.RA_EN ∧ x.st = .running ∧ e.ph = .held ∧ e.flt = none ∧ h.ready x e = false

section Ahead
variable {h : Hw} {c i eng : Nat} {x : Ctx} {e : Ent} (hheld : h.holds c i x e) (hmay : h.mayReadAhead x e) (heng : e.engine = some eng)
include hheld hmay heng

/-- Of an array or vector instruction a source region is copied ahead. -/
theorem effRunAheadStart_of_region {o : Nat} {r : Region} (hopc : insOpc e.raw ≠ 6) (hlt : eng < 256)
    (hreg : e.regions.find? (fun r => r.o = o && r.rd && !r.wr) = some r) :
    effRunAheadStart c i o h = h.copyAhead (panelOfEngine eng) c e r := by
  obtain ⟨hctx, hent⟩ := hheld
  obtain ⟨hon, hra, hrun, hph, hflt, hready⟩ := hmay
  simp only [effRunAheadStart, hctx, hent, hon, hra, hrun, hph, hflt, hready, hopc, heng, hreg, hlt, beq_self_eq_true, Option.isNone_none,
    Bool.not_false, Bool.not_true, Bool.and_self, Bool.false_eq_true, if_false, if_true]

/-- Of a MOVE the source is read ahead. -/
theorem effRunAheadStart_of_move {src : Desc} (hopc : insOpc e.raw = 6) (hsrc : descIn e.descs (bitsOf e.raw 106 91) = some src) :
    effRunAheadStart c i 1 h = h.moveAhead (eng - 256) c e src := by
  obtain ⟨hctx, hent⟩ := hheld
  obtain ⟨hon, hra, hrun, hph, hflt, hready⟩ := hmay
  simp only [effRunAheadStart, hctx, hent, hon, hra, hrun, hph, hflt, hready, hopc, heng, hsrc, beq_self_eq_true, Option.isNone_none,
    Bool.not_false, Bool.not_true, Bool.and_self, Bool.false_eq_true, if_false, if_true]

end Ahead

/-- A region that run-ahead may read to its end is copied as a whole, on the engine that has a job for it, where reserve and windows have room. -/
theorem Hw.copyAhead_of_room {h : Hw} {p c d len : Nat} {e : Ent} {r : Region} (hnone : e.copies.any (fun k => k.opnd = r.o) = false)
    (haway : h.resident p e r = false) (hlen : r.ranges.foldl (fun n g => n + (g.2 - g.1)) 0 = len) (hwhole : h.aheadLen p (lens r.ranges) = len)
    (hpos : 0 < len) (hbytes : h.stageUsed p + h.copyBytes p e r ≤ h.stageSize) (hhalf : h.stageAhead p + h.copyBytes p e r ≤ h.stageSize / 2)
    (hseat : h.seat (dmaOf p) = some d) (hwins : h.winsUsed p + (h.windowRanges (8 + d) (takeStream len (lens r.ranges))).length ≤ 256)
    (hfree : r.ranges.any (fun g => h.objBusy g.1 g.2) = false) :
    h.copyAhead p c e r = (h.copyStart d c p e r true 0).inc (F.RA_BYTES p) len := by
  subst hlen
  simp only [Hw.copyAhead, hnone, haway, hwhole, hseat, hfree, Nat.ne_of_gt hpos, Nat.lt_irrefl, Nat.not_lt.2 hbytes, Nat.not_lt.2 hhalf,
    Nat.not_lt.2 hwins, decide_false, Bool.or_self, Bool.false_eq_true, if_false]

/-- A MOVE whose source run-ahead may read as far as the engine's buffer reaches, and has not read yet, takes the windows of it. -/
theorem Hw.moveAhead_of_room {h : Hw} {d c len : Nat} {e : Ent} {s : Desc} {all : List (Nat × Nat)}
    (hall : takeStream (0x40000 - h.aheadHeld d) (s.aheadStream 0) = all) (hlen : all.foldl (fun n g => n + g.2) 0 = len)
    (hgot : takeStream len all ≠ []) (hwhole : h.aheadLen (8 + d) all = len)
    (hwins : h.winsUsed (d / 8) + (h.windowRanges (8 + d) (takeStream len all)).length ≤ 256)
    (hnone : h.xl.wins.any (fun w => w.ctx = c && w.index = e.index) = false) :
    h.moveAhead d c e s = (h.takeWins (d / 8) c e.index 1 (e.staleMarks.getD 1 0) (h.windowRanges (8 + d) (takeStream len all))).inc
      (F.RA_BYTES (d / 8)) ((takeStream len all).foldl (fun n g => n + g.2) 0) := by
  have hsome : all.isEmpty = false := by
    rw [List.isEmpty_eq_false_iff]
    rintro rfl
    exact hgot (by simp [takeStream])
  subst hlen
  simp only [Hw.moveAhead, hall, hwhole, hnone, hsome, List.isEmpty_eq_false_iff.2 hgot, Nat.lt_irrefl, Nat.not_lt.2 hwins, decide_false,
    Bool.or_self, Bool.false_eq_true, if_false]

end Sys2Proof.Machine

namespace Sys2Proof.Proofs
open Machine

/-- Settles O14: each command's effect under its conditions, by the lemma of that command; the engine of a copy is the one that seat answers. -/
theorem moveAndStagingCommandsComplete : Obligations.MoveAndStagingCommandsComplete := by
  refine ⟨fun s d k dst src hd hon hbest hok hroom hfree hdst hsrc => ?move,
    fun s c i k ext bs e j src dst a t hent hopc hph hflt hjob hdst hsrc hlt hnew hroom hfresh hreads hwrites hspad hread hwait hwrite => ?chunk,
    fun s c i o eng e r k hent heng hreg hlt hbest hctx hidx hlacks hon hnone haway hok hbytes hroom hwins => ?copyStart,
    fun s c i o d ext x e r k hheld hreg hcopy hjob hon hflt hlate hfresh hxlate => ?copyDone,
    fun s c i d e a hwork hph hflt hon hjob hidx hwait hwrite => ?writeback,
    fun s c i o eng x e r hheld hon hra hrun hph hflt hready hopc heng hlt hreg hnone haway hwhole hpos hbytes hhalf hroom hwins hfree => ?copyAhead,
    fun s c i eng x e src hheld hon hra hrun hph hflt hready hopc heng hsrc hgot hwhole hwins hnone => ?moveAhead⟩
  case move => exact State.run_eq_to (effMove_of_room hd hon hbest hok hroom hfree hdst hsrc)
  case chunk =>
    exact State.run_eq_to (effDmaChunkDone_of_written
      ⟨hent, hopc, hph, hflt, rfl, hjob, hdst, hsrc, hlt, hnew, hroom, hfresh, hreads, hwrites, hspad⟩ hread hwait hwrite)
  case copyStart =>
    obtain ⟨d, hd, hjobs, hseat⟩ := Hw.seat_of_room hroom
    exact ⟨d, hd, hjobs, State.run_eq_to (effStagingCopyStart_of_room
      ⟨hent, heng, hlt, rfl, hreg, hbest, hctx, hidx, hlacks, hon, hnone, haway, hok⟩ rfl hseat hbytes (hwins d hd))⟩
  case copyDone => exact State.run_eq_to (effStagingCopyDone_of_translated hheld hreg hcopy hjob hon hflt hlate hfresh hxlate)
  case writeback => exact State.run_eq_to (effStagedWriteback_of_job hwork hph hflt hon hjob hidx hwait hwrite)
  case copyAhead =>
    obtain ⟨d, hd, hjobs, hseat⟩ := Hw.seat_of_room hroom
    have ho : r.o = o := by
      have hr := List.find?_some hreg
      simp only [Bool.and_eq_true, decide_eq_true_eq] at hr
      exact hr.1.1
    have hother : e.copies.any (fun k => k.opnd = r.o) = false := by
      rw [ho]
      simpa using hnone
    exact ⟨d, hd, hjobs, State.run_eq_to ((effRunAheadStart_of_region hheld ⟨hon, hra, hrun, hph, hflt, hready⟩ heng hopc hlt hreg).trans
      (Hw.copyAhead_of_room hother haway rfl hwhole hpos hbytes hhalf hseat (hwins d hd) hfree))⟩
  case moveAhead =>
    exact State.run_eq_to ((effRunAheadStart_of_move hheld ⟨hon, hra, hrun, hph, hflt, hready⟩ heng hopc hsrc).trans
      (Hw.moveAhead_of_room rfl rfl hgot hwhole hwins hnone))

end Sys2Proof.Proofs
end

section
/-!
PROOFS. The Tailor's requests, its moves and the scratchpad scrubber (06_scratchpad_placement.md): R205, R213 to R216, R219 to R224, R228.
-/

namespace Sys2Proof.Machine

/-! ### The ring of requests (R213 to R216) -/

/-- A tail within the ring is taken over and clears TREQ_ERR; its register lies in no word that enables the Tailor or sizes the ring. -/
theorem effTreqTailDb_of_lt {h : Hw} {v : Nat} (hon : h.domOn domYOKE) (hen : h.flag F.TAILOR_CFG_ENABLE) (hlt : v % 65536 < h.treqSize) :
    effTreqTailDb v h = (((h.set F.TREQ_TAIL_DB_REG v).set F.TREQ_TAIL (v % 65536)).set F.TREQ_ERR 0).settle := by
  have hen' : (h.set F.TREQ_TAIL_DB_REG v).flag F.TAILOR_CFG_ENABLE = true := by rw [h.flag_set_ne _ _ v (by decide), hen]
  have hsize : (h.set F.TREQ_TAIL_DB_REG v).treqSize = h.treqSize := by rw [Hw.treqSize, Hw.treqSize, h.get_set_ne _ _ v (by decide)]
  simp only [effTreqTailDb, hon, hen', hsize, Nat.not_le.2 hlt, Bool.not_true, Bool.false_eq_true, if_false]

section Takes
variable {s : State} {a t : Hw} {ext : Bytes} {r : TreqF} {st : Nat} (htakes : s.hw.treqTakes a ext r)
include htakes

/-- A request that the Tailor takes is answered with what its operation gives, or with BAD_REQUEST where it is not well formed. -/
theorem State.run_treq_of_takes {p : Nat → Bool} {f : Hw → TreqF → Hw × Nat} (hp : p r.op)
    (hout : (if r.ok then f a r else (a, trBAD)) = (t, st)) :
    s.run (fun h => h.treq ext p f) = s.treqAnswers t r.obj st := by
  obtain ⟨hon, hfree, herr, hhead, bs, hread, rfl⟩ := htakes
  refine State.run_eq_to ?_
  simp only [Hw.treq, hon, hfree, herr, hhead, hread, hp, hout, ne_eq, not_false_eq_true, decide_true, Option.isNone_none, Bool.and_self,
    Bool.not_true, Bool.false_eq_true, if_false]

/-- A well-formed request on a live object, which takes over its USER_TAG: its operation succeeds, or its object waits for a place. -/
theorem State.run_treq_onLive {n : Nat} {g : Hw → TreqF → Obj → Hw × Nat} {o : Obj} (hop : r.op = n) (hok : r.ok) (hobj : a.obj? r.obj = some o)
    (hout : g (a.updObj r.obj (fun o => { o with userTag := r.tag })) r o = (t, st)) (hdone : st = trOK ∨ st = trPENDING) :
    s.run (fun h => h.treq ext (· == n) (onLive g)) = s.treqAnswers t r.obj st := by
  refine State.run_treq_of_takes htakes (beq_iff_eq.2 hop) ?_
  have hdoneB : (decide (st = trOK) || decide (st = trPENDING)) = true := by simpa using hdone
  simp only [hok, if_true, onLive, hobj, hout, hdoneB]

end Takes

/-! ### The operations (R215, R219, R220) -/

/-- The hardware with the object that a REGISTER makes, not yet placed. -/
def Hw.objMade (h : Hw) (r : TreqF) : Hw :=
  { h with tailor := { h.tailor with objs := h.tailor.objs.set r.obj (newObj r (h.tailor.gens.getD r.obj 0) (h.get F.SHUTTLE_EPOCH)) } }

/-- A REGISTER of a free number and range, of a tier that is present, makes its object and looks for its place. -/
theorem Hw.treqRegister_of_free {h : Hw} {r : TreqF} (hnone : h.obj? r.obj = none)
    (hclear : h.tailor.objs.any (fun x => x.2.va < r.va + r.size && r.va < x.2.va + x.2.size) = false)
    (htier : (List.range 4).any (fun t => r.tierMin ≤ t && t ≤ r.tierMax && h.tierPresent t)) :
    h.treqRegister r =
      (((h.objMade r).place r.obj r.tierMin 0).1.lifeEnds, if ((h.objMade r).place r.obj r.tierMin 0).2 then trOK else trPENDING) := by
  simp only [Hw.treqRegister, hnone, hclear, htier, Option.isSome_none, Bool.not_true, Bool.false_eq_true, if_false]
  rfl

/-- A PIN without an address pins an object where it has its place. -/
theorem Hw.treqPin_of_place {h : Hw} {r : TreqF} {o : Obj} (hpin : r.pin = 0) (hplace : o.hasPlace) :
    h.treqPin r o =
      ((h.updObj r.obj (fun o => { o with pinned := true, reason := 4, chgEpoch := h.get F.SHUTTLE_EPOCH })).recWriteObj r.obj, trOK) := by
  simp only [Hw.treqPin, hpin, hplace, if_true]

/-- A PIN at an aligned address where the range may be pinned moves the objects that have their place there one tier down. -/
theorem Hw.treqPin_of_tier {h : Hw} {r : TreqF} {o : Obj} {t : Nat} (hpin : r.pin ≠ 0) (halign : r.pin % 2 ^ o.alignLog2 = 0)
    (htier : h.pinTier r.obj r.pin o.size = some t) (hmovable : (h.pinVictims r.obj t r.pin o.size).all (fun x => h.objMovable x.2)) :
    h.treqPin r o = (((h.pinVictims r.obj t r.pin o.size).foldl (fun h v => ((h.place v.1 (t + 1) 2).1).inc F.EVICT_CNT) h).givePlace
      r.obj t r.pin 4 true, trOK) := by
  have hall : (h.pinVictims r.obj t r.pin o.size).any (fun x => !h.objMovable x.2) = false := by
    rw [← List.not_all_eq_any_not, hmovable, Bool.not_true]
  simp only [Hw.treqPin, hpin, halign, htier, hall, ne_eq, not_true_eq_false, Bool.false_eq_true, if_false]

/-- A MIGRATE of an object that is not pinned, to tiers of its own of which one is present, places it again (log entry 152). -/
theorem Hw.treqMigrate_of_tier {h : Hw} {r : TreqF} {o : Obj} (hpin : o.pinned = false) (hmax : r.tierMin ≤ o.tierMax)
    (htier : (List.range 4).any (fun t => r.tierMin ≤ t && t ≤ o.tierMax && h.tierPresent t)) {q : Hw × Bool}
    (hq : (h.updObj r.obj (fun o => { o with tierMin := r.tierMin, stackHint := r.hint })).place r.obj r.tierMin 5 = q) :
    h.treqMigrate r o = (q.1, if q.2 then trOK else trPENDING) := by
  simp only [Hw.treqMigrate, hpin, Nat.not_lt.2 hmax, htier, hq, Bool.not_true, Bool.false_eq_true, if_false]

/-- A placing of an object succeeds, or leaves it without a place for now. -/
theorem placed_or_pending (b : Bool) : (if b then trOK else trPENDING) = trOK ∨ (if b then trOK else trPENDING) = trPENDING := by
  cases b
  · exact Or.inr rfl
  · exact Or.inl rfl

/-! ### Moves (R224) -/

/-- The hardware m once object n, which is o, is copied by DMA engine d and mapped at its new place l of tier t; what waited for it is released. -/
def Hw.objMoved (m : Hw) (n d t l reason : Nat) (pin : Bool) (ext : Bytes) (o : Obj) : Hw :=
  let a := (m.copyMove o.tier o.loc t l o.size ext).inc F.MIGRATE_BYTES o.size
  let a := (a.inc (F.DMA_BYTES_RD d) o.size).inc (F.DMA_BYTES_WR d) o.size
  let a := a.unmapRange (pageFuel o.size) o.va o.size
  let a := (a.mapObj { o with tier := t, loc := l }).invalRange o.va o.size
  (a.objChange n (fun o =>
    { o with tier := t, loc := l, st := .placed, move := none, reason := reason, pinned := pin, spilled := o.tierMin < t })).lifeEnds

/-- Neither end of a move that lies in local memory is held by a window or a die-to-die link (R37, R254). -/
theorem Hw.moveWaits_eq_false {m : Hw} {die t l : Nat} {o : Obj} (hfrom : o.tier ≤ 1 → m.localWaits die .read o.loc o.size = false)
    (hto : t ≤ 1 → m.localWaits die .write l o.size = false) :
    (o.tier ≤ 1 && m.localWaits die .read o.loc o.size || t ≤ 1 && m.localWaits die .write l o.size) = false := by
  rw [Bool.or_eq_false_iff, Bool.and_eq_false_imp, Bool.and_eq_false_imp]
  exact ⟨fun h => hfrom (of_decide_eq_true h), fun h => hto (of_decide_eq_true h)⟩

/-- The move of object n, which is o, to place l of tier t by DMA engine d may end: no issued instruction and no capture touches the object, its
target is clear, and nothing holds the copy (R224). -/
structure Hw.MoveDue (m : Hw) (n d t l reason : Nat) (pin : Bool) (o : Obj) : Prop where
  obj : m.obj? n = some o
  engine : m.moveEngine n = some d
  migrating : o.st = .migrating
  move : o.move = some (t, l, reason, pin)
  on : m.xlOn
  unissued : m.objIssued o = false
  uncaptured : m.objCaptured o = false
  clear : m.moveBlocked n o = false
  fromFree : o.tier ≤ 1 → m.localWaits (d / 8) .read o.loc o.size = false
  toFree : t ≤ 1 → m.localWaits (d / 8) .write l o.size = false

/-- A move that may end, once it has its job slot, ends. -/
theorem effObjectMoveDone_of_due {h m : Hw} {n d t l reason : Nat} {pin : Bool} (ext : Bytes) {o : Obj} (hm : h.moveSeat n = m)
    (hdue : m.MoveDue n d t l reason pin o) : effObjectMoveDone n ext h = m.objMoved n d t l reason pin ext o := by
  obtain ⟨hobj, heng, hst, hmove, hon, hissued, hcap, hblock, hfrom, hto⟩ := hdue
  have hwaits := Hw.moveWaits_eq_false hfrom hto
  simp only [effObjectMoveDone, hm, hobj, heng, hst, hmove, hon, hissued, hcap, hblock, hwaits, Bool.not_false, Bool.not_true, Bool.and_self,
    Bool.false_eq_true, if_false]
  rfl

/-! ### The scratchpad scrubber (R205) -/

/-- The scrubber of a Panel that is on and has a period reads its next line. -/
theorem effSpadScrubRead_of_on {h : Hw} {p : Nat} (hp : p < 4) (hon : h.domOn (domPANEL p)) (hper : h.get F.SCRUB_PERIOD ≠ 0) {n : Nat}
    (hn : h.spad.scrub.getD p 0 = n) {a b : Hw} (ha : h.spadCheck (spadBase + p * panelSize + 64 * n) 64 = a)
    (hb : { a with spad := { a.spad with scrub := a.spad.scrub.set p ((n + 1) % panelLines) } } = b) :
    effSpadScrubRead p h = if n + 1 = panelLines then b.inc (F.SPAD_SCRUB_PASSES p) else b := by
  simp only [effSpadScrubRead, hp, hon, hper, hn, ha, hb, ne_eq, not_false_eq_true, decide_true, Bool.and_self, Bool.not_true, Bool.false_eq_true,
    if_false]

end Sys2Proof.Machine

namespace Sys2Proof.Proofs
open Machine

/-- Settles O18: a request that the Tailor takes is answered by one lemma, one on a live object by another; doorbell, move and scrubber by the lemma
of that command. -/
theorem tailorCommandsComplete : Obligations.TailorCommandsComplete := by
  refine ⟨fun s v hon hen hlt => ?doorbell, fun s ext a r htakes hop hok hnone hclear htier => ?register,
    fun s ext a r o htakes hok hobj => ⟨fun hop => ?release, fun hop hpin hplace => ?pinHere, fun t hop hpin halign htier hmovable => ?pinThere,
      fun hop => ?unpin, fun hop hpin hmax htier => ?migrate, fun hop => ?workPin, fun hop => ?workUnpin, fun hop => ?query⟩,
    fun s ext a r htakes hop => ?reserved,
    fun s n d t l reason pin ext o m hm hobj heng hst hmove hon hissued hcap hblock hfrom hto => ?move,
    fun s p hp hon hper => ?scrub⟩
  case doorbell => exact State.run_eq_to (effTreqTailDb_of_lt hon hen hlt)
  case register =>
    exact State.run_treq_of_takes htakes (beq_iff_eq.2 hop) ((if_pos hok).trans (Hw.treqRegister_of_free hnone hclear htier))
  case release => exact State.run_treq_onLive htakes hop hok hobj (by rfl) (Or.inl rfl)
  case pinHere => exact State.run_treq_onLive htakes hop hok hobj (Hw.treqPin_of_place hpin hplace) (Or.inl rfl)
  case pinThere =>
    exact State.run_treq_onLive htakes hop hok hobj (Hw.treqPin_of_tier hpin halign htier hmovable) (Or.inl rfl)
  case unpin => exact State.run_treq_onLive htakes hop hok hobj (by rfl) (Or.inl rfl)
  case migrate =>
    exact State.run_treq_onLive htakes hop hok hobj (Hw.treqMigrate_of_tier hpin hmax htier rfl) (placed_or_pending _)
  case workPin => exact State.run_treq_onLive htakes hop hok hobj (by rfl) (Or.inl rfl)
  case workUnpin => exact State.run_treq_onLive htakes hop hok hobj (by rfl) (Or.inl rfl)
  case query => exact State.run_treq_onLive htakes hop hok hobj (by rfl) (Or.inl rfl)
  case reserved =>
    have hp : (r.op = 0 || 8 < r.op : Bool) = true := by simpa using hop
    exact State.run_treq_of_takes htakes hp (ite_self _)
  case move => exact State.run_eq_to (effObjectMoveDone_of_due ext hm
    ⟨hobj, heng, hst, hmove, hon, hissued, hcap, hblock, hfrom, hto⟩)
  case scrub => exact State.run_eq_to (effSpadScrubRead_of_on hp hon hper rfl rfl rfl)

end Sys2Proof.Proofs
end

section
/-!
PROOFS. The MEM group on mappings (08_translation_dma_faults.md): ranges mapped and unmapped, windows, lent ranges, invalidations, answers to faults
(R271 to R274, R292, R450).
-/

namespace Sys2Proof.Machine

/-! ### A command whose refusals do not apply -/

@[simp] theorem Hw.checked_nil (h : Hw) (k : Hw → Done) : h.checked [] k = k h := rfl

/-- A refusal that does not apply leaves the others to be tried. -/
theorem Hw.checked_cons_of_false {h : Hw} {b : Bool} {c : Nat} {l : List (Bool × Nat)} {k : Hw → Done} (hb : b = false) :
    h.checked ((b, c) :: l) k = h.checked l k := by
  subst hb
  rfl

/-! ### MEM_MAP and MEM_UNMAP (R450) -/

/-- Fields of a MEM_MAP within what R450 allows. -/
structure MapFields (va n addr win tgt fl : Nat) : Prop where
  vaAligned : va % 0x10000 = 0
  sizeAligned : n % 0x10000 = 0
  addrAligned : addr % 0x10000 = 0
  pos : 0 < n
  vaFits : va + n ≤ 2 ^ 52
  addrFits : addr + n ≤ 2 ^ 52
  target : tgt ≤ 2
  flags : fl ≤ 7
  window : win ≤ 4095

/-- The scratchpad of a range to be mapped: none where the target is not local. -/
def mapSpad (tgt addr n : Nat) : Nat × Nat := if tgt = 0 then spadPart addr n else (0, 0)

/-- The hardware t of new page tables once the caches forget the range and its scratchpad is noted as mapped. -/
def Hw.mapped (t : Hw) (va n : Nat) (sp : Nat × Nat) : Hw :=
  let b := t.invalRange va n
  if sp.2 = 0 then b else { b with spad := { b.spad with mapped := b.spad.mapped ++ [sp] } }

/-- A MEM_MAP of a free range to a target that is there writes its leaves. -/
theorem cmdMemMap_of_free {h t : Hw} {va n addr win tgt fl : Nat} (ch : Nat) (hfields : MapFields va n addr win tgt fl)
    (hlocal : tgt = 0 → win = 0 ∧ h.rangeMapped addr n ∧ h.inReserve addr n = false)
    (hspad : h.spadTaken (mapSpad tgt addr n).1 (mapSpad tgt addr n).2 = false) (hobjs : h.objsAt va n = false) (hroot : h.mmuRoot ≠ 0)
    (hpages : h.pagesIn (pageFuel n) va n = [])
    (hmap : h.mapRange (pageFuel n) va addr n (fun pa => mkLeaf tgt win pa (bitOf fl 0) (bitOf fl 1) (bitOf fl 2)) = (t, true)) :
    cmdMemMap h ch [va, n, addr, win, tgt, fl] [] = (t.mapped va n (mapSpad tgt addr n)).ok := by
  obtain ⟨hva, hn, haddr, hpos, hvaFits, haddrFits, htgt, hfl, hwin⟩ := hfields
  have hwin0 : tgt = 0 → win = 0 := fun h0 => (hlocal h0).1
  have hplace : tgt = 0 → h.rangeMapped addr n = true ∧ h.inReserve addr n = false := fun h0 => (hlocal h0).2
  unfold mapSpad at hspad
  rw [cmdMemMap, Hw.checked_cons_of_false, Hw.checked_cons_of_false, Hw.checked_cons_of_false, Hw.checked_nil, hmap]
  · rfl
  · exact decide_eq_false hroot
  · simp [hobjs, hspad, hpages]
  · simp [-Nat.reducePow, hva, hn, haddr, Nat.ne_of_gt hpos, Nat.not_lt.2 hvaFits, Nat.not_lt.2 haddrFits, Nat.not_lt.2 htgt, Nat.not_lt.2 hfl, Nat.not_lt.2 hwin]
    exact ⟨hwin0, hplace⟩

/-- What of the scratchpad stays mapped once the local pages of a list are unmapped. -/
def cutPages (pages : List (Nat × Option Nat × Nat)) (m : List (Nat × Nat)) : List (Nat × Nat) :=
  pages.foldl (fun m g => match g.2.1 with
    | some pa => cutRange m pa g.2.2
    | none => m) m

/-- A MEM_UNMAP of a range with pages of its own, whose ends can be split off, clears their leaves and waits for an invalidation. -/
theorem cmdMemUnmap_of_pages {h t u : Hw} {ch va n : Nat} (hva : va % 0x10000 = 0) (hn : n % 0x10000 = 0) (hpos : 0 < n) (hfits : va + n ≤ 2 ^ 52)
    (hroot : h.mmuRoot ≠ 0) (hpages : (h.pagesIn (pageFuel n) va n).any (fun g => !h.objsAt g.1 g.2.2)) (hobjs : h.objsAt va n = false)
    (hlow : h.splitLeaf va = (t, true)) (hhigh : t.splitLeaf (va + n) = (u, true)) {w : Hw} (hw : u.unmapRange (pageFuel n) va n = w) :
    cmdMemUnmap h ch [va, n] [] =
      (({ w with spad := { w.spad with mapped := cutPages (h.pagesIn (pageFuel n) va n) w.spad.mapped } } : Hw).invalStart
        ⟨va / 0x10000, n / 0x10000, false, some ch⟩, none) := by
  subst hw
  rw [cmdMemUnmap, if_neg hroot, Hw.checked_cons_of_false, Hw.checked_cons_of_false, Hw.checked_cons_of_false, Hw.checked_nil, hlow]
  · simp only [hhigh]
    rfl
  · exact hobjs
  · rw [hpages]
    rfl
  · simp [-Nat.reducePow, hva, hn, Nat.ne_of_gt hpos, Nat.not_lt.2 hfits]

/-! ### Windows and lent ranges (R273, R274, R450) -/

/-- A peer window of size 0 is cleared. -/
theorem cmdMemPeerWindow_zero (h : Hw) (ch chip base : Nat) {w : Nat} (hw : w ≤ 4095) :
    cmdMemPeerWindow h ch [w, chip, base, 0] [] = (((h.set (F.PW_CHIP w) 0).set (F.PW_BASE w) 0).set (F.PW_SIZE w) 0).ok := by
  rw [cmdMemPeerWindow, Hw.checked_cons_of_false, Hw.checked_cons_of_false]
  · rfl
  · rfl
  · simp [Nat.not_lt.2 hw]

/-- A peer window on HBM of a chip that this part reaches is set. -/
theorem cmdMemPeerWindow_of_reached {h : Hw} (ch : Nat) {w chip base n : Nat} (hw : w ≤ 4095) (hn : 0 < n) (hchip : chip ≤ 32767)
    (hfits : base + n ≤ spadBase) (hreach : h.solo = false ∨ h.cabled chip) :
    cmdMemPeerWindow h ch [w, chip, base, n] [] = (((h.set (F.PW_CHIP w) chip).set (F.PW_BASE w) base).set (F.PW_SIZE w) n).ok := by
  rw [cmdMemPeerWindow, Hw.checked_cons_of_false, Hw.checked_cons_of_false, Hw.checked_nil, if_neg (Nat.ne_of_gt hn)]
  · rcases hreach with hsolo | hcabled
    · simp [hsolo]
    · simp [hcabled]
  · simp [Nat.not_lt.2 hw, Nat.not_lt.2 hchip, Nat.not_lt.2 hfits]

/-- A host window of a part that has a host is cleared by size 0, and else set. -/
theorem cmdMemHostWindow_of_host {h : Hw} (ch : Nat) {w base n : Nat} (hw : w ≤ 4095) (hfits : base + n ≤ 2 ^ 64) (hsolo : h.solo = false) :
    cmdMemHostWindow h ch [w, base, n] [] =
      (if n = 0 then (h.set (F.HW_PCIE_BASE w) 0).set (F.HW_SIZE w) 0 else (h.set (F.HW_PCIE_BASE w) base).set (F.HW_SIZE w) n).ok := by
  rw [cmdMemHostWindow, Hw.checked_cons_of_false, Hw.checked_cons_of_false, Hw.checked_nil]
  · exact hsolo
  · simp [-Nat.reducePow, Nat.not_lt.2 hw, Nat.not_lt.2 hfits]

/-- A lent range of size 0 is taken back. -/
theorem cmdMemLend_zero (h : Hw) (ch chip base : Nat) {i wr : Nat} (hi : i ≤ 255) (hwr : wr ≤ 1) :
    cmdMemLend h ch [i, chip, wr, base, 0] [] =
      ((((h.set (F.LEND_WR i) 0).set (F.LEND_CHIP i) 0).set (F.LEND_BASE i) 0).set (F.LEND_SIZE i) 0).ok := by
  rw [cmdMemLend, Hw.checked_cons_of_false, Hw.checked_cons_of_false]
  · rfl
  · rfl
  · simp [Nat.not_lt.2 hi, Nat.not_lt.2 hwr]

/-- A range that meets no Lining lent to a guest is lent. -/
theorem cmdMemLend_of_clear {h : Hw} (ch : Nat) {i chip wr base n : Nat} (hi : i ≤ 255) (hwr : wr ≤ 1) (hn : 0 < n) (hchip : chip ≤ 32767)
    (hfits : base + n ≤ spadBase + 4 * panelSize)
    (hclear : h.flag F.GUEST_VALID = false ∨ ∀ k < 16, base + n ≤ k * stackSize ∨ k * stackSize + h.liningExt ≤ base) :
    cmdMemLend h ch [i, chip, wr, base, n] [] =
      ((((h.set (F.LEND_WR i) wr).set (F.LEND_CHIP i) chip).set (F.LEND_BASE i) base).set (F.LEND_SIZE i) n).ok := by
  have hlining : (h.flag F.GUEST_VALID && (List.range 16).any (fun s => base < s * stackSize + h.liningExt && s * stackSize < base + n)) = false := by
    rcases hclear with hguest | hdisjoint
    · rw [hguest, Bool.false_and]
    · rw [Bool.and_eq_false_imp]
      intro _
      simp only [List.any_eq_false, List.mem_range, Bool.and_eq_true, decide_eq_true_eq]
      intro k hk hmeet
      have hk := hdisjoint k hk
      omega
  rw [cmdMemLend, Hw.checked_cons_of_false, Hw.checked_cons_of_false, Hw.checked_nil, if_neg (Nat.ne_of_gt hn)]
  · rw [hlining, Bool.and_false]
  · simp [Nat.not_lt.2 hi, Nat.not_lt.2 hwr, Nat.not_lt.2 hchip, Nat.not_lt.2 hfits]

/-! ### Invalidations and answers to faults (R271, R292) -/

/-- A MEM_INVAL of a page number of 36 bits starts its invalidation. -/
theorem cmdMemInval_of_lt (h : Hw) (ch n : Nat) {page : Nat} (hpage : page < 2 ^ 36) :
    cmdMemInval h ch [page, n] [] = (h.invalStart ⟨page, n, n = 0xFFFFFFFF, some ch⟩, none) := by
  rw [cmdMemInval, Hw.checked_cons_of_false]
  · rfl
  · exact decide_eq_false (Nat.not_le.2 hpage)

/-- A MEM_FAULT_RESP with RETRY or CANCEL answers the fault and tells the result. -/
theorem cmdMemFaultResp_of_action (h : Hw) (ch id : Nat) {act : Nat} (hact : act = 1 ∨ act = 2) :
    cmdMemFaultResp h ch [id, act] [] = (h.respond id (act = 1)).1.okWith [u8 (h.respond id (act = 1)).2] := by
  rw [cmdMemFaultResp, Hw.checked_cons_of_false]
  · rfl
  · rcases hact with rfl | rfl
    · rfl
    · rfl

end Sys2Proof.Machine

namespace Sys2Proof.Proofs
open Machine

/-- Settles O7: a request that is executed does what its command does (roino_answers, roino_owes), and no refusal of the command applies. -/
theorem mappingCommandsComplete : Obligations.MappingCommandsComplete := by
  refine ⟨fun s ch seq va n addr win tgt fl p t htakes hva hn haddr hpos hvaFits haddrFits htgt hfl hwin hlocal hspad hobjs hroot hpages hmap => ?map,
    fun s ch seq va n p t u htakes hva hn hpos hfits hroot hpages hobjs hlow hhigh => ?unmap,
    fun s ch seq w chip base n p htakes hw => ⟨?peerClear, fun hn hchip hfits hreach => ?peerSet⟩,
    fun s ch seq w base n p htakes hw hfits hsolo => ⟨fun hn => ?hostClear, fun hn => ?hostSet⟩,
    fun s ch seq i chip wr base n p htakes hi hwr => ⟨?lendClear, fun hn hchip hfits hclear => ?lendSet⟩,
    fun s ch seq page n p htakes hpage => ?inval, fun s ch seq id act p htakes hact => ?faultResp⟩
  case map =>
    exact roino_answers htakes rfl rfl
      (cmdMemMap_of_free ch ⟨hva, hn, haddr, hpos, hvaFits, haddrFits, htgt, hfl, hwin⟩ hlocal hspad hobjs hroot hpages hmap)
  case unmap => exact roino_owes htakes rfl rfl (cmdMemUnmap_of_pages hva hn hpos hfits hroot hpages hobjs hlow hhigh rfl)
  case peerClear =>
    rintro rfl
    exact roino_answers htakes rfl rfl (cmdMemPeerWindow_zero _ ch chip base hw)
  case peerSet => exact roino_answers htakes rfl rfl (cmdMemPeerWindow_of_reached ch hw hn hchip hfits hreach)
  case hostClear =>
    exact roino_answers htakes rfl rfl ((cmdMemHostWindow_of_host ch hw hfits hsolo).trans (congrArg Hw.ok (if_pos hn)))
  case hostSet =>
    exact roino_answers htakes rfl rfl ((cmdMemHostWindow_of_host ch hw hfits hsolo).trans (congrArg Hw.ok (if_neg (Nat.ne_of_gt hn))))
  case lendClear =>
    rintro rfl
    exact roino_answers htakes rfl rfl (cmdMemLend_zero _ ch chip base hi hwr)
  case lendSet => exact roino_answers htakes rfl rfl (cmdMemLend_of_clear ch hi hwr hn hchip hfits hclear)
  case inval => exact roino_owes htakes rfl rfl (cmdMemInval_of_lt _ ch n hpage)
  case faultResp => exact roino_answers htakes rfl rfl (cmdMemFaultResp_of_action _ ch id hact)

end Sys2Proof.Proofs
end

section
/-!
PROOFS. Address translation (08_translation_dma_faults.md): walks, translation and page requests to the host, invalidations (R269 to R275, R287,
R301, R522, R540).
-/

namespace Sys2Proof.Machine

/-! ### Walks (R269, R270, R274) -/

/-- The hardware once a unit's walk is counted and its leaf is cached. -/
def Hw.walked (h : Hw) (u : FltUnit) (va : Nat) : Hw := (h.countWalk u).noteLeaf (h.unitCache u) va

section Walk
variable {h : Hw} {u : FltUnit} {va : Nat} {acc : Acc} {nra : Bool} (hacc : h.unitAccess u va acc) (hahead : u.isAhead = false)
include hacc hahead

/-- A walk that ends at a target other than the host caches its leaf. -/
theorem effPageWalkDone_of_not_host {t : Target} (hx : h.unitXlate u va acc = .ok t nra) (ht : ∀ win off, t ≠ .host win off) :
    effPageWalkDone u va acc h = h.walked u va := by
  simp only [effPageWalkDone, hacc, hx, hahead, Bool.not_true, Bool.false_eq_true, if_false]
  cases t with
  | host win off => exact absurd rfl (ht win off)
  | loc a => rfl
  | peer win off => rfl

/-- A walk that ends at a host address which the ATC lacks, and which its unit has not asked for yet, asks the host. -/
theorem effPageWalkDone_of_host {win off : Nat} (hx : h.unitXlate u va acc = .ok (.host win off) nra) (hats : (h.walked u va).xl.atsOn)
    (hatc : (h.walked u va).atcHas acc ((h.walked u va).hostAddr win off) = false)
    (hnew : (h.walked u va).xl.ats.any (fun r => r.unit == u && r.va = va) = false) :
    effPageWalkDone u va acc h = (h.walked u va).atsAsk ⟨(h.walked u va).hostAddr win off, u, va, acc, 0⟩ := by
  unfold Hw.walked at hats hatc hnew
  simp only [effPageWalkDone, hacc, hx, hahead, hats, hatc, hnew, Bool.not_true, Bool.not_false, Bool.and_self, Bool.false_eq_true, if_false, if_true]
  rfl

end Walk

/-! ### Answers of the host's translation agent (R274) -/

/-- The hardware once the agent's translation of an address is kept in the ATC, where it gives one. -/
def Hw.atsKept (h : Hw) (addr size trans : Nat) (rd wr : Bool) : Hw :=
  if size = 0 || !(rd || wr) then h else h.atcPut ⟨addr / size * size, size, trans, rd, wr⟩

/-- Whether a translation grants the access of a request. -/
def AtsReq.granted (r : AtsReq) (size : Nat) (rd wr : Bool) : Prop := size ≠ 0 ∧ (if r.acc = .write then wr else rd)

section Completion
variable {h a : Hw} {addr size trans : Nat} {rd wr : Bool} {r : AtsReq}
  (hreq : h.xl.ats.find? (fun r => r.addr = addr && (r.stage = 0 || r.stage = 2)) = some r) (ha : h.atsKept addr size trans rd wr = a)
include hreq ha

/-- A translation that grants the access ends the request. -/
theorem effAtsCompletion_of_granted (hgrant : r.granted size rd wr) :
    effAtsCompletion addr size trans rd wr h = ({ a with xl := { a.xl with ats := a.xl.ats.erase r } } : Hw).atsGo r.unit := by
  have hmay : (decide (size ≠ 0) && (if r.acc = .write then wr else rd)) = true := by
    rw [Bool.and_eq_true, decide_eq_true_eq]
    exact hgrant
  subst ha
  simp only [effAtsCompletion, hreq, hmay, if_true]
  rfl

/-- One that does not leads to a fault after a page request, and else to a page request where the host has them enabled. -/
theorem effAtsCompletion_of_not_granted (hdeny : ¬ r.granted size rd wr) :
    effAtsCompletion addr size trans rd wr h =
      if r.stage = 2 then a.atsFault r .hostPerm 0
      else if a.xl.priOn then
        ({ a with xl := { a.xl with ats := a.xl.ats.map (fun x => if x = r then { r with stage := 3 } else x) } } : Hw).priSend
      else a.atsFault r .hostNopage (a.free 61) := by
  have hmay : (decide (size ≠ 0) && (if r.acc = .write then wr else rd)) = false := by
    rw [Bool.eq_false_iff, ne_eq, Bool.and_eq_true, decide_eq_true_eq]
    exact hdeny
  subst ha
  simp only [effAtsCompletion, hreq, hmay, Bool.false_eq_true, if_false]
  rfl

end Completion

section Response
variable {h : Hw} {addr : Nat} {r : AtsReq} (hreq : h.xl.ats.find? (fun r => r.addr / 4096 = addr / 4096 && r.stage = 1) = some r)
include hreq

/-- After Success the translation is asked for once more. -/
theorem effPriResponse_success :
    effPriResponse addr 0 h = (({ h with xl := { h.xl with ats := h.xl.ats.erase r } } : Hw).atsAsk { r with stage := 2 }).priSend := by
  simp only [effPriResponse, hreq, if_true]

/-- After Invalid Request the access faults. -/
theorem effPriResponse_invalidRequest : effPriResponse addr 1 h = ((h.inc F.PRI_FAILS).atsFault r .hostNopage 1).priSend := by
  simp only [effPriResponse, hreq]
  rfl

end Response

theorem effPriReenable_of_on {h : Hw} (hon : h.domOn domYOKE) (hsolo : h.solo = false) :
    effPriReenable h = { h with xl := { h.xl with priOn := true } } := by
  simp [effPriReenable, hon, hsolo]

/-! ### Invalidations (R271, R275) -/

/-- A request of the host to invalidate removes what it meets from the ATC, and is answered. -/
theorem effAtsInvalidateRequest_of_on {h : Hw} (addr size : Nat) (hon : h.domOn domYOKE) (hats : h.xl.atsOn) :
    effAtsInvalidateRequest addr size h =
      ((({ h with xl := { h.xl with atc := h.xl.atc.filter (fun t => t.page + t.size ≤ addr || addr + size ≤ t.page) } } : Hw).inc
        F.ATS_INVALS).send (.ats 2 addr)) := by
  simp only [effAtsInvalidateRequest, hon, hats, Bool.and_self, Bool.not_true, Bool.false_eq_true, if_false]

/-- A write of XLATE_INVAL that nothing holds starts an invalidation. -/
theorem effXlateInval_of_idle {h : Hw} {path : Path} (w : Nat) (hon : h.domOn domYOKE) (hpath : h.pathHeld path = false) (hidle : h.invalRuns = false) :
    effXlateInval path w h = (h.setWord 0x600038 (BitVec.ofNat 64 w &&& 0x800FFFFFFFFF0000#64)).xlateInval := by
  simp only [effXlateInval, hon, hpath, hidle, Bool.or_self, Bool.not_true, Bool.false_eq_true, if_false]

/-- The hardware once the oldest invalidation x is done, with these left: no cache holds an entry of its range. -/
def Hw.invalidated (h : Hw) (x : Inval) (rest : List Inval) : Hw :=
  (({ h with xl := { h.xl with inval := rest } } : Hw).invalRange x.range.1 (x.range.2 - x.range.1)).set F.INVAL_BUSY (!rest.isEmpty).toNat

section Done
variable {h : Hw} {x : Inval} {rest : List Inval} (hfirst : h.xl.inval = x :: rest) (hready : h.invalWaits x.range = false)
include hfirst hready

/-- The oldest invalidation ends once nothing at work has translated in its range; of XLATE_INVAL, no command waits for it. -/
theorem effInvalidationDone_of_register (hchan : x.chan = none) : effInvalidationDone h = (h.invalidated x rest).heldGo.served := by
  simp only [effInvalidationDone, hfirst, hready, hchan, Bool.false_eq_true, if_false]
  rfl

/-- Of a command, that command is acknowledged. -/
theorem effInvalidationDone_of_command {c : Nat} (hchan : x.chan = some c) (hbusy : (h.invalidated x rest).mbBusy c) :
    effInvalidationDone h = ((h.invalidated x rest).mbFinish c ⟨rcOK, [], 0⟩).heldGo.served := by
  unfold Hw.invalidated at hbusy
  simp only [effInvalidationDone, hfirst, hready, hchan, hbusy, Bool.false_eq_true, if_false, if_true]
  rfl

end Done

end Sys2Proof.Machine

namespace Sys2Proof.Proofs
open Machine

/-- Settles O21: each command's effect under its conditions, by the lemma of that command. -/
theorem translationCommandsComplete : Obligations.TranslationCommandsComplete := by
  refine ⟨fun s u va nra acc t hacc hx hahead => ⟨fun ht => ?walk, fun win off ht hats hatc hnew => ?walkHost⟩,
    fun s addr size trans rd wr r hreq => ⟨fun hgrant => ?granted, fun hdeny hstage => ?denied, fun hdeny hstage hpri => ?pageRequest⟩,
    fun s addr r hreq => ⟨?success, ?invalidRequest⟩, fun s hon hsolo => ?reenable, fun s addr size hon hats => ?hostInval,
    fun s path w hon hpath hidle => ?register, fun s x rest hfirst hready => ⟨fun hchan => ?registerDone, fun c hchan hbusy => ?commandDone⟩⟩
  case walk => exact State.run_eq_to (effPageWalkDone_of_not_host hacc hahead hx ht)
  case walkHost =>
    subst ht
    exact State.run_eq_to (effPageWalkDone_of_host hacc hahead hx hats hatc hnew)
  case granted => exact State.run_eq_to (effAtsCompletion_of_granted hreq rfl hgrant)
  case denied => exact State.run_eq_to ((effAtsCompletion_of_not_granted hreq rfl hdeny).trans (if_pos hstage))
  case pageRequest =>
    exact State.run_eq_to ((effAtsCompletion_of_not_granted hreq rfl hdeny).trans ((if_neg hstage).trans (if_pos hpri)))
  case success => exact State.run_eq_to (effPriResponse_success hreq)
  case invalidRequest => exact State.run_eq_to (effPriResponse_invalidRequest hreq)
  case reenable => exact State.run_eq_to (effPriReenable_of_on hon hsolo)
  case hostInval => exact State.run_eq_to (effAtsInvalidateRequest_of_on addr size hon hats)
  case register => exact State.run_eq_to (effXlateInval_of_idle w hon hpath hidle)
  case registerDone => exact State.run_eq_to (effInvalidationDone_of_register hfirst hready hchan)
  case commandDone => exact State.run_eq_to (effInvalidationDone_of_command hfirst hready hchan hbusy)

end Sys2Proof.Proofs
end

section
/-!
PROOFS. Collectives (10_topology_collectives.md): issue, steps, completion, time-out (R299, R357 to R364).
-/

namespace Sys2Proof.Machine

/-! ### Issue (R357, R358) -/

/-- A lead engine starts the collective that it takes. -/
theorem Hw.collIssue_of_collTakes {h : Hw} {eng cfn : Nat} {k : Cand} {x : Axis} (htakes : h.collTakes eng cfn k x) :
    h.collIssue eng cfn = h.collGo eng cfn k x := by
  obtain ⟨heng, hon, hbest, hcfn, haxis, hok, htopo, hroom, hfree, hslots⟩ := htakes
  have hholds : (x.size ≠ 1 && h.topoHolds) = false := by
    rcases htopo with hone | ⟨hgo, -⟩
    · simp [hone]
    · simp [hgo]
  have hreach : (x.size ≠ 1 && (h.collMissing (collAxis k.e.raw) x).isSome) = false := by
    rcases htopo with hone | ⟨-, hall⟩
    · simp [hone]
    · simp [hall]
  simp only [Hw.collIssue, heng, hon, hbest, hcfn, haxis, hok, hholds, hreach, hfree, hslots, Nat.not_le.2 hroom, decide_true, decide_false,
    ne_eq, not_true_eq_false, Bool.and_self, Bool.or_self, Bool.not_true, Bool.false_eq_true, if_false]

/-- A command that issues on a lead engine starts the collective that the engine takes. -/
theorem State.run_collIssue {s : State} {eng cfn : Nat} {k : Cand} {x : Axis} (htakes : s.hw.collTakes eng cfn k x) :
    s.run (fun h => h.collIssue eng cfn) = s.to (s.hw.collGo eng cfn k x) :=
  State.run_eq_to (Hw.collIssue_of_collTakes htakes)

/-! ### Steps (R362) -/

/-- The hardware once a step of the collective k of instruction i is counted. -/
def Hw.collStepped (h : Hw) (c i : Nat) (k : Coll) : Hw :=
  let a := h.updEnt c i (fun e => { e with part := k.step + 1, cursor := 0 })
  { a with topo := { a.topo with colls := a.topo.colls.map (fun (y : Coll) => if y.ctx = c && y.index = i then { y with step := y.step + 1 } else y) } }

/-- A step that ends starts the next; with HALVING the links move to the ports of the next step, after the last go home. -/
theorem effCollStepDone_of_working {h : Hw} {c i : Nat} {k : Coll} {e : Ent} {x : Axis} (hworks : h.collWorks c i = some (k, e))
    (hstep : k.step < k.steps) (hflt : e.flt = none) (haxis : (h.collStepped c i k).axis? k.paxis = some x) :
    effCollStepDone c i h =
      if x.algo = 1 then
        (h.collStepped c i k).rethreadAxis k.paxis (if k.step + 1 < k.steps then some (halvingStep x k.cfn (k.step + 1)) else none)
      else h.collStepped c i k := by
  unfold Hw.collStepped at haxis
  simp only [effCollStepDone, hworks, haxis, hflt, Nat.not_le.2 hstep, decide_false, Option.isSome_none, Bool.or_self, Bool.false_eq_true, if_false]
  rfl

/-! ### Completion (R360, R361, R362, R364) -/

/-- The position of this part on the axis of a collective. -/
def Hw.collMe (h : Hw) (k : Coll) (ax : Axis) : Nat := if ax.size = 1 then 0 else h.myPos k.paxis

/-- The collective k of instruction e of context c, on axis ax, has done its steps, and its tensors d and src can be read and written (R289, R362);
this part's own elements are part of the result (R357). -/
structure Hw.CollDue (h : Hw) (c i : Nat) (k : Coll) (e : Ent) (x : Ctx) (ax : Axis) (d src : Desc) : Prop where
  works : h.collWorks c i = some (k, e)
  ctx : h.ctx? c = some x
  axis : h.axis? k.paxis = some ax
  dstDesc : descIn e.descs (collD e.raw) = some d
  srcDesc : descIn e.descs (collS e.raw) = some src
  stepsDone : k.steps ≤ k.step
  noFault : e.flt = none
  portsOn : h.flag F.SPAD_CFG_ENABLE
  linksHome : k.steps = 0 ∨ ax.algo ≠ 1 ∨ (h.axisLinks k.paxis).all (fun l => (h.lk l).rethread.isNone)
  uses : k.cfn ≠ 4 ∨ h.collMe k ax = collRoot e.raw ∨ ax.size = 1
  reads : h.canReachAll k.lead .read (src.stream 0 src.count)

/-- The hardware t in which a collective's result is written, once its statistics, bytes sent and links are counted and it has completed. -/
def Hw.collEnded (t : Hw) (c : Nat) (k : Coll) (e : Ent) (ax : Axis) (me : Nat) (src : Desc) (stat : Option TapeStat) : Hw :=
  let b := match stat with
    | some n => t.tapeComplete c n
    | none => t
  let b := if k.steps = 0 then b else (b.countTx k.paxis (collSends ax k.cfn me (collRoot e.raw) src.streamLen)).straggle k
  (((b.collGone k).inc (F.SEAM_COLLS k.lead)).finish c e stOK 0 {}).topoDrained

/-- A collective of no steps, or without HALVING, waits for no link to move; nor does one whose links are all home. -/
theorem Hw.collLinks_not_moving {h : Hw} {k : Coll} {ax : Axis}
    (hhome : k.steps = 0 ∨ ax.algo ≠ 1 ∨ (h.axisLinks k.paxis).all (fun l => (h.lk l).rethread.isNone)) :
    (k.steps ≠ 0 && ax.algo = 1 && (h.axisLinks k.paxis).any (fun l => (h.lk l).rethread.isSome)) = false := by
  rcases hhome with hsteps | halgo | hall
  · simp [hsteps]
  · simp [halgo]
  · have hnone : (h.axisLinks k.paxis).any (fun l => (h.lk l).rethread.isSome) = false := by simpa using hall
    rw [hnone, Bool.and_false]

/-- A collective whose steps are done, whose sources are whole and read without poison and whose result is written, completes. -/
theorem effCollComplete_of_written {h a t : Hw} {c i : Nat} {peers : List Bytes} {k : Coll} {e : Ent} {x : Ctx} {ax : Axis} {d src : Desc} {own : Bytes}
    {data : List Bytes} {ws : List (Nat × Bytes)} {stat : Option TapeStat} (hdue : h.CollDue c i k e x ax d src) (hpeers : peers.length = ax.size)
    (hread : h.readStream k.lead (src.stream 0 src.count) (peers.getD (h.collMe k ax) []) = .ok (a, own, false))
    (hdata : peers.set (h.collMe k ax) own = data)
    (hwhole : (List.range ax.size).all (fun p => (k.cfn = 4 && p ≠ collRoot e.raw) || (data.getD p []).length = src.streamLen))
    (hresult : a.collResult k ax x e d src data = (ws, stat))
    (hreach : h.canReachAll k.lead .write (ws.map (fun w => (w.1, w.2.length))))
    (hwait : h.resultWait k.lead [] (ws.map (fun w => (w.1, w.2.length))) = none) (hwrite : a.writePieces k.lead ws = .ok t) :
    effCollComplete c i peers h = t.collEnded c k e ax (h.collMe k ax) src stat := by
  obtain ⟨hworks, hctx, haxis, hdst, hsrc, hsteps, hflt, hspad, hlinks, huses, hreads⟩ := hdue
  have husesB : (decide (k.cfn ≠ 4) || decide (h.collMe k ax = collRoot e.raw) || decide (ax.size = 1)) = true := by
    simpa [or_assoc] using huses
  have hlinksB := Hw.collLinks_not_moving hlinks
  have hwholeB : (List.range ax.size).any (fun p =>
      (k.cfn ≠ 4 || p = collRoot e.raw) && (data.getD p []).length ≠ src.streamLen) = false := by
    simp only [List.any_eq_false, List.all_eq_true] at hwhole ⊢
    intro p hp hshort
    have hlen := hwhole p hp
    simp only [Bool.or_eq_true, Bool.and_eq_true, decide_eq_true_eq] at hlen hshort
    obtain ⟨hneeded, hne⟩ := hshort
    rcases hlen with ⟨hbroadcast, hother⟩ | hlen
    · exact hneeded.elim (fun hcfn => hcfn hbroadcast) hother
    · exact hne hlen
  subst hdata
  unfold Hw.collMe at *
  simp only [effCollComplete, hworks, hctx, haxis, hdst, hsrc, husesB, hpeers, hflt, hreads, hlinksB, hread, hwholeB, hresult, hreach, hwait, hwrite,
    Hw.spadOff_of_enabled hspad, Nat.not_lt.2 hsteps, decide_false, ne_eq, not_true_eq_false, Option.isSome_none, Bool.or_self, Bool.not_true,
    Bool.false_eq_true, if_false, if_true]
  rfl

/-! ### Time-out (R299, R363) -/

/-- A collective that waits too long for the data of a step fails with the position of the missing peer. -/
theorem effCollTimeout_of_waiting {h : Hw} {c i : Nat} {k : Coll} {e : Ent} (pos : Nat) (hworks : h.collWorks c i = some (k, e))
    (hstep : k.step < k.steps) : effCollTimeout c i pos h = h.collFail k crTimeout pos := by
  simp only [effCollTimeout, hworks, hstep, if_true]

end Sys2Proof.Machine

namespace Sys2Proof.Proofs
open Machine

/-- Settles O28: the five functions issue by one lemma; step, completion and time-out by the lemma of that command. -/
theorem collectiveCommandsComplete : Obligations.CollectiveCommandsComplete := by
  refine ⟨fun s eng k x => ⟨State.run_collIssue, State.run_collIssue, State.run_collIssue, State.run_collIssue, State.run_collIssue⟩,
    fun s c i k e x hworks hstep hflt haxis => ⟨fun halgo => ?step, fun halgo => ?halving⟩,
    fun s c i peers k e x ax d src hworks hctx haxis hdst hsrc hsteps hpeers hflt hspad hlinks huses hreads a t own hread hwhole hreach hwait hwrite =>
      ?complete,
    fun s c i pos k e hworks hstep => ?timeout⟩
  case step => exact State.run_eq_to ((effCollStepDone_of_working hworks hstep hflt haxis).trans (if_neg halgo))
  case halving => exact State.run_eq_to ((effCollStepDone_of_working hworks hstep hflt haxis).trans (if_pos halgo))
  case complete =>
    exact State.run_eq_to (effCollComplete_of_written ⟨hworks, hctx, haxis, hdst, hsrc, hsteps, hflt, hspad, hlinks, huses, hreads⟩ hpeers hread rfl
      hwhole rfl hreach hwait hwrite)
  case timeout => exact State.run_eq_to (effCollTimeout_of_waiting pos hworks hstep)

end Sys2Proof.Proofs
end

section
/-!
PROOFS. The bytes of a frame (09_optical_links.md): what a receiver reads from what a sender wrote (R310, R312).
-/

namespace Sys2Proof.Machine

/-! ### Strings of 8-byte words -/

@[simp] theorem length_flatten_natLE (ws : List Nat) : ((ws.map (natLE 8)).flatten).length = 8 * ws.length := by
  induction ws with
  | nil => rfl
  | cons w ws ih => simp only [List.map_cons, List.flatten_cons, List.length_append, List.length_cons, length_natLE, ih]; omega

/-- A word of a string of words is read where it was written. -/
theorem fieldLE_flatten_natLE {ws : List Nat} (r : Bytes) {i : Nat} (hi : i < ws.length) :
    fieldLE ((ws.map (natLE 8)).flatten ++ r) (8 * i) 8 = ws[i] % 2 ^ 64 := by
  induction ws generalizing i with
  | nil => exact absurd hi (Nat.not_lt_zero i)
  | cons w ws ih =>
    rw [List.map_cons, List.flatten_cons, List.append_assoc]
    cases i with
    | zero =>
      rw [fieldLE_append_left (by simp), fieldLE, Nat.mul_zero, List.drop_zero, List.take_of_length_le (by simp), leNat_natLE]
      rfl
    | succ i =>
      rw [fieldLE_append_right (by simp only [length_natLE]; omega), length_natLE, Nat.mul_succ, Nat.add_sub_cancel, ih (Nat.lt_of_succ_lt_succ hi)]
      rfl

/-! ### The frame (R310) -/

/-- The fields of a frame fit the widths that R310 gives them; it carries its 592 bytes and has not been sent before. -/
structure Frm.Fits (f : Frm) : Prop where
  ftype : f.ftype < 16
  vl : f.vl < 16
  len : f.len < 65536
  lseq : f.lseq < 2 ^ 32
  ack : f.ack < 2 ^ 32
  crVl : f.crVl < 16
  crCnt : f.crCnt < 65536
  dst : f.dst < 65536
  src : f.src < 65536
  tag : f.tag < 2 ^ 32
  addr : f.addr < 2 ^ 64
  aux : f.aux < 2 ^ 64
  data : f.data.length = 592
  tries : f.tries = 0

/-- The five words of a frame's header. -/
def Frm.header (f : Frm) : List Nat :=
  [f.ftype * 2 ^ 60 + f.vl * 2 ^ 56 + f.last.toNat * 2 ^ 55 + f.poison.toNat * 2 ^ 54 + f.len * 2 ^ 32 + f.lseq,
    f.ack * 2 ^ 32 + f.nak.toNat * 2 ^ 31 + f.crVl * 2 ^ 16 + f.crCnt, f.dst * 2 ^ 48 + f.src * 2 ^ 32 + f.tag, f.addr, f.aux]

theorem padTo_of_length {n : Nat} {b : Bytes} (h : b.length = n) : padTo n b = b := by
  rw [padTo, h, Nat.sub_self, List.replicate_zero, List.append_nil, ← h, List.take_length]

/-- The bytes under the CRC are the header's words and the data. -/
theorem Frm.body_eq {f : Frm} (hdata : f.data.length = 592) : f.body = (f.header.map (natLE 8)).flatten ++ f.data := by
  simp only [Frm.body, Frm.header, padTo_of_length hdata, List.map_cons, List.map_nil, List.flatten_cons, List.flatten_nil, List.append_nil,
    List.append_assoc]

theorem Frm.length_body {f : Frm} (hdata : f.data.length = 592) : f.body.length = 632 := by
  rw [Frm.body_eq hdata, List.length_append, length_flatten_natLE, hdata]
  rfl

/-- A header word of a frame's bytes. -/
theorem Frm.fieldLE_bytes {f : Frm} (hdata : f.data.length = 592) {i : Nat} (hi : i < 5) :
    fieldLE f.bytes (8 * i) 8 = f.header[i]'hi % 2 ^ 64 := by
  rw [Frm.bytes, Frm.body_eq hdata, List.append_assoc]
  exact fieldLE_flatten_natLE _ hi

/-- The data behind the header. -/
theorem Frm.data_bytes {f : Frm} (hdata : f.data.length = 592) : (f.bytes.drop 0x28).take 592 = f.data := by
  have hheader : ((f.header.map (natLE 8)).flatten).length = 0x28 := length_flatten_natLE _
  rw [Frm.bytes, Frm.body_eq hdata, List.append_assoc, List.drop_left' hheader, List.take_left' hdata]

/-- A field of one bit is read as the flag that was written. -/
theorem bitOf_eq {v n : Nat} {b : Bool} (h : v / 2 ^ n % 2 = b.toNat) : bitOf v n = b := by
  rw [bitOf, h]
  cases b <;> rfl

/-- Each field of a frame is read from its bits of the header's words: none overlaps another, none is cut. -/
theorem Frm.frmOf_bytes {f : Frm} (hf : f.Fits) : frmOf f.bytes = f := by
  obtain ⟨hftype, hvl, hlen, hlseq, hack, hcrVl, hcrCnt, hdst, hsrc, htag, haddr, haux, hdata, htries⟩ := hf
  have hword (i : Nat) (hi : i < 5) := Frm.fieldLE_bytes hdata hi
  have hlast := f.last.toNat_lt
  have hpoison := f.poison.toNat_lt
  have hnak := f.nak.toNat_lt
  obtain ⟨ftype, vl, last, poison, len, lseq, ack, nak, crVl, crCnt, dst, src, tag, addr, aux, data, tries⟩ := f
  simp only [frmOf, hword 0 (by decide), hword 1 (by decide), hword 2 (by decide), hword 3 (by decide), hword 4 (by decide), Frm.data_bytes hdata,
    Frm.header, List.getElem_cons_zero, List.getElem_cons_succ, bitsOf, Frm.mk.injEq]
  refine ⟨?_, ?_, bitOf_eq ?_, bitOf_eq ?_, ?_, ?_, ?_, bitOf_eq ?_, ?_, ?_, ?_, ?_, ?_, ?_, ?_, trivial, htries.symm⟩
  all_goals
    dsimp only at *
    omega

end Sys2Proof.Machine

namespace Sys2Proof.Proofs
open Machine

/-- Settles O43: the header is read back word by word, and field by field within a word; the CRC of any 632 bytes matches. -/
theorem frameRoundTrip : Obligations.FrameRoundTrip := by
  intro f hftype hvl hlen hlseq hack hcrVl hcrCnt hdst hsrc htag haddr haux hdata htries
  have hfits : f.Fits := ⟨hftype, hvl, hlen, hlseq, hack, hcrVl, hcrCnt, hdst, hsrc, htag, haddr, haux, hdata, htries⟩
  have hbody := Frm.length_body hdata
  refine ⟨(crc_of_body f.body hbody).1, ?_⟩
  calc parseFrm f.bytes = some (frmOf f.bytes) := parseFrm_of_body f.body hbody
    _ = some f := by rw [Frm.frmOf_bytes hfits]

end Sys2Proof.Proofs
end

section
/-!
PROOFS. The life of a link (09_optical_links.md): bring-up, loss and retraining, the Eyelet's failure, re-threading (R317 to R319, R328,
R331, R334, R339).
-/

namespace Sys2Proof.Machine

/-! ### What the larger commands leave -/

/-- A lane that fails the check of step 5 leaves service with an event; one that passes is in service. -/
def Hw.laneVerify (h : Hw) (l lanes w : Nat) : Hw :=
  if h.lanePasses l w lanes then h.laneSvc l w true else (h.laneSvc l w false).post Ev.evLaneFail [u8 l, u8 w]

/-- The hardware once the margins that were measured are stored and the four lanes are checked with them. -/
def Hw.verified (h : Hw) (l lanes rx tx : Nat) : Hw :=
  (List.range 4).foldl (fun h w => h.laneVerify l lanes w) ((h.set (F.RX_MARGIN l) rx).set (F.TX_MARGIN l) tx)

theorem Hw.ite_lanePasses_eq_laneVerify (h : Hw) (l lanes w : Nat) :
    (if h.lanePasses l w lanes then h.laneSvc l w (h.lanePasses l w lanes)
      else (h.laneSvc l w (h.lanePasses l w lanes)).post Ev.evLaneFail [u8 l, u8 w]) = h.laneVerify l lanes w := by
  cases hok : h.lanePasses l w lanes <;> simp only [Hw.laneVerify, hok, Bool.false_eq_true, if_true, if_false]

/-- The hardware once a link holds the port that its re-thread moved to. -/
def Hw.steered (h : Hw) (l port : Nat) : Hw :=
  (h.updLk l (fun k => { k with rethread := some (port, 2), lastPort := some port })).set (F.LNK_CUR_PORT l) port

/-- The hardware once a link that moved is UP again, in a new block and a new sequence, and waits for the marker. -/
def Hw.reacquired (h : Hw) (l port : Nat) : Hw :=
  (h.updLk l (fun k => { k with rethread := some (port, 3), nextTx := 0, rxNext := 0, discarding := false, credits := k.vlFree, owed := [],
                                blockCnt := (k.blockCnt + 1) % 2 ^ 35 })).setLk l lsUP

section Link
variable {h : Hw} {l : Nat} (hl : l < 64)
include hl

/-! ### LINK_EN (R334) -/

theorem effLinkEnWrite_rise (hon : h.domOn domYOKE) (hoff : h.flag (F.LINK_EN l) = false) :
    effLinkEnWrite l true h = (h.set (F.LINK_EN l) 1).linkStart l := by
  simp only [effLinkEnWrite, Nat.not_le.2 hl, hon, hoff, decide_false, Bool.not_true, Bool.or_self, Bool.false_eq_true, if_false, if_true]

theorem effLinkEnWrite_fall (hon : h.domOn domYOKE) (hen : h.flag (F.LINK_EN l)) :
    effLinkEnWrite l false h = (h.set (F.LINK_EN l) 0).linkOff l := by
  simp only [effLinkEnWrite, Nat.not_le.2 hl, hon, hen, decide_false, Bool.not_true, Bool.or_self, Bool.true_eq_false, Bool.false_eq_true, if_false]

/-! ### Bring-up (R318), and the same steps within RETRAIN (R319) -/

theorem effLasersLocked_of_tuning (hst : h.lkState l = lsTUNING) :
    effLasersLocked l h = (((h.linkLasers l 1).updLk l (fun k => { k with noLight := false })).setLk l lsWAITLIGHT).sendCtrl l 0 0 0 0 := by
  simp only [effLasersLocked, hl, hst, decide_true, Bool.and_self, if_true]

theorem effLightDetected_of_waitLight (hst : h.lkState l = lsWAITLIGHT) : effLightDetected l h = h.setLk l lsACQUIRE := by
  simp only [effLightDetected, hl, hst, decide_true, Bool.and_self, if_true]

theorem effNoLightTimeout_of_unposted (hst : h.lkState l = lsWAITLIGHT) (hnew : (h.lk l).noLight = false) :
    effNoLightTimeout l h = (h.updLk l (fun k => { k with noLight := true })).post Ev.evLinkNoLight [u8 l] := by
  simp only [effNoLightTimeout, hl, hst, hnew, decide_true, Bool.not_false, Bool.and_self, if_true]

theorem effAcquireDone_of_acquire (hst : h.lkState l = lsACQUIRE) : effAcquireDone l h = h.setLk l lsALIGN := by
  rw [effAcquireDone, if_neg (Nat.not_le.2 hl), if_pos hst]

theorem effAcquireDone_of_retrain (hst : h.lkState l = lsRETRAIN) (hstep : (h.lk l).rtStep = 0) :
    effAcquireDone l h = h.updLk l (fun k => { k with rtStep := 1 }) := by
  rw [effAcquireDone, if_neg (Nat.not_le.2 hl), if_neg (by rw [hst]; decide), if_pos (by simp only [hst, hstep, decide_true, Bool.and_self])]

theorem effAlignDone_of_align (hst : h.lkState l = lsALIGN) : effAlignDone l h = h.setLk l lsVERIFY := by
  rw [effAlignDone, if_neg (Nat.not_le.2 hl), if_pos hst]

theorem effAlignDone_of_retrain (hst : h.lkState l = lsRETRAIN) (hstep : (h.lk l).rtStep = 1) :
    effAlignDone l h = h.updLk l (fun k => { k with rtStep := 2 }) := by
  rw [effAlignDone, if_neg (Nat.not_le.2 hl), if_neg (by rw [hst]; decide), if_pos (by simp only [hst, hstep, decide_true, Bool.and_self])]

/-- With no lane left a link that brings up acquires again; else it enters IDENTIFY. -/
theorem effVerifyDone_of_verify (lanes rx tx : Nat) (hst : h.lkState l = lsVERIFY) :
    effVerifyDone l lanes rx tx h =
      if (h.verified l lanes rx tx).get (F.LNK_WIDTH l) = 0 then (h.verified l lanes rx tx).setLk l lsACQUIRE
      else (h.verified l lanes rx tx).identStart l := by
  have hretrain : ¬ lsVERIFY = lsRETRAIN := by decide
  simp only [effVerifyDone, hst, hretrain, Nat.not_le.2 hl, Hw.ite_lanePasses_eq_laneVerify, decide_true, decide_false, Bool.false_and, Bool.or_false,
    Bool.not_true, Bool.or_self, Bool.false_eq_true, if_false]
  rfl

/-! ### Loss (R317, R319) -/

theorem effMarkerLockLoss_of_up (hup : h.lkUp l) : effMarkerLockLoss l h = h.linkDown l := by
  simp only [effMarkerLockLoss, hl, hup, decide_true, Bool.and_self, if_true]

theorem effRetrainTimeout_of_retrain (hst : h.lkState l = lsRETRAIN) :
    effRetrainTimeout l h = ((h.pathSet l (h.get (F.LNK_CUR_PORT l)) false).post Ev.evLinkFail [u8 l]).linkFail l := by
  simp only [effRetrainTimeout, hl, hst, decide_true, Bool.and_self, if_true]

/-! ### LINK_CMD: a retrain (R334) -/

theorem Hw.opRetrain_of_failed (hst : h.lkState l = lsFAILED) : Hw.opRetrain l h = h.linkStart l := by
  rw [Hw.opRetrain, if_neg (Nat.not_le.2 hl), if_pos hst]

theorem Hw.opRetrain_of_lit (hst : h.lkState l = lsUP ∨ h.lkState l = lsHELD ∨ h.lkState l = lsRETHREAD) : Hw.opRetrain l h = h.linkDown l := by
  have hlit : h.lkState l ≠ lsFAILED := by
    rcases hst with hst | hst | hst
    all_goals
      rw [hst]
      decide
  rw [Hw.opRetrain, if_neg (Nat.not_le.2 hl), if_neg hlit, if_pos (by simpa only [Bool.or_eq_true, decide_eq_true_eq, or_assoc] using hst)]

/-! ### Re-threading (R328, R339) -/

/-- A re-thread of an UP link to a port that no link of the Eyelet holds is asked for. -/
theorem Hw.opRethread_of_free {port : Nat} (hsolo : h.solo = false) (hport : port < 12) (hmove : h.get (F.LNK_CUR_PORT l) ≠ port)
    (hfree : h.portTaken l port = false) (hup : h.lkUp l) (hnone : (h.lk l).rethread = none) : Hw.opRethread l port h = h.rethreadReq l port := by
  simp only [Hw.opRethread, Nat.not_le.2 hl, hsolo, Nat.not_le.2 hport, hmove, hfree, hup, hnone, decide_false, Option.isSome_none, Bool.not_true,
    Bool.or_self, Bool.false_eq_true, if_false]

theorem effRethreadStart_of_acked {port : Nat} (hreq : (h.lk l).rethread = some (port, 0)) (hup : h.lkUp l) (hempty : (h.lk l).retry = []) :
    effRethreadStart l h = ((h.updLk l (fun k => { k with rethread := some (port, 1) })).inc (F.RETHREADS l)).setLk l lsRETHREAD := by
  simp only [effRethreadStart, hreq, hl, hup, hempty, List.isEmpty_nil, decide_true, Bool.and_self, if_true]

theorem effSteeringMoveDone_of_moving {port : Nat} (hmoving : (h.lk l).rethread = some (port, 1)) :
    effSteeringMoveDone l h =
      if ((h.steered l port).get (F.PATH_TRAINED (l / 8))).testBit port then h.steered l port
      else (h.steered l port).inc (F.RETHREAD_SLOW (l / 8)) := by
  simp only [effSteeringMoveDone, hmoving, hl, if_true]
  rfl

section Reacquired
variable {port : Nat} (hre : (h.lk l).rethread = some (port, 2))
include hre

/-- A move of discovery leads to IDENTIFY. -/
theorem effReacquireDone_of_toIdent (hident : (h.lk l).toIdent) : effReacquireDone l h = h.identStart l := by
  simp only [effReacquireDone, hre, hident, Nat.not_le.2 hl, if_true, if_false]

theorem effReacquireDone_of_move (hmove : (h.lk l).toIdent = false) :
    effReacquireDone l h = (h.reacquired l port).pump ((h.reacquired l port).lk l).queue.length l := by
  simp only [effReacquireDone, hre, hmove, Nat.not_le.2 hl, Bool.false_eq_true, if_false]
  rfl

theorem effRethreadMarkerTimeout_of_reacquiring : effRethreadMarkerTimeout l h = h.linkDown l := by
  simp only [effRethreadMarkerTimeout, hre, hl, Nat.le_refl, decide_true, Bool.and_self, if_true]

end Reacquired

end Link

/-! ### The Eyelet (R319) -/

/-- An Eyelet that fails takes its eight links with it. -/
theorem effEyeletFail_of_on {h : Hw} {e : Nat} (he : e < 8) (hon : h.get (F.EYE_STATE e) = 1) :
    effEyeletFail e h = (List.range 8).foldl (fun h k => h.linkFail (8 * e + k))
      (((h.set (F.EYE_STATE e) 2).updEye e (fun y => { y with failed := true })).post Ev.evEyeletFail [u8 e]) := by
  simp only [effEyeletFail, he, hon, decide_true, Bool.and_self, if_true]

end Sys2Proof.Machine

namespace Sys2Proof.Proofs
open Machine

/-- Settles O23: each command's effect in its state of the link, by the lemma of that command and state. -/
theorem linkCommandsComplete : Obligations.LinkCommandsComplete := by
  refine ⟨fun s l hl hon => ⟨fun hoff => ?rise, fun hen => ?fall⟩,
    fun s l hl => ⟨fun hst => ?lasers, fun hst => ?light, fun hst hnew => ?noLight, fun hst => ?acquire, fun hst hstep => ?reacquire,
      fun hst => ?align, fun hst hstep => ?realign, fun lanes rx tx hst => ?verify, fun hup => ?lockLoss, fun hst => ?retrainTimeout,
      fun hst => ?restart, fun hst => ?retrain⟩,
    fun s e he hon => ?eyelet⟩
  case rise => exact State.run_eq_to (effLinkEnWrite_rise hl hon hoff)
  case fall => exact State.run_eq_to (effLinkEnWrite_fall hl hon hen)
  case lasers => exact State.run_eq_to (effLasersLocked_of_tuning hl hst)
  case light => exact State.run_eq_to (effLightDetected_of_waitLight hl hst)
  case noLight => exact State.run_eq_to (effNoLightTimeout_of_unposted hl hst hnew)
  case acquire => exact State.run_eq_to (effAcquireDone_of_acquire hl hst)
  case reacquire => exact State.run_eq_to (effAcquireDone_of_retrain hl hst hstep)
  case align => exact State.run_eq_to (effAlignDone_of_align hl hst)
  case realign => exact State.run_eq_to (effAlignDone_of_retrain hl hst hstep)
  case verify => exact State.run_eq_to (effVerifyDone_of_verify hl lanes rx tx hst)
  case lockLoss => exact State.run_eq_to (effMarkerLockLoss_of_up hl hup)
  case retrainTimeout => exact State.run_eq_to (effRetrainTimeout_of_retrain hl hst)
  case restart => exact State.run_eq_to (Hw.opRetrain_of_failed hl hst)
  case retrain => exact State.run_eq_to (Hw.opRetrain_of_lit hl hst)
  case eyelet => exact State.run_eq_to (effEyeletFail_of_on he hon)

/-- Settles O24: each stage of a re-thread by the lemma of the command that ends it. -/
theorem rethreadCommandsComplete : Obligations.RethreadCommandsComplete := by
  intro s l port hl
  refine ⟨fun hsolo hport hmove hfree hup hnone => ?request, fun hreq hup hempty => ?start, fun hmoving => ?steered, fun hre hident => ?toIdent,
    fun hre hmove => ?reacquired, fun hre => ?markerTimeout⟩
  case request => exact State.run_eq_to (Hw.opRethread_of_free hl hsolo hport hmove hfree hup hnone)
  case start => exact State.run_eq_to (effRethreadStart_of_acked hl hreq hup hempty)
  case steered => exact State.run_eq_to (effSteeringMoveDone_of_moving hl hmoving)
  case toIdent => exact State.run_eq_to (effReacquireDone_of_toIdent hl hre hident)
  case reacquired => exact State.run_eq_to (effReacquireDone_of_move hl hre hmove)
  case markerTimeout => exact State.run_eq_to (effRethreadMarkerTimeout_of_reacquiring hl hre)

end Sys2Proof.Proofs
end

section
/-!
PROOFS. Frames, lane markers, replays (09_optical_links.md, 10_topology_collectives.md): R310 to R315, R326, R345, R352 to R356, R359.
-/

namespace Sys2Proof.Machine

/-! ### A frame in sequence (R312, R314) -/

/-- The frame f, of the bytes b, is the next in order on link l, which deals frames and does not move; its virtual lane is none that is reserved. -/
structure Hw.Arrives (h : Hw) (l : Nat) (b : Bytes) (f : Frm) : Prop where
  link : l < 64
  parse : parseFrm b = some f
  deals : h.deals l
  still : (h.lk l).rethread = none
  next : f.lseq = (h.lk l).rxNext
  lane : f.vl ≤ 12

/-- The hardware once the next frame of a link's sequence is taken; its counters and the credit of its lane apart. -/
def Hw.inSequence (h : Hw) (l : Nat) : Hw := h.updLk l (fun k => { k with rxNext := (k.rxNext + 1) % 2 ^ 32, discarding := false })

/-- The hardware once the next frame of a link's sequence is taken and counted. -/
def Hw.accepted (h : Hw) (l : Nat) : Hw := (h.inSequence l).inc (F.FRAMES_RX l)

/-- A frame in sequence, taken by the command of its type, is delivered; then what it carries back is done. -/
theorem Hw.rxFrame_of_arrives {h : Hw} {l ft : Nat} {b : Bytes} {f : Frm} (harr : h.Arrives l b f) (hft : f.ftype = ft) :
    h.rxFrame l ft b = ((h.inSequence l).deliver l f).carries l f := by
  obtain ⟨hl, hparse, hdeals, hstill, hnext, -⟩ := harr
  have hseq : h.sequenced l f = (h.inSequence l).deliver l f := by
    simp only [Hw.sequenced, hnext, hstill, Option.isSome_none, Bool.false_eq_true, if_true, if_false]
    rfl
  simp only [Hw.rxFrame, hparse, Nat.not_le.2 hl, hdeals, hft, hseq, decide_true, decide_false, Bool.true_or, Bool.not_true, Bool.or_self,
    Bool.false_eq_true, if_false]

/-! ### Delivery (R352, R353, R356, R359) -/

section Deliver
variable {h : Hw} {l : Nat} {f : Frm} (hvl : f.vl ≤ 12)
include hvl

theorem Hw.deliver_coll (hft : f.ftype = ftCOLL) : h.deliver l f = (h.inc (F.FRAMES_RX l)).takeColl l f := by
  have hknown : ¬ 7 < ftCOLL := by decide
  simp only [Hw.deliver, hft, hknown, Nat.not_lt.2 hvl, decide_false, Bool.or_self, Bool.false_eq_true, if_false, if_true]

theorem Hw.deliver_keepalive (hft : f.ftype = ftKEEPALIVE) : h.deliver l f = ((h.inc (F.FRAMES_RX l)).owe l f.vl).takeKeepalive l f := by
  have hknown : ¬ 7 < ftKEEPALIVE := by decide
  have hcoll : ¬ ftKEEPALIVE = ftCOLL := by decide
  simp only [Hw.deliver, hft, hknown, hcoll, Nat.not_lt.2 hvl, decide_false, Bool.or_self, Bool.false_eq_true, if_false, if_true]

/-- A request or an answer for another chip goes on; one for this part is stored, answered, or ends its request. -/
theorem Hw.deliver_transport (hft : f.ftype = ftWRITE ∨ f.ftype = ftREADREQ ∨ f.ftype = ftREADRESP) {o : Hw}
    (ho : (h.inc (F.FRAMES_RX l)).owe l f.vl = o) :
    h.deliver l f =
      if f.dst ≠ o.myChip then o.route f (some l)
      else if f.ftype = ftWRITE then o.takeWrite f
      else if f.ftype = ftREADREQ then o.takeReadReq f
      else o := by
  subst ho
  rcases hft with hft | hft | hft
  all_goals
    simp only [Hw.deliver, hft, Nat.not_lt.2 hvl, decide_false, Bool.or_false]
    rfl

end Deliver

/-- A WRITE of whole data by a chip that may write there is stored. -/
theorem Hw.takeWrite_of_mayWrite {h : Hw} {f : Frm} (hlen : f.len ≠ 0) (hmay : h.peerMay f.src f.addr f.len true) (hwhole : f.poison = false) :
    h.takeWrite f = h.poke f.addr (f.data.take f.len) := by
  simp only [Hw.takeWrite, hlen, hmay, hwhole, Bool.not_true, Bool.false_eq_true, if_false]

/-- The answer of this part to a READ_REQ, with the bytes asked for and whether they are poisoned. -/
def Hw.readResp (h : Hw) (f : Frm) (bs : Bytes) (poisoned : Bool) : Frm := { mkFrm ftREADRESP 3 f.src h.myChip f.tag 0 0 bs with poison := poisoned }

/-- A READ_REQ of a chip that may read there is answered with as many bytes as it asks for (log entry 31). -/
theorem Hw.takeReadReq_of_mayRead {h t : Hw} {f : Frm} {bs : Bytes} {poisoned : Bool} (hmay : h.peerMay f.src f.addr f.len false)
    (hread : h.readLocal f.addr f.len = (t, bs, poisoned)) : h.takeReadReq f = t.route (t.readResp f bs poisoned) none := by
  simp only [Hw.takeReadReq, hmay, hread, Bool.not_true, Bool.false_eq_true, if_false]
  rfl

/-! ### Frames in sequence, by type -/

section Types
variable {h : Hw} {l : Nat} {b : Bytes} {f : Frm} (harr : h.Arrives l b f)
include harr

theorem effFrameColl_of_arrives (hft : f.ftype = ftCOLL) : effFrameColl l b h = ((h.accepted l).takeColl l f).carries l f := by
  rw [effFrameColl, Hw.rxFrame_of_arrives harr hft, Hw.deliver_coll harr.lane hft]
  rfl

theorem effFrameKeepalive_of_arrives (hft : f.ftype = ftKEEPALIVE) :
    effFrameKeepalive l b h = (((h.accepted l).owe l f.vl).takeKeepalive l f).carries l f := by
  rw [effFrameKeepalive, Hw.rxFrame_of_arrives harr hft, Hw.deliver_keepalive harr.lane hft]
  rfl

variable {o : Hw} (ho : (h.accepted l).owe l f.vl = o)
include ho

/-- A WRITE, READ_REQ or READ_RESP for another chip goes on. -/
theorem Hw.rxFrame_of_transit {ft : Nat} (hft : f.ftype = ft) (hkind : ft = ftWRITE ∨ ft = ftREADREQ ∨ ft = ftREADRESP)
    (hdst : f.dst ≠ o.myChip) : h.rxFrame l ft b = (o.route f (some l)).carries l f := by
  rw [Hw.rxFrame_of_arrives harr hft, Hw.deliver_transport harr.lane (hft ▸ hkind) ho, if_pos hdst]

theorem effFrameWrite_of_mayWrite (hft : f.ftype = ftWRITE) (hdst : f.dst = o.myChip) (hlen : f.len ≠ 0) (hmay : o.peerMay f.src f.addr f.len true)
    (hwhole : f.poison = false) : effFrameWrite l b h = (o.poke f.addr (f.data.take f.len)).carries l f := by
  rw [effFrameWrite, Hw.rxFrame_of_arrives harr hft, Hw.deliver_transport harr.lane (Or.inl hft) ho, if_neg (fun hne => hne hdst), if_pos hft,
    Hw.takeWrite_of_mayWrite hlen hmay hwhole]

theorem effFrameReadReq_of_mayRead {t : Hw} {bs : Bytes} {poisoned : Bool} (hft : f.ftype = ftREADREQ) (hdst : f.dst = o.myChip)
    (hmay : o.peerMay f.src f.addr f.len false) (hread : o.readLocal f.addr f.len = (t, bs, poisoned)) :
    effFrameReadReq l b h = (t.route (t.readResp f bs poisoned) none).carries l f := by
  rw [effFrameReadReq, Hw.rxFrame_of_arrives harr hft, Hw.deliver_transport harr.lane (Or.inr (Or.inl hft)) ho, if_neg (fun hne => hne hdst),
    if_neg (by rw [hft]; decide), if_pos hft, Hw.takeReadReq_of_mayRead hmay hread]

/-- A READ_RESP for this part does nothing by itself: its data comes with the command that consumes it (log entry 32). -/
theorem effFrameReadResp_of_arrives (hft : f.ftype = ftREADRESP) :
    effFrameReadResp l b h = (if f.dst = o.myChip then o else o.route f (some l)).carries l f := by
  by_cases hdst : f.dst = o.myChip
  · rw [effFrameReadResp, Hw.rxFrame_of_arrives harr hft, Hw.deliver_transport harr.lane (Or.inr (Or.inr hft)) ho, if_neg (fun hne => hne hdst),
      if_neg (by rw [hft]; decide), if_neg (by rw [hft]; decide), if_pos hdst]
  · rw [effFrameReadResp, Hw.rxFrame_of_transit harr ho hft (by decide) hdst, if_neg hdst]

end Types

/-! ### Frames outside the sequence (R310, R314, R345) -/

/-- An IDLE frame whose LSEQ is not ahead of what has arrived brings its acknowledgement and credits. -/
theorem effFrameIdle_of_noLoss {h : Hw} {l : Nat} {b : Bytes} {f : Frm} (hl : l < 64) (hparse : parseFrm b = some f) (hdeals : h.deals l)
    (hft : f.ftype = ftIDLE) (hseq : seqLe f.lseq (h.lk l).rxNext) : effFrameIdle l b h = h.carries l f := by
  simp only [effFrameIdle, hparse, Nat.not_le.2 hl, hdeals, hft, hseq, ne_eq, not_true_eq_false, decide_false, Bool.not_true, Bool.or_self,
    Bool.false_eq_true, if_false, if_true]

/-- The version that a CTRL frame gives in IDENTIFY. -/
def ctrlVersion (f : Frm) : Nat := bitsOf (fieldLE f.data 0x40 8) 47 32

/-- The hardware once the data of a CTRL frame is taken: what it tells of the far end, and the restore that may go on with it. -/
def Hw.ctrlTaken (h : Hw) (l : Nat) (f : Frm) : Hw := ((h.inc (F.FRAMES_RX l)).markerInfo l f.data).restoreAdd l

/-- The hardware once the far end's version is known. -/
def Hw.versionTaken (h : Hw) (l ver : Nat) : Hw :=
  (h.updLk l (fun k => { k with farVer := some (ver / 256, ver % 256) })).set (F.FAR_MAJOR l) (ver / 256)

section Ctrl
variable {h a : Hw} {l : Nat} {b : Bytes} {f : Frm} (hl : l < 64) (hparse : parseFrm b = some f) (hft : f.ftype = ftCTRL)
  (haligned : lsALIGN ≤ h.lkState l) (hfailed : h.lkState l ≠ lsFAILED) (hdark : h.lkState l ≠ lsDARK) (hop : bitsOf (fieldLE f.data 0x10 8) 63 60 ≠ 5)
  (ha : h.ctrlTaken l f = a)
include hl hparse hft haligned hfailed hdark hop ha

/-- Outside IDENTIFY a CTRL frame without an urgent operation gives its data. -/
theorem effFrameCtrl_of_not_identify (hst : a.lkState l ≠ lsIDENTIFY) : effFrameCtrl l b h = a := by
  unfold Hw.ctrlTaken at ha
  simp only [effFrameCtrl, hparse, hft, Nat.not_le.2 hl, Nat.not_lt.2 haligned, hfailed, hdark, hop, ha, hst, ne_eq, not_true_eq_false, decide_false,
    Bool.false_and, Bool.or_self, Bool.false_eq_true, if_false]

/-- In IDENTIFY a far end of the same major version gets this part's LIF. -/
theorem effFrameCtrl_of_identify {v : Hw} (hst : a.lkState l = lsIDENTIFY) (hon : a.identOn) (hnew : (a.lk l).farVer = none)
    (hv : a.versionTaken l (ctrlVersion f) = v) (hmajor : ctrlVersion f / 256 = v.get F.YELYEL_VER_major) :
    effFrameCtrl l b h = (v.set (F.RUN_MINOR l) (min (ctrlVersion f % 256) (v.get F.YELYEL_VER_minor))).sendLif l := by
  unfold Hw.ctrlTaken at ha
  unfold Hw.versionTaken at hv
  unfold ctrlVersion at hv hmajor ⊢
  simp only [effFrameCtrl, hparse, hft, Nat.not_le.2 hl, Nat.not_lt.2 haligned, hfailed, hdark, hop, ha, hst, hon, hnew, hv, ← hmajor, ne_eq,
    not_true_eq_false, decide_false, decide_true, Option.isNone_none, Bool.and_self, Bool.or_self, Bool.false_eq_true, if_false, if_true]

end Ctrl

/-! ### Loss (R312, R314) -/

theorem effFrameNotDelivered_of_acquiring {h : Hw} {l : Nat} (crc : Bool) (hl : l < 64) (hlit : lsACQUIRE ≤ h.lkState l)
    (hfailed : h.lkState l ≠ lsFAILED) {a : Hw} (ha : h.inc (if crc then F.CRC_ERR l else F.FEC_UNCORR l) = a) :
    effFrameNotDelivered l crc h = if a.deals l then a.gap l else a := by
  simp only [effFrameNotDelivered, Nat.not_le.2 hl, Nat.not_lt.2 hlit, hfailed, ha, decide_false, Bool.or_self, Bool.false_eq_true, if_false]

theorem effAckTimeoutReplay_of_deals {h : Hw} {l : Nat} (hl : l < 64) (hdeals : h.deals l) : effAckTimeoutReplay l h = h.replay l := by
  simp only [effAckTimeoutReplay, hl, hdeals, decide_true, Bool.and_self, if_true]

/-! ### Lane markers (R313, R315) -/

/-- The bytes of a lane marker that has arrived whole. -/
structure WholeMarker (m : Bytes) : Prop where
  length : m.length = 640
  crc : fieldLE m 0x278 8 = crc64 (m.take 0x278)
  magic : fieldLE m 6 2 = 0x4D4B

/-- The hardware once what a lane marker tells of the far end is taken. -/
def Hw.markerTaken (h : Hw) (l : Nat) (m : Bytes) : Hw := (h.markerInfo l m).set (F.LNK_PEER_CHIP l) (fieldLE m 0x46 2)

/-- The hardware once a link's credits are taken anew from a lane marker, and its acknowledgement; a restore may go on. -/
def Hw.creditsRenewed (h : Hw) (l : Nat) (m : Bytes) : Hw :=
  ((h.updLk l (fun k => { k with credits := k.vlFree })).acked l (fieldLE m 8 4)).restoreAdd l

/-- A whole marker on a link that deals frames and does not move renews the credits; then what waits is sent. -/
theorem effLaneMarker_of_whole {h a : Hw} {l : Nat} {m : Bytes} (hl : l < 64) (haligned : lsALIGN ≤ h.lkState l)
    (hfailed : h.lkState l ≠ lsFAILED) (hwhole : WholeMarker m) (ha : h.markerTaken l m = a) (hstill : (a.lk l).rethread = none) (hdeals : a.deals l)
    (hop : bitsOf (fieldLE m 0x10 8) 63 60 ≠ 4) {b : Hw} (hb : a.creditsRenewed l m = b) : effLaneMarker l m h = b.pump (b.lk l).queue.length l := by
  obtain ⟨hlength, hcrc, hmagic⟩ := hwhole
  unfold Hw.markerTaken at ha
  unfold Hw.creditsRenewed at hb
  simp only [effLaneMarker, Nat.not_le.2 hl, Nat.not_lt.2 haligned, hfailed, hlength, hcrc, hmagic, ha, hstill, hdeals, hop, hb, ne_eq, not_true_eq_false,
    decide_false, Bool.not_true, Bool.or_self, Bool.false_eq_true, if_false]

end Sys2Proof.Machine

namespace Sys2Proof.Proofs
open Machine

/-- Settles O25: a frame in sequence is delivered by its type, by one lemma for the sequence and one for each type; the other commands by a lemma each. -/
theorem frameCommandsComplete : Obligations.FrameCommandsComplete := by
  refine ⟨fun s l b f hl hparse hdeals hstill hnext hvl => ?inSequence, fun s l b f hl hparse hdeals hft hseq => ?idle,
    fun s l b f hl hparse hft haligned hfailed hdark hop => ⟨fun hst => ?ctrl, fun hst hon hnew hmajor => ?version⟩,
    fun s l crc hl hlit hfailed => ?lost, fun s l hl hdeals => ?replay,
    fun s l m hl haligned hfailed hlength hcrc hmagic hstill hdeals hop => ?marker⟩
  case inSequence =>
    have harr : s.hw.Arrives l b f := ⟨hl, hparse, hdeals, hstill, hnext, hvl⟩
    refine ⟨fun hft hdst hlen hmay hwhole => ?write, fun hft hdst => ?writeOn, fun hft hdst hmay => ?readReq, fun hft hdst => ?readReqOn,
      fun hft => ?readResp, fun hft => ?coll, fun hft => ?keepalive⟩
    case write => exact State.run_eq_to (effFrameWrite_of_mayWrite harr rfl hft hdst hlen hmay hwhole)
    case writeOn => exact State.run_eq_to (Hw.rxFrame_of_transit harr rfl hft (by decide) hdst)
    case readReq => exact State.run_eq_to (effFrameReadReq_of_mayRead harr rfl hft hdst hmay rfl)
    case readReqOn => exact State.run_eq_to (Hw.rxFrame_of_transit harr rfl hft (by decide) hdst)
    case readResp => exact State.run_eq_to (effFrameReadResp_of_arrives harr rfl hft)
    case coll => exact State.run_eq_to (effFrameColl_of_arrives harr hft)
    case keepalive => exact State.run_eq_to (effFrameKeepalive_of_arrives harr hft)
  case idle => exact State.run_eq_to (effFrameIdle_of_noLoss hl hparse hdeals hft hseq)
  case ctrl => exact State.run_eq_to (effFrameCtrl_of_not_identify hl hparse hft haligned hfailed hdark hop rfl hst)
  case version => exact State.run_eq_to (effFrameCtrl_of_identify hl hparse hft haligned hfailed hdark hop rfl hst hon hnew rfl hmajor)
  case lost => exact State.run_eq_to (effFrameNotDelivered_of_acquiring crc hl hlit hfailed rfl)
  case replay => exact State.run_eq_to (effAckTimeoutReplay_of_deals hl hdeals)
  case marker => exact State.run_eq_to (effLaneMarker_of_whole hl haligned hfailed ⟨hlength, hcrc, hmagic⟩ rfl hstill hdeals hop rfl)

end Sys2Proof.Proofs
end

section
/-!
PROOFS. Lanes and lasers (09_optical_links.md): lane operations, calibration, fade, spares, lane commands (R304 to R306, R320 to R326, R329, R334).
-/

namespace Sys2Proof.Machine

/-! ### Lane operations (R320, R324 to R326) -/

/-- The hardware once lane w of link l is in service again on the laser it has. -/
def Hw.laneBack (h : Hw) (l w : Nat) : Hw := (h.laneSvc l w true).set (F.LSTATE (l / 8) (h.lane l w).laser) 1

/-- The hardware once the restore k of lane w of link l has put the lane in service on its laser and slot; a spare that it used apart. -/
def Hw.laneRestored (h : Hw) (l w : Nat) (k : SwOp) : Hw :=
  let a := (h.setLane l w ⟨true, k.slot, k.laser⟩).updEye (l / 8) (fun y => { y with sw := none })
  ((a.set (F.SWITCH_BUSY (l / 8)) 0).set (F.LNK_SWITCHOVER l) 0).set (F.LSTATE (l / 8) k.laser) 1

/-- A switch-over of lane w of link l as it is once the duplicate carries the lane's codewords; any other as it was. -/
def SwOp.duplicating (l w : Nat) (k : SwOp) : SwOp := if k.link = l && k.lane = w then { k with step := 2 } else k

section LaneOp
variable {h : Hw} {l w : Nat} (hl : l < 64) (hw : w < 4) (hdeals : h.deals l)
include hl hw hdeals

/-- An announced DROP that leaves a lane takes effect at its block. -/
theorem effLaneOpDrop_of_announced {a : Hw} {o : LaneOp} (hop : h.takeOp l w 1 = some (a, o)) (hleaves : 1 < a.get (F.LNK_WIDTH l))
    (hsvc : (a.lane l w).svc) : effLaneOpDrop l w h = a.laneDrop l w o.why := by
  simp only [effLaneOpDrop, Nat.not_le.2 hl, Nat.not_le.2 hw, hdeals, hop, Nat.not_le.2 hleaves, hsvc, decide_false, Bool.not_true, Bool.or_self,
    Bool.false_eq_true, if_false]

/-- An announced ADD brings the lane back where its Eyelet runs no switch-over. -/
theorem effLaneOpAdd_of_noSwitch {a : Hw} {o : LaneOp} (hop : h.takeOp l w 2 = some (a, o)) (hsw : (a.eye (l / 8)).sw = none) :
    effLaneOpAdd l w h = a.laneBack l w := by
  simp only [effLaneOpAdd, Nat.not_le.2 hl, Nat.not_le.2 hw, hdeals, hop, hsw, decide_false, Bool.not_true, Bool.or_self, Bool.false_eq_true, if_false]
  rfl

/-- An announced ADD of a restore ends the restore; a spare that it used is in use. -/
theorem effLaneOpAdd_of_restore {a : Hw} {o : LaneOp} {k : SwOp} (hop : h.takeOp l w 2 = some (a, o)) (hsw : (a.eye (l / 8)).sw = some k)
    (hwhy : o.why = 4) (hlink : k.link = l) (hlane : k.lane = w) :
    effLaneOpAdd l w h =
      if k.laser = (a.lane l w).laser then a.laneRestored l w k else (a.laneRestored l w k).spareUsed (l / 8) := by
  simp only [effLaneOpAdd, Nat.not_le.2 hl, Nat.not_le.2 hw, hdeals, hop, hsw, hwhy, hlink, hlane, decide_false, decide_true, Bool.not_true, Bool.or_self,
    Bool.and_self, Bool.false_eq_true, if_false, if_true]
  rfl

theorem effLaneOpDupStart_of_announced {a : Hw} {o : LaneOp} (hop : h.takeOp l w 3 = some (a, o)) :
    effLaneOpDupStart l w h = a.updEye (l / 8) (fun y => { y with sw := y.sw.map (SwOp.duplicating l w) }) := by
  simp only [effLaneOpDupStart, Nat.not_le.2 hl, Nat.not_le.2 hw, hdeals, hop, decide_false, Bool.not_true, Bool.or_self, Bool.false_eq_true, if_false]
  rfl

theorem effLaneOpDupSwitched_of_deals : effLaneOpDupSwitched l w h = h.dupSwitched l w := by
  simp only [effLaneOpDupSwitched, hl, hw, hdeals, decide_true, Bool.and_self, if_true]

omit hdeals in
theorem effLaneOpDropNow_of_lt : effLaneOpDropNow l w h = h.dropNow l w := by
  simp only [effLaneOpDropNow, hl, hw, decide_true, Bool.and_self, if_true]

theorem effSuddenLaneFailure_of_deals :
    effSuddenLaneFailure l w h =
      ((h.sendCtrl l 5 w (((h.lk l).farSlot).getD w w) (((h.lk l).blockCnt + 1) % 2 ^ 35)).updLk l (fun k => { k with discarding := true })).sendIdle
        l true := by
  simp only [effSuddenLaneFailure, hl, hw, hdeals, decide_true, Bool.and_self, if_true]

end LaneOp

/-! ### LINK_CMD: lanes (R320, R323, R325, R334) -/

section LaneCmd
variable {h : Hw} {l w : Nat} (hl : l < 64) (hw : w < 4)
include hl hw

theorem Hw.opDropLane_of_mayDrop (hmay : h.mayDrop l w) : Hw.opDropLane l w h = h.announce l 1 w (h.lane l w).slot 0 := by
  simp only [Hw.opDropLane, Nat.not_le.2 hl, Nat.not_le.2 hw, hmay, decide_false, Bool.or_self, Bool.false_eq_true, if_false, if_true]

/-- A lane out of service is restored on its own laser, which has not retired. -/
theorem Hw.opRestoreLane_of_own (hown : h.get (F.LSTATE (l / 8) (h.lane l w).laser) ≠ 5) (hdeals : h.deals l) (hout : (h.lane l w).svc = false)
    (hcal : h.calLane l ≠ some w) (hsw : (h.eye (l / 8)).sw = none) : Hw.opRestoreLane l w h = h.swStart l w (h.lane l w).laser false 0 := by
  simp only [Hw.opRestoreLane, Nat.not_le.2 hl, Nat.not_le.2 hw, hown, hdeals, hout, hcal, hsw, ne_eq, not_false_eq_true, decide_false, decide_true,
    Option.isNone_none, Bool.not_false, Bool.or_self, Bool.and_self, Bool.false_eq_true, if_false, if_true]

/-- A lane in service with the margin for it is switched over to a spare. -/
theorem Hw.opSpareLane_of_spare {x : Nat} (hspare : h.spare (l / 8) = some x) (hdeals : h.deals l) (hsvc : (h.lane l w).svc)
    (hcal : h.calLane l ≠ some w) (hsw : (h.eye (l / 8)).sw = none) (hmargin : 30 ≤ h.farMargin l w) :
    Hw.opSpareLane l w h = h.swStart l w x true 0 := by
  simp only [Hw.opSpareLane, Nat.not_le.2 hl, Nat.not_le.2 hw, hspare, hdeals, hsvc, hcal, hsw, hmargin, ne_eq, not_false_eq_true, decide_false,
    decide_true, Option.isNone_none, Bool.or_self, Bool.and_self, Bool.false_eq_true, if_false, if_true]

end LaneCmd

/-! ### Calibration (R321, R322) and the sample of a laser (R323) -/

section Eyelet
variable {h : Hw} {e : Nat} (he : e < 8)
include he

section On
variable (hon : h.get (F.EYE_STATE e) = 1)
include hon

/-- The next lane of the rotation gets its slot where it may be dropped and no switch-over has it. -/
theorem effCalSlotStart_of_next {a : Hw} {x l w : Nat} (hcal : h.flag F.CAL_EN) (hopt : h.flag F.OPT_CFG_ENABLE) (hfree : (h.eye e).calOn = none)
    (hagain : (h.eye e).calAgain = []) (hx : h.get (F.CAL_NEXT e) = x) (hll : 8 * e + x / 4 = l) (hww : x % 4 = w)
    (ha : h.set (F.CAL_NEXT e) ((x + 1) % 32) = a) (hup : a.lkUp l) (hwidth : 4 ≤ a.get (F.LNK_WIDTH l))
    (hsw : (a.eye e).sw.any (fun k => k.link = l && k.lane = w) = false) (hmay : a.mayDrop l w) :
    effCalSlotStart e h = (a.updEye e (fun y => { y with calOn := some x })).announce l 1 w (a.lane l w).slot 3 := by
  simp only [effCalSlotStart, Nat.not_le.2 he, hcal, hopt, hon, hfree, hagain, hx, List.head?_nil, ite_self, Option.getD_none, hll, hww, ha, hup,
    Nat.not_lt.2 hwidth, hsw, hmay, ne_eq, not_true_eq_false, decide_false, Option.isSome_none, Bool.not_true, Bool.or_self, Bool.false_eq_true, if_false]

theorem effCalOverdue_of_on {x : Nat} (hx : x < 32) : effCalOverdue e x h = h.post Ev.evCalOverdue [u8 e, u8 x] := by
  simp only [effCalOverdue, he, hx, hon, decide_true, Bool.and_self, if_true]

/-- The hardware once Sage's sample of a laser is stored. -/
def Hw.sampled (h : Hw) (e x power fade : Nat) : Hw := (h.set (F.LAS_POWER e x) power).set (F.LAS_FADE e x) fade

section Sample
variable {a : Hw} {x power fade : Nat} (hx : x < 36) (ha : h.sampled e x power fade = a)
include hx ha

theorem effLaserFadeSample_of_not_active (hst : a.get (F.LSTATE e x) ≠ 1) : effLaserFadeSample e x power fade h = a := by
  unfold Hw.sampled at ha
  simp only [effLaserFadeSample, Nat.not_le.2 he, Nat.not_le.2 hx, hon, ha, hst, ne_eq, not_true_eq_false, decide_false, Bool.or_self, Bool.false_and,
    Bool.false_eq_true, if_false]

/-- A laser that carries a lane of an UP link, in no calibration, switch-over or move, is treated by its fade. -/
theorem effLaserFadeSample_of_active {l w : Nat} (hll : 8 * e + a.get (F.LAS_LINK e x) = l) (hww : a.get (F.LAS_LANE e x) = w)
    (hst : a.get (F.LSTATE e x) = 1) (hup : a.lkUp l) (hlaser : (a.lane l w).laser = x) (hsvc : (a.lane l w).svc) (hstill : (a.lk l).rethread = none)
    (hsw : (a.eye e).sw.any (fun k => k.link = l && k.lane = w) = false) (hcal : a.calLane l ≠ some w) :
    effLaserFadeSample e x power fade h = a.fadeAct e x l w (untwos 16 fade) := by
  unfold Hw.sampled at ha
  simp only [effLaserFadeSample, Nat.not_le.2 he, Nat.not_le.2 hx, hon, ha, hll, hww, hst, hup, hlaser, hsvc, hstill, hsw, hcal, ne_eq, not_true_eq_false,
    decide_false, decide_true, Option.isNone_none, Bool.not_false, Bool.or_self, Bool.and_self, Bool.false_eq_true, if_false, if_true]

end Sample

end On

/-- The hardware once a calibration slot ends with the laser's measured power; the announcement of its lane apart. -/
def Hw.calMeasured (h : Hw) (e l w power : Nat) : Hw :=
  let a := (h.set (F.LAS_POWER e (h.lane l w).laser) power).inc (F.CAL_SLOTS e)
  (a.updEye e (fun y => { y with calOn := none })).set (F.CAL_ACTIVE l) 0

theorem effCalSlotEnd_of_active {b : Hw} {x l w : Nat} (power : Nat) (hon : (h.eye e).calOn = some x) (hll : 8 * e + x / 4 = l) (hww : x % 4 = w)
    (hactive : h.flag (F.CAL_ACTIVE l)) (hb : h.calMeasured e l w power = b) :
    effCalSlotEnd e power h = b.announce l 2 w (b.lane l w).slot 3 := by
  subst hb
  simp only [effCalSlotEnd, Nat.not_le.2 he, hon, hll, hww, hactive, decide_false, Bool.not_true, Bool.or_self, Bool.false_eq_true, if_false]
  rfl

/-! ### Switch-over and restore (R324, R325) -/

section Switch
variable {k : SwOp} (hsw : (h.eye e).sw = some k)
include hsw

theorem effSpareLocked_of_tuned (hover : k.switchover) (hstep : k.step = 0) (hdeals : h.deals k.link) :
    effSpareLocked e h =
      ((h.set (F.LSTATE e k.laser) 4).updEye e (fun y => { y with sw := some { k with step := 1 } })).announce k.link 3 k.lane k.slot 0 := by
  simp only [effSpareLocked, hsw, he, hover, hstep, hdeals, decide_true, Bool.and_self, if_true]

/-- The first failure of a switch-over is tried again; after the second the lane has no spare any more. -/
theorem effSwitchoverTimeout_of_duplicating (hover : k.switchover) (hstep : k.step = 2) :
    effSwitchoverTimeout e h =
      if k.attempt = 0 then (h.swEnd e).updEye e (fun y => { y with retry := some (k.link, k.lane) })
      else ((h.swEnd e).updEye e (fun y => { y with noSpare := insNat y.noSpare (4 * (k.link % 8) + k.lane) })).post Ev.evSpareFail [u8 e, u8 k.laser] := by
  simp only [effSwitchoverTimeout, hsw, he, hover, hstep, decide_true, Bool.and_self, if_true]

theorem effRestoreLaserLocked_of_tuned (hrestore : k.switchover = false) (hstep : k.step = 0) :
    effRestoreLaserLocked e h =
      (h.updEye e (fun y => { y with sw := some { k with step := 1 } })).sendCtrl k.link 0 k.lane k.slot 0 := by
  simp only [effRestoreLaserLocked, hsw, he, hrestore, hstep, decide_true, Bool.not_false, Bool.and_self, if_true]

theorem effRestoreMarginTimeout_of_training (hrestore : k.switchover = false) (hstep : k.step = 1) (hmargin : h.farMargin k.link k.lane < 30) :
    effRestoreMarginTimeout e h = (h.swEnd e).post Ev.evLaneFail [u8 k.link, u8 k.lane] := by
  simp only [effRestoreMarginTimeout, hsw, he, hrestore, hstep, hmargin, decide_true, Bool.not_false, Bool.and_self, if_true]

end Switch

/-- A switch-over that failed once is tried again with a spare. -/
theorem effSwitchoverRetry_of_spare {a : Hw} {l w x : Nat} (hretry : (h.eye e).retry = some (l, w)) (hsw : (h.eye e).sw = none)
    (hspare : h.spare e = some x) (ha : h.updEye e (fun y => { y with retry := none }) = a) (hdeals : a.deals l) (hsvc : (a.lane l w).svc) :
    effSwitchoverRetry e h = a.swStart l w x true 1 := by
  simp only [effSwitchoverRetry, hretry, hsw, hspare, he, ha, hdeals, hsvc, Bool.and_self, if_true]

end Eyelet

end Sys2Proof.Machine

namespace Sys2Proof.Proofs
open Machine

/-- Settles O26: each command's effect under its conditions, by the lemma of that command. -/
theorem laneCommandsComplete : Obligations.LaneCommandsComplete := by
  refine ⟨fun s l w hl hw hdeals => ⟨fun a o hop hleaves hsvc => ?drop, fun a o hop hsw => ?add, fun a o k hop hsw hwhy hlink hlane => ?restored,
      fun a o hop => ?dupStart, ?dupSwitched, ?dropNow, ?sudden⟩,
    fun s l w hl hw => ⟨fun hmay => ?cmdDrop, fun hown hdeals hout hcal hsw => ?cmdRestore, fun x hspare hdeals hsvc hcal hsw hmargin => ?cmdSpare⟩,
    fun s e he hon => ⟨fun hcal hopt hfree hagain hup hwidth hsw hmay => ?calStart, fun x hx => ?calOverdue,
      fun x power fade hx => ⟨fun hst => ?sampleIdle, fun hst hup hlaser hsvc hstill hsw hcal => ?sampleActive⟩⟩,
    fun s e x power he hon hactive => ?calEnd,
    fun s e k he hsw => ⟨fun hover hstep hdeals => ?spareLocked, fun hover hstep hfirst => ?retryLater, fun hover hstep hsecond => ?giveUp,
      fun hrestore hstep => ?restoreLocked, fun hrestore hstep hmargin => ?restoreFails⟩,
    fun s e l w x he hretry hsw hspare hdeals hsvc => ?retry⟩
  case drop => exact State.run_eq_to (effLaneOpDrop_of_announced hl hw hdeals hop hleaves hsvc)
  case add => exact State.run_eq_to (effLaneOpAdd_of_noSwitch hl hw hdeals hop hsw)
  case restored => exact State.run_eq_to (effLaneOpAdd_of_restore hl hw hdeals hop hsw hwhy hlink hlane)
  case dupStart => exact State.run_eq_to (effLaneOpDupStart_of_announced hl hw hdeals hop)
  case dupSwitched => exact State.run_eq_to (effLaneOpDupSwitched_of_deals hl hw hdeals)
  case dropNow => exact State.run_eq_to (effLaneOpDropNow_of_lt hl hw)
  case sudden => exact State.run_eq_to (effSuddenLaneFailure_of_deals hl hw hdeals)
  case cmdDrop => exact State.run_eq_to (Hw.opDropLane_of_mayDrop hl hw hmay)
  case cmdRestore => exact State.run_eq_to (Hw.opRestoreLane_of_own hl hw hown hdeals hout hcal hsw)
  case cmdSpare => exact State.run_eq_to (Hw.opSpareLane_of_spare hl hw hspare hdeals hsvc hcal hsw hmargin)
  case calStart => exact State.run_eq_to (effCalSlotStart_of_next he hon hcal hopt hfree hagain rfl rfl rfl rfl hup hwidth hsw hmay)
  case calOverdue => exact State.run_eq_to (effCalOverdue_of_on he hon hx)
  case sampleIdle => exact State.run_eq_to (effLaserFadeSample_of_not_active he hon hx rfl hst)
  case sampleActive => exact State.run_eq_to (effLaserFadeSample_of_active he hon hx rfl rfl rfl hst hup hlaser hsvc hstill hsw hcal)
  case calEnd => exact State.run_eq_to (effCalSlotEnd_of_active he power hon rfl rfl hactive rfl)
  case spareLocked => exact State.run_eq_to (effSpareLocked_of_tuned he hsw hover hstep hdeals)
  case retryLater => exact State.run_eq_to ((effSwitchoverTimeout_of_duplicating he hsw hover hstep).trans (if_pos hfirst))
  case giveUp => exact State.run_eq_to ((effSwitchoverTimeout_of_duplicating he hsw hover hstep).trans (if_neg hsecond))
  case restoreLocked => exact State.run_eq_to (effRestoreLaserLocked_of_tuned he hsw hrestore hstep)
  case restoreFails => exact State.run_eq_to (effRestoreMarginTimeout_of_training he hsw hrestore hstep hmargin)
  case retry => exact State.run_eq_to (effSwitchoverRetry_of_spare he hretry hsw hspare rfl hdeals hsvc)

end Sys2Proof.Proofs
end

section
/-!
PROOFS. Discovery, link identity and keepalives (10_topology_collectives.md): R338, R339, R345 to R349, R356.
-/

namespace Sys2Proof.Machine

/-- TOPO_ENABLE of a part whose discovery is off starts it. -/
theorem effTopoEnable_of_off {h : Hw} (hoff : h.flag F.TOPO_CFG_ENABLE = false) (hpower : h.domOn domYOKE) : effTopoEnable h = h.topoOn := by
  simp only [effTopoEnable, hoff, hpower, Bool.not_true, Bool.or_self, Bool.false_eq_true, if_false]

/-! ### Link Identity Frames (R346, R347) -/

/-- The chip and the plan link that a LIF names as its sender's. -/
def lifSender (b : Bytes) : Nat × Nat := (fieldLE b 0x10 2, fieldLE b 3 1)

/-- The hardware once a LIF is counted on its link and what it tells of the far end is stored. -/
def Hw.lifNoted (h : Hw) (l : Nat) (b : Bytes) : Hw :=
  ((((h.inc (F.FRAMES_RX l) lifFrames).set (F.FAR_CHIP l) (fieldLE b 0x10 2)).set (F.FAR_LINK l) (fieldLE b 2 1)).set (F.FAR_PLINK l)
    (fieldLE b 3 1)).set (F.FAR_FPORT l) (fieldLE b 4 1)

/-- The hardware once the sender of a LIF has proved who it is. -/
def Hw.senderVerified (h : Hw) (b : Bytes) : Hw :=
  { h with topo := { h.topo with
    verified := if h.topo.verified.contains (fieldLE b 0x10 2, b.drop 0x10) then h.topo.verified else (fieldLE b 0x10 2, b.drop 0x10) :: h.topo.verified } }

/-- The rank that the plan gives the sender of a LIF. -/
def Hw.senderRank (h : Hw) (b : Bytes) : Option Rank := h.topo.plan.bind (fun p => (p.find (fieldLE b 0x10 2)).bind (fun r => p.ranks[r]?))

theorem Hw.senderRank_of_find {h : Hw} {b : Bytes} {p : Plan} {r : Nat} (hplan : h.topo.plan = some p) (hfind : p.find (fieldLE b 0x10 2) = some r) :
    h.senderRank b = p.ranks[r]? := by
  simp only [Hw.senderRank, hplan, hfind, Option.bind_some]

/-- The exchange of step 6 runs on a link, whose far end has given its version. -/
structure Hw.Exchanges (h : Hw) (l : Nat) : Prop where
  link : l < 64
  on : h.identOn
  version : (h.lk l).farVer.isSome
  state : h.lkState l = lsIDENTIFY ∨ h.lkState l = lsHELD ∧ h.get (F.DISC_REASON l) ≠ 2

/-- A LIF on a link that exchanges is stored and decided on. -/
theorem effLifReceive_of_exchanges {h : Hw} {l : Nat} (hex : h.Exchanges l) (b : Bytes) :
    effLifReceive l b h = (h.lifNoted l b).lifDecide l b := by
  obtain ⟨hl, hon, hver, hst⟩ := hex
  have hnew : (h.lk l).farVer.isNone = false := by rw [← Option.not_isSome, hver, Bool.not_true]
  have hstB : (decide (h.lkState l = lsIDENTIFY) || decide (h.lkState l = lsHELD) && decide (h.get (F.DISC_REASON l) ≠ 2)) = true := by
    simpa only [Bool.or_eq_true, Bool.and_eq_true, decide_eq_true_eq] using hst
  simp only [effLifReceive, Nat.not_le.2 hl, hon, hnew, hstB, decide_false, Bool.not_true, Bool.or_self, Bool.false_eq_true, if_false]
  rfl

/-- A LIF passes every test of R347 that comes before the one of its sender's place, v being the hardware in which its sender is verified: profile,
proof and plan agree, and the sender is another chip, or arrives on link 0, and has a rank that is no spare. -/
structure Hw.LifPasses (h v : Hw) (l : Nat) (b : Bytes) (k : Rank) : Prop where
  profile : fieldLE b 0x14 1 % 16 = h.get F.GBL_PROFILE
  proof : h.lifBad b = false
  digest : slice b 0x20 32 = v.regBytes regPlanDigest 32
  other : fieldLE b 0x10 2 ≠ v.myChip ∨ l = 0
  rank : h.senderRank b = some k
  active : k.spare = false

/-- The link on which the expected far end has proved who it is comes UP. -/
theorem Hw.lifDecide_of_expected {h v : Hw} {l : Nat} {b : Bytes} {k : Rank} (hv : h.senderVerified b = v) (hpass : h.LifPasses v l b k)
    (hexp : h.expected (h.plinkOf l) = some (lifSender b)) : h.lifDecide l b = v.linkUp l 1 := by
  obtain ⟨hprofile, hproof, hdigest, hother, hrank, hactive⟩ := hpass
  have hself : (decide (fieldLE b 0x10 2 = v.myChip) && decide (l ≠ 0)) = false := by
    rcases hother with hchip | hlink
    · simp only [hchip, decide_false, Bool.false_and]
    · simp only [hlink, ne_self_iff_false, decide_false, Bool.and_false]
  dsimp only [Hw.senderVerified] at hv
  unfold Hw.senderRank at hrank
  simp only [Hw.lifDecide, hprofile, hproof, hv, hdigest, hself, hrank, hactive, hexp, lifSender, ne_self_iff_false, Option.isNone_some,
    Bool.false_eq_true, if_false, if_true]

/-- A link held for its plan, its proof or a spare sends its LIF again. -/
theorem effLifRetry_of_held {h : Hw} {l : Nat} (hl : l < 64) (hon : h.identOn) (hheld : h.lkState l = lsHELD)
    (hreason : h.get (F.DISC_REASON l) ∈ ([3, 4, 8] : List Nat)) : effLifRetry l h = h.sendLif l := by
  have hreasonB : ([3, 4, 8] : List Nat).contains (h.get (F.DISC_REASON l)) = true := List.contains_iff_mem.2 hreason
  simp only [effLifRetry, hl, hon, hheld, hreasonB, decide_true, Bool.and_self, if_true]

/-! ### A far end in another place (R348) -/

section Wait
variable {h : Hw} {l chip plink : Nat} (hl : l < 64) (hon : h.identOn) (hpend : (h.lk l).lifPend = some (chip, plink))
include hl hon hpend

theorem effRemapWaitExpiry_of_target {q : Nat} (htarget : h.remapTarget l chip plink = some q) : effRemapWaitExpiry l h = h.doRemap l q := by
  simp only [effRemapWaitExpiry, hpend, htarget, hl, hon, decide_true, Bool.and_self, if_true]

theorem effPortWaitExpiry_of_noTarget (hnone : h.remapTarget l chip plink = none) :
    effPortWaitExpiry l h = h.linkRefuse l false 9 plink chip := by
  simp only [effPortWaitExpiry, hpend, hnone, hl, hon, Option.isNone_none, decide_true, Bool.and_self, if_true]

end Wait

/-! ### The end of discovery (R349) -/

/-- The hardware once DISC_TMO has passed. -/
def Hw.discEnded (h : Hw) : Hw := { h with topo := { h.topo with discOver := true } }

/-- The first DISC_TMO of a discovery evaluates the bundles. -/
theorem effDiscTmoExpiry_of_discovering {h : Hw} (hst : h.get F.TOPO_STATE = 2) (hon : h.flag F.TOPO_CFG_ENABLE) (hfirst : h.topo.discOver = false) :
    effDiscTmoExpiry h = h.discEnded.topoEval.boardRoutes := by
  simp only [effDiscTmoExpiry, hst, hon, hfirst, decide_true, Bool.not_false, Bool.and_self, if_true]
  rfl

/-! ### Keepalives (R356) -/

/-- The table of missed periods once a period ends for a neighbour: 0 where one of its links brought a keepalive, one more elsewhere. -/
def Hw.missCounted (h : Hw) (t : Tab Nat) (c : Nat) : Tab Nat :=
  if (h.linksTo c).any (fun l => (h.lk l).kaSeen) then Tab.set t c 0 else Tab.set t c (Tab.getD t c 0 + 1)

/-- The hardware once a period ends for every neighbour. -/
def Hw.periodEnded (h : Hw) : Hw := { h with topo := { h.topo with miss := h.neighbours.foldl h.missCounted h.topo.miss } }

/-- What a keepalive tells: SHUTTLE_EPOCH, TOPO_STATE, the mask of UP board links. -/
def Hw.kaData (h : Hw) : Bytes := natLE 8 (h.get F.SHUTTLE_EPOCH) ++ natLE 2 (h.get F.TOPO_STATE) ++ natLE 2 h.boardMask

/-- A link begins a period: nothing has arrived in it, and where the link is UP a keepalive goes out. -/
def Hw.sendKeepalive (data : Bytes) (h : Hw) (l : Nat) : Hw :=
  let h := if (h.lk l).kaSeen then h.updLk l (fun k => { k with kaSeen := false }) else h
  if h.lkUp l then h.sendFrame l (mkFrm ftKEEPALIVE 0 (h.get (F.FAR_CHIP l)) h.myChip 0 0 0 data) else h

/-- A period ends as the next begins: what was missed is counted before the marks of arrival are cleared (log entry 120). -/
theorem effKeepaliveSend_of_on {h : Hw} (hka : h.flag F.KA_EN) (hopt : h.flag F.OPT_CFG_ENABLE) :
    effKeepaliveSend h = (List.range 64).foldl (Hw.sendKeepalive h.periodEnded.kaData) h.periodEnded := by
  simp only [effKeepaliveSend, hka, hopt, Bool.not_true, Bool.or_self, Bool.false_eq_true, if_false]
  rfl

/-- A neighbour that has been silent for the periods of KA_MISSES is DEAD. -/
theorem effKeepaliveMiss_of_silent {h : Hw} {chip i : Nat} {p : Plan} (hplan : h.topo.plan = some p) (hfind : p.find chip = some i)
    (hka : h.flag F.KA_EN) (hlive : h.get (PEER_PSTATE i) ≠ 2) (hnear : h.neighbours.contains chip)
    (hsilent : max 4 (h.get F.KA_MISSES) ≤ Tab.getD h.topo.miss chip 0) :
    effKeepaliveMiss chip h = (((h.set (PEER_PSTATE i) 2).post Ev.evPeerDead [u16 chip]).chipLost chip).collPeerDead chip := by
  simp only [effKeepaliveMiss, hplan, Option.bind_some, hfind, hka, hlive, hnear, hsilent, ne_eq, not_false_eq_true, decide_true, Bool.and_self, if_true]

end Sys2Proof.Machine

namespace Sys2Proof.Proofs
open Machine

/-- Settles O27: each command's effect under its conditions, by the lemma of that command; a LIF is first stored and then decided on. -/
theorem discoveryCommandsComplete : Obligations.DiscoveryCommandsComplete := by
  refine ⟨fun s hoff hpower => ?enable, fun s l b hl hon hver hst => ?lif, fun s l hl hon hheld hreason => ?retry,
    fun s l chip plink hl hon hpend => ⟨fun q htarget => ?remap, fun hnone => ?port⟩, fun s hst hon hfirst => ?discTmo,
    fun s hka hopt => ?keepalive, fun s chip i p hplan hfind hka hlive hnear hsilent => ?dead⟩
  case enable => exact State.run_eq_to (effTopoEnable_of_off hoff hpower)
  case lif =>
    have hreceive := effLifReceive_of_exchanges ⟨hl, hon, hver, hst⟩ b
    refine ⟨?decided, fun p r k hprofile hproof hdigest hplan hsender hrank hactive hexp hother => ?accepted⟩
    case decided => exact State.run_eq_to hreceive
    case accepted =>
      exact State.run_eq_to
        (hreceive.trans (Hw.lifDecide_of_expected rfl ⟨hprofile, hproof, hdigest, hother, (Hw.senderRank_of_find hplan hsender).trans hrank, hactive⟩ hexp))
  case retry => exact State.run_eq_to (effLifRetry_of_held hl hon hheld hreason)
  case remap => exact State.run_eq_to (effRemapWaitExpiry_of_target hl hon hpend htarget)
  case port => exact State.run_eq_to (effPortWaitExpiry_of_noTarget hl hon hpend hnone)
  case discTmo => exact State.run_eq_to (effDiscTmoExpiry_of_discovering hst hon hfirst)
  case keepalive => exact State.run_eq_to (effKeepaliveSend_of_on hka hopt)
  case dead => exact State.run_eq_to (effKeepaliveMiss_of_silent hplan hfind hka hlive hnear hsilent)

end Sys2Proof.Proofs
end

section
/-!
PROOFS. The queue and the whole machine: one step, the next state of every command.
-/

namespace Sys2Proof.Machine

/-- Every command is an update of the hardware. -/
theorem exec_eq_run (c : Instr) (s : State) : ∃ f : Hw → Hw, exec c s = s.run f := by
  cases c <;> exact ⟨_, rfl⟩

end Sys2Proof.Machine

namespace Sys2Proof.Proofs
open Machine

/-- Settles O36: step matches on the queue. -/
theorem stepTakesFront : Obligations.StepTakesFront := fun _ _ _ => rfl

/-- Settles O38: a command updates the hardware, and the update is stamped. -/
theorem everyCommandAnswersNext : Obligations.EveryCommandAnswersNext := by
  intro c s
  obtain ⟨f, hf⟩ := exec_eq_run c s
  obtain ⟨hqueue, hhw⟩ := State.run_next (s := s) (f := f) rfl
  exact ⟨_, hf, hqueue, by rw [hhw, Hw.stamp_freeCtr]⟩

end Sys2Proof.Proofs
end

section
/-!
PROOFS. Training support (11_training_support.md): the cursor of a step (R376), the latch of a MARK (R378).
-/

namespace Sys2Proof.Machine

/-! ### The declared binding (R376) -/

/-- A distance modulo a power of two, as the model counts it without negative numbers. -/
theorem distance_cast {x b n : Nat} (hb : b ≤ n) : (((x + n - b) % n : Nat) : Int) = ((x : Int) - b) % n := by
  rw [Int.natCast_emod, Nat.cast_sub (by omega), Nat.cast_add, add_sub_right_comm, Int.add_emod_right]

theorem cursorAt_cast {base per cur s : Nat} (hb : base < 2 ^ 32) :
    ((cursorAt base per cur s : Nat) : Int) = ((cur : Int) + ((s : Int) - base) % 2 ^ 32 * per) % 2 ^ 64 := by
  have hdist := distance_cast (x := s) (Nat.le_of_lt hb)
  push_cast [cursorAt] at hdist ⊢
  rw [hdist]

theorem cursorAt_lt (base per cur s : Nat) : cursorAt base per cur s < 2 ^ 64 := Nat.mod_lt _ (by decide)

/-! ### An event leaves every register but its own -/

/-- An event writes EVT_SEQ, EVT_LOST and EVT_LOST_CNT alone. -/
theorem Hw.get_evAppend_ne (h : Hw) (e : EvCode) (time : Nat) (args : Bytes) {f : Fld} (hseq : f.word ≠ 0x782000) (hlost : f.word ≠ 0x782010) :
    (h.evAppend e time args).get f = h.get f := by
  have hnext : ∀ t : Hw, (t.set F.EVT_SEQ ((h.get F.EVT_SEQ + 1) % 2 ^ 32)).get f = t.get f := fun t => t.get_set_ne _ _ _ hseq
  have hover : ((h.inc F.EVT_LOST_CNT).set F.EVT_LOST 1).get f = h.get f := by
    rw [Hw.get_set_ne _ _ _ _ hseq, Hw.get_inc_ne _ _ _ _ hlost]
  unfold Hw.evAppend
  simp only
  split <;> split
  · exact (hnext ((h.inc F.EVT_LOST_CNT).set F.EVT_LOST 1)).trans hover
  · exact (hnext ((h.inc F.EVT_LOST_CNT).set F.EVT_LOST 1)).trans hover
  · exact hnext h
  · exact hnext h

theorem Hw.get_evRecord_ne (h : Hw) (e : EvCode) (time : Nat) (args : Bytes) {f : Fld} (hseq : f.word ≠ 0x782000) (hlost : f.word ≠ 0x782010) :
    (h.evRecord e time args).get f = h.get f := by
  unfold Hw.evRecord
  dsimp only
  split
  · rw [Hw.get_evAppend_ne _ _ _ _ hseq hlost, Hw.get_evAppend_ne _ _ _ _ hseq hlost]
  · exact h.get_evAppend_ne _ _ _ hseq hlost

theorem Hw.get_post_ne (h : Hw) (e : EvCode) (args : List Arg) {f : Fld} (hseq : f.word ≠ 0x782000) (hlost : f.word ≠ 0x782010) :
    (h.post e args).get f = h.get f := by
  unfold Hw.post
  split
  · exact h.get_evRecord_ne _ _ _ hseq hlost
  · rfl

/-! ### The latch of a MARK (R378) -/

/-- The registers once a MARK has latched the pair. -/
def Hw.pairLatched (h : Hw) (cur step : Nat) : Hw :=
  (((h.set F.MARK_STEP step).set F.CHERVIL_STEP ((step + 1) % 2 ^ 32)).set F.MARK_CURSOR cur).set F.BIND_CHECK
    (chervil (bindKey (h.get (F.JOB_KEY 0)) (h.get (F.JOB_KEY 1)) (h.get (F.JOB_KEY 2)) (h.get (F.JOB_KEY 3)) step) cur)

/-- Whether a MARK of a step finds the cursor away from the binding's (R378). -/
def Hw.isSkewed (h : Hw) (step : Nat) : Bool :=
  h.flag F.BIND_EN && h.get F.CURSOR_PER_STEP ≠ 0 && h.get F.DATA_CURSOR ≠ h.cursor ((step + 1) % 2 ^ 32)

/-- How far it finds it away, modulo 2^64. -/
def Hw.skewOf (h : Hw) (step : Nat) : Nat := (h.get F.DATA_CURSOR + 2 ^ 64 - h.cursor ((step + 1) % 2 ^ 32)) % 2 ^ 64

/-- What a MARK that finds a skew of d leaves before it posts its event. -/
def Hw.skewNoted (h : Hw) (d : Nat) : Hw := ((h.set F.SKEWED 1).set F.SKEW_DELTA d).inc F.CURSOR_SKEW_CNT

/-- The latch leaves the fields of the words that it does not write. -/
theorem Hw.get_pairLatched_ne (h : Hw) (cur step : Nat) {f : Fld} (hstep : f.word ≠ 0x700040) (hcur : f.word ≠ 0x700048) (hcheck : f.word ≠ 0x700050) :
    (h.pairLatched cur step).get f = h.get f := by
  rw [Hw.pairLatched, Hw.get_set_ne _ _ _ _ hcheck, Hw.get_set_ne _ _ _ _ hcur, Hw.get_set_ne _ _ _ _ hstep, Hw.get_set_ne _ _ _ _ hstep]

theorem Hw.cursor_pairLatched (h : Hw) (cur step s : Nat) : (h.pairLatched cur step).cursor s = h.cursor s := by
  simp (disch := decide) only [Hw.cursor, Hw.get_pairLatched_ne]

theorem Hw.markLatch_eq (h : Hw) (step : Nat) :
    h.markLatch step =
      if h.isSkewed step then ((h.pairLatched (h.get F.DATA_CURSOR) step).skewNoted (h.skewOf step)).post Ev.evCursorSkew [u32 step, u64 (h.skewOf step)]
      else ((h.pairLatched (h.get F.DATA_CURSOR) step).set F.SKEWED 0).set F.SKEW_DELTA 0 := by
  have hcur := h.cursor_pairLatched (h.get F.DATA_CURSOR) step ((step + 1) % 2 ^ 32)
  have hbind : (h.pairLatched (h.get F.DATA_CURSOR) step).flag F.BIND_EN = h.flag F.BIND_EN := by
    rw [Hw.flag, Hw.get_pairLatched_ne _ _ _ (by decide) (by decide) (by decide), Hw.flag]
  have hper : (h.pairLatched (h.get F.DATA_CURSOR) step).get F.CURSOR_PER_STEP = h.get F.CURSOR_PER_STEP :=
    h.get_pairLatched_ne _ _ (by decide) (by decide) (by decide)
  rw [Hw.isSkewed, Hw.skewOf, ← hcur, ← hbind, ← hper]
  rfl

/-- The pair reads as it was latched, whatever the comparison with the binding adds. -/
theorem Hw.get_markLatch_pair (h : Hw) (step : Nat) {f : Fld} (hf : f.word = 0x700040 ∨ f.word = 0x700048 ∨ f.word = 0x700050) :
    (h.markLatch step).get f = (h.pairLatched (h.get F.DATA_CURSOR) step).get f := by
  have hflag : f.word ≠ F.SKEWED.word := by rcases hf with hw | hw | hw <;> rw [hw] <;> decide
  have hdelta : f.word ≠ F.SKEW_DELTA.word := by rcases hf with hw | hw | hw <;> rw [hw] <;> decide
  have hcount : f.word ≠ F.CURSOR_SKEW_CNT.word := by rcases hf with hw | hw | hw <;> rw [hw] <;> decide
  have hseq : f.word ≠ 0x782000 := by omega
  have hlost : f.word ≠ 0x782010 := by omega
  rw [Hw.markLatch_eq]
  split
  · rw [Hw.get_post_ne _ _ _ hseq hlost, Hw.skewNoted, Hw.get_inc_ne _ _ _ _ hcount, Hw.get_set_ne _ _ _ _ hdelta, Hw.get_set_ne _ _ _ _ hflag]
  · rw [Hw.get_set_ne _ _ _ _ hdelta, Hw.get_set_ne _ _ _ _ hflag]

/-- Without a skew, SKEWED and SKEW_DELTA are 0. -/
theorem Hw.markLatch_of_noSkew {h : Hw} {step : Nat} (hno : h.isSkewed step = false) :
    (h.markLatch step).get F.SKEWED = 0 ∧ (h.markLatch step).get F.SKEW_DELTA = 0 := by
  rw [Hw.markLatch_eq, hno]
  constructor
  · rw [if_neg Bool.false_ne_true, Hw.get_set_ne _ _ _ _ (by decide), Hw.get_set_same _ _ _ (by decide), Nat.zero_mod]
  · rw [if_neg Bool.false_ne_true, Hw.get_set_same _ _ _ (by decide), Nat.zero_mod]

/-- A skew is flagged, measured and counted. -/
theorem Hw.markLatch_of_skew {h : Hw} {step : Nat} (hskew : h.isSkewed step) :
    (h.markLatch step).get F.SKEWED = 1 ∧ (h.markLatch step).get F.SKEW_DELTA = h.skewOf step ∧
    (h.markLatch step).get F.CURSOR_SKEW_CNT = min (h.get F.CURSOR_SKEW_CNT + 1) (2 ^ F.CURSOR_SKEW_CNT.width - 1) := by
  rw [Hw.markLatch_eq, if_pos hskew]
  refine ⟨?_, ?_, ?_⟩ <;> rw [Hw.get_post_ne _ _ _ (by decide) (by decide), Hw.skewNoted]
  · rw [Hw.get_inc_ne _ _ _ _ (by decide), Hw.get_set_ne _ _ _ _ (by decide), Hw.get_set_same _ _ _ (by decide)]
    rfl
  · rw [Hw.get_inc_ne _ _ _ _ (by decide), Hw.get_set_same _ _ _ (by decide)]
    exact Nat.mod_mod _ _
  · rw [Hw.get_inc_same _ _ _ (by decide), Hw.get_set_ne _ _ _ _ (by decide), Hw.get_set_ne _ _ _ _ (by decide),
      Hw.get_pairLatched_ne _ _ _ (by decide) (by decide) (by decide)]

end Sys2Proof.Machine

namespace Sys2Proof.Proofs
open Machine

/-- Settles O44: the distance from STEP_BASE is taken modulo 2^32, which the model counts from above. -/
theorem cursorOfStep : Obligations.CursorOfStep := by
  intro h s _
  exact cursorAt_cast (h.get_lt F.STEP_BASE (by decide))

/-- Settles O45: the pair is latched before the comparison, which writes other words. -/
theorem markLatchesPair : Obligations.MarkLatchesPair := by
  intro h step hstep
  have hnext : (step + 1) % 2 ^ 32 < 2 ^ 32 := Nat.mod_lt _ (by decide)
  refine ⟨?step, ?chervil, ?cursor, ?check, fun hno => ?unbound, fun hbind hper heq => ?equal, fun hbind hper hne => ?skew⟩
  case step =>
    rw [Hw.get_markLatch_pair _ _ (by decide), Hw.pairLatched, Hw.get_set_ne _ _ _ _ (by decide), Hw.get_set_ne _ _ _ _ (by decide),
      Hw.get_set_disjoint _ _ (by decide) (by decide), Hw.get_set_same _ _ _ (by decide)]
    exact Nat.mod_eq_of_lt hstep
  case chervil =>
    rw [Hw.get_markLatch_pair _ _ (by decide), Hw.pairLatched, Hw.get_set_ne _ _ _ _ (by decide), Hw.get_set_ne _ _ _ _ (by decide),
      Hw.get_set_same _ _ _ (by decide)]
    exact Nat.mod_eq_of_lt hnext
  case cursor =>
    rw [Hw.get_markLatch_pair _ _ (by decide), Hw.pairLatched, Hw.get_set_ne _ _ _ _ (by decide), Hw.get_set_same _ _ _ (by decide)]
    exact Nat.mod_eq_of_lt (h.get_lt F.DATA_CURSOR (by decide))
  case check =>
    rw [Hw.get_markLatch_pair _ _ (by decide), Hw.pairLatched, Hw.get_set_same _ _ _ (by decide)]
    rfl
  case unbound =>
    refine Hw.markLatch_of_noSkew ?_
    rcases hno with hbind | hper
    · simp [Hw.isSkewed, hbind]
    · simp [Hw.isSkewed, hper]
  case equal => exact Hw.markLatch_of_noSkew (by simp [-Nat.reducePow, Hw.isSkewed, heq])
  case skew =>
    obtain ⟨hflag, hdelta, hcount⟩ := Hw.markLatch_of_skew (h := h) (step := step) (by simp [-Nat.reducePow, Hw.isSkewed, hbind, hper, hne])
    exact ⟨hflag, by rw [hdelta]; exact distance_cast (Nat.le_of_lt (cursorAt_lt ..)), hcount⟩

end Sys2Proof.Proofs
end

section
/-!
PROOFS. Event records (13_firmware_interface.md): the layout of their 32 bytes (R458).
-/

namespace Sys2Proof.Machine

/-- A number is read back from the bytes it was written to. -/
theorem fieldLE_natLE_append {n v : Nat} (r : Bytes) (hv : v < 256 ^ n) : fieldLE (natLE n v ++ r) 0 n = v := by
  rw [fieldLE_append_left (by simp), fieldLE, List.drop_zero, List.take_of_length_le (by simp), leNat_natLE, Nat.mod_eq_of_lt hv]

/-- A field behind a written number. -/
theorem fieldLE_natLE_skip (k v o n : Nat) (r : Bytes) : fieldLE (natLE k v ++ r) (k + o) n = fieldLE r o n := by
  rw [fieldLE_append_right (by simp), length_natLE, Nat.add_sub_cancel_left]

theorem padTo_of_le {n : Nat} {b : Bytes} (h : b.length ≤ n) : padTo n b = b ++ List.replicate (n - b.length) 0 := by
  rw [padTo, List.take_of_length_le]
  simp only [List.length_append, List.length_replicate]
  omega

@[simp] theorem length_padTo (n : Nat) (b : Bytes) : (padTo n b).length = n := by
  simp only [padTo, List.length_take, List.length_append, List.length_replicate]
  omega

/-- The fields of a record from the first to the last. -/
theorem EvRec.bytes_eq (e : EvRec) :
    e.bytes = natLE 2 e.code ++ (natLE 1 e.sev ++ (natLE 1 0 ++ (natLE 4 e.seq ++ (natLE 8 e.time ++ padTo 16 e.args)))) := by
  simp [EvRec.bytes, natLE]

@[simp] theorem EvRec.length_bytes (e : EvRec) : e.bytes.length = 32 := by simp [EvRec.bytes]

theorem EvRec.drop_bytes (e : EvRec) : e.bytes.drop 16 = padTo 16 e.args := by
  rw [EvRec.bytes, List.drop_left' (by simp)]

end Sys2Proof.Machine

namespace Sys2Proof.Proofs
open Machine

/-- Settles O53: each field is read behind the numbers written before it. -/
theorem eventRecordLayout : Obligations.EventRecordLayout := by
  intro e hcode hsev hseq htime hargs
  refine ⟨e.length_bytes, ?code, ?sev, ?reserved, ?seq, ?time, ?args⟩
  case args => rw [e.drop_bytes, padTo_of_le hargs, List.take_left]
  all_goals rw [EvRec.bytes_eq]
  case code => exact fieldLE_natLE_append _ hcode
  case sev => rw [fieldLE_natLE_skip 2 _ 0, fieldLE_natLE_append _ hsev]
  case reserved => rw [fieldLE_natLE_skip 2 _ 1, fieldLE_natLE_skip 1 _ 0, fieldLE_natLE_append _ (by decide)]
  case seq => rw [fieldLE_natLE_skip 2 _ 2, fieldLE_natLE_skip 1 _ 1, fieldLE_natLE_skip 1 _ 0, fieldLE_natLE_append _ hseq]
  case time =>
    rw [fieldLE_natLE_skip 2 _ 6, fieldLE_natLE_skip 1 _ 5, fieldLE_natLE_skip 1 _ 4, fieldLE_natLE_skip 4 _ 0, fieldLE_natLE_append _ htime]

end Sys2Proof.Proofs
end

section
/-!
PROOFS. Voted words (17_registers_observability.md): the majority of three copies, and which fields are voted (R544).
-/

namespace Sys2Proof.Machine

/-! ### The majority (R544) -/

/-- A bit of a voted word: its first copy's, but where both others differ from it. -/
theorem Hw.getLsbD_word_of_votes {h : Hw} {o : Nat} {a b : Word64} (i : Nat) (hv : h.votes.find? o = some (a, b)) :
    (h.word o).getLsbD i = ((h.raw o).getLsbD i ^^ (a.getLsbD i && b.getLsbD i)) := by
  simp [Hw.word, Hw.vmask, hv]

/-- Of a bit and two copies of it that differ from it or not, the value of two. -/
theorem xor_and_eq_majority (x a b : Bool) : (x ^^ (a && b)) = if x = (x ^^ a) then x else if x = (x ^^ b) then x else x ^^ a := by
  revert x a b
  decide

/-! ### The fields of the rule's table (R544) -/

/-- A field of the table of R544. -/
def Fld.IsVoted (f : Fld) : Prop :=
  f = F.STAGE_RES ∨ (∃ k < 16, f = F.STK_MAPOUT k) ∨ f = F.MMU_ROOT ∨ f = F.CSA_BASE ∨ (∃ l < 64, f = F.LINK_EN l) ∨ f = F.LINING_FRAC ∨
    f = F.GBL_PROFILE ∨ f = F.ARRAY_DIV ∨ f = F.VEC_DIV ∨ f = F.CAP_DIV ∨ ∃ i < 10, f = F.THRESH_VALUE i

theorem F.STK_MAPOUT_isVoted {k : Nat} (hk : k < 16) : (F.STK_MAPOUT k).IsVoted := Or.inr (Or.inl ⟨k, hk, rfl⟩)

theorem F.LINK_EN_isVoted {l : Nat} (hl : l < 64) : (F.LINK_EN l).IsVoted := by
  iterate 4 right
  exact Or.inl ⟨l, hl, rfl⟩

theorem F.THRESH_VALUE_isVoted {i : Nat} (hi : i < 10) : (F.THRESH_VALUE i).IsVoted := by
  iterate 10 right
  exact ⟨i, hi, rfl⟩

/-- Every field of the table is voted in its own word. -/
theorem Fld.IsVoted.mem_votedFields {f : Fld} (hf : f.IsVoted) : f ∈ votedFields f.word := by
  rcases hf with rfl | ⟨k, hk, rfl⟩ | rfl | rfl | ⟨l, hl, rfl⟩ | rfl | rfl | rfl | rfl | rfl | ⟨i, hi, rfl⟩
  case inr.inl => revert k; decide
  case inr.inr.inr.inr.inl => revert l; decide
  case inr.inr.inr.inr.inr.inr.inr.inr.inr.inr => revert i; decide
  all_goals decide

/-- A field that is voted in an aligned word is one of the table, in that word. -/
theorem isVoted_of_mem_votedFields {f : Fld} {o : Nat} (ho : o % 8 = 0) (hf : f ∈ votedFields o) : o = f.word ∧ f.IsVoted := by
  unfold votedFields at hf
  split_ifs at hf with hgbl hstage hstack hroot hsave hlink hlining hclock hthresh <;>
    simp only [List.mem_cons, List.not_mem_nil, or_false, Bool.and_eq_true, decide_eq_true_eq] at *
  · subst hgbl hf
    exact ⟨rfl, by simp [Fld.IsVoted]⟩
  · subst hstage hf
    exact ⟨rfl, by simp [Fld.IsVoted]⟩
  · subst hf
    exact ⟨by simp only [Fld.word, F.STK_MAPOUT]; omega, F.STK_MAPOUT_isVoted (by omega)⟩
  · subst hroot hf
    exact ⟨rfl, by simp [Fld.IsVoted]⟩
  · subst hsave hf
    exact ⟨rfl, by simp [Fld.IsVoted]⟩
  · have hfield : f = F.LINK_EN ((o - 0x641000) / 0x1000 * 8 + (o % 0x1000 - 0x400) / 0x80) := by
      rw [hf, F.LINK_EN, Fld.mk.injEq]
      omega
    exact ⟨by simp only [hf, Fld.word]; omega, hfield ▸ F.LINK_EN_isVoted (by omega)⟩
  · subst hlining hf
    exact ⟨rfl, by simp [Fld.IsVoted]⟩
  · subst hclock
    rcases hf with rfl | rfl | rfl <;> exact ⟨rfl, by simp [Fld.IsVoted]⟩
  · rcases hf with hlow | hhigh
    · have hfield : f = F.THRESH_VALUE ((o - 0x800200) / 4) := by
        rw [hlow, F.THRESH_VALUE, Fld.mk.injEq]
        omega
      exact ⟨by simp only [hlow, Fld.word]; omega, hfield ▸ F.THRESH_VALUE_isVoted (by omega)⟩
    · have hfield : f = F.THRESH_VALUE ((o - 0x800200) / 4 + 1) := by
        rw [hhigh, F.THRESH_VALUE, Fld.mk.injEq]
        omega
      exact ⟨by simp only [hhigh, Fld.word]; omega, hfield ▸ F.THRESH_VALUE_isVoted (by omega)⟩

end Sys2Proof.Machine

namespace Sys2Proof.Proofs
open Machine

/-- Settles O51: a word is its first copy with the bits flipped in which both others differ, and the voted fields of a word are those of the table in it. -/
theorem wordIsMajorityOfCopies : Obligations.WordIsMajorityOfCopies := by
  refine ⟨fun h o a b i hv => ?majority, fun h f => rfl, fun f o ho => ⟨isVoted_of_mem_votedFields ho, ?mem⟩⟩
  case majority =>
    simp only [Hw.getLsbD_word_of_votes i hv, BitVec.getLsbD_xor]
    exact xor_and_eq_majority _ _ _
  case mem =>
    rintro ⟨rfl, hf⟩
    exact Fld.IsVoted.mem_votedFields hf

end Sys2Proof.Proofs
end

section
/-!
PROOFS. Configuration writes of an enabled block (17_registers_observability.md): ARRAY_CFG (R541, R542).
-/

namespace Sys2Proof.Machine

/-- A store of no bits leaves every word. -/
theorem Hw.word_putBits_zero (h : Hw) (o : Nat) (w : Word64) (a : Nat) : (h.putBits o 0 w).word a = h.word a := by
  by_cases ha : a = o
  · subst ha
    have hall : ~~~(0 : Word64) = BitVec.allOnes 64 := rfl
    simp only [Hw.putBits, Hw.word, Hw.raw, Hw.vmask, Tab.find_set_same, Tab.find_upd_same, hall, BitVec.and_allOnes, Option.getD_some]
    cases h.votes.find? a <;> simp
  · simp only [Hw.putBits, Hw.word, Hw.raw, Hw.vmask, Tab.find_set_ne _ _ ha, Tab.find_upd_ne _ _ ha]

@[simp] theorem Hw.get_putBits_zero (h : Hw) (o : Nat) (w : Word64) (f : Fld) : (h.putBits o 0 w).get f = h.get f := by
  rw [Hw.get, Hw.get, h.word_putBits_zero]

/-! ### ARRAY_CFG -/

/-- The row of ARRAY_CFG. -/
def arrayCfgRow : RegRow := ⟨0x400000, 1, 0, 1, 0, 4, 0x80000003, 0, 0, 3, 5⟩

theorem piecesOf_arrayCfg : piecesOf .internal 0x400000 4 = some [⟨arrayCfgRow, 0x400000, 2 ^ 32 - 1, 0, 0⟩] := by rfl

/-- A write of a register whose owner is enabled records a change of configuration and stores none (R541, R542). -/
theorem Hw.writeReg_of_owned {h : Hw} {r : RegRow} {b : Nat} (path : Path) (m v : Nat) (hown : h.ownerOn r.own b) (hw1c : r.w1c = 0) :
    let sh := if r.w = 8 then 0 else b % 8 * 8
    let old := regOf r b (h.word (b / 8 * 8))
    let new := old ^^^ ((old ^^^ v) &&& m)
    h.writeReg path r b m v =
      ((if (old ^^^ new) &&& r.cfg &&& m &&& (2 ^ 64 - 1 ^^^ ownBits r b) ≠ 0 then h.weRecord r.own b else h).putBits (b / 8 * 8)
        (BitVec.ofNat 64 (((r.rw ||| r.rt) &&& m &&& (2 ^ 64 - 1 ^^^ (ownBits r b ||| r.cfg))) * 2 ^ sh)) (BitVec.ofNat 64 (new * 2 ^ sh))).regAct
        path r b m v old true := by
  simp only [-Nat.reducePow, Hw.writeReg, hown, hw1c, if_true, Bool.true_and, decide_eq_true_eq]

/-- Whether a value written to ARRAY_CFG would change LONGSUM_POLICY. -/
def Hw.changesPolicy (h : Hw) (v : Nat) : Bool := v % 4 != h.get F.LONGSUM_POLICY

/-- The hardware once a refused change of LONGSUM_POLICY is recorded. -/
def Hw.policyRecorded (h : Hw) (v : Nat) : Hw :=
  if h.changesPolicy v then (h.set F.ARRAY_STATUS_CFG_WHILE_ENABLED 1).inc F.ARRAY_STATUS_CFG_WE_COUNT else h

theorem policy_eq_mod (h : Hw) : h.get F.LONGSUM_POLICY = regOf arrayCfgRow 0x400000 (h.word 0x400000) % 4 := by
  have : h.get F.LONGSUM_POLICY = (h.word 0x400000).toNat % 4 := by
    show ((h.word 0x400000 &&& 3#64) >>> 0).toNat = _
    rw [BitVec.ushiftRight_zero, BitVec.toNat_and]
    exact Nat.and_two_pow_sub_one_eq_mod _ 2
  rw [this]
  simp [regOf, arrayCfgRow]

/-- The bits of LONGSUM_POLICY in which a register and a value written to it differ. -/
theorem policyBits_ne_zero_iff (old v : Nat) :
    (old ^^^ (old ^^^ ((old ^^^ v) &&& (2 ^ 32 - 1)))) &&& 3 &&& (2 ^ 32 - 1) &&& (2 ^ 64 - 1 ^^^ 0x80000000) ≠ 0 ↔ v % 4 ≠ old % 4 := by
  have hmask : (old ^^^ (old ^^^ ((old ^^^ v) &&& (2 ^ 32 - 1)))) &&& 3 &&& (2 ^ 32 - 1) &&& (2 ^ 64 - 1 ^^^ 0x80000000) = (old ^^^ v) % 2 ^ 2 := by
    rw [← Nat.xor_assoc, Nat.xor_self, Nat.zero_xor, ← Nat.and_two_pow_sub_one_eq_mod]
    simp only [Nat.and_assoc]
    rfl
  rw [hmask, Nat.xor_mod_two_pow, ne_eq, Nat.xor_eq_zero_iff, eq_comm]


/-- A write of ARRAY_CFG while its block is enabled records a refused change and writes ENABLE. -/
theorem Hw.writeReg_arrayCfg {h : Hw} (v : Nat) (hen : h.flag F.ARRAY_CFG_ENABLE) :
    ∃ w, h.writeReg .internal arrayCfgRow 0x400000 (2 ^ 32 - 1) v = ((h.policyRecorded v).putBits 0x400000 0 w).blockSet 5 (bitOf v 31) := by
  have hskip : ownBits arrayCfgRow 0x400000 = 0x80000000 := by decide
  have hact : ∀ (t : Hw) (old : Nat), t.regAct .internal arrayCfgRow 0x400000 (2 ^ 32 - 1) v old true = t.blockSet 5 (bitOf v 31) := fun _ _ => rfl
  have hown : h.ownerOn arrayCfgRow.own 0x400000 := hen
  have hword : 0x400000 / 8 * 8 = 0x400000 := rfl
  have hcfg : arrayCfgRow.cfg = 3 := rfl
  have hrec : h.policyRecorded v = if h.changesPolicy v then h.weRecord arrayCfgRow.own 0x400000 else h := rfl
  rw [Hw.writeReg_of_owned .internal _ _ hown rfl, hrec, Hw.changesPolicy, policy_eq_mod]
  simp only [-Nat.reducePow, hskip, hact, hword, hcfg, policyBits_ne_zero_iff, bne_iff_ne]
  exact ⟨_, rfl⟩

/-! ### What the record and ENABLE leave of the block's fields -/

theorem Hw.blockSet_array {h : Hw} (on : Bool) (hen : h.flag F.ARRAY_CFG_ENABLE) : h.blockSet 5 on = h.setB F.ARRAY_CFG_ENABLE on := by
  cases on with
  | true => rfl
  | false =>
    have hoff : ¬ (!h.flag (enableOf 5)) = true := by
      rw [show enableOf 5 = F.ARRAY_CFG_ENABLE from rfl, hen]
      decide
    exact if_neg hoff

/-- A record leaves every field of the word that shares no bit with the two that it writes. -/
theorem Hw.get_policyRecorded (h : Hw) (v : Nat) {g : Fld} (hw : g.word = 0x400000) (hset : g.mask &&& F.ARRAY_STATUS_CFG_WHILE_ENABLED.mask = 0)
    (hcount : g.mask &&& F.ARRAY_STATUS_CFG_WE_COUNT.mask = 0) : (h.policyRecorded v).get g = h.get g := by
  unfold Hw.policyRecorded
  split
  · rw [Hw.inc, Hw.get_set_disjoint _ _ hw hcount, Hw.get_set_disjoint _ _ hw hset]
  · rfl

/-- What the record of a refused change writes. -/
theorem Hw.policyRecorded_of_changes {h : Hw} {v : Nat} (hv : v % 4 ≠ h.get F.LONGSUM_POLICY) :
    (h.policyRecorded v).get F.ARRAY_STATUS_CFG_WHILE_ENABLED = 1 ∧
    (h.policyRecorded v).get F.ARRAY_STATUS_CFG_WE_COUNT = min (h.get F.ARRAY_STATUS_CFG_WE_COUNT + 1) 0xFFFF := by
  have hbit : F.ARRAY_STATUS_CFG_WHILE_ENABLED.mask &&& F.ARRAY_STATUS_CFG_WE_COUNT.mask = 0 := by decide
  have hcount : F.ARRAY_STATUS_CFG_WE_COUNT.mask &&& F.ARRAY_STATUS_CFG_WHILE_ENABLED.mask = 0 := by decide
  rw [Hw.policyRecorded, Hw.changesPolicy, if_pos (bne_iff_ne.2 hv)]
  constructor
  · rw [Hw.inc, Hw.get_set_disjoint _ _ (by rfl) hbit, Hw.get_set_same _ _ _ (by decide)]
    rfl
  · rw [Hw.get_inc_same _ _ _ (by decide), Hw.get_set_disjoint _ _ (by rfl) hcount]
    rfl

theorem Hw.policyRecorded_of_same {h : Hw} {v : Nat} (hv : v % 4 = h.get F.LONGSUM_POLICY) : h.policyRecorded v = h :=
  if_neg (by simpa [Hw.changesPolicy] using hv)

/-- The 4 bytes written say the same of LONGSUM_POLICY and ENABLE as the value. -/
theorem Hw.policyRecorded_mod (h : Hw) (v : Nat) : h.policyRecorded (v % 2 ^ 32) = h.policyRecorded v := by
  rw [Hw.policyRecorded, Hw.policyRecorded, Hw.changesPolicy, Hw.changesPolicy, Nat.mod_mod_of_dvd _ (by decide)]

theorem bitOf_mod (v : Nat) : bitOf (v % 2 ^ 32) 31 = bitOf v 31 := by
  rw [bitOf, bitOf, decide_eq_decide]
  omega

/-- A write of ARRAY_CFG while ENABLE reads 1: the record of a refused change, a store of no bits, and ENABLE. -/
theorem Hw.regWrite_arrayCfg {h : Hw} (v : Nat) (hen : h.flag F.ARRAY_CFG_ENABLE) :
    ∃ w, h.regWrite .internal 0x400000 4 v =
      ((((h.takeLatch .internal).1.policyRecorded v).putBits 0x400000 0 w).setB F.ARRAY_CFG_ENABLE (bitOf v 31), true) := by
  have hgo : h.regWrite .internal 0x400000 4 v =
      ((h.takeLatch .internal).1.writeReg .internal arrayCfgRow 0x400000 (2 ^ 32 - 1) (v % 2 ^ 32), true) := by
    simp [-Nat.reducePow, Hw.regWrite, piecesOf_arrayCfg, arrayCfgRow]
  obtain ⟨w, hw⟩ := Hw.writeReg_arrayCfg (h := (h.takeLatch .internal).1) (v % 2 ^ 32) hen
  refine ⟨w, hgo.trans ?_⟩
  rw [hw, Hw.policyRecorded_mod, bitOf_mod, Hw.blockSet_array]
  rw [Hw.flag, Hw.get_putBits_zero, Hw.get_policyRecorded _ _ rfl (by decide) (by decide)]
  exact hen

end Sys2Proof.Machine

namespace Sys2Proof.Proofs
open Machine

/-- Settles O55: the write records a refused change, stores nothing of the configuration and writes ENABLE, three fields of one word that share no bit. -/
theorem enabledBlockKeepsConfiguration : Obligations.EnabledBlockKeepsConfiguration := by
  intro h v hen
  obtain ⟨w, hw⟩ := Hw.regWrite_arrayCfg v hen
  have hkept : ∀ g : Fld, g.word = 0x400000 → g.mask &&& F.ARRAY_CFG_ENABLE.mask = 0 →
      (h.regWrite .internal 0x400000 4 v).1.get g = ((h.takeLatch .internal).1.policyRecorded v).get g := by
    intro g hg hd
    rw [hw, Hw.setB, Hw.get_set_disjoint _ _ hg hd, Hw.get_putBits_zero]
  refine ⟨by rw [hw], ?policy, ?enable, fun hv => ?changed, fun hv => ?same⟩
  case policy => exact (hkept _ rfl (by decide)).trans (Hw.get_policyRecorded _ _ rfl (by decide) (by decide))
  case enable =>
    rw [hw, Hw.setB, Hw.get_set_same _ _ _ (by decide), bitOf]
    rcases Nat.mod_two_eq_zero_or_one (v / 2 ^ 31) with hbit | hbit <;> rw [hbit] <;> rfl
  case changed =>
    obtain ⟨hset, hcount⟩ := Hw.policyRecorded_of_changes (h := (h.takeLatch .internal).1) hv
    exact ⟨(hkept _ rfl (by decide)).trans hset, (hkept _ rfl (by decide)).trans hcount⟩
  case same =>
    have hrec : (h.takeLatch .internal).1.policyRecorded v = (h.takeLatch .internal).1 := Hw.policyRecorded_of_same hv
    exact ⟨(hkept _ rfl (by decide)).trans (by rw [hrec]; rfl), (hkept _ rfl (by decide)).trans (by rw [hrec]; rfl)⟩

end Sys2Proof.Proofs
end

section
/-!
PROOFS. The DEVICE, POWER and JOB groups (13_firmware_interface.md): R441, R442, R444 to R446, R562.
-/

namespace Sys2Proof.Machine

/-! ### A command that no check refuses -/

/-- A command none of whose refusals applies carries on. -/
theorem Hw.checked_of_clear {h : Hw} {l : List (Bool × Nat)} {k : Hw → Done} (hl : l.all (fun x => !x.1)) : h.checked l k = k h := by
  induction l with
  | nil => rfl
  | cons x l ih =>
    rw [List.all_cons, Bool.and_eq_true, Bool.not_eq_true'] at hl
    rw [Hw.checked_cons_of_false hl.1, ih hl.2]

/-! ### DEVICE (R441, R442) -/

theorem cmdDevReset_part {h : Hw} {ch : Nat} (hch : ch < 4) :
    cmdDevReset h ch [0] [] = ({ h with mb := { h.mb with partReset := true, hostOff := true } } : Hw).ok := by
  rw [cmdDevReset, Hw.checked_of_clear]
  · rfl
  · simp [hch]

theorem cmdDevReset_job (h : Hw) (ch : Nat) :
    cmdDevReset h ch [1] [] = (h.newOp.1.quiesceStart jobBlocks 1 true h.mb.nextOp).okOp h.mb.nextOp := rfl

theorem cmdDevWriteIn_of_fits (h : Hw) (ch : Nat) {off n : Nat} (d : Bytes) (hpos : 0 < n) (hn : n ≤ 232) (hfits : off + n ≤ 32768) :
    cmdDevWriteIn h ch [off, n, 0] d =
      (h.updChan ch (fun k => { k with inp := if off = 0 then d else padTo off k.inp ++ d ++ k.inp.drop (off + n) })).ok := by
  rw [cmdDevWriteIn, Hw.checked_of_clear]
  simp [Nat.ne_of_gt hpos, hn, hfits]

theorem cmdDevReadOut_of_le {h : Hw} {ch off : Nat} (hne : (h.chan ch).outp ≠ []) (hoff : off ≤ (h.chan ch).outp.length) :
    cmdDevReadOut h ch [off] [] =
      (h, some ⟨rcOK, pack [u32 (h.chan ch).outp.length, u16 (((h.chan ch).outp.drop off).take 232).length, u16 0] [] ++
        ((h.chan ch).outp.drop off).take 232, 0⟩) := by
  rw [cmdDevReadOut, if_neg (by simpa using hne)]
  exact if_neg (Nat.not_lt.2 hoff)

/-! ### POWER (R444) -/

theorem cmdPwrClockCap_of_rung (h : Hw) (ch : Nat) {v : Nat} (hv : v ∈ rungDivs) : cmdPwrClockCap h ch [v] [] = (h.set F.CAP_DIV v).ok := by
  rw [cmdPwrClockCap, Hw.checked_of_clear]
  · rfl
  · simpa using hv

theorem cmdPwrStandby_of_idle {h : Hw} (ch : Nat) (hctx : h.shut.ctxs = []) (hasync : h.asyncRuns = false) :
    cmdPwrStandby h ch [] [] = ({ h with mb := { h.mb with standby := true, hostOff := true } } : Hw).ok := by
  rw [cmdPwrStandby, Hw.checked_of_clear]
  simp [hctx, hasync]

section Domain
variable {h : Hw} (ch : Nat)

theorem cmdPwrDomain_eyelet_on {e : Nat} (he : e < 8) (hpanel : h.domOn (domPANEL (e / 2))) (hoff : h.domOn (domEYELET e) = false) :
    cmdPwrDomain h ch [6 + e, 1] [] = (h.eyeletUp e).ok := by
  have hdom : h.domOn (6 + e) = false := hoff
  have heye : 6 + e < 14 := by omega
  rw [cmdPwrDomain, Hw.checked_of_clear]
  · simp [hdom, heye]
  · simp [hpanel, heye]
    omega

theorem cmdPwrDomain_eyelet_off {e : Nat} (he : e < 8) (hon : h.domOn (domEYELET e)) (hdark : (List.range 8).all (fun k => h.lkState (8 * e + k) = lsOFF)) :
    cmdPwrDomain h ch [6 + e, 0] [] = (h.eyeletOff e).ok := by
  have hdom : h.domOn (6 + e) = true := hon
  have heye : 6 + e < 14 := by omega
  rw [cmdPwrDomain, Hw.checked_of_clear]
  · simp [hdom, heye]
  · simp [heye]
    exact ⟨by omega, by simpa using hdark⟩

theorem cmdPwrDomain_stack_on {k : Nat} (hk : k < 16) (hpanel : h.domOn (domPANEL (k / 4))) (hoff : h.domOn (domSTACK k) = false) :
    cmdPwrDomain h ch [14 + k, 1] [] = (h.stackUp k []).ok := by
  have hdom : h.domOn (14 + k) = false := hoff
  rw [cmdPwrDomain, Hw.checked_of_clear]
  · simp [hdom]
  · simp [hpanel]
    omega

theorem cmdPwrDomain_stack_off {k : Nat} (hk : k < 16) (hon : h.domOn (domSTACK k)) (hst : h.get (F.STK_STATE k) = 4) :
    cmdPwrDomain h ch [14 + k, 0] [] = (h.stackOff k).ok := by
  have hdom : h.domOn (14 + k) = true := hon
  rw [cmdPwrDomain, Hw.checked_of_clear]
  · simp [hdom]
  · simp [hst]
    omega

end Domain

/-! ### JOB (R445, R446, R562) -/

theorem cmdJobSetKey_of_off {h : Hw} (ch : Nat) (key salt : Nat) (hoff : h.flag F.TRAIN_CFG_ENABLE = false) :
    cmdJobSetKey h ch [key, salt] [] =
      (((((h.set (F.JOB_KEY 0) (elemLE 4 0 key)).set (F.JOB_KEY 1) (elemLE 4 1 key)).set (F.JOB_KEY 2) (elemLE 4 2 key)).set (F.JOB_KEY 3)
        (elemLE 4 3 key)).set F.STREAM_SALT salt).ok := by
  rw [cmdJobSetKey, Hw.checked_of_clear]
  · rfl
  · simp [hoff]

theorem cmdJobSetBinding_of_off {h : Hw} (ch base per cur : Nat) {en : Nat} (hen : en ≤ 1) (hoff : h.flag F.TRAIN_CFG_ENABLE = false) :
    cmdJobSetBinding h ch [base, per, cur, en] [] =
      ((((h.set F.STEP_BASE base).set F.CURSOR_PER_STEP per).set F.CURSOR_BASE cur).set F.BIND_EN en).ok := by
  rw [cmdJobSetBinding, Hw.checked_of_clear]
  · rfl
  · simp [hoff, hen]

/-- Aligned bases below 2^52 of the descriptors, the Tape and the page tables are stored while the Shuttle and translation are off. -/
theorem cmdJobSetBases_of_off {h : Hw} (ch : Nat) {desc tape root : Nat} (hdesc : desc < 2 ^ 52) (htape : tape < 2 ^ 52) (hroot : root < 2 ^ 52)
    (hdescA : desc % 0x10000 = 0) (htapeA : tape % 0x10000 = 0) (hrootA : root % 0x2000 = 0) (hshut : h.flag F.SHUTTLE_CFG_ENABLE = false)
    (hxl : h.flag F.XLATE_CFG_ENABLE = false) :
    cmdJobSetBases h ch [7, 0, desc, tape, root, 0, 0] [] = (((h.set F.DESC_BASE desc).set F.TAPE_BASE tape).set F.MMU_ROOT (root / 0x2000)).ok := by
  rw [cmdJobSetBases, Hw.checked_of_clear]
  · rfl
  · simp [-Nat.reducePow, hshut, hxl, hdescA, htapeA, hrootA, Nat.not_le.2 hdesc, Nat.not_le.2 htape, Nat.not_le.2 hroot]
    decide

theorem cmdJobEnable_of_lt {h : Hw} (ch : Nat) {m : Nat} (hm : m < 2048) (hroot : m.testBit 3 = false ∨ h.get F.MMU_ROOT ≠ 0) :
    cmdJobEnable h ch [m] [] =
      ((List.range 11).foldl (fun h k => if m.testBit k then h.blockOn k else h) h).okWith
        [u32 ((List.range 11).foldl (fun h k => if m.testBit k then h.blockOn k else h) h).blockEn] := by
  rw [cmdJobEnable, Hw.checked_of_clear]
  · rfl
  · rcases hroot with hbit | hroot
    · simp [hm, hbit]
    · simp [hm, hroot]

theorem cmdJobQuiesce_of_none {h : Hw} (ch : Nat) {m mode : Nat} (hm : m < 2048) (hmode : mode ≤ 1) (hnone : h.mb.quiesce = none) {t : Hw}
    (ht : h.newOp.1.quiesceStart m mode false h.mb.nextOp = t) :
    cmdJobQuiesce h ch [m, mode] [] = (t, some ⟨rcOK, pack [u32 t.blockEn] [], h.mb.nextOp⟩) := by
  subst ht
  rw [cmdJobQuiesce, Hw.checked_of_clear]
  · rfl
  · simp [hm, hmode, hnone]

theorem cmdJobTapeGet_of_reach {h : Hw} (ch : Nat) {slot : Nat} (hreach : h.tapeReach slot) :
    cmdJobTapeGet h ch [slot] [] = (h, some ⟨rcOK, h.tapeBytes slot, 0⟩) := by
  simp [cmdJobTapeGet, hreach]

theorem cmdJobTapeSet_of_ok (h : Hw) (ch slot : Nat) {field v : Nat} (hok : tapeFieldOk field v) :
    cmdJobTapeSet h ch [slot, field, v] [] = (h.tapeSoftWrite slot (tapeField (h.tapeBytes slot) field v)).ok := by
  rw [cmdJobTapeSet, Hw.checked_of_clear]
  simp [hok]

end Sys2Proof.Machine

namespace Sys2Proof.Proofs
open Machine

/-- Settles O1: each request runs its command (roino_answers), which no check refuses. -/
theorem deviceCommandsComplete : Obligations.DeviceCommandsComplete := by
  refine ⟨fun s ch seq p htakes => ?identify, fun s ch seq p htakes => ?status, fun s ch seq p htakes hch => ?part, fun s ch seq p htakes => ?job,
    fun s ch seq off n p d htakes hpos hn hfits => ?writeIn, fun s ch seq off p htakes hne hoff => ?readOut⟩
  case identify => exact roino_answers htakes rfl rfl rfl
  case status => exact roino_answers htakes rfl rfl rfl
  case part => exact roino_answers htakes rfl rfl (cmdDevReset_part hch)
  case job => exact roino_answers htakes rfl rfl (cmdDevReset_job _ ch)
  case writeIn => exact roino_answers htakes rfl rfl (cmdDevWriteIn_of_fits _ ch _ hpos hn hfits)
  case readOut => exact roino_answers htakes rfl rfl (cmdDevReadOut_of_le hne hoff)

/-- Settles O3: each request runs its command, which no check refuses. -/
theorem powerCommandsComplete : Obligations.PowerCommandsComplete := by
  refine ⟨fun s ch seq p htakes => ?status, fun s ch seq v p htakes hv => ?cap, fun s ch seq p htakes hctx hasync => ?standby,
    fun s ch seq e p htakes he hpanel hoff => ?eyeletOn, fun s ch seq e p htakes he hon hdark => ?eyeletOff,
    fun s ch seq k p htakes hk hpanel hoff => ?stackOn, fun s ch seq k p htakes hk hon hst => ?stackOff⟩
  case status => exact roino_answers htakes rfl rfl rfl
  case cap => exact roino_answers htakes rfl rfl (cmdPwrClockCap_of_rung _ ch hv)
  case standby => exact roino_answers htakes rfl rfl (cmdPwrStandby_of_idle ch hctx hasync)
  case eyeletOn => exact roino_answers htakes rfl rfl (cmdPwrDomain_eyelet_on ch he hpanel hoff)
  case eyeletOff => exact roino_answers htakes rfl rfl (cmdPwrDomain_eyelet_off ch he hon hdark)
  case stackOn => exact roino_answers htakes rfl rfl (cmdPwrDomain_stack_on ch hk hpanel hoff)
  case stackOff => exact roino_answers htakes rfl rfl (cmdPwrDomain_stack_off ch hk hon hst)

/-- Settles O4: each request runs its command, which no check refuses. -/
theorem jobCommandsComplete : Obligations.JobCommandsComplete := by
  refine ⟨fun s ch seq key salt p htakes hoff => ?key, fun s ch seq base per cur en p htakes hen hoff => ?binding,
    fun s ch seq desc tape root p htakes hdesc htape hroot hdescA htapeA hrootA hshut hxl => ?bases, fun s ch seq m p htakes hm hroot => ?enable,
    fun s ch seq m mode p htakes hm hmode hnone => ?quiesce, fun s ch seq slot p htakes hreach => ?tapeGet,
    fun s ch seq slot field v p htakes hok => ?tapeSet⟩
  case key => exact roino_answers htakes rfl rfl (cmdJobSetKey_of_off ch key salt hoff)
  case binding => exact roino_answers htakes rfl rfl (cmdJobSetBinding_of_off ch base per cur hen hoff)
  case bases => exact roino_answers htakes rfl rfl (cmdJobSetBases_of_off ch hdesc htape hroot hdescA htapeA hrootA hshut hxl)
  case enable => exact roino_answers htakes rfl rfl (cmdJobEnable_of_lt ch hm hroot)
  case quiesce => exact roino_answers htakes rfl rfl (cmdJobQuiesce_of_none ch hm hmode hnone rfl)
  case tapeGet => exact roino_answers htakes rfl rfl (cmdJobTapeGet_of_reach ch hreach)
  case tapeSet => exact roino_answers htakes rfl rfl (cmdJobTapeSet_of_ok _ ch slot hok)

end Sys2Proof.Proofs
end

section
/-!
PROOFS. The IMAGE, TOPO and LINK groups (13_firmware_interface.md): R443, R447, R448, R467, R474 to R476.
-/

namespace Sys2Proof.Machine

/-! ### IMAGE (R443, R467, R474 to R476) -/

theorem cmdImgInfo_of_valid {h : Hw} (ch : Nat) {slot : Nat} (hslot : slot < 3) (hpres : h.slotPresent slot) (hval : h.bundleValid slot) :
    cmdImgInfo h ch [slot] [] = (h, some ⟨rcOK, pack [u8 1, u8 1, u16 0, u32 (h.bundle slot).ver, u32 h.rpmc.svn, u32 (h.bundle slot).length] [] ++
      h.norRead (commitAddr slot + 8) 32, 0⟩) := by
  have hrange : ¬ 3 < slot := by omega
  have hcfg : slot ≠ 3 := by omega
  simp [cmdImgInfo, hrange, hcfg, hpres, hval]

section Slot
variable {h : Hw} (ch : Nat) {slot : Nat}

theorem cmdImgErase_of_unused (hslot : slot = 1 ∨ slot = 2) (hpldm : h.pldmOn slot = false) (hrun : h.sec.comps.all (fun c => c.slot ≠ slot)) :
    cmdImgErase h ch [slot] [] = ({ h with nor := Mem.clear h.nor (bundleBase slot) 0x8000000 } : Hw).ok := by
  rw [cmdImgErase, Hw.checked_of_clear]
  · rfl
  · have hrange : slot ≤ 2 ∧ slot ≠ 0 := by omega
    simp [hpldm, hrange]
    simpa using hrun

theorem cmdImgWrite_of_erased {n off : Nat} (d : Bytes) (hslot : slot = 1 ∨ slot = 2) (hpos : 0 < n) (hn : n ≤ 232) (halign : off % 8 = 0)
    (hfits : off + n ≤ 0x8000000) (hpldm : h.pldmOn slot = false) (herased : (h.norRead (bundleBase slot + off) n).all (· = 0xFF)) :
    cmdImgWrite h ch [slot, 0, n, off] d = (h.norWrite (bundleBase slot + off) d).ok := by
  rw [cmdImgWrite, Hw.checked_of_clear]
  simp [hpldm, Nat.ne_of_gt hpos, hn, halign, hfits]
  exact ⟨hslot, by simpa using herased⟩

theorem cmdImgCommit_of_good {len : Nat} (hslot : slot = 1 ∨ slot = 2) (hpldm : h.pldmOn slot = false) (hcode : h.commitCode slot len = 0)
    (hrec : (h.commitGo slot len).flag F.SEC_RECOVERY = false) :
    cmdImgCommit h ch [slot, 0, len] [] = (h.commitGo slot len).okWith [u32 ((h.commitGo slot len).bundle slot).ver] := by
  rw [cmdImgCommit, Hw.checked_of_clear]
  · simp [hcode, hrec]
  · simpa [hpldm] using hslot

end Slot

theorem cmdImgCfgGet_of_some {h : Hw} (ch : Nat) {k : Nat} {v : Bytes} (hv : h.cfgGet k = some v) :
    cmdImgCfgGet h ch [k] [] = (h, some ⟨rcOK, pack [u16 k, u16 v.length, u32 0] [] ++ v, 0⟩) := by
  simp [cmdImgCfgGet, hv]

theorem cmdImgCfgSet_of_ok {h : Hw} (ch n : Nat) {k : Nat} {d : Bytes} (hkey : (cfgLen k).isSome) (hok : h.cfgOk k d)
    (hgen : h.rpmc.cfgGen ≠ 0xFFFFFFFF) : cmdImgCfgSet h ch [k, n, 0] d = (h.cfgPut k d).ok := by
  rw [cmdImgCfgSet, Hw.checked_of_clear]
  simp [hok, hgen, hkey]

theorem cmdImgCfgDefault_of_key {h : Hw} (ch : Nat) {k : Nat} (hkey : k = 0xFFFF ∨ (cfgLen k).isSome) (hgen : h.rpmc.cfgGen ≠ 0xFFFFFFFF) :
    cmdImgCfgDefault h ch [k] [] = (h.cfgDrop (fun x => k = 0xFFFF || x = k)).ok := by
  rw [cmdImgCfgDefault, Hw.checked_of_clear]
  · rfl
  · simpa [hgen] using hkey

/-! ### TOPO (R336, R338, R351, R447) -/

theorem cmdTopoSetCoord_of_fresh {h : Hw} (ch : Nat) {pod board slot : Nat} (hpod : pod ≤ 31) (hboard : board ≤ 63) (hslot : slot ≤ 15)
    (hvalid : h.flag F.TOPO_VALID = false) {t : Hw}
    (ht : (List.range 64).foldl (fun h l => if h.lkState l = lsIDENTIFY || h.lkState l = lsHELD then h.identStart l else h)
      ((((h.set F.TOPO_VALID 1).set F.TOPO_POD pod).set F.TOPO_BOARD board).set F.TOPO_SLOT slot) = t) :
    cmdTopoSetCoord h ch [pod, board, slot] [] = t.okWith [u16 t.myChip] := by
  subst ht
  rw [cmdTopoSetCoord, Hw.checked_of_clear]
  · rw [if_neg (by simp [hvalid])]
  · simp [hpod, hboard, hslot, hvalid]

theorem cmdTopoLoadPlan_of_good {h t : Hw} (ch : Nat) {addr n : Nat} {b : Bytes} (hin : inHbm addr)
    (hmapped : (List.range (n / 4096 + 2)).all (fun i => h.hbmMapped (min (addr + 4096 * i) (addr + n - 1)) 1))
    (hoff : h.flag F.TOPO_CFG_ENABLE = false) (hvalid : h.flag F.TOPO_VALID) (hread : h.readLocal addr n = (t, b, false))
    (hcheck : t.planCheck (parsePlan b) = 0) (hlen : 0x400 + 16 * ((parsePlan b).nRanks + (parsePlan b).nSpares) ≤ n) :
    cmdTopoLoadPlan h ch [addr, n] [] =
      (t.planLoad (parsePlan b), some ⟨rcOK, (parsePlan b).digest ++ natLE 2 ((t.planLoad (parsePlan b)).get F.MY_RANK) ++
        natLE 1 ((t.planLoad (parsePlan b)).get F.IS_SPARE), 0⟩) := by
  rw [cmdTopoLoadPlan, Hw.checked_of_clear]
  · simp [hread, Hw.fuzz, hcheck, Nat.not_lt.2 hlen]
  · simp [hin, hoff, hvalid]
    exact Or.inr (by simpa using hmapped)

theorem cmdTopoPeer_of_find {h : Hw} (ch : Nat) {chip i : Nat} {g : Plan} (hplan : h.topo.plan = some g) (hfind : g.find chip = some i) :
    cmdTopoPeer h ch [chip] [] = h.okWith [u64 (h.get (F.PEER_ENTRY i))] := by
  simp [cmdTopoPeer, hplan, hfind]

/-! ### LINK (R306, R448) -/

theorem cmdLinkStatus_of_lt (h : Hw) (ch : Nat) {l : Nat} (hl : l < 64) :
    cmdLinkStatus h ch [l] [] = h.okWith [u32 (h.linkWord l), u16 (h.get (F.LNK_PEER_CHIP l)), u64 (h.get (F.LNK_LANE_MAP l)),
      u64 (h.get (F.RX_MARGIN l)), u32 (h.get (F.TX_MARGIN l))] := by
  rw [cmdLinkStatus, Hw.checked_of_clear]
  · rfl
  · simp
    omega

theorem cmdLinkLaserFactory_of_dark {h : Hw} (ch : Nat) {e : Nat} (he : e < 8) (hdark : (List.range 8).all (fun k => h.lkState (8 * e + k) = lsOFF))
    (hon : (h.cfgDrop (· = 0x20 + e)).get (F.EYE_STATE e) ≠ 0) :
    cmdLinkLaserFactory h ch [e] [] = ((h.cfgDrop (· = 0x20 + e)).eyeAssign e).ok := by
  rw [cmdLinkLaserFactory, Hw.checked_of_clear]
  · exact congrArg Hw.ok (if_neg hon)
  · simp
    exact ⟨by omega, by simpa using hdark⟩

end Sys2Proof.Machine

namespace Sys2Proof.Proofs
open Machine

/-- Settles O2: each request runs its command, which no check refuses. -/
theorem imageCommandsComplete : Obligations.ImageCommandsComplete := by
  refine ⟨fun s ch seq slot p htakes hslot hpres hval => ?info, fun s ch seq slot p htakes hslot hpldm hrun => ?erase,
    fun s ch seq slot n off p d htakes hslot hpos hn halign hfits hpldm herased => ?write,
    fun s ch seq slot len p htakes hslot hpldm hcode _ hrec => ?commit, fun s ch seq k p v htakes hv => ?cfgGet,
    fun s ch seq k n p d htakes hkey hok hgen => ?cfgSet, fun s ch seq k p htakes hkey hgen => ?cfgDefault⟩
  case info => exact roino_answers htakes rfl rfl (cmdImgInfo_of_valid ch hslot hpres hval)
  case erase => exact roino_answers htakes rfl rfl (cmdImgErase_of_unused ch hslot hpldm hrun)
  case write => exact roino_answers htakes rfl rfl (cmdImgWrite_of_erased ch d hslot hpos hn halign hfits hpldm herased)
  case commit => exact roino_answers htakes rfl rfl (cmdImgCommit_of_good ch hslot hpldm hcode hrec)
  case cfgGet => exact roino_answers htakes rfl rfl (cmdImgCfgGet_of_some ch hv)
  case cfgSet => exact roino_answers htakes rfl rfl (cmdImgCfgSet_of_ok ch n hkey hok hgen)
  case cfgDefault => exact roino_answers htakes rfl rfl (cmdImgCfgDefault_of_key ch hkey hgen)

/-- Settles O5: each request runs its command, which no check refuses. -/
theorem topologyCommandsComplete : Obligations.TopologyCommandsComplete := by
  refine ⟨fun s ch seq pod board slot p htakes hpod hboard hslot hvalid => ?coord,
    fun s ch seq addr n p b h htakes _ hin hmapped hoff hvalid hread hcheck hlen => ?plan, fun s ch seq p htakes => ?status,
    fun s ch seq chip i p g htakes hplan hfind => ?peer, fun s ch seq mask en p htakes => ?enable, fun s ch seq l p htakes hl => ?linkStatus,
    fun s ch seq e p htakes he hdark hon => ?laser⟩
  case coord => exact roino_answers htakes rfl rfl (cmdTopoSetCoord_of_fresh ch hpod hboard hslot hvalid rfl)
  case plan => exact roino_answers htakes rfl rfl (cmdTopoLoadPlan_of_good ch hin hmapped hoff hvalid hread hcheck hlen)
  case status => exact roino_answers htakes rfl rfl rfl
  case peer => exact roino_answers htakes rfl rfl (cmdTopoPeer_of_find ch hplan hfind)
  case enable => exact roino_answers htakes rfl rfl rfl
  case linkStatus => exact roino_answers htakes rfl rfl (cmdLinkStatus_of_lt _ ch hl)
  case laser => exact roino_answers htakes rfl rfl (cmdLinkLaserFactory_of_dark ch he hdark hon)

end Sys2Proof.Proofs
end

section
/-!
PROOFS. The MEM group on channels, stacks and regions (13_firmware_interface.md, 06_memory): R249 to R257, R449 to R451.
-/

namespace Sys2Proof.Machine

/-! ### Channels and stacks (R249 to R257) -/

section Channel
variable {h : Hw} (ch : Nat) {k c : Nat}

theorem cmdMemRetrain_of_online (hk : k < 16) (hc : c < 32) (hidle : h.retrainRuns k c = false) (hon : h.chOnline k c) :
    cmdMemRetrain h ch [k, c] [] = (h.newOp.1.retrainTrigger k c h.mb.nextOp).okOp h.mb.nextOp := by
  rw [cmdMemRetrain, Hw.checked_of_clear]
  · rfl
  · simp [hidle, hon]
    omega

/-- A scan of a parameter of a channel (not VDDQ) starts where no scan of its stack runs. -/
theorem cmdMemMargin_of_online {m f l : Nat} (hk : k < 16) (hc : c < 32) (hm : m < 3) (hfirst : (marginRange m).1 ≤ s8 f)
    (hlast : s8 l ≤ (marginRange m).2) (hle : s8 f ≤ s8 l) (hidle : h.hbm.scans.all (fun x => x.stack ≠ k)) (hon : h.chOnline k c) {t : Hw}
    (ht : h.newOp.1 = t) :
    cmdMemMargin h ch [k, c, m, 0, f, l] [] =
      ({ t with hbm := { t.hbm with scans := t.hbm.scans ++
        [⟨k, c, m, (List.range (s8 l - s8 f + 1).toNat).map (fun (i : Nat) => s8 f + (i : Int)), [], h.mb.nextOp⟩] } } : Hw).okOp h.mb.nextOp := by
  subst ht
  rw [cmdMemMargin, Hw.checked_of_clear]
  · rfl
  · have hidle' : ∀ x ∈ h.hbm.scans, ¬ x.stack = k := by simpa using hidle
    have hstart : ∀ x ∈ h.hbm.scans, x.stack = k → ¬ x.ch = c ∧ ¬ x.param = 3 ∧ ¬ m = 3 := fun x hx hs => absurd hs (hidle' x hx)
    have hvddq : m ≠ 3 := by omega
    simp [hon, hfirst, hlast, hle, hvddq, show k ≤ 15 by omega, show c ≤ 31 by omega, show m ≤ 3 by omega]
    simpa [hvddq] using hstart

theorem cmdMemMarginResult_of_done {i : Nat} {x : Scan} {off : Int} {lanes : List Nat} (hk : k < 16) (hc : c < 32)
    (hscan : h.hbm.scanRes.find? (fun x => x.stack = k && x.ch = c) = some x) (hdone : x.done[i]? = some (off, lanes)) :
    cmdMemMarginResult h ch [k, c, i] [] = h.okWith ([u8 (twos 8 off), u8 x.param] ++ lanes.map u16) := by
  rw [cmdMemMarginResult, Hw.checked_of_clear]
  · simp [hscan, hdone]
  · simp
    omega

theorem cmdMemStackState_of_change {st : Nat} (hk : k < 16) (hst : (st = 4 ∧ h.get (F.STK_STATE k) = 2 ∧ h.stackUsed k = false) ∨
      (st = 2 ∧ h.get (F.STK_STATE k) = 4 ∧ h.hbm.scans.all (fun x => !(x.stack = k && x.param = 3)))) :
    cmdMemStackState h ch [k, st] [] = (h.set (F.STK_STATE k) st).ok := by
  rw [cmdMemStackState, Hw.checked_of_clear]
  · rfl
  · have hk' : k ≤ 15 := by omega
    rcases hst with ⟨rfl, hnow, hfree⟩ | ⟨rfl, hnow, hscan⟩
    · simp [hk', hnow, hfree]
    · have hfree : ∀ x ∈ h.hbm.scans, ¬ x.stack = k ∨ ¬ x.param = 3 := by simpa using hscan
      simp [hk', hnow]
      exact fun x hx hstack => (hfree x hx).resolve_left (not_not.2 hstack)

theorem cmdMemMapout_of_clear (hk : k < 16) (hc : c < 32) (hidle : h.hbm.mapout.find? k = none) (hcode : h.mapoutRefusal k c = 0) :
    cmdMemMapout h ch [k, c] [] = (h.newOp.1.mapoutStart k c h.mb.nextOp).okOp h.mb.nextOp := by
  rw [cmdMemMapout, Hw.checked_of_clear]
  · simp [hcode]
    rfl
  · simp [hidle]
    omega

theorem cmdMemMapoutClear_of_offline (hk : k < 16) (hst : h.get (F.STK_STATE k) = 4) :
    cmdMemMapoutClear h ch [k] [] = (h.cfgDrop (· = 0x10 + k)).ok := by
  rw [cmdMemMapoutClear, Hw.checked_of_clear]
  · rfl
  · simp [hst]
    omega

end Channel

/-! ### Regions (R450) -/

theorem cmdMemRegion_give {h t : Hw} (ch : Nat) {k n b : Nat} (hk : k < 16) (hpos : 0 < n) (halign : n % 0x10000 = 0)
    (halloc : h.allocRegion (some k) n = (t, some b)) : cmdMemRegion h ch [0, k, n] [] = t.okWith [u64 b] := by
  have hstack : k ≠ 0x1F := by omega
  rw [cmdMemRegion, Hw.checked_of_clear]
  · simp [hstack, halloc]
  · simp [halign]
    omega

theorem cmdMemRegion_free {h : Hw} (ch : Nat) {k v r : Nat} (hk : k < 16)
    (hfind : (List.range 1024).find? (fun r => h.get (F.REG_SIZE r) ≠ 0 && h.get (F.REG_BASE r) = v) = some r) :
    cmdMemRegion h ch [1, k, v] [] = ((h.set (F.REG_SIZE r) 0).set (F.REG_BASE r) 0).okWith [u64 v] := by
  rw [cmdMemRegion, Hw.checked_of_clear]
  · rw [if_neg (by decide), hfind]
  · simp
    omega

end Sys2Proof.Machine

namespace Sys2Proof.Proofs
open Machine

/-- Settles O6: each request runs its command, which no check refuses. -/
theorem stackCommandsComplete : Obligations.StackCommandsComplete := by
  refine ⟨fun s ch seq k c p htakes hk hc hidle hon => ?retrain,
    fun s ch seq k c m f l p htakes hk hc hm hfirst hlast hle hidle hon => ?margin,
    fun s ch seq k c i p x off lanes htakes hk hc hscan hdone => ?result, fun s ch seq k st p htakes hk hst => ?stackState,
    fun s ch seq k c p htakes hk hc hidle hcode => ?mapout, fun s ch seq k p htakes hk hst => ?mapoutClear,
    fun s ch seq k n b p t htakes hk hpos halign halloc => ?give, fun s ch seq k v r p htakes hk hfind => ?free⟩
  case retrain => exact roino_answers htakes rfl rfl (cmdMemRetrain_of_online ch hk hc hidle hon)
  case margin => exact roino_answers htakes rfl rfl (cmdMemMargin_of_online ch hk hc hm hfirst hlast hle hidle hon rfl)
  case result => exact roino_answers htakes rfl rfl (cmdMemMarginResult_of_done ch hk hc hscan hdone)
  case stackState => exact roino_answers htakes rfl rfl (cmdMemStackState_of_change ch hk hst)
  case mapout => exact roino_answers htakes rfl rfl (cmdMemMapout_of_clear ch hk hc hidle hcode)
  case mapoutClear => exact roino_answers htakes rfl rfl (cmdMemMapoutClear_of_offline ch hk hst)
  case give => exact roino_answers htakes rfl rfl (cmdMemRegion_give ch hk hpos halign halloc)
  case free => exact roino_answers htakes rfl rfl (cmdMemRegion_free ch hk hfind)

end Sys2Proof.Proofs
end

section
/-!
PROOFS. The QUEUE and SNAP groups (13_firmware_interface.md, 12_resilience.md): R397, R398, R410, R451 to R453, R564.
-/

namespace Sys2Proof.Machine

/-! ### QUEUE (R451, R564) -/

section Ctx
variable {h : Hw} (ch : Nat) {c : Nat}

theorem cmdQCtxCtl_preempt (hc : c < 512) (hst : h.ctxState c ≠ 0) (hcsa : h.get F.CSA_BASE ≠ 0) :
    cmdQCtxCtl h ch [c, 1] [] = (h.preempt c).okWith [u8 ((h.preempt c).ctxState c)] := by
  rw [cmdQCtxCtl, Hw.checked_of_clear]
  · rfl
  · simp [hst, hcsa, hc]

theorem cmdQCtxCtl_resume (hc : c < 512) (hst : h.ctxState c = 5) :
    cmdQCtxCtl h ch [c, 2] [] = (h.resume c).okWith [u8 ((h.resume c).ctxState c)] := by
  rw [cmdQCtxCtl, Hw.checked_of_clear]
  · rfl
  · simp [hst, hc]

theorem cmdQCtxCtl_cancel (hc : c < 512) (hst : h.ctxState c ≠ 0) :
    cmdQCtxCtl h ch [c, 3] [] = (h.cancelCtx c).okWith [u8 ((h.cancelCtx c).ctxState c)] := by
  rw [cmdQCtxCtl, Hw.checked_of_clear]
  · rfl
  · simp [hst, hc]

end Ctx

section Queue
variable {h : Hw} (ch : Nat) {q : Nat}

theorem cmdQQueueCtl_stop (hq : q < 64) : cmdQQueueCtl h ch [q, 1] [] = (h.queueStop q).okWith [u16 (h.qCtxs q)] := by
  rw [cmdQQueueCtl, Hw.checked_of_clear]
  · rfl
  · simp [hq]

theorem cmdQQueueCtl_preempt (hq : q < 64) (hcsa : h.get F.CSA_BASE ≠ 0) :
    cmdQQueueCtl h ch [q, 2] [] =
      ((h.ctxsOf q (fun x => x.st == .running)).foldl Hw.preempt h).okWith [u16 (h.ctxsOf q (fun x => x.st == .running)).length] := by
  rw [cmdQQueueCtl, Hw.checked_of_clear]
  · rfl
  · simp [hq, hcsa]

theorem cmdQQueueCtl_resume (hq : q < 64) :
    cmdQQueueCtl h ch [q, 3] [] = ((h.ctxsOf q (fun x => x.st == .preempted && x.io = 0)).foldl Hw.resume h).okWith
      [u16 (h.ctxsOf q (fun x => x.st == .preempted && x.io = 0)).length] := by
  rw [cmdQQueueCtl, Hw.checked_of_clear]
  · rfl
  · simp [hq]

theorem cmdQQueueCtl_cancel (hq : q < 64) :
    cmdQQueueCtl h ch [q, 4] [] = ((h.ctxsOf q Ctx.cancellable).foldl Hw.cancelCtx h).okWith [u16 (h.ctxsOf q Ctx.cancellable).length] := by
  rw [cmdQQueueCtl, Hw.checked_of_clear]
  · rfl
  · simp [hq]

end Queue

/-! ### SNAP: the Lining (R397, R452) -/

section Lining
variable {h : Hw} (ch : Nat)

theorem cmdSnapSetBase_of_off {v : Nat} (halign : v % 8192 = 0) (hv : v < 2 ^ 52) (hoff : h.flag F.BAST_CFG_ENABLE = false) :
    cmdSnapSetBase h ch [v] [] = (h.set F.SET_BASE v).ok := by
  rw [cmdSnapSetBase, Hw.checked_of_clear]
  · rfl
  · simp [-Nat.reducePow, halign, hoff, hv]

theorem cmdSnapLend_of_free {g f : Nat} (hg : g ≤ 32767) (hf : f ≤ 2) (hfree : h.flag F.GUEST_VALID = false)
    (hon : (List.range 16).all (fun k => h.get (F.STK_STATE k) = 2)) (hroom : h.extentsUsed f = false) :
    cmdSnapLend h ch [g, f] [] = (((h.set F.LINING_FRAC f).set F.GUEST_CHIP g).set F.GUEST_VALID 1).ok := by
  rw [cmdSnapLend, Hw.checked_of_clear]
  · rfl
  · simp [hg, hf, hfree, hroom]
    simpa using hon

theorem cmdSnapWithdraw_of_lent (hlent : h.flag F.GUEST_VALID) :
    cmdSnapWithdraw h ch [] [] = ((h.set F.GUEST_VALID 0).set F.SUCC_VALID 0).ok := by
  rw [cmdSnapWithdraw, Hw.checked_of_clear]
  simp [hlent]

theorem cmdSnapSuccessor_of_lent {c : Nat} (hc : c ≤ 32767) (hlent : h.flag F.GUEST_VALID) :
    cmdSnapSuccessor h ch [c] [] = ((h.set F.SUCC_CHIP c).set F.SUCC_VALID 1).ok := by
  rw [cmdSnapSuccessor, Hw.checked_of_clear]
  · rfl
  · simp [hc, hlent]

end Lining

/-! ### SNAP: targets (R398, R407, R453) -/

section Target
variable {h : Hw} (ch : Nat)

/-- A bind to a buddy that can be reached ends as the buddy answers: it lends a Lining to this chip or not, which is open. -/
theorem cmdSnapBindBuddy_of_reach {c f b : Nat} (hc : c ≤ 32767) (hf : f ≤ 2) (hb : ∀ i < 16, elemLE 8 i b < 2 ^ 52) (hcap : h.bast.cap = none)
    (hreach : h.peerReach c) {t : Hw}
    (ht : (List.range 16).foldl (fun h i => h.set (F.BUDDY_BASE i) (elemLE 8 i b)) (((h.set F.BUDDY_VALID 1).set F.BUDDY_CHIP c).set F.BUDDY_FRAC f) = t) :
    cmdSnapBindBuddy h ch [c, f, b] [] = if h.choice 9900 then h.no rcNOTFOUND else ((t.slotRead 0 9901).slotRead 1 9911).ok := by
  subst ht
  have hargs : (decide (32767 < c) || decide (2 < f) || (List.range 16).any (fun i => 2 ^ 52 ≤ elemLE 8 i b)) = false := by
    simpa [-Nat.reducePow, hc, hf] using hb
  rw [cmdSnapBindBuddy, Hw.checked_cons_of_false hargs, Hw.checked_cons_of_false (by simp [hcap])]
  split
  · next hgone => simp [Hw.checked, firstCode, hgone]
  · next hlent =>
    rw [Hw.checked_of_clear]
    simpa [hreach] using hlent

theorem cmdSnapBindNvme_of_region {sq cq dp : Nat} (d1 d2 ns q l0 l1 bl : Nat) (hdp : dp ≤ 16) (hsq : h.inOneRegion sq (64 * 2 ^ dp))
    (hcq : h.inOneRegion cq (16 * 2 ^ dp)) (hcap : h.bast.cap = none) :
    cmdSnapBindNvme h ch [sq, cq, d1, d2, ns, q, dp, l0, l1, bl] [] =
      (((([sq, cq, d1, d2, l0, l1, bl].zipIdx).foldl (fun h x => h.set (F.NVME_WORD x.2) x.1)
        ((((h.set F.NVME_VALID 1).set F.NVME_DEPTH_LOG2 dp).set F.NVME_QID q).set F.NVME_NSID ns)).slotRead 2 9921).slotRead 3 9931).ok := by
  rw [cmdSnapBindNvme, Hw.checked_of_clear]
  simp [hdp, hsq, hcq, hcap]

/-- An unbind of the target that a running capture has aborts the capture. -/
theorem cmdSnapUnbind_of_le {t : Nat} (ht : t ≤ 1) {b : Hw}
    (hb : (match h.bast.cap with
      | some k => if k.nvme = (t == 1) then h.snapAbort 4 else h
      | none => h) = b) :
    cmdSnapUnbind h ch [t] [] = (b.set (if t = 0 then F.BUDDY_VALID else F.NVME_VALID) 0).ok := by
  subst hb
  rw [cmdSnapUnbind, Hw.checked_of_clear]
  · cases h.bast.cap <;> simp
  · simpa using ht

theorem cmdSnapBuddyLost_of_bound (hbound : h.flag F.BUDDY_VALID) : cmdSnapBuddyLost h ch [] [] = h.buddyLost.ok := by
  rw [cmdSnapBuddyLost, Hw.checked_of_clear]
  simp [hbound]

end Target

/-! ### SNAP: restore (R410, R411) -/

/-- The fields of SNAP_RESTORE are in range. -/
def restoreArgsOk (src slot policy mode chip f win b : Nat) : Prop :=
  src ≤ 2 ∧ slot ≤ 2 ∧ policy ≤ 2 ∧ mode ≤ 2 ∧ (win ≤ 4095 ∨ win = 0xFFFF) ∧ (src = 1 → chip ≤ 32767 ∧ f ≤ 2 ∧ ∀ i < 16, elemLE 8 i b < 2 ^ 52)

theorem cmdSnapRestore_of_ok {h : Hw} (ch : Nat) {src slot policy mode chip f win b : Nat} (hargs : restoreArgsOk src slot policy mode chip f win b)
    (hidle : h.bast.restore = none) (hbusy : h.restoreBusy = false) {n t : Hw} (hn : h.newOp.1 = n) {r : Restore}
    (hr : (⟨src, if src = 0 then n.get F.BUDDY_CHIP else chip, slot, if policy = 2 then n.flag F.REALIGN_DEF else decide (policy = 1),
      if win = 0xFFFF then none else some win, mode = 1, mode = 2, h.mb.nextOp⟩ : Restore) = r)
    (ht : (n.set F.RESTORE_STATUS 1).set F.BAST_STATE (if mode = 2 then 5 else 4) = t) :
    cmdSnapRestore h ch [src, slot, policy, mode, chip, f, win, b] [] =
      (if Hw.sourceGone { t with bast := { t.bast with restore := some r } } r
        then Hw.restoreFail { t with bast := { t.bast with restore := some r } } 0x17 0 0
        else { t with bast := { t.bast with restore := some r } } : Hw).okOp h.mb.nextOp := by
  subst hn hr ht
  obtain ⟨hsrc, hslot, hpolicy, hmode, hwin, hremote⟩ := hargs
  rw [cmdSnapRestore, Hw.checked_of_clear]
  · rfl
  · simp [-Nat.reducePow, hidle, hbusy, hsrc, hslot, hpolicy, hmode]
    refine ⟨hwin, or_iff_not_imp_left.2 fun hsrc1 => ?_⟩
    obtain ⟨hchip, hf, hb⟩ := hremote (not_not.1 hsrc1)
    exact ⟨⟨hchip, hf⟩, hb⟩

end Sys2Proof.Machine

namespace Sys2Proof.Proofs
open Machine

/-- Settles O8: each request runs its command, which no check refuses; a bind to a buddy that lends nothing is answered NOT_FOUND. -/
theorem queueAndSnapshotCommandsComplete : Obligations.QueueAndSnapshotCommandsComplete := by
  refine ⟨fun s ch seq c p htakes hc hst hcsa => ?preempt, fun s ch seq c p htakes hc hst => ?resume, fun s ch seq c p htakes hc hst => ?cancel,
    fun s ch seq q p htakes hq => ?stop, fun s ch seq q p htakes hq hcsa => ?preemptAll, fun s ch seq q p htakes hq => ?resumeAll,
    fun s ch seq q p htakes hq => ?cancelAll, fun s ch seq v p htakes halign hv hoff => ?setBase,
    fun s ch seq g f p htakes hg hf hfree hon hroom => ?lend, fun s ch seq p htakes hlent => ?withdraw,
    fun s ch seq c p htakes hc hlent => ?successor, fun s ch seq c f b p htakes hc hf hb hcap hreach => ?bindBuddy,
    fun s ch seq sq cq d1 d2 ns q dp l0 l1 bl p htakes hdp hsq hcq hcap => ?bindNvme, fun s ch seq p htakes => ?slots,
    fun s ch seq t p htakes ht => ?unbind, fun s ch seq p htakes hbound => ?buddyLost,
    fun s ch seq src slot policy mode chip f win b p htakes hsrc hslot hpolicy hmode hwin hremote hidle hbusy => ?restore⟩
  case preempt => exact roino_answers htakes rfl rfl (cmdQCtxCtl_preempt ch hc hst hcsa)
  case resume => exact roino_answers htakes rfl rfl (cmdQCtxCtl_resume ch hc hst)
  case cancel => exact roino_answers htakes rfl rfl (cmdQCtxCtl_cancel ch hc hst)
  case stop => exact roino_answers htakes rfl rfl (cmdQQueueCtl_stop ch hq)
  case preemptAll => exact roino_answers htakes rfl rfl (cmdQQueueCtl_preempt ch hq hcsa)
  case resumeAll => exact roino_answers htakes rfl rfl (cmdQQueueCtl_resume ch hq)
  case cancelAll => exact roino_answers htakes rfl rfl (cmdQQueueCtl_cancel ch hq)
  case setBase => exact roino_answers htakes rfl rfl (cmdSnapSetBase_of_off ch halign hv hoff)
  case lend => exact roino_answers htakes rfl rfl (cmdSnapLend_of_free ch hg hf hfree hon hroom)
  case withdraw => exact roino_answers htakes rfl rfl (cmdSnapWithdraw_of_lent ch hlent)
  case successor => exact roino_answers htakes rfl rfl (cmdSnapSuccessor_of_lent ch hc hlent)
  case bindBuddy =>
    have hbind := cmdSnapBindBuddy_of_reach ch hc hf hb hcap hreach rfl
    split_ifs with hgone
    · exact roino_answers htakes rfl rfl (hbind.trans (if_pos hgone))
    · exact roino_answers htakes rfl rfl (hbind.trans (if_neg hgone))
  case bindNvme =>
    refine roino_answers htakes rfl rfl ?_
    simp only [cmdSH]
    exact cmdSnapBindNvme_of_region ch d1 d2 ns q l0 l1 bl hdp hsq hcq hcap
  case slots => exact roino_answers htakes rfl rfl rfl
  case unbind => exact roino_answers htakes rfl rfl (cmdSnapUnbind_of_le ch ht rfl)
  case buddyLost => exact roino_answers htakes rfl rfl (cmdSnapBuddyLost_of_bound ch hbound)
  case restore =>
    exact roino_answers htakes rfl rfl (cmdSnapRestore_of_ok ch ⟨hsrc, hslot, hpolicy, hmode, hwin, hremote⟩ hidle hbusy rfl rfl rfl)

end Sys2Proof.Proofs
end

section
/-!
PROOFS. The SEC, DIAG, EVENT and SAGE groups (13_firmware_interface.md): R194, R454 to R457, R459, R483, R485, R507, R556.
-/

namespace Sys2Proof.Machine

/-! ### SEC (R454, R483, R485) -/

theorem cmdSecQuote_of_lt {h : Hw} (ch nonce : Nat) {mask : Nat} (hmask : mask < 2 ^ 16) {b : Hw}
    (hb : { h with sec := { h.sec with quotes := h.sec.quotes + 1 } } = b) {q : Bytes}
    (hq : b.quoteBody (natLE 32 nonce) mask ++ (List.range 17088).map (Config.signature (b.quoteBody (natLE 32 nonce) mask)) = q) :
    cmdSecQuote h ch [nonce, mask] [] = (b.updChan ch (fun k => { k with outp := q })).okWith [u32 q.length] := by
  subst hb hq
  rw [cmdSecQuote, Hw.checked_of_clear]
  simpa [-Nat.reducePow] using hmask

/-- A record that enrols a part without owner, signed under its own key and of the next generation, is written to copy 0 where that holds none. -/
theorem cmdSecEnrol_of_new {h : Hw} {ch : Nat} {r : Bytes} (hch : ch < 4) (hr : (h.chan ch).inp.take 8112 = r) (hlen : r.length = 8112)
    (hfmt : recordFormatOk r) (henrol : bitOf (fieldLE r 6 2) 0 = false) (hgen : fieldLE r 8 4 = h.rpmc.ownerGen + 1)
    (hid : slice r 0x10 32 = h.regBytes regIdHash 32) (hnone : h.sec.owner = none) (hsig : recordSigned r) (hcopy : h.ownerCopy 0 = none) {w : Hw}
    (hw : h.norWrite (ownerBase 0) r = w) :
    cmdSecEnrol h ch [8112] [] =
      (({ w with rpmc := { w.rpmc with ownerGen := w.rpmc.ownerGen + 1 }, sec := { w.sec with owner := some (r.take 0x100) } } : Hw).setB
        F.SEC_OWNED true).ok := by
  subst hr hw
  rw [cmdSecEnrol, Hw.checked_of_clear]
  · simp [henrol, hcopy]
  · simp [henrol, hlen, hfmt, hgen, hid, hnone, hsig]
    omega

/-! ### DIAG (R194, R372, R455, R535) -/

theorem cmdDiagChervil_of_le (h : Hw) (ch key salt step mb layer : Nat) {stream : Nat} (elem : Nat) (hstream : stream ≤ 0x7FFFF) :
    cmdDiagChervil h ch [key, salt, step, mb, layer, stream, elem] [] =
      h.okWith [u32 (chervil ⟨elemLE 4 0 key, elemLE 4 1 key, elemLE 4 2 key, elemLE 4 3 key, salt, step, mb, layer, stream⟩ elem)] := by
  rw [cmdDiagChervil, Hw.checked_of_clear]
  simpa using hstream

theorem cmdDiagRegRead_of_some {h t : Hw} (ch : Nat) {off w v : Nat} (hw : w = 4 ∨ w = 8) (hread : h.regRead .diag off w = (t, some v)) :
    cmdDiagRegRead h ch [off, w] [] = t.okWith [u64 v] := by
  rw [cmdDiagRegRead, Hw.checked_of_clear]
  · simp [hread]
  · simpa using hw

theorem cmdDiagRegWrite_of_ok {h t : Hw} (ch : Nat) {off w v : Nat} (hw : w = 8 ∨ (w = 4 ∧ v < 2 ^ 32))
    (hwrite : h.regWrite .diag off w v = (t, true)) : cmdDiagRegWrite h ch [off, w, v] [] = t.ok := by
  rw [cmdDiagRegWrite, Hw.checked_of_clear]
  · simp [hwrite]
  · rcases hw with rfl | ⟨rfl, hv⟩
    · simp
    · simpa [-Nat.reducePow] using hv

theorem cmdDiagEngineMap_of_lt (h : Hw) (ch : Nat) {e : Nat} (he : e < 292) :
    cmdDiagEngineMap h ch [e] [] = h.okWith [u8 (panelOfEngine e), u8 (if e < 192 then 0 else if e < 256 then 1 else if e < 288 then 2 else 3)] := by
  rw [cmdDiagEngineMap, Hw.checked_of_clear]
  · rfl
  · simpa using he

theorem cmdDiagLoopback_of_test {h : Hw} (ch : Nat) {ms : Nat} {g : Plan} (hpos : 0 < ms) (hms : ms ≤ 10000) (hup : h.lkUp 0)
    (hplan : h.topo.plan = some g) (hrole : ((g.links[h.plinkOf 0]?).map (·.role)).getD 0 = 1) :
    cmdDiagLoopback h ch [ms] [] = h.okWith [u64 (h.free 0xB04), u64 (h.free 0xB05)] := by
  have hpos' : ms ≠ 0 := Nat.ne_of_gt hpos
  rw [cmdDiagLoopback, Hw.checked_of_clear]
  simp [hpos', hms, hup, hplan, hrole]

/-! ### EVENT (R456, R459, R556) -/

theorem cmdEvtRing_set {h : Hw} (ch : Nat) {base lg irq : Nat} (hlo : 4 ≤ lg) (hhi : lg ≤ 16) (hirq : irq ≤ 1) (hpos : 0 < base) (hbase : base < 2 ^ 52)
    (hroot : h.mmuRoot ≠ 0) (hmapped : (h.xlateRange noCache .write base (32 * 2 ^ lg)).isOk) {t : Hw}
    (ht : (h.set F.EVT_TAIL 0).set F.EVT_HEAD 0 = t) :
    cmdEvtRing h ch [base, lg, irq] [] =
      ((((({ t with evt := { t.evt with ringNext := t.get F.EVT_SEQ } } : Hw).set F.RING_EN 1).set F.RING_LOG2 lg).set F.EVR_BASE base).set
        F.EVR_IRQ_EN irq).ok := by
  subst ht
  have hpos' : base ≠ 0 := Nat.ne_of_gt hpos
  rw [cmdEvtRing, Hw.checked_of_clear]
  · rw [if_neg hpos']
  · simp [-Nat.reducePow, hlo, hhi, hirq, hbase, hroot, hmapped]

theorem cmdEvtRead_log (h : Hw) (ch from_ : Nat) :
    cmdEvtRead h ch [from_, 0] [] = (h, some ⟨rcOK, evRead h (h.get F.EVT_SEQ) h.evt.log.length from_
      (fun q => ((h.evt.log[(h.get F.EVT_SEQ + 2 ^ 32 - 1 - q) % 2 ^ 32]?).map EvRec.bytes).getD []), 0⟩) := by
  rw [cmdEvtRead, Hw.checked_of_clear]
  · simp [-Nat.reducePow]
  · rfl

theorem cmdEvtFilter_of_le (h : Hw) (ch : Nat) {sub sev : Nat} (mask : Nat) (hsub : sub ≤ 2) (hsev : sev ≤ 4) :
    cmdEvtFilter h ch [sub, sev, mask] [] = ((h.set (F.EVF_MIN_SEV sub) sev).set (F.EVF_CLASS_MASK sub) mask).ok := by
  rw [cmdEvtFilter, Hw.checked_of_clear]
  simp [hsub, hsev]

/-! ### SAGE (R457, R507) -/

/-- A SAGE command that is answered is answered by the relay, with its own response. -/
theorem relayed_of_answer {f : Hw → Nat → List Nat → Bytes → Done} {h t : Hw} {ch : Nat} {a : List Nat} {d : Bytes} {r : Resp}
    (hf : f h ch a d = (t, some r)) : relayed f h ch a d = (t.relay ch r.rc, some r) := by
  rw [relayed, hf]

/-- A request that is executed, whose SAGE command is acknowledged. -/
theorem sage_answers {s : State} {g : Hw → Hw} {op ch seq rc : Nat} {p tail : Bytes} {args : List Nat} {host : Bool} {lay : Lay}
    {f : Hw → Nat → List Nat → Bytes → Done} {t : Hw} {r : Resp} (ht : s.hw.takes op ch seq p args tail = true)
    (hg : g s.hw = effRoino op ch seq p s.hw) (hc : cmdOf op = some (cmdSage host lay f))
    (hr : f (s.hw.asked op ch seq p) ch args tail = (t, some r)) (hrc : r.rc = rc) : s.run g = s.answers ch (t.relay ch rc) r := by
  subst hrc
  exact roino_answers ht hg hc (relayed_of_answer hr)

theorem cmdSageSensors_of_range (h : Hw) (ch : Nat) {f n : Nat} (hf : f ≤ 63) (hpos : 0 < n) (hn : n ≤ 64) (hfits : f + n ≤ 64) :
    cmdSageSensors h ch [f, n] [] = h.okWith ((List.range n).map (fun i => u16 (h.get (F.SENSOR_TEMP (f + i))))) := by
  rw [cmdSageSensors, Hw.checked_of_clear]
  · rfl
  · simp [hf, Nat.ne_of_gt hpos, hn, hfits]

theorem cmdSageSetThresh_of_ok {h : Hw} (ch : Nat) {id v : Nat} (hok : threshOk id v) (horder : threshOrder (fun i => h.get (F.THRESH_VALUE i)) id v) :
    cmdSageSetThresh h ch [id, 0, v] [] = (h.set (F.THRESH_VALUE id) v).ok := by
  rw [cmdSageSetThresh, Hw.checked_of_clear]
  simp [hok, horder]

theorem cmdSageLaser_of_lt (h : Hw) (ch : Nat) {e : Nat} (he : e < 8) :
    cmdSageLaser h ch [e] [] = h.okWith ((List.range 36).map (fun x => u16 (h.get (F.LAS_FADE e x)))) := by
  rw [cmdSageLaser, Hw.checked_of_clear]
  · rfl
  · simp
    omega

end Sys2Proof.Machine

namespace Sys2Proof.Proofs
open Machine

/-- Settles O9: each request runs its command, which no check refuses. -/
theorem securityAndDiagCommandsComplete : Obligations.SecurityAndDiagCommandsComplete := by
  refine ⟨fun s ch seq p htakes => ?getId, fun s ch seq nonce mask p htakes hmask => ?quote,
    fun s ch seq p htakes hch hlen hfmt henrol hgen hid hnone hsig hcopy => ?enrol,
    fun s ch seq key salt step mb layer stream elem p htakes hstream => ?chervil, fun s ch seq off w v p t htakes hw hread => ?regRead,
    fun s ch seq off w v p t htakes hw hwrite => ?regWrite, fun s ch seq e p htakes he => ?engineMap,
    fun s ch seq ms p g htakes hpos hms hup hplan hrole => ?loopback⟩
  case getId => exact roino_answers htakes rfl rfl rfl
  case quote =>
    refine roino_answers htakes rfl rfl ?_
    simp only [cmdSH]
    exact cmdSecQuote_of_lt ch nonce hmask rfl rfl
  case enrol => exact roino_answers htakes rfl rfl (cmdSecEnrol_of_new hch rfl hlen hfmt henrol hgen hid hnone hsig hcopy rfl)
  case chervil => exact roino_answers htakes rfl rfl (cmdDiagChervil_of_le _ ch key salt step mb layer elem hstream)
  case regRead => exact roino_answers htakes rfl rfl (cmdDiagRegRead_of_some ch hw hread)
  case regWrite => exact roino_answers htakes rfl rfl (cmdDiagRegWrite_of_ok ch hw hwrite)
  case engineMap => exact roino_answers htakes rfl rfl (cmdDiagEngineMap_of_lt _ ch he)
  case loopback => exact roino_answers htakes rfl rfl (cmdDiagLoopback_of_test ch hpos hms hup hplan hrole)

/-- Settles O10: each request runs its command, which no check refuses; a SAGE command goes through the relay. -/
theorem eventAndSageCommandsComplete : Obligations.EventAndSageCommandsComplete := by
  refine ⟨fun s ch seq base lg irq p htakes hlo hhi hirq hpos hbase hroot hmapped => ?ring, fun s ch seq from_ p htakes => ?read,
    fun s ch seq sub sev mask p htakes hsub hsev => ?filter, fun s ch seq f n p htakes hf hpos hn hfits => ?sensors, fun s ch seq p htakes => ?pins,
    fun s ch seq id v p htakes hok horder => ?thresh, fun s ch seq e p htakes he => ?laser⟩
  case ring => exact roino_answers htakes rfl rfl (cmdEvtRing_set ch hlo hhi hirq hpos hbase hroot hmapped rfl)
  case read => exact roino_answers htakes rfl rfl (cmdEvtRead_log _ ch from_)
  case filter => exact roino_answers htakes rfl rfl (cmdEvtFilter_of_le _ ch mask hsub hsev)
  case sensors => exact sage_answers htakes rfl rfl (cmdSageSensors_of_range _ ch hf hpos hn hfits) rfl
  case pins => exact sage_answers htakes rfl rfl rfl rfl
  case thresh => exact sage_answers htakes rfl rfl (cmdSageSetThresh_of_ok ch hok horder) rfl
  case laser => exact sage_answers htakes rfl rfl (cmdSageLaser_of_lt _ ch he) rfl

end Sys2Proof.Proofs
end

section
/-!
PROOFS. Mailbox doorbells and buffers, transports, the host event ring (13_firmware_interface.md): R425, R430 to R432, R435, R459, R461.
-/

namespace Sys2Proof.Machine

/-! ### Accesses whose path is open (R535) -/

section Access
variable {h : Hw} {path : Path} {off size : Nat}

/-- In the 64 MiB of the register block every path but configuration space reaches the registers. -/
theorem Hw.access_of_register (v : Nat) (read : Bool) (hpath : path ≠ .cfg) (hoff : off < 0x4000000) :
    h.access path off size v read = h.regAccess path off size v read := by
  cases path with
  | bar0 => rfl
  | bar4 => rfl
  | internal => exact if_pos hoff
  | diag => rfl
  | cfg => exact absurd rfl hpath

theorem Hw.regAccess_write_of_open (v : Nat) {a : Hw} (ha : (if path.host then h.l1Exit else h) = a) (hopen : a.gate path off size false = .open_) :
    h.regAccess path off size v false = a.writeGo path off size v := by
  subst ha
  simp [Hw.regAccess, hopen]

end Access

/-! ### Doorbells and buffers (R430, R431, R435) -/

section Doorbell
variable {h a : Hw} {path : Path} {c : Nat} (hc : c < 16) (hpath : path ≠ .cfg) (ha : (if path.host then h.l1Exit else h) = a)
include hc hpath ha

theorem access_doorbell (v : Nat) (hopen : a.gate path (0x781000 + 16 * c) 4 false = .open_) :
    h.access path (0x781000 + 16 * c) 4 v false = a.writeGo path (0x781000 + 16 * c) 4 v := by
  rw [Hw.access_of_register v false hpath (by omega), Hw.regAccess_write_of_open v ha hopen]

theorem effMbDbWake_of_open (hopen : a.gate path (0x781000 + 16 * c) 4 false = .open_) :
    effMbDbWake c path h = (a.writeGo path (0x781000 + 16 * c) 4 0x40000000).served := by
  rw [effMbDbWake, if_neg (Nat.not_le.2 hc), access_doorbell hc hpath ha _ hopen]

theorem effMbDbSend_of_open (hopen : a.gate path (0x781000 + 16 * c) 4 false = .open_) :
    effMbDbSend c path h = (a.writeGo path (0x781000 + 16 * c) 4 0x80000000).served := by
  rw [effMbDbSend, if_neg (Nat.not_le.2 hc), access_doorbell hc hpath ha _ hopen]

/-- A write of 4 bytes into a buffer is one register write. -/
theorem effMbBufferWrite_word {off : Nat} {bytes : Bytes} (halign : off % 4 = 0) (hlen : bytes.length = 4) (hfits : off + 4 ≤ 256)
    (hopen : a.gate path (0x780000 + 256 * c + off) 4 false = .open_) :
    effMbBufferWrite c path off bytes h = a.writeGo path (0x780000 + 256 * c + off) 4 (fieldLE bytes 0 4) := by
  have hwrite : h.access path (0x780000 + 256 * c + off) 4 (fieldLE bytes 0 4) false = a.writeGo path (0x780000 + 256 * c + off) 4 (fieldLE bytes 0 4) := by
    rw [Hw.access_of_register _ false hpath (by omega), Hw.regAccess_write_of_open _ ha hopen]
  have hargs : ¬ (16 ≤ c || off % 4 ≠ 0 || bytes.length % 4 ≠ 0 || 256 < off + bytes.length) := by
    simp [halign, hlen, hfits, hc]
  rw [effMbBufferWrite, if_neg hargs, hlen]
  exact hwrite

end Doorbell

/-! ### Transports (R425) -/

section Transport
variable {h : Hw} {c : Nat} (hon : h.domOn domAON) (hc : c < 4)
include hc

/-- Only channel 4 is carried in recovery without a session. -/
theorem Hw.mctp4_eq_false : h.mctp4 c = false := by
  simp [Hw.mctp4, Nat.ne_of_lt hc]

include hon

theorem effTransportWake_of_on (hcool : h.flag F.THERMTRIP_LATCH = false) : effTransportWake c h = (h.wake c).transport 1 rsOK [] := by
  simp [effTransportWake, hon, hcool, hc]

theorem effTransportReadStatus_of_on : effTransportReadStatus c h =
    h.transport 3 rsOK (natLE 4 ((h.word (0x781000 + 16 * c)).toNat / 2 ^ 32) ++ natLE 4 (h.word (0x781008 + 16 * c)).toNat) := by
  simp [-Nat.reducePow, effTransportReadStatus, hon, hc]

theorem effTransportReadBuffer_of_claimed {sid : Nat} (hyoke : h.mbOff c false = false) (hsess : h.sessOn sid) (hclaim : (h.chan c).session = some sid) :
    effTransportReadBuffer c sid h = h.transport 4 rsOK (h.chan c).buf := by
  simp [effTransportReadBuffer, hon, hc, hyoke, hsess, hclaim]

theorem Hw.transportSend_of_session {sid : Nat} (buf : Bytes) (hyoke : h.mbOff c false = false) (hsess : h.sessOn sid)
    (hfree : (h.chan c).session.getD sid = sid) :
    h.transportSend c sid buf =
      Hw.transport (((h.claim c sid).mbWrite c 0 (padTo 256 buf) false).mbSend c false) 2 (if h.mbBusy c then rsBUSY else rsOK) [] := by
  simp [Hw.transportSend, hon, hc, hyoke, hsess, hfree]

end Transport

/-! ### The host event ring (R459, R461) -/

theorem effEvtHeadDb_of_lt {h : Hw} {v : Nat} (hon : h.domOn domYOKE) (hen : (h.set F.EVT_HEAD_DB_REG v).flag F.RING_EN)
    (hlt : v % 65536 < 2 ^ (h.set F.EVT_HEAD_DB_REG v).get F.RING_LOG2) :
    effEvtHeadDb v h = (h.set F.EVT_HEAD_DB_REG v).set F.EVT_HEAD (v % 65536) := by
  rw [effEvtHeadDb, if_pos hon, Hw.evtHead, if_neg (by simp [hen]), if_neg (Nat.not_le.2 hlt)]

theorem effEventRingWrite_of_room {h a b : Hw} {r : EvRec} (hrec : h.ringRecord = some r) (hon : h.domOn domYOKE) (hen : h.flag F.RING_EN)
    (hroom : (h.get F.EVT_TAIL + 1) % 2 ^ h.get F.RING_LOG2 ≠ h.get F.EVT_HEAD)
    (hwrite : h.vwrite noCache (h.get F.EVR_BASE + 32 * h.get F.EVT_TAIL) r.bytes = .ok a)
    (hb : ({ a with evt := { a.evt with ringNext := (r.seq + 1) % 2 ^ 32 } } : Hw).set F.EVT_TAIL ((h.get F.EVT_TAIL + 1) % 2 ^ h.get F.RING_LOG2) = b) :
    effEventRingWrite h = if b.flag F.EVR_IRQ_EN then b.msix 65 else b := by
  subst hb
  simp [-Nat.reducePow, effEventRingWrite, hrec, hon, hen, hroom, hwrite]

end Sys2Proof.Machine

namespace Sys2Proof.Proofs
open Machine

/-- Settles O31: each command whose path, session or ring lets it through takes its open branch. -/
theorem mailboxCommandsComplete : Obligations.MailboxCommandsComplete := by
  refine ⟨fun s c path hc hpath => ?doorbell, fun s c off path bytes hc hpath halign hlen hfits => ?buffer, fun s c hon hc hcool => ?wake,
    fun s c sid buf hon hc hyoke hsess hfree => ?send, fun s c hon hc => ?readStatus, fun s c sid hon hc hyoke hsess hclaim => ?readBuffer,
    fun s v hon => ?head, fun s r a hrec hon hen => ?ring⟩
  case doorbell =>
    exact fun hopen => ⟨State.run_eq_to (effMbDbWake_of_open hc hpath rfl hopen), State.run_eq_to (effMbDbSend_of_open hc hpath rfl hopen)⟩
  case buffer => exact fun hopen => State.run_eq_to (effMbBufferWrite_word hc hpath rfl halign hlen hfits hopen)
  case wake => exact State.run_eq_to (effTransportWake_of_on hon hc hcool)
  case send => exact State.run_eq_to (congrArg Hw.served (Hw.transportSend_of_session hon hc buf hyoke hsess hfree))
  case readStatus => exact State.run_eq_to (effTransportReadStatus_of_on hon hc)
  case readBuffer => exact State.run_eq_to (effTransportReadBuffer_of_claimed hon hc hyoke hsess hclaim)
  case head => exact fun hen hlt => State.run_eq_to (effEvtHeadDb_of_lt hon hen hlt)
  case ring => exact fun hroom hwrite => State.run_eq_to (effEventRingWrite_of_room hrec hon hen hroom hwrite rfl)

end Sys2Proof.Proofs
end

section
/-!
PROOFS. Sage's samples, trips and pins (15_power_clocks_sage.md): R490, R493, R496, R498 to R506.
-/

namespace Sys2Proof.Machine

/-! ### Samples and throttle reports (R490, R498 to R501) -/

theorem effSageSample_of_on {h a b : Hw} {temps : List Nat} (vin iin : Nat) (hon : h.domOn domAON) (hlen : temps.length = 64)
    (ha : (((((h.inc F.CYC_SAGE 1000).voteSweep (fun o => o = 0x800000 || (0x800200 ≤ o && o < 0x800228))).sensorFails temps).sampleRegs temps vin
      iin).vinSample vin).powerSources vin iin = a)
    (hb : { a.thermalSources temps with sage := { (a.thermalSources temps).sage with
      hist := ((List.range 64).map (reading temps) :: (a.thermalSources temps).sage.hist).take 8 } } = b) :
    effSageSample temps vin iin h = (((b.set F.PIN_AVG_W b.pinAvg).pinsSettle).clocks).tempRetrain temps := by
  subst ha hb
  rw [effSageSample, if_neg (by simp [hon, hlen])]

theorem effThrottleEventFlush_of_hold {h a : Hw} (hhold : h.sage.evHold) (ha : { h with sage := { h.sage with evHold := false, evWait := false } } = a) :
    effThrottleEventFlush h =
      if h.sage.evWait && a.sage.evLast ≠ some (a.get F.ARRAY_DIV, a.get F.SAGE_CAUSE) then a.throttlePost else a := by
  subst ha
  rw [effThrottleEventFlush, if_neg (by simp [hhold])]

/-! ### Trips (R490, R493, R502) -/

/-- A comparator's trip: YOKE resets, the window must be met again, EV_VIN_RESET is posted. -/
theorem Hw.vinTrip_of_on {h t : Hw} (cause : Nat) (hon : h.domOn domAON)
    (ht : ({ ((h.yokeReset cause).set F.RESET_CAUSE cause).set F.ROOT_LOCK 0 with sage := { (h.yokeReset cause).sage with vinOk := false } } : Hw).inc
      F.VIN_RESET_CNT = t) : h.vinTrip cause = t.post Ev.evVinReset [u32 (t.free 0xE10)] := by
  subst ht
  simp [Hw.vinTrip, hon]

theorem effPllLoss_of_lock {h : Hw} (hlock : h.flag F.ROOT_LOCK) : effPllLoss h = ((h.yokeReset 3).set F.RESET_CAUSE 3).set F.ROOT_LOCK 0 := by
  simp [effPllLoss, hlock]

theorem effThermtrip_of_lt {h : Hw} {n : Nat} (hn : n < 64) (hon : h.domOn domAON) (hcool : h.flag F.THERMTRIP_LATCH = false) :
    effThermtrip n h =
      (((h.yokeOff.set F.THERMTRIP_LATCH 1).send (.pin 8 false)).post Ev.evThermtrip [u8 n, u16 (h.get (F.SENSOR_TEMP n))]) := by
  simp [effThermtrip, Hw.thermtrip, hn, hon, hcool]

/-! ### Pins (R499, R503 to R506) -/

/-- An accepted edge of a pin. -/
theorem Hw.pin_of_edge {h : Hw} {b : Nat} {level : Bool} (act : Hw → Hw) (hon : h.domOn domAON) (hedge : (h.get F.PIN_LEVEL).testBit b ≠ level) :
    h.pin b level act = if level then act (h.pinEdge b level) else h.pinEdge b level := by
  simp [Hw.pin, hon, hedge]

theorem Hw.unlessFlagged_of_clear {h : Hw} {b : Nat} (act : Hw → Hw) (hclear : h.pinFlagged b = false) : Hw.unlessFlagged b act h = act h := by
  simp [Hw.unlessFlagged, hclear]

section Pin
variable {h : Hw} (hon : h.domOn domAON)
include hon

theorem effForceThrottleN_of_edge {level : Bool} (hedge : (h.get F.PIN_LEVEL).testBit 0 ≠ level) :
    effForceThrottleN level h = (h.pinEdge 0 level).clocks := by
  rw [effForceThrottleN, if_pos hon, Hw.pin_of_edge id hon hedge, id, ite_self]

theorem effPwrBrakeN_of_edge {level : Bool} (hedge : (h.get F.PIN_LEVEL).testBit 1 ≠ level) : effPwrBrakeN level h = (h.pinEdge 1 level).clocks := by
  rw [effPwrBrakeN, if_pos hon, Hw.pin_of_edge id hon hedge, id, ite_self]

/-- EXT_THERMTRIP_N trips whatever its flags say. -/
theorem effExtThermtripN_rise (hlow : (h.get F.PIN_LEVEL).testBit 2 = false) :
    effExtThermtripN true h = (h.pinEdge 2 true).thermtrip [u8 ((h.pinEdge 2 true).free 0xE20), u16 ((h.pinEdge 2 true).free 0xE21)] := by
  rw [effExtThermtripN, Hw.pin_of_edge _ hon (by simp [hlow]), if_pos rfl]

theorem effResetReqN_rise (hlow : (h.get F.PIN_LEVEL).testBit 3 = false) (hclear : (h.pinEdge 3 true).pinFlagged 3 = false) :
    effResetReqN true h = (h.pinEdge 3 true).partReset 4 := by
  rw [effResetReqN, Hw.pin_of_edge _ hon (by simp [hlow]), if_pos rfl, Hw.unlessFlagged_of_clear _ hclear]

theorem effSnapReqN_rise (hlow : (h.get F.PIN_LEVEL).testBit 4 = false) (hclear : (h.pinEdge 4 true).pinFlagged 4 = false) :
    effSnapReqN true h = (h.pinEdge 4 true).snapRequest := by
  rw [effSnapReqN, Hw.pin_of_edge _ hon (by simp [hlow]), if_pos rfl, Hw.unlessFlagged_of_clear _ hclear]

theorem effPinStuck_of_high {b : Nat} (hb : b < 5) (htrip : b ≠ 2) (hhigh : (h.get F.PIN_LEVEL).testBit b)
    (hnew : (h.get F.PIN_STUCK_BITS).testBit b = false) :
    effPinStuck b h = ((h.set F.PIN_STUCK_BITS (h.get F.PIN_STUCK_BITS ||| 2 ^ b)).inc F.PIN_STUCK_CNT).postSage Ev.evPinStuck [u8 b] := by
  simp [effPinStuck, hon, hb, htrip, hhigh, hnew]

theorem effPinFlagClear_of_low {a : Hw} {b : Nat} (hb : b < 5) (hlow : (h.get F.PIN_LEVEL).testBit b = false)
    (ha : h.set F.PIN_STUCK_BITS (clearBit (h.get F.PIN_STUCK_BITS) b) = a) :
    effPinFlagClear b h = a.set F.PIN_CHATTER_BITS (clearBit (h.get F.PIN_CHATTER_BITS) b) := by
  subst ha
  simp [effPinFlagClear, hon, hb, hlow]

end Pin

end Sys2Proof.Machine

namespace Sys2Proof.Proofs
open Machine

/-- Settles O32: each sample, trip or accepted edge takes its branch. -/
theorem sageCommandsComplete : Obligations.SageCommandsComplete := by
  refine ⟨fun s temps vin iin hon hlen => ?sample, fun s hhold => ?flush, fun s hon => ?vin, fun s hlock => ?pll, fun s n hn hon hcool => ?thermtrip,
    fun s level hon => ?throttle, fun s hon => ?work, fun s b hon hb => ?flags⟩
  case sample => exact State.run_eq_to (effSageSample_of_on vin iin hon hlen rfl rfl)
  case flush => exact State.run_eq_to (effThrottleEventFlush_of_hold hhold rfl)
  case vin => exact ⟨State.run_eq_to (Hw.vinTrip_of_on 1 hon rfl), State.run_eq_to (Hw.vinTrip_of_on 2 hon rfl)⟩
  case pll => exact State.run_eq_to (effPllLoss_of_lock hlock)
  case thermtrip => exact State.run_eq_to (effThermtrip_of_lt hn hon hcool)
  case throttle =>
    exact ⟨fun hedge => State.run_eq_to (effForceThrottleN_of_edge hon hedge), fun hedge => State.run_eq_to (effPwrBrakeN_of_edge hon hedge)⟩
  case work =>
    exact ⟨fun hlow => State.run_eq_to (effExtThermtripN_rise hon hlow), fun hlow hclear => State.run_eq_to (effResetReqN_rise hon hlow hclear),
      fun hlow hclear => State.run_eq_to (effSnapReqN_rise hon hlow hclear)⟩
  case flags =>
    exact ⟨fun htrip hhigh hnew => State.run_eq_to (effPinStuck_of_high hon hb htrip hhigh hnew),
      fun hlow => State.run_eq_to (effPinFlagClear_of_low hon hb hlow rfl)⟩

end Sys2Proof.Proofs
end

section
/-!
PROOFS. PCIe, SPDM, MCTP and PLDM (14_boot_security.md, 16_package): R478, R479, R484, R487, R521 to R527, R529 to R532, R534.
-/

namespace Sys2Proof.Machine

/-! ### The PCIe link, resets and power states (R521, R526, R534) -/

theorem effPcieLinkUp_of_down {h a : Hw} {speed width : Nat} (ats : Bool) (hon : h.domOn domYOKE) (hdown : h.flag F.LINK_UP = false) (hlo : 1 ≤ speed)
    (hhi : speed ≤ 7) (hwidth : width ∈ ([1, 2, 4, 8, 16] : List Nat))
    (ha : ((((h.set F.LINK_UP 1).set F.PCIE_SPEED speed).set F.PCIE_WIDTH width).setB F.PCIE_FLIT (decide (6 ≤ speed))).set F.PCIE_L1 0 = a) :
    effPcieLinkUp speed width ats h = if a.solo then a else { a with xl := { a.xl with atsOn := ats, priOn := true } } := by
  subst ha
  have hargs : ¬ (!h.domOn domYOKE || h.flag F.LINK_UP || speed = 0 || 7 < speed || !([1, 2, 4, 8, 16] : List Nat).contains width) := by
    have hin : ([1, 2, 4, 8, 16] : List Nat).contains width = true := List.contains_iff_mem.2 hwidth
    rw [hin]
    simp [hon, hdown, Nat.ne_of_gt hlo, hhi]
  rw [effPcieLinkUp, if_neg hargs]

section Port
variable {h : Hw}

theorem Hw.linkDrop_of_up (hup : h.flag F.LINK_UP) : h.linkDrop = (((h.set F.LINK_UP 0).set F.PCIE_L1 0).inc F.PCIE_LINK_DOWN_CNT).nvmeFail := by
  simp [Hw.linkDrop, hup]

theorem Hw.hostReset_of_fabric (hon : h.domOn domYOKE) (hsolo : h.solo = false) :
    h.hostReset = (((h.inc F.PCIE_HOST_RESETS).portReset).hostForget).quiesceStart jobBlocks 1 true 0 := by
  simp [Hw.hostReset, hon, hsolo]

theorem effD3hotEntry_of_up (hon : h.domOn domYOKE) (hsolo : h.solo = false) (hup : h.flag F.LINK_UP) (hd0 : h.get F.DSTATE = 0) :
    effD3hotEntry h = (h.set F.DSTATE 3).set F.PCIE_L1 1 := by
  simp [effD3hotEntry, hon, hsolo, hup, hd0]

theorem effD0Return_of_d3hot (hd3 : h.get F.DSTATE = 3) :
    effD0Return h = (List.range 68).foldl Hw.msixUnmask
      (h.pcie.wait.foldl Hw.send ((({ h with pcie := { h.pcie with wait := [] } } : Hw).set F.DSTATE 0).set F.PCIE_L1 0)) :=
  if_neg (not_not.2 hd3)

theorem effAspmL1Entry_of_up (hon : h.domOn domYOKE) (hup : h.flag F.LINK_UP) (hd0 : h.get F.DSTATE = 0) : effAspmL1Entry h = h.set F.PCIE_L1 1 := by
  simp [effAspmL1Entry, hon, hup, hd0]

end Port

/-! ### BAR2 and IDE (R524, R527) -/

section Bar2
variable {h a : Hw} (addr n : Nat) {write ep : Bool} (bytes : Bytes) (hon : h.domOn domYOKE) (hide : h.ideBlocked = false) (ha : h.l1Exit = a)
  (hd0 : a.get F.DSTATE ≠ 3) (hrx : a.flag (F.RX_POWERED 4)) (hhost : a.mb.hostOff = false) (hrec : a.flag F.SEC_RECOVERY = false)
include hon hide ha hd0 hrx hhost hrec

theorem effBar2Request_poisoned (hpoison : write && ep) : effBar2Request addr write ep bytes n h = a.inc F.PCIE_POISON_RX := by
  subst ha
  simp [effBar2Request, hon, hide, hd0, hrx, hhost, hrec, hpoison]

theorem effBar2Request_queued (hgood : (write && ep) = false) :
    effBar2Request addr write ep bytes n h = ({ a with pcie := { a.pcie with bar2 := a.pcie.bar2 ++ [⟨addr, write, ep, bytes, n⟩] } } : Hw).bar2Go := by
  subst ha
  simp [effBar2Request, hon, hide, hd0, hrx, hhost, hrec, hgood]

end Bar2

theorem effBar2EnableTimeout_of_cons {h : Hw} {b : Bar2} {rest : List Bar2} (hq : h.pcie.bar2 = b :: rest) (hoff : h.flag F.MEM_CFG_ENABLE = false) :
    effBar2EnableTimeout h = ({ h with pcie := { h.pcie with bar2 := rest } } : Hw).bar2Fail b 2 := by
  simp [effBar2EnableTimeout, hq, hoff]

theorem effIdeKmKeyProg_of_session {h a : Hw} {sid stream : Nat} {keys : Bytes} (hon : h.domOn domYOKE) (hsolo : h.solo = false)
    (hsess : h.sec.sessions.any (fun x => x.est && x.id = sid && x.doe)) (hstream : stream ≤ 4)
    (ha : { h with pcie := { h.pcie with ide := h.pcie.ide.set stream ⟨keys, true, ((h.pcie.ide.find? stream).map (·.sets)).getD 0 + 1⟩ } } = a) :
    effIdeKmKeyProg sid stream keys h = if stream = 0 then a.set F.IDE_SECURE 1 else a := by
  subst ha
  have hargs : ¬ (!h.domOn domYOKE || h.solo || !h.sec.sessions.any (fun x => x.est && x.id = sid && x.doe) || 4 < stream) := by
    rw [hon, hsolo, hsess]
    simpa using hstream
  rw [effIdeKmKeyProg, if_neg hargs]

theorem effIdeIntegrityFail_of_some {h a : Hw} {stream : Nat} {k : Ide} (hkey : h.pcie.ide.find? stream = some k)
    (ha : { h with pcie := { h.pcie with ide := h.pcie.ide.set stream { k with secure := false } } } = a) :
    effIdeIntegrityFail stream h = if stream = 0 then a.set F.IDE_SECURE 0 else a := by
  subst ha
  simp [effIdeIntegrityFail, hkey]

/-! ### SPDM (R478, R479, R484, R487) -/

section Spdm
variable {h : Hw} (hon : h.domOn domYOKE)
include hon

theorem effSpdmGetMeasurements_of_on (nonce : Bytes) : effSpdmGetMeasurements nonce h =
    h.spdmSigned 0x60 ((List.range 9).map (fun i => h.regBytes (regMeasure i) 32)).flatten nonce := if_pos hon

theorem effSpdmChallenge_of_on (nonce : Bytes) : effSpdmChallenge nonce h = h.spdmSigned 0x03 (sha256 pubKey) nonce := if_pos hon

theorem effSpdmGetCertificate_of_match (hmatch : h.flag F.CERT_MISMATCH = false) :
    effSpdmGetCertificate h = h.spdm 0x02 ((List.range Config.certLen).map Config.certByte) :=
  if_pos (by simp [Hw.spdmOn, hon, hmatch])

theorem effSpdmKeyExchange_of_room {id : Nat} {doe : Bool} (nonce : Bytes) (hnew : h.session id = none) (hroom : h.sec.sessions.length < 4)
    (hdoe : doe = false ∨ h.solo = false) :
    effSpdmKeyExchange id doe nonce h =
      ({ h with sec := { h.sec with sessions := h.sec.sessions ++ [⟨id, false, nonce, 0, doe⟩] } } : Hw).spdmSigned 0x64 pubKey nonce := by
  have hargs : ¬ (!h.spdmOn || (h.session id).isSome || (doe && h.solo)) := by
    rcases hdoe with rfl | hsolo
    · simp [Hw.spdmOn, hon, hnew]
    · simp [Hw.spdmOn, hon, hnew, hsolo]
  rw [effSpdmKeyExchange, if_neg hargs, if_neg (Nat.not_le.2 hroom)]

/-- A handshake finishes where the part has no owner or the requester proves a delegate's key. -/
theorem effSpdmFinish_of_proof {id : Nat} {key sig : Bytes} {x : Sess} (hsess : h.session id = some x) (hnew : x.est = false)
    (hproof : h.sec.owner = none ∨ h.delegate key ∧ Config.verifies key x.transcript sig) :
    effSpdmFinish id key sig h = (h.updSession id (fun x => { x with est := true })).spdm 0x65 [] := by
  rcases hproof with hfree | ⟨hkey, hsig⟩
  · simp [effSpdmFinish, hsess, hnew, Hw.spdmOn, hon, hfree]
  · simp [effSpdmFinish, hsess, hnew, Hw.spdmOn, hon, hkey, hsig]

section Session
variable {id : Nat} (hsess : h.sessOn id)
include hsess

theorem spdmOn_and_sessOn : h.spdmOn && h.sessOn id := by
  rw [Hw.spdmOn, hon, hsess]
  rfl

theorem effSpdmKeyUpdate_of_on : effSpdmKeyUpdate id h = (h.updSession id (fun x => { x with keyGen := x.keyGen + 1 })).spdm 0x69 [] :=
  if_pos (spdmOn_and_sessOn hon hsess)

theorem effSpdmHeartbeat_of_on : effSpdmHeartbeat id h = h.spdm 0x68 [] := if_pos (spdmOn_and_sessOn hon hsess)

theorem effSpdmHeartbeatTimeout_of_on : effSpdmHeartbeatTimeout id h = h.sessionEnd id := if_pos (spdmOn_and_sessOn hon hsess)

theorem effSpdmEndSession_of_on : effSpdmEndSession id h = (h.sessionEnd id).spdm 0x6C [] := if_pos (spdmOn_and_sessOn hon hsess)

end Session
end Spdm

/-! ### Bus addresses and PLDM (R529 to R532) -/

section Bus
variable {h : Hw} (hon : h.domOn domAON)
include hon

theorem effMctpSetEndpointId_of_range {v : Nat} (hlo : 8 ≤ v) (hhi : v < 255) :
    effMctpSetEndpointId v h = ({ h with side := { h.side with eid := some v } } : Hw).send (.reply 0 [0, 0, BitVec.ofNat 8 v]) :=
  if_pos (by simp [hon, hlo, hhi])

theorem effI3cEntdaa_of_lt {v : Nat} (hv : v < 128) : effI3cEntdaa v h = { h with side := { h.side with i3c := some v } } :=
  if_pos (by simp [hon, hv])

theorem effPldmSensorRead_of_some {v x : Nat} (hserved : h.domOn domYOKE ∨ 1 ≤ v ∧ v ≤ 68) (hx : h.sensor v = some x) :
    effPldmSensorRead v h = h.pldm 2 0 (natLE 4 x) := by
  have hready : ¬ (!h.domOn domYOKE && (v = 0 || 68 < v)) := by
    rcases hserved with hyoke | ⟨hlo, hhi⟩
    · simp [hyoke]
    · simp [Nat.ne_of_gt hlo, hhi]
  rw [effPldmSensorRead, if_neg (by simp [hon]), if_neg hready, hx]

section Update
variable (hyoke : h.domOn domYOKE) {sid slot : Nat} (hsess : h.sessOn sid)
include hyoke hsess

theorem effPldmRequestUpdate_of_idle {image : Bytes} (hnone : h.side.update = none) (hslot : h.idleSlots = [slot]) (hlen : image.length ≤ 0x7FFF000) :
    effPldmRequestUpdate sid image h = h.pldmLoad slot image := by
  simp [effPldmRequestUpdate, hon, hyoke, hsess, hnone, hslot, hlen]

theorem effPldmActivateFirmware_of_update (hupd : h.side.update = some slot) :
    effPldmActivateFirmware sid h =
      (({ h with side := { h.side with update := none } } : Hw).commitGo slot (h.bundle slot).length).pldm 5 0 [] := by
  simp [effPldmActivateFirmware, hon, hyoke, hsess, hupd]

end Update
end Bus

end Sys2Proof.Machine

namespace Sys2Proof.Proofs
open Machine

/-- Settles O34: each command takes the branch that its hypotheses open. -/
theorem pcieCommandsComplete : Obligations.PcieCommandsComplete := by
  refine ⟨fun s speed width ats hon hdown hlo hhi hwidth => ?linkUp, fun s hup => ?linkDown, fun s hon hsolo => ?resets,
    fun s hon hsolo hup hd0 => ?d3hot, fun s hd3 => ?d0, fun s hon hup hd0 => ?l1, fun s addr n write ep bytes hon hide => ?bar2,
    fun s b rest hq hoff => ?timeout, fun s sid stream keys hon hsolo hsess hstream => ?keys, fun s stream k hkey => ?fail⟩
  case linkUp => exact State.run_eq_to (effPcieLinkUp_of_down ats hon hdown hlo hhi hwidth rfl)
  case linkDown => exact State.run_eq_to (Hw.linkDrop_of_up hup)
  case resets =>
    have hreset := Hw.hostReset_of_fabric hon hsolo
    exact ⟨State.run_eq_to hreset, State.run_eq_to hreset, State.run_eq_to hreset, State.run_eq_to hreset⟩
  case d3hot => exact State.run_eq_to (effD3hotEntry_of_up hon hsolo hup hd0)
  case d0 => exact State.run_eq_to (effD0Return_of_d3hot hd3)
  case l1 => exact State.run_eq_to (effAspmL1Entry_of_up hon hup hd0)
  case bar2 =>
    exact fun hd0 hrx hhost hrec => ⟨fun hpoison => State.run_eq_to (effBar2Request_poisoned addr n bytes hon hide rfl hd0 hrx hhost hrec hpoison),
      fun hgood => State.run_eq_to (effBar2Request_queued addr n bytes hon hide rfl hd0 hrx hhost hrec hgood)⟩
  case timeout => exact State.run_eq_to (effBar2EnableTimeout_of_cons hq hoff)
  case keys => exact State.run_eq_to (effIdeKmKeyProg_of_session hon hsolo hsess hstream rfl)
  case fail => exact State.run_eq_to (effIdeIntegrityFail_of_some hkey rfl)

/-- Settles O35: each message is answered by the branch that its hypotheses open. -/
theorem sidebandCommandsComplete : Obligations.SidebandCommandsComplete := by
  refine ⟨fun s nonce hon => ?identity, fun s id doe nonce hon hnew hroom hdoe => ?exchange, fun s id key sig x hon hsess hnew hproof => ?finish,
    fun s id hon hsess => ?session, fun s v hon => ?bus, fun s sid slot image hon hyoke hsess => ?update⟩
  case identity =>
    exact ⟨State.run_eq_to (effSpdmGetMeasurements_of_on hon nonce), State.run_eq_to (effSpdmChallenge_of_on hon nonce),
      fun hmatch => State.run_eq_to (effSpdmGetCertificate_of_match hon hmatch)⟩
  case exchange => exact State.run_eq_to (effSpdmKeyExchange_of_room hon nonce hnew hroom hdoe)
  case finish => exact State.run_eq_to (effSpdmFinish_of_proof hon hsess hnew hproof)
  case session =>
    exact ⟨State.run_eq_to (effSpdmKeyUpdate_of_on hon hsess), State.run_eq_to (effSpdmHeartbeat_of_on hon hsess),
      State.run_eq_to (effSpdmHeartbeatTimeout_of_on hon hsess), State.run_eq_to (effSpdmEndSession_of_on hon hsess)⟩
  case bus =>
    exact ⟨fun hlo hhi => State.run_eq_to (effMctpSetEndpointId_of_range hon hlo hhi), fun hv => State.run_eq_to (effI3cEntdaa_of_lt hon hv),
      fun x hserved hx => State.run_eq_to (effPldmSensorRead_of_some hon hserved hx)⟩
  case update =>
    exact ⟨fun hnone hslot hlen => State.run_eq_to (effPldmRequestUpdate_of_idle hon hyoke hsess hnone hslot hlen),
      fun hupd => State.run_eq_to (effPldmActivateFirmware_of_update hon hyoke hsess hupd)⟩

end Sys2Proof.Proofs
end

section
/-!
PROOFS. Captures, NVMe errors, restores and the end of a quiesce (12_resilience.md): R402, R404, R406, R408, R410 to R414, R446, R562.
-/

namespace Sys2Proof.Machine

/-! ### Capture (R402 to R406) -/

section Freeze
variable {h a b : Hw} {k : Hand} {rest : List Hand} {nvme : Bool} {mans : List Man} {image t n : Nat} {job : Bytes} {c : Cap}
  (hhands : h.bast.hands = k :: rest) (hcap : h.bast.cap = none) (hres : h.bast.restore = none) (hon : h.domOn domYOKE)
  (hen : h.flag F.BAST_CFG_ENABLE) (hjob : h.jobBlock k = job)
  (hset : ({ h with bast := { h.bast with hands := rest } } : Hw).snapSet k.setid = (a, .ok (nvme, mans, image)))
  (hbound : a.targetBound nvme) (hroom : image ≤ a.slotBytes nvme) (ht : a.slotFor nvme = t) (hn : slotNum nvme t = n)
  (hc : (⟨k, nvme, t, 1, mans, image, [], [], [], [], job, []⟩ : Cap) = c)
  (hb : { (((a.set (F.SLOT_STATE n) 1).set (F.SLOT_SETID n) k.setid).set (F.SLOT_EPOCH n) k.epoch).set F.BAST_STATE 1 with
    bast := { ((((a.set (F.SLOT_STATE n) 1).set (F.SLOT_SETID n) k.setid).set (F.SLOT_EPOCH n) k.epoch).set F.BAST_STATE 1).bast with cap := some c } } = b)
include hhands hcap hres hon hen hjob hset hbound hroom ht hn hc hb

/-- A capture with a bound target of enough room starts by clearing the commit record of the slot it chose, unless its target is gone. -/
theorem effSnapFreeze_of_set : effSnapFreeze h =
    if !nvme && b.peerGone (b.get F.BUDDY_CHIP) then (b.captureFault (b.get F.BUDDY_CHIP)).snapAbort 7
    else if nvme && !b.flag F.LINK_UP then b.snapAbort 6 else b.capWrite c 0xFC0 (natLE 8 0) := by
  subst hjob ht hn hc hb
  have hen' : ({ h with bast := { h.bast with hands := rest } } : Hw).flag F.BAST_CFG_ENABLE := hen
  unfold effSnapFreeze
  split
  · next hands _ _ =>
    obtain ⟨rfl, rfl⟩ := List.cons.inj (hhands.symm.trans hands)
    simp only [hon, hen', hset, hbound, Nat.not_lt.2 hroom, Bool.not_true, Bool.false_eq_true, if_false]
    rfl
  · next hother => exact absurd hres (hother k rest hhands hcap)

theorem effSnapFreeze_buddy (hbuddy : nvme = false) (hhere : b.peerGone (b.get F.BUDDY_CHIP) = false) :
    effSnapFreeze h = b.capWrite c 0xFC0 (natLE 8 0) := by
  rw [effSnapFreeze_of_set hhands hcap hres hon hen hjob hset hbound hroom ht hn hc hb]
  simp [hbuddy, hhere]

theorem effSnapFreeze_nvme (hnvme : nvme) (hup : b.flag F.LINK_UP) : effSnapFreeze h = b.capWrite c 0xFC0 (natLE 8 0) := by
  rw [effSnapFreeze_of_set hhands hcap hres hon hen hjob hset hbound hroom ht hn hc hb]
  simp [hnvme, hup]

end Freeze

section Capture
variable {h : Hw} {k : Cap} (hcap : h.bast.cap = some k)
include hcap

theorem effSnapSlotCleared_of_translated {a t : Hw} {tape : Bytes} {parts : List CapPart} (hstage : k.stage = 1)
    (hread : h.bastRead 0xFFFF (h.get F.TAPE_BASE) 0x400000 = (a, .ok tape)) {rs : List (Nat × ((Nat × Nat) × Nat))}
    (hrs : (k.mans.map (fun m => m.ranges.map (fun g => (m.desc, g)))).flatten = rs)
    (hxl : ((a.capWrite k 0x200000 tape).capWrite k 0x1000 k.job).capTranslate rs = (t, .ok parts)) {k2 : Cap}
    (hk2 : { k with stage := 2, parts := parts, guard := capGuard parts, vas := rs.map (·.2.1) } = k2) :
    effSnapSlotCleared h = (({ t with bast := { t.bast with cap := some k2 } } : Hw).set F.BAST_STATE 2).epochRelease k.hand := by
  subst hrs hk2
  simp only [effSnapSlotCleared, hcap, hstage, hread, hxl, ne_eq, not_true_eq_false, if_false]

theorem effGuardedWriteRelease_of_ready {block : Nat} {j a b : Hw} {bs : Bytes} (hstage : k.stage = 2) (hnew : k.copied.find? block = none)
    (hdata : k.within (block * 65536) ((block + 1) * 65536) ≠ []) (hready : h.capReady k (block * 65536) ((block + 1) * 65536))
    (hjob : h.bastJob k = some j) (hblock : j.capBlock k block = (a, bs, false)) (hb : a.capWrite k (block * 65536) bs = b) :
    effGuardedWriteRelease block h =
      ({ b with bast := { b.bast with cap := some { k with copied := k.copied.set block bs }, wanted := b.bast.wanted.filter (· ≠ block) } } : Hw).releaseHeld := by
  subst hb
  have hgo : ¬ (k.stage ≠ 2 || (k.copied.find? block).isSome || (k.within (block * 65536) ((block + 1) * 65536)).isEmpty ||
      !h.capReady k (block * 65536) ((block + 1) * 65536)) := by
    simp [hstage, hnew, hdata, hready]
  simp only [effGuardedWriteRelease, hcap, if_neg hgo, hjob, hblock, Bool.false_eq_true, if_false]

theorem effSnapDataAcked_of_copied {j a b : Hw} {m man digest : Bytes} (hstage : k.stage = 2) (hready : h.capReady k 0 (k.image + 65536))
    (hjob : h.bastJob k = some j) (hcopy : Hw.capEntries k k.mans j = (a, m, false)) (hman : padTo 0x100000 m = man)
    (hdigest : sha256 (k.job ++ man) = digest)
    (hb : ((a.capWrite k 0x2000 man).capWrite k 0x102000 (List.replicate 0xFE000 0)).capWrite k 0 (a.snapHeader k digest) = b) {k3 : Cap}
    (hk3 : { k with stage := 3, guard := [], digest := digest } = k3) :
    effSnapDataAcked h = ((({ b with bast := { b.bast with cap := some k3, wanted := [] } } : Hw).releaseHeld).set F.BAST_STATE 3) := by
  subst hman hdigest hb hk3
  have hgo : ¬ (k.stage ≠ 2 || !h.capReady k 0 (k.image + 65536)) := by
    simp [hstage, hready]
  simp only [effSnapDataAcked, hcap, if_neg hgo, hjob, hcopy, Bool.false_eq_true, if_false]

theorem effSnapCommit_of_written {n : Nat} {a b : Hw} (hstage : k.stage = 3) (hn : slotNum k.nvme k.slot = n)
    (ha : ((h.capWrite k 0xFC0 (commitRecord k.hand.epoch k.digest)).set (F.SLOT_STATE n) 2).inc F.SNAP_DONE_CNT = a)
    (hb : ({ a with bast := { a.bast with cap := none } } : Hw).set F.BAST_STATE 0 = b) :
    effSnapCommit h = (if b.flag F.SNAP_EVT then b.post Ev.evSnapDone [u64 k.hand.epoch, u16 k.hand.setid, u8 n] else b).drained := by
  subst hn ha hb
  simp only [effSnapCommit, hcap, hstage, ne_eq, not_true_eq_false, if_false]

/-- An NVMe command that fails aborts the capture that writes to NVMe. -/
theorem Hw.nvmeFail_of_capture (hnvme : k.nvme) : h.nvmeFail = h.snapAbort 6 := by
  simp [Hw.nvmeFail, hcap, hnvme]

theorem effNvmeCompletion_of_error {status : Nat} (hnvme : k.nvme) (herr : status ≠ 0) : effNvmeCompletion status h = h.snapAbort 6 := by
  rw [effNvmeCompletion, if_neg herr, Hw.nvmeFail_of_capture hcap hnvme]

end Capture

/-! ### Restore (R410 to R414) -/

theorem effRestorePullDone_of_good {h a : Hw} {r : Restore} {data : Bytes} {poison : List Nat} {step : Nat} {realigned : Bool}
    (hres : h.bast.restore = some r) (hcheck : h.restoreCheck r data poison = .ok (step, realigned)) (hpull : h.restorePull r data poison = (a, none))
    (hrep : r.win = none ∨ replicaTest data (data.drop (fieldLE data 0x18 8)) = none) :
    effRestorePullDone data poison h =
      (if r.verify then a else a.restoreState data step (!r.replica)).restoreDone r data (if realigned then 3 else 2) := by
  have hsame : (if r.win.isSome then replicaTest data (data.drop (fieldLE data 0x18 8)) else none) = none := by
    rcases hrep with hwin | hrep
    · simp [hwin]
    · rw [hrep, ite_self]
  simp only [effRestorePullDone, hres, hcheck, hpull, hsame]

/-! ### The end of a quiesce (R446, R562) -/

theorem effJobQuiesced_of_off {h a b : Hw} {z : Quiesce} (ha : h.quiesceGo = a) (hz : a.mb.quiesce = some z) (hoff : a.allOff z.blocks)
    (hidle : z.reset = false ∨ a.shut.ctxs = []) (hb : { a with mb := { a.mb with quiesce := none } } = b) :
    effJobQuiesced h = z.ops.foldl (fun h op => h.postOp Ev.evJobQuiesced [u32 h.blockEn] op) (if z.reset then b.jobReset else b) := by
  subst ha hb
  have hdone : ¬ (!(h.quiesceGo.allOff z.blocks && (!z.reset || h.quiesceGo.shut.ctxs.isEmpty))) := by
    rcases hidle with hreset | hctx
    · simp [hoff, hreset]
    · simp [hoff, hctx]
  simp only [effJobQuiesced, hz, if_neg hdone]

end Sys2Proof.Machine

namespace Sys2Proof.Proofs
open Machine

/-- Settles O29: each stage of a capture or a restore takes the branch in which its tests pass. -/
theorem snapshotCommandsComplete : Obligations.SnapshotCommandsComplete := by
  refine ⟨fun s k rest a nvme mans image hhands hcap hres hon hen => ?freeze, fun s k a t tape parts hcap hstage hread => ?cleared,
    fun s k block j a bs hcap hstage hnew hdata hready hjob hblock => ?release, fun s k j a m hcap hstage hready hjob hcopy => ?acked,
    fun s k hcap hstage => ?commit, fun s => ?nvmeOk, fun s k status hcap hnvme herr => ?nvmeFail,
    fun s r data poison step realigned a hres hcheck hpull hrep => ?restore, fun s z hz hoff hidle => ?quiesced⟩
  case freeze =>
    exact fun hset hbound hroom =>
      ⟨fun hbuddy hhere => State.run_eq_to (effSnapFreeze_buddy hhands hcap hres hon hen rfl hset hbound hroom rfl rfl rfl rfl hbuddy hhere),
        fun hnvme hup => State.run_eq_to (effSnapFreeze_nvme hhands hcap hres hon hen rfl hset hbound hroom rfl rfl rfl rfl hnvme hup)⟩
  case cleared => exact fun hxl => State.run_eq_to (effSnapSlotCleared_of_translated hcap hstage hread rfl hxl rfl)
  case release => exact State.run_eq_to (effGuardedWriteRelease_of_ready hcap hstage hnew hdata hready hjob hblock rfl)
  case acked => exact State.run_eq_to (effSnapDataAcked_of_copied hcap hstage hready hjob hcopy rfl rfl rfl rfl)
  case commit => exact State.run_eq_to (effSnapCommit_of_written hcap hstage rfl rfl rfl)
  case nvmeOk => exact State.run_eq_to (if_pos rfl)
  case nvmeFail =>
    exact ⟨State.run_eq_to (effNvmeCompletion_of_error hcap hnvme herr), State.run_eq_to (Hw.nvmeFail_of_capture hcap hnvme)⟩
  case restore => exact State.run_eq_to (effRestorePullDone_of_good hres hcheck hpull hrep)
  case quiesced => exact State.run_eq_to (effJobQuiesced_of_off rfl hz hoff hidle rfl)

end Sys2Proof.Proofs
end

section

/-! PROOFS. State, events, operations: no function here changes a monotonic counter of NOR (R464).

The lemma `f_rpmc` says so of `f`, in the order of the model. Where `f` answers nothing on a fault, it says so of an answer that it gives. The proofs by
`(rfl)`, in parentheses, stay rewriting rules: `simp` uses them for the premise of `foldl_rpmc_eq`, where a `dsimp` rule is not tried. -/

namespace Sys2Proof.Machine

/-! ### Choices and folds -/

@[simp] theorem Hw.rpmc_ite (c : Prop) [Decidable c] (a b : Hw) : (if c then a else b).rpmc = if c then a.rpmc else b.rpmc := apply_ite Hw.rpmc c a b

theorem ite_rpmc {c : Prop} [Decidable c] {a b : Hw} {r : Rpmc} (ha : a.rpmc = r) (hb : b.rpmc = r) : (if c then a else b).rpmc = r := by
  split
  · exact ha
  · exact hb

theorem ite_fst_rpmc {β : Type} {c : Prop} [Decidable c] {p q : Hw × β} {r : Rpmc} (hp : p.1.rpmc = r) (hq : q.1.rpmc = r) :
    (if c then p else q).1.rpmc = r := by
  split
  · exact hp
  · exact hq

theorem foldl_rpmc {α : Type} {f : Hw → α → Hw} (hf : ∀ h x, (f h x).rpmc = h.rpmc) {l : List α} {h : Hw} {r : Rpmc} (hr : h.rpmc = r) :
    (l.foldl f h).rpmc = r := by
  induction l generalizing h with
  | nil => exact hr
  | cons x l ih => exact ih ((hf h x).trans hr)

theorem foldl_fst_rpmc {α β : Type} {f : Hw × β → α → Hw × β} (hf : ∀ st x, (f st x).1.rpmc = st.1.rpmc) {l : List α} {st : Hw × β} {r : Rpmc}
    (hr : st.1.rpmc = r) : (l.foldl f st).1.rpmc = r := by
  induction l generalizing st with
  | nil => exact hr
  | cons x l ih => exact ih ((hf st x).trans hr)

theorem getD_rpmc {o : Option Hw} {a : Hw} {r : Rpmc} (ho : ∀ {b}, o = some b → b.rpmc = r) (ha : a.rpmc = r) : (o.getD a).rpmc = r := by
  cases o with
  | none => exact ha
  | some b => exact ho rfl

theorem rpmc_of_fst {β : Type} {p : Hw × β} {r : Rpmc} (hp : p.1.rpmc = r) {a : Hw} {b : β} (e : p = (a, b)) : a.rpmc = r := by
  subst e
  exact hp

theorem ok_of_map_ok {ε α β : Type} {f : α → β} {x : Except ε α} {b : β} (e : x.map f = .ok b) : ∃ a, x = .ok a ∧ f a = b := by
  cases x with
  | error _ => cases e
  | ok a => exact ⟨a, rfl, Except.ok.inj e⟩

theorem foldl_opt_rpmc {α : Type} {f : Hw → α → Option Hw} (hf : ∀ x h a, f h x = some a → a.rpmc = h.rpmc) {l : List α} {h a : Hw}
    (e : l.foldl (fun o x => o.bind (fun h => f h x)) (some h) = some a) : a.rpmc = h.rpmc := by
  induction l generalizing h with
  | nil =>
    cases e
    rfl
  | cons x l ih =>
    cases hx : f h x with
    | none =>
      have hnone : ∀ l : List α, l.foldl (fun o x => o.bind (fun h => f h x)) none = none := fun l => by
        induction l with
        | nil => rfl
        | cons _ _ ih => exact ih
      simp [hx, hnone] at e
    | some b => exact (ih (by simpa [hx] using e)).trans (hf x h b hx)

@[simp] theorem foldl_rpmc_eq {α : Type} {f : Hw → α → Hw} (hf : ∀ h x, (f h x).rpmc = h.rpmc) (l : List α) (h : Hw) :
    (l.foldl f h).rpmc = h.rpmc :=
  foldl_rpmc hf rfl

@[simp] theorem Hw.fst_ite {α : Type} (c : Prop) [Decidable c] (p q : Hw × α) : (if c then p else q).1 = if c then p.1 else q.1 :=
  apply_ite Prod.fst c p q

/-! ### Bank -/

@[simp] theorem Hw.putBits_rpmc (h : Hw) (o : Nat) (m w : Word64) : (h.putBits o m w).rpmc = h.rpmc := (rfl)

@[simp] theorem Hw.resetRange_rpmc (h : Hw) (n b : Nat) : (h.resetRange n b).rpmc = h.rpmc := (rfl)

@[simp] theorem Hw.l1Exit_rpmc (h : Hw) : h.l1Exit.rpmc = h.rpmc := by simp [Hw.l1Exit]

@[simp] theorem Hw.send_rpmc (h : Hw) (x : Out) : (h.send x).rpmc = h.rpmc := by simp [Hw.send]

@[simp] theorem Hw.domUp_rpmc (h : Hw) (d : Nat) : (h.domUp d).rpmc = h.rpmc := by simp [Hw.domUp]

@[simp] theorem Hw.domDown_rpmc (h : Hw) (d : Nat) : (h.domDown d).rpmc = h.rpmc := by simp [Hw.domDown]

@[simp] theorem Hw.msix_rpmc (h : Hw) (v : Nat) : (h.msix v).rpmc = h.rpmc := by simp [Hw.msix]

/-! ### Events -/

@[simp] theorem Hw.norLog_rpmc (h : Hw) (b : Bytes) : (h.norLog b).rpmc = h.rpmc := (rfl)

@[simp] theorem Hw.evAppend_rpmc (h : Hw) (e : EvCode) (time : Nat) (args : Bytes) : (h.evAppend e time args).rpmc = h.rpmc := by simp [Hw.evAppend]

@[simp] theorem Hw.evRecord_rpmc (h : Hw) (e : EvCode) (time : Nat) (args : Bytes) : (h.evRecord e time args).rpmc = h.rpmc := by simp [Hw.evRecord]

@[simp] theorem Hw.post_rpmc (h : Hw) (e : EvCode) (args : List Arg) : (h.post e args).rpmc = h.rpmc := by simp [Hw.post]

@[simp] theorem Hw.postSage_rpmc (h : Hw) (e : EvCode) (args : List Arg) : (h.postSage e args).rpmc = h.rpmc := by simp [Hw.postSage]

@[simp] theorem Hw.postOp_rpmc (h : Hw) (e : EvCode) (args : List Arg) (op : Nat) : (h.postOp e args op).rpmc = h.rpmc := by simp [Hw.postOp]

@[simp] theorem Hw.postKept_rpmc (h : Hw) : h.postKept.rpmc = h.rpmc := by simp [Hw.postKept]

/-! ### Nor -/

@[simp] theorem Hw.norWrite_rpmc (h : Hw) (n : Nat) (bs : Bytes) : (h.norWrite n bs).rpmc = h.rpmc := (rfl)

/-! ### Yel -/

@[simp] theorem Hw.txFrame_rpmc (h : Hw) (l : Nat) (f : Frm) : (h.txFrame l f).rpmc = h.rpmc := (rfl)

@[simp] theorem Hw.pump_rpmc (n l : Nat) (h : Hw) : (Hw.pump n l h).rpmc = h.rpmc := by
  induction n generalizing h with
  | zero => rfl
  | succ n ih =>
    unfold Hw.pump
    split
    · rfl
    · simp [ih]

@[simp] theorem Hw.sendFrame_rpmc (h : Hw) (l : Nat) (f : Frm) : (h.sendFrame l f).rpmc = h.rpmc := by simp [Hw.sendFrame]

@[simp] theorem Hw.sendIdle_rpmc (h : Hw) (l : Nat) (nak : Bool) : (h.sendIdle l nak).rpmc = h.rpmc := (rfl)

@[simp] theorem Hw.sendCtrl_rpmc (h : Hw) (l op lane slot at_ : Nat) : (h.sendCtrl l op lane slot at_).rpmc = h.rpmc := (rfl)

@[simp] theorem Hw.announce_rpmc (h : Hw) (l op lane slot why : Nat) : (h.announce l op lane slot why).rpmc = h.rpmc := (rfl)

@[simp] theorem Hw.topoEval_rpmc (h : Hw) : h.topoEval.rpmc = h.rpmc := by simp [Hw.topoEval]

@[simp] theorem Hw.route_rpmc (h : Hw) (f : Frm) (inl : Option Nat) : (h.route f inl).rpmc = h.rpmc := by
  unfold Hw.route
  split <;> simp

@[simp] theorem Hw.peerWrite_rpmc (h : Hw) (chip addr : Nat) (bs : Bytes) : (h.peerWrite chip addr bs).rpmc = h.rpmc := by simp [Hw.peerWrite]

@[simp] theorem Hw.peerRead_rpmc (h : Hw) (chip addr n : Nat) : (h.peerRead chip addr n).rpmc = h.rpmc := by simp [Hw.peerRead]

/-! ### Ops -/

@[simp] theorem Hw.loseStack_rpmc (h : Hw) (s : Nat) : (h.loseStack s).rpmc = h.rpmc := (rfl)

@[simp] theorem Hw.recommend_rpmc (h : Hw) (s c cause : Nat) : (h.recommend s c cause).rpmc = h.rpmc := by simp [Hw.recommend]

@[simp] theorem Hw.hbmUe_rpmc (h : Hw) (line : Nat) : (h.hbmUe line).rpmc = h.rpmc := by
  grind [Hw.hbmUe, Hw.post_rpmc, Hw.set_rpmc, Hw.inc_rpmc, Hw.recommend_rpmc]

@[simp] theorem Hw.retrainTrigger_rpmc (h : Hw) (s c op : Nat) : (h.retrainTrigger s c op).rpmc = h.rpmc := by simp [Hw.retrainTrigger]

@[simp] theorem Hw.ceCount_rpmc (h : Hw) (s c : Nat) : (h.ceCount s c).rpmc = h.rpmc := by simp [Hw.ceCount]

@[simp] theorem Hw.hbmCheckWord_rpmc (h : Hw) (w flips : Nat) : (h.hbmCheckWord w flips).rpmc = h.rpmc := by
  unfold Hw.hbmCheckWord
  split <;> simp

@[simp] theorem Hw.hbmCheckMarker_rpmc (h : Hw) (w : Nat) : (h.hbmCheckMarker w).rpmc = h.rpmc := by simp [Hw.hbmCheckMarker]

@[simp] theorem Hw.hbmCheck_rpmc (h : Hw) (n n' : Nat) : (h.hbmCheck n n').rpmc = h.rpmc := by simp [Hw.hbmCheck]

@[simp] theorem Hw.poisonReads_rpmc (h : Hw) (a n : Nat) : (h.poisonReads a n).rpmc = h.rpmc := foldl_rpmc (by simp) rfl

@[simp] theorem Hw.spadCheckWord_rpmc (h : Hw) (w flips : Nat) : (h.spadCheckWord w flips).rpmc = h.rpmc := by
  unfold Hw.spadCheckWord
  split <;> simp

@[simp] theorem Hw.spadCheck_rpmc (h : Hw) (n n' : Nat) : (h.spadCheck n n').rpmc = h.rpmc := by simp [Hw.spadCheck]

@[simp] theorem Hw.readCheck_rpmc (h : Hw) (n n' : Nat) : (h.readCheck n n').rpmc = h.rpmc := by simp [Hw.readCheck]

@[simp] theorem Hw.darnFlushOne_rpmc (h : Hw) (e : Darn) : (h.darnFlushOne e).rpmc = h.rpmc := by simp [Hw.darnFlushOne]

@[simp] theorem Hw.darnFlushAll_rpmc (h : Hw) (s : Nat) : (h.darnFlushAll s).rpmc = h.rpmc := by simp [Hw.darnFlushAll]

@[simp] theorem Hw.hbmWriteFull_rpmc (h : Hw) (line : Nat) (bs : Bytes) : (h.hbmWriteFull line bs).rpmc = h.rpmc := by simp [Hw.hbmWriteFull]

@[simp] theorem Hw.hbmWriteLine_rpmc (h : Hw) (line : Nat) (bs : List (Nat × Byte)) : (h.hbmWriteLine line bs).rpmc = h.rpmc := by
  simp only [Hw.hbmWriteLine]
  (repeat' split) <;> simp

@[simp] theorem Hw.spadWriteWord_rpmc (h : Hw) (n : Nat) (bs : Bytes) : (h.spadWriteWord n bs).rpmc = h.rpmc := by simp [Hw.spadWriteWord]

@[simp] theorem Hw.staleMark_rpmc (h : Hw) (n n' : Nat) : (h.staleMark n n').rpmc = h.rpmc := by simp [Hw.staleMark]

@[simp] theorem Hw.breachMark_rpmc (h : Hw) (n n' : Nat) : (h.breachMark n n').rpmc = h.rpmc := by simp [Hw.breachMark]

theorem Hw.guardWait_rpmc {h : Hw} {ws : List (Nat × Nat)} {a : Hw} (e : h.guardWait ws = some a) : a.rpmc = h.rpmc := by
  grind [Hw.guardWait, Hw.inc_rpmc]

@[simp] theorem Hw.pokeRaw_rpmc (h : Hw) (n : Nat) (bs : Bytes) : (h.pokeRaw n bs).rpmc = h.rpmc := by simp [Hw.pokeRaw]

@[simp] theorem Hw.poke_rpmc (h : Hw) (n : Nat) (bs : Bytes) : (h.poke n bs).rpmc = h.rpmc := by simp [Hw.poke]

@[simp] theorem Hw.pokeSegs_rpmc (h : Hw) (l : List Seg) : (h.pokeSegs l).rpmc = h.rpmc := by simp [Hw.pokeSegs]

@[simp] theorem Hw.readLocal_rpmc (h : Hw) (n n' : Nat) : (h.readLocal n n').1.rpmc = h.rpmc := by simp [Hw.readLocal]

@[simp] theorem Hw.walkCheck_rpmc (h : Hw) (va : Nat) : (h.walkCheck va).rpmc = h.rpmc := by simp [Hw.walkCheck]

@[simp] theorem Hw.noteLeaf_rpmc (h : Hw) (cache va : Nat) : (h.noteLeaf cache va).rpmc = h.rpmc := by
  unfold Hw.noteLeaf
  split <;> simp

theorem Hw.resultWait_rpmc {h : Hw} {cache : Nat} {segs : List Seg} {ws : List (Nat × Nat)} {a : Hw} (e : h.resultWait cache segs ws = some a) :
    a.rpmc = h.rpmc := by
  grind [Hw.resultWait, Hw.guardWait_rpmc]

@[simp] theorem Hw.noteRange_rpmc (h : Hw) (cache va n : Nat) : (h.noteRange cache va n).rpmc = h.rpmc := by simp [Hw.noteRange]

@[simp] theorem Hw.readParts_rpmc (h : Hw) (l : List (Target × Nat)) (ext : Bytes) : (h.readParts l ext).1.rpmc = h.rpmc := by
  induction l generalizing h ext with
  | nil => rfl
  | cons x l ih =>
    obtain ⟨t, n⟩ := x
    cases t with
    | loc a => exact (ih _ _).trans (Hw.readLocal_rpmc h a n)
    | peer w off => exact (ih _ _).trans (Hw.peerRead_rpmc h _ _ _)
    | host w off => exact ih _ _

@[simp] theorem Hw.writeTarget_rpmc (h : Hw) (x : Target × Bytes) : (h.writeTarget x).rpmc = h.rpmc := by
  simp only [Hw.writeTarget]
  (repeat' split) <;> simp

theorem Hw.vread_rpmc {h : Hw} {cache : Nat} {acc : Acc} {va n : Nat} {ext : Bytes} {p : Hw × Bytes × Bool} (e : h.vread cache acc va n ext = .ok p) : p.1.rpmc = h.rpmc := by
  unfold Hw.vread at e
  split at e
  · cases e
  · obtain ⟨l, -, rfl⟩ := ok_of_map_ok e
    simp

theorem Hw.vwrite_rpmc {h a : Hw} {cache va : Nat} {bs : Bytes} (e : h.vwrite cache va bs = .ok a) : a.rpmc = h.rpmc := by
  unfold Hw.vwrite at e
  split at e
  · cases e
  · obtain ⟨l, -, rfl⟩ := ok_of_map_ok e
    exact foldl_rpmc Hw.writeTarget_rpmc (Hw.noteRange_rpmc ..)

/-! ### Bar2 -/

@[simp] theorem Hw.bar2Fail_rpmc (h : Hw) (b : Bar2) (status : Nat) : (h.bar2Fail b status).rpmc = h.rpmc := by simp [Hw.bar2Fail]

@[simp] theorem Hw.bar2One_rpmc (h : Hw) (b : Bar2) : (h.bar2One b).rpmc = h.rpmc := by
  grind [Hw.bar2One, Hw.bar2Fail_rpmc, Hw.poke_rpmc, Hw.readLocal_rpmc, Hw.send_rpmc, Hw.inc_rpmc]

@[simp] theorem Hw.bar2Steps_rpmc (n : Nat) (h : Hw) : (Hw.bar2Steps n h).rpmc = h.rpmc := by
  induction n generalizing h with
  | zero => rfl
  | succ n ih =>
    unfold Hw.bar2Steps
    split
    · rfl
    · next b rest _ =>
      rw [Hw.rpmc_ite]
      refine ite_eq_iff'.2 ⟨fun _ => rfl, fun _ => ?_⟩
      split
      · next hwait =>
        split at hwait
        · exact Hw.guardWait_rpmc hwait
        · cases hwait
      · simp [ih]

@[simp] theorem Hw.bar2Go_rpmc (h : Hw) : h.bar2Go.rpmc = h.rpmc := by simp [Hw.bar2Go]

/-! ### Faults -/

@[simp] theorem Hw.jobAdd_rpmc (h : Hw) (d : Nat) (j : Job) : (h.jobAdd d j).rpmc = h.rpmc := (rfl)

@[simp] theorem Hw.fltRingWrite_rpmc (h : Hw) (bs : Bytes) : (h.fltRingWrite bs).rpmc = h.rpmc := by simp [Hw.fltRingWrite]

@[simp] theorem Hw.fltEmit_rpmc (h : Hw) (id : Nat) (bs : Bytes) : (h.fltEmit id bs).rpmc = h.rpmc := by simp [Hw.fltEmit]

@[simp] theorem Hw.fltDrain_rpmc (n : Nat) (h : Hw) : (Hw.fltDrain n h).rpmc = h.rpmc := by
  induction n generalizing h with
  | zero => rfl
  | succ n ih =>
    unfold Hw.fltDrain
    split
    · rfl
    · split
      · rfl
      · simp [ih]

@[simp] theorem Hw.park_rpmc (h : Hw) (u : FltUnit) (id pos : Nat) : (h.park u id pos).rpmc = h.rpmc := by
  unfold Hw.park
  split <;> simp

@[simp] theorem Hw.countDmaFault_rpmc (h : Hw) (engine : Nat) : (h.countDmaFault engine).rpmc = h.rpmc := by simp [Hw.countDmaFault]

@[simp] theorem Hw.postFault_rpmc (h : Hw) (u : FltUnit) (acc : Acc) (ty : FType) (va lvl desc pte detail : Nat) (pos : optParam Nat 0) :
    (h.postFault u acc ty va lvl desc pte detail pos).rpmc = h.rpmc := by
  simp only [Hw.postFault]
  (repeat' split) <;> simp

/-! ### Tape -/

@[simp] theorem Hw.tapePut_rpmc (h : Hw) (slot : Nat) (b : Bytes) : (h.tapePut slot b).rpmc = h.rpmc := by
  unfold Hw.tapePut
  split <;> simp

@[simp] theorem Hw.gradStarve_rpmc (h : Hw) (slot kind ctx step value : Nat) : (h.gradStarve slot kind ctx step value).rpmc = h.rpmc := by
  simp [Hw.gradStarve]

@[simp] theorem Hw.tapeBegin_rpmc (h : Hw) (slot step ctx : Nat) : (h.tapeBegin slot step ctx).rpmc = h.rpmc := by simp [Hw.tapeBegin]

@[simp] theorem Hw.tapeComplete_rpmc (h : Hw) (ctx : Nat) (t : TapeStat) : (h.tapeComplete ctx t).rpmc = h.rpmc := by simp [Hw.tapeComplete]

@[simp] theorem Hw.relaxation_rpmc (h : Hw) (slot : Nat) (old new : TapeRec) : (h.relaxation slot old new).rpmc = h.rpmc := by simp [Hw.relaxation]

@[simp] theorem Hw.tapeSoftWrite_rpmc (h : Hw) (slot : Nat) (b : Bytes) : (h.tapeSoftWrite slot b).rpmc = h.rpmc := by simp [Hw.tapeSoftWrite]

end Sys2Proof.Machine

end

section

/-! PROOFS. Placement, contexts, queues and fetch: no function here changes a monotonic counter of NOR (R464). -/

namespace Sys2Proof.Machine

/-! ### Place -/

@[simp] theorem Hw.allocRegion_rpmc (h : Hw) (stack : Option Nat) (size : Nat) : (h.allocRegion stack size).1.rpmc = h.rpmc := by
  simp only [Hw.allocRegion]
  (repeat' split) <;> simp

@[simp] theorem Hw.writePte_rpmc (h : Hw) (pa e : Nat) : (h.writePte pa e).rpmc = h.rpmc := by simp [Hw.writePte]

@[simp] theorem Hw.ensureTable_rpmc (h : Hw) (pa : Nat) : (h.ensureTable pa).1.rpmc = h.rpmc := by
  grind [Hw.ensureTable, Hw.allocRegion_rpmc, Hw.writePte_rpmc, Hw.poke_rpmc]

@[simp] theorem Hw.mapRange_rpmc (f : Nat) (h : Hw) (va pa n : Nat) (leaf : Nat → Nat) : (Hw.mapRange f h va pa n leaf).1.rpmc = h.rpmc := by
  induction f generalizing h va pa n with
  | zero => rfl
  | succ f ih =>
    unfold Hw.mapRange
    split
    · rfl
    · split
      · next e => exact rpmc_of_fst (Hw.ensureTable_rpmc ..) e
      · next e =>
        have h1 := rpmc_of_fst (Hw.ensureTable_rpmc ..) e
        dsimp only
        split
        · exact (ih ..).trans ((Hw.writePte_rpmc ..).trans h1)
        · split
          · next e' => exact (rpmc_of_fst (Hw.ensureTable_rpmc ..) e').trans h1
          · next e' => exact (ih ..).trans ((Hw.writePte_rpmc ..).trans ((rpmc_of_fst (Hw.ensureTable_rpmc ..) e').trans h1))

@[simp] theorem Hw.unmapRange_rpmc (f : Nat) (h : Hw) (va n : Nat) : (Hw.unmapRange f h va n).rpmc = h.rpmc := by
  induction f generalizing h va n with
  | zero => rfl
  | succ f ih =>
    unfold Hw.unmapRange
    split
    · rfl
    · dsimp only
      split
      · exact ih ..
      · split
        · exact ih ..
        · split
          · simp [ih]
          · refine (ih ..).trans ?_
            split <;> simp

@[simp] theorem Hw.invalRange_rpmc (h : Hw) (va n : Nat) : (h.invalRange va n).rpmc = h.rpmc := (rfl)

@[simp] theorem Hw.recPut_rpmc (h : Hw) (n : Nat) (bs : Bytes) : (h.recPut n bs).rpmc = h.rpmc := by
  grind [Hw.recPut, Hw.vwrite_rpmc, Hw.postFault_rpmc]

@[simp] theorem Hw.recsGo_rpmc (h : Hw) : h.recsGo.rpmc = h.rpmc := by simp [Hw.recsGo]

@[simp] theorem Hw.recWriteObj_rpmc (h : Hw) (n : Nat) : (h.recWriteObj n).rpmc = h.rpmc := by
  unfold Hw.recWriteObj
  split <;> simp

@[simp] theorem Hw.objChange_rpmc (h : Hw) (n : Nat) (f : Obj → Obj) : (h.objChange n f).rpmc = h.rpmc := by simp [Hw.objChange]

@[simp] theorem Hw.givePlace_rpmc (h : Hw) (n t loc reason : Nat) (pin : Bool) : (h.givePlace n t loc reason pin).rpmc = h.rpmc := by
  unfold Hw.givePlace
  split
  · rfl
  · dsimp only
    split <;> split <;> simp <;> (repeat' split) <;> simp

@[simp] theorem Hw.makePending_rpmc (h : Hw) (n reason : Nat) : (h.makePending n reason).rpmc = h.rpmc := by
  unfold Hw.makePending
  split <;> simp

@[simp] theorem Hw.placeFrom_rpmc (f : Nat) (h : Hw) (n t reason : Nat) : (Hw.placeFrom f h n t reason).1.rpmc = h.rpmc := by
  induction f generalizing h n t reason with
  | zero => exact Hw.makePending_rpmc ..
  | succ f ih =>
    unfold Hw.placeFrom
    split
    · rfl
    · split
      · exact Hw.makePending_rpmc ..
      · split
        · exact ih ..
        · dsimp only
          split
          · exact ih ..
          · exact (Hw.givePlace_rpmc ..).trans (foldl_rpmc (fun h v => (Hw.inc_rpmc ..).trans (ih ..)) rfl)

@[simp] theorem Hw.place_rpmc (h : Hw) (n t reason : Nat) : (h.place n t reason).1.rpmc = h.rpmc := by simp [Hw.place]

@[simp] theorem Hw.retryPending_rpmc (h : Hw) : h.retryPending.rpmc = h.rpmc := by
  refine foldl_rpmc (fun h n => ?_) rfl
  split
  · dsimp only
    split <;> simp
  · rfl

@[simp] theorem Hw.mapObj_rpmc (h : Hw) (o : Obj) : (h.mapObj o).rpmc = h.rpmc := by simp [Hw.mapObj]

@[simp] theorem Hw.releaseObj_rpmc (h : Hw) (n reason : Nat) : (h.releaseObj n reason).rpmc = h.rpmc := by
  unfold Hw.releaseObj
  split <;> simp

@[simp] theorem Hw.settleObj_rpmc (h : Hw) (n : Nat) : (h.settleObj n).rpmc = h.rpmc := by
  simp only [Hw.settleObj]
  (repeat' split) <;> simp

@[simp] theorem Hw.treqErr_rpmc (h : Hw) (err : Nat) : (h.treqErr err).rpmc = h.rpmc := by simp [Hw.treqErr]

@[simp] theorem Hw.treqAnswer_rpmc (h : Hw) (slot n result : Nat) : (h.treqAnswer slot n result).rpmc = h.rpmc := by
  grind [Hw.treqAnswer, Hw.vwrite_rpmc, Hw.set_rpmc, Hw.treqErr_rpmc, Hw.postFault_rpmc]

@[simp] theorem Hw.moveSeat_rpmc (h : Hw) (n : Nat) : (h.moveSeat n).rpmc = h.rpmc := by
  unfold Hw.moveSeat
  split <;> simp

@[simp] theorem Hw.moveSeats_rpmc (h : Hw) : h.moveSeats.rpmc = h.rpmc := by simp [Hw.moveSeats]

@[simp] theorem Hw.settle_rpmc (h : Hw) : h.settle.rpmc = h.rpmc := by
  simp only [Hw.settle]
  (repeat' split) <;> simp

/-! ### Ctx -/

@[simp] theorem Hw.queueErr_rpmc (h : Hw) (q err : Nat) : (h.queueErr q err).rpmc = h.rpmc := by simp [Hw.queueErr]

@[simp] theorem Hw.ringFault_rpmc (h : Hw) (q : Nat) (sub : Bool) (acc : Acc) (x : XFault) : (h.ringFault q sub acc x).rpmc = h.rpmc := by
  simp [Hw.ringFault]

@[simp] theorem Hw.drained_rpmc (h : Hw) : h.drained.rpmc = h.rpmc := by grind [Hw.drained, Hw.setB_rpmc, Hw.settle_rpmc]

@[simp] theorem Hw.ctxLeave_rpmc (h : Hw) (c : Nat) : (h.ctxLeave c).rpmc = h.rpmc := by simp [Hw.ctxLeave]

@[simp] theorem Hw.ctxFree_rpmc (h : Hw) (c : Nat) (rec : Bytes) : (h.ctxFree c rec).rpmc = h.rpmc := by simp [Hw.ctxFree]

theorem Hw.recWrite_rpmc {h a : Hw} {q : Nat} {r : HeldRec} (e : h.recWrite q r = .ok a) : a.rpmc = h.rpmc := by
  obtain ⟨b, hwrite, rfl⟩ := ok_of_map_ok e
  simpa [apply_ite Hw.rpmc] using Hw.vwrite_rpmc hwrite

@[simp] theorem Hw.recDrain_rpmc (n q : Nat) (h : Hw) : (Hw.recDrain n q h).rpmc = h.rpmc := by
  induction n generalizing h with
  | zero => rfl
  | succ n ih =>
    unfold Hw.recDrain
    split
    · rfl
    · split
      · rfl
      · split
        · next e => simp [ih, Hw.recWrite_rpmc e]
        · split <;> simp

@[simp] theorem Hw.postRecord_rpmc (h : Hw) (c : Nat) (isCtx : Bool) (bs : Bytes) : (h.postRecord c isCtx bs).rpmc = h.rpmc := by
  unfold Hw.postRecord
  split <;> simp

@[simp] theorem Hw.finishCore_rpmc (h : Hw) (c : Nat) (e : Ent) (status detail : Nat) (fl : Flags) : (h.finishCore c e status detail fl).rpmc =
    h.rpmc := by
  unfold Hw.finishCore
  split <;> simp

@[simp] theorem Hw.tryEnd_rpmc (h : Hw) (c : Nat) : (h.tryEnd c).rpmc = h.rpmc := by
  unfold Hw.tryEnd
  split <;> simp

@[simp] theorem Hw.failStop_rpmc (h : Hw) (c : Nat) : (h.failStop c).rpmc = h.rpmc := by
  unfold Hw.failStop
  split <;> simp

@[simp] theorem Hw.finish_rpmc (h : Hw) (c : Nat) (e : Ent) (status detail : Nat) (fl : Flags) : (h.finish c e status detail fl).rpmc = h.rpmc := by
  simp [Hw.finish]

@[simp] theorem Hw.gatherRange_rpmc (h : Hw) (cache : Nat) (g : Nat × Nat) (ext : Bytes) : (h.gatherRange cache g ext).1.rpmc = h.rpmc := by
  unfold Hw.gatherRange
  split <;> simp

@[simp] theorem Hw.gatherHome_rpmc (h : Hw) (cache : Nat) (rs : List (Nat × Nat)) (ext : Bytes) : (h.gatherHome cache rs ext).1.rpmc = h.rpmc := by
  unfold Hw.gatherHome
  dsimp only
  refine foldl_fst_rpmc (fun st g => ?_) rfl
  exact Hw.gatherRange_rpmc ..

@[simp] theorem Hw.gather_rpmc (h : Hw) (cache : Nat) (e : Ent) (l : List Region) : (h.gather cache e l).1.rpmc = h.rpmc := by
  induction l generalizing h with
  | nil => rfl
  | cons r l ih =>
    have hdata : (if r.rd then match e.copyOf r.o with
        | some k => (h, viewOf r.ranges k.data, k.bad)
        | none => h.gatherHome cache r.ranges []
      else (h, [], [])).1.rpmc = h.rpmc := by
      split
      · split
        · rfl
        · exact Hw.gatherHome_rpmc ..
      · rfl
    exact (ih _).trans hdata

@[simp] theorem Hw.writebackJob_rpmc (h : Hw) (c : Nat) (e : Ent) : (h.writebackJob c e).rpmc = h.rpmc := by
  simp only [Hw.writebackJob]
  (repeat' split) <;> simp

@[simp] theorem Hw.toWriteback_rpmc (h : Hw) (c : Nat) (e : Ent) : (h.toWriteback c e).rpmc = h.rpmc := by simp [Hw.toWriteback]

@[simp] theorem Hw.touch_rpmc (h : Hw) (e : Ent) : (h.touch e).rpmc = h.rpmc := by simp [Hw.touch]

theorem Hw.staleAct_rpmc {h : Hw} {c : Nat} {e : Ent} {a : Hw} (e : h.staleAct c e = some a) : a.rpmc = h.rpmc := by
  grind [Hw.staleAct, Hw.updEnt_rpmc, Hw.dropWins_rpmc, Hw.postFault_rpmc, Hw.inc_rpmc]

/-! ### Snap -/

@[simp] theorem Hw.releaseHeld_rpmc (h : Hw) : h.releaseHeld.rpmc = h.rpmc := by
  refine (Hw.bar2Go_rpmc _).trans (foldl_fst_rpmc (fun st w => ?_) rfl)
  split <;> simp

@[simp] theorem Hw.epochRelease_rpmc (h : Hw) (k : Hand) : (h.epochRelease k).rpmc = h.rpmc := by
  unfold Hw.epochRelease
  split <;> simp

@[simp] theorem Hw.snapAborted_rpmc (h : Hw) (k : Hand) (reason : Nat) : (h.snapAborted k reason).rpmc = h.rpmc := by simp [Hw.snapAborted]

@[simp] theorem Hw.snapAbort_rpmc (h : Hw) (reason : Nat) : (h.snapAbort reason).rpmc = h.rpmc := by
  unfold Hw.snapAbort
  split <;> simp

@[simp] theorem Hw.restoreFail_rpmc (h : Hw) (status cause entry : Nat) : (h.restoreFail status cause entry).rpmc = h.rpmc := by
  unfold Hw.restoreFail
  split <;> simp

@[simp] theorem Hw.buddyLost_rpmc (h : Hw) : h.buddyLost.rpmc = h.rpmc := by
  simp only [Hw.buddyLost]
  (repeat' split) <;> simp

@[simp] theorem Hw.captureFault_rpmc (h : Hw) (chip : Nat) : (h.captureFault chip).rpmc = h.rpmc := by
  unfold Hw.captureFault
  split <;> simp

@[simp] theorem Hw.chipLost_rpmc (h : Hw) (chip : Nat) : (h.chipLost chip).rpmc = h.rpmc := by
  unfold Hw.chipLost
  split <;> simp

/-! ### Link -/

@[simp] theorem Hw.noRoute_rpmc (h : Hw) (a : Nat) (plus : Bool) : (h.noRoute a plus).rpmc = h.rpmc := by
  unfold Hw.noRoute
  split
  · rfl
  · refine foldl_rpmc (fun h i => ?_) rfl
    split
    · split <;> simp
    · rfl

@[simp] theorem Hw.handBack_rpmc (h : Hw) (l : Nat) : (h.handBack l).rpmc = h.rpmc := by
  unfold Hw.handBack
  dsimp only
  split
  · rfl
  · split
    · rfl
    · refine ite_rpmc (ite_rpmc (Hw.noRoute_rpmc ..) rfl) (foldl_rpmc (fun _ _ => Hw.pump_rpmc ..) (foldl_rpmc (fun h f => ?_) rfl))
      split <;> rfl

@[simp] theorem Hw.boardRoutes_rpmc (h : Hw) : h.boardRoutes.rpmc = h.rpmc := by
  unfold Hw.boardRoutes
  split
  · rfl
  · split
    · rfl
    · refine foldl_rpmc (fun h i => ?_) rfl
      split
      · split
        · rfl
        · dsimp only
          split
          · simp
          · split <;> simp
      · rfl

@[simp] theorem Hw.setLk_rpmc (h : Hw) (l st : Nat) : (h.setLk l st).rpmc = h.rpmc := by simp [Hw.setLk]

/-! ### Queue -/

@[simp] theorem Hw.badDoorbell_rpmc (h : Hw) (q err : Nat) : (h.badDoorbell q err).rpmc = h.rpmc := by simp [Hw.badDoorbell]

@[simp] theorem Hw.submitMarks_rpmc (h : Hw) (q v : Nat) : (h.submitMarks q v).rpmc = h.rpmc := (rfl)

@[simp] theorem Hw.sqTailAct_rpmc (h : Hw) (q v : Nat) : (h.sqTailAct q v).rpmc = h.rpmc := by simp [Hw.sqTailAct]

@[simp] theorem Hw.cqHeadAct_rpmc (h : Hw) (q v : Nat) : (h.cqHeadAct q v).rpmc = h.rpmc := by simp [Hw.cqHeadAct]

@[simp] theorem effSqTailDb_rpmc (h : Hw) (q v : Nat) : (effSqTailDb q v h).rpmc = h.rpmc := by simp [effSqTailDb]

@[simp] theorem effCqHeadDb_rpmc (h : Hw) (q v : Nat) : (effCqHeadDb q v h).rpmc = h.rpmc := by simp [effCqHeadDb]

@[simp] theorem effAdmitEntry_rpmc (q : Nat) (ext : Bytes) (h : Hw) : (effAdmitEntry q ext h).rpmc = h.rpmc := by
  unfold effAdmitEntry
  split
  · split <;> simp
  · split
    · rfl
    · dsimp only
      split
      · split <;> simp
      · next e =>
        have hread := Hw.vread_rpmc e
        split
        · exact hread
        · simpa using hread

@[simp] theorem effWriteCompletionRecord_rpmc (h : Hw) (q : Nat) : (effWriteCompletionRecord q h).rpmc = h.rpmc := by
  simp [effWriteCompletionRecord]

@[simp] theorem Hw.queueCfg_rpmc (h : Hw) (q w : Nat) : (h.queueCfg q w).rpmc = h.rpmc := by simp [Hw.queueCfg]

@[simp] theorem Hw.queueRefused_rpmc (h : Hw) (q w : Nat) : (h.queueRefused q w).rpmc = h.rpmc := by simp [Hw.queueRefused]

@[simp] theorem Hw.queueStart_rpmc (h : Hw) (q : Nat) : (h.queueStart q).rpmc = h.rpmc := by
  simp only [Hw.queueStart]
  (repeat' split) <;> simp

@[simp] theorem effQueueEnable_rpmc (h : Hw) (q w : Nat) : (effQueueEnable q w h).rpmc = h.rpmc := by simp [effQueueEnable]

@[simp] theorem Hw.discardHeld_rpmc (h : Hw) (q : Nat) : (h.discardHeld q).rpmc = h.rpmc := by simp [Hw.discardHeld]

@[simp] theorem Hw.queueDrain_rpmc (h : Hw) (q : Nat) : (h.queueDrain q).rpmc = h.rpmc := by simp [Hw.queueDrain]

@[simp] theorem Hw.queueStop_rpmc (h : Hw) (q : Nat) : (h.queueStop q).rpmc = h.rpmc := by simp [Hw.queueStop]

@[simp] theorem effQueueDisable_rpmc (h : Hw) (q w : Nat) : (effQueueDisable q w h).rpmc = h.rpmc := by simp [effQueueDisable]

@[simp] theorem effQueueDrained_rpmc (h : Hw) (q : Nat) : (effQueueDrained q h).rpmc = h.rpmc := by simp [effQueueDrained]

/-! ### Fetch -/

theorem Hw.readDesc_rpmc {h : Hw} {cache i : Nat} {ext : Bytes} {p : Hw × Nat} (e : h.readDesc cache i ext = .ok p) : p.1.rpmc = h.rpmc := by
  unfold Hw.readDesc at e
  dsimp only at e
  split at e
  · split at e
    · cases e
      rfl
    · cases e
  · next hread =>
    cases e
    exact Hw.vread_rpmc hread

theorem Hw.readDescs_rpmc {h : Hw} {cache : Nat} {ext : Bytes} {l : List Nat} {p : Hw × List (Nat × Nat)} (e : h.readDescs cache ext l = .ok p) : p.1.rpmc = h.rpmc := by
  induction l generalizing h p with
  | nil =>
    cases e
    rfl
  | cons i l ih =>
    unfold Hw.readDescs at e
    split at e
    · cases e
    · next hdesc =>
      obtain ⟨o, hrest, rfl⟩ := ok_of_map_ok e
      exact (ih hrest).trans (Hw.readDesc_rpmc hdesc)

theorem Hw.entDescs_rpmc {h : Hw} {cache raw : Nat} {ext : Bytes} {p : Hw × List (Nat × Nat)} (e : h.entDescs cache raw ext = .ok p) : p.1.rpmc = h.rpmc := by
  unfold Hw.entDescs at e
  split at e
  · cases e
  · next hdescs =>
    obtain ⟨o, hhems, rfl⟩ := ok_of_map_ok e
    exact (Hw.readDescs_rpmc hhems).trans (Hw.readDescs_rpmc hdescs)

@[simp] theorem Hw.enter_rpmc (h : Hw) (c : Nat) (e : Ent) (ds : List (Nat × Nat)) : (h.enter c e ds).rpmc = h.rpmc := (rfl)

@[simp] theorem effFetchInstruction_rpmc (c : Nat) (ext : Bytes) (h : Hw) : (effFetchInstruction c ext h).rpmc = h.rpmc := by
  unfold effFetchInstruction
  split
  · rfl
  · split
    · split
      · rfl
      · split
        · rfl
        · next hdescs => simpa using Hw.entDescs_rpmc hdescs
    · split
      · rfl
      · split
        · rfl
        · next hread =>
          dsimp only
          split
          · simpa using Hw.vread_rpmc hread
          · split
            · simpa using Hw.vread_rpmc hread
            · next hdescs => exact (Hw.enter_rpmc ..).trans ((Hw.entDescs_rpmc hdescs).trans (Hw.vread_rpmc hread))

@[simp] theorem effAssignContinueMma_rpmc (h : Hw) (c i : Nat) : (effAssignContinueMma c i h).rpmc = h.rpmc := by
  unfold effAssignContinueMma
  split <;> simp

end Sys2Proof.Machine

end

section

/-! PROOFS. Engines: no function here changes a monotonic counter of NOR (R464). -/

namespace Sys2Proof.Machine

/-! ### Arrays -/

@[simp] theorem Hw.slabFree_rpmc (h : Hw) (c i : Nat) : (h.slabFree c i).rpmc = h.rpmc := (rfl)

@[simp] theorem Hw.slabTurn_rpmc (h : Hw) (n : Nat) : (h.slabTurn n).rpmc = h.rpmc := by
  simp only [Hw.slabTurn]
  (repeat' split) <;> simp

@[simp] theorem Hw.tapeBegins_rpmc (h : Hw) (c step : Nat) (e : Ent) : (h.tapeBegins c step e).rpmc = h.rpmc := by simp [Hw.tapeBegins]

@[simp] theorem Hw.shareMark_rpmc (h : Hw) (n : Nat) : (h.shareMark n).rpmc = h.rpmc := (rfl)

@[simp] theorem Hw.mmaStart_rpmc (h : Hw) (n c : Nat) (x : Ctx) (e : Ent) : (h.mmaStart n c x e).rpmc = h.rpmc := by simp [Hw.mmaStart]

@[simp] theorem effMma_rpmc (h : Hw) (n : Nat) : (effMma n h).rpmc = h.rpmc := by grind [effMma, Hw.finish_rpmc, Hw.staleAct_rpmc, Hw.mmaStart_rpmc]

@[simp] theorem Hw.dropChain_rpmc (h : Hw) (c tag : Nat) : (h.dropChain c tag).rpmc = h.rpmc := (rfl)

@[simp] theorem Hw.keepChain_rpmc (h : Hw) (c tag count : Nat) (wide : List Nat) : (h.keepChain c tag count wide).rpmc = h.rpmc := (rfl)

@[simp] theorem Hw.mmaEnd_rpmc (h : Hw) (c : Nat) (e : Ent) : (h.mmaEnd c e).rpmc = h.rpmc := by
  simp only [Hw.mmaEnd]
  (repeat' split) <;> simp

@[simp] theorem effMmaLastPromotion_rpmc (h : Hw) (c i : Nat) : (effMmaLastPromotion c i h).rpmc = h.rpmc := by
  unfold effMmaLastPromotion
  split <;> simp

@[simp] theorem effMmaWritebackDone_rpmc (c i : Nat) (h : Hw) : (effMmaWritebackDone c i h).rpmc = h.rpmc := by
  unfold effMmaWritebackDone
  split
  · split
    · rfl
    · dsimp only
      split
      · exact getD_rpmc Hw.resultWait_rpmc (Hw.mmaEnd_rpmc ..)
      · simp
  · rfl

/-! ### Vector -/

@[simp] theorem Hw.vecGo_rpmc (h : Hw) (v c : Nat) (x : Ctx) (e : Ent) : (h.vecGo v c x e).rpmc = h.rpmc := by simp [Hw.vecGo]

@[simp] theorem Hw.vecStart_rpmc (h : Hw) (v c : Nat) (x : Ctx) (e : Ent) : (h.vecStart v c x e).rpmc = h.rpmc := by simp [Hw.vecStart]

@[simp] theorem Hw.vecIssue_rpmc (h : Hw) (v : Nat) (isClass : Nat → Bool) : (h.vecIssue v isClass).rpmc = h.rpmc := by
  grind [Hw.vecIssue, Hw.finish_rpmc, Hw.staleAct_rpmc, Hw.vecStart_rpmc]

@[simp] theorem effCvt_rpmc (h : Hw) (v : Nat) : (effCvt v h).rpmc = h.rpmc := by simp [effCvt]

@[simp] theorem effVop_rpmc (h : Hw) (v : Nat) : (effVop v h).rpmc = h.rpmc := by simp [effVop]

@[simp] theorem effDropout_rpmc (h : Hw) (v : Nat) : (effDropout v h).rpmc = h.rpmc := by simp [effDropout]

@[simp] theorem effOptSgd_rpmc (h : Hw) (v : Nat) : (effOptSgd v h).rpmc = h.rpmc := by simp [effOptSgd]

@[simp] theorem effOptMomentum_rpmc (h : Hw) (v : Nat) : (effOptMomentum v h).rpmc = h.rpmc := by simp [effOptMomentum]

@[simp] theorem effOptAdamw_rpmc (h : Hw) (v : Nat) : (effOptAdamw v h).rpmc = h.rpmc := by simp [effOptAdamw]

@[simp] theorem effRed_rpmc (h : Hw) (v : Nat) : (effRed v h).rpmc = h.rpmc := by simp [effRed]

@[simp] theorem effPleat_rpmc (h : Hw) (v : Nat) : (effPleat v h).rpmc = h.rpmc := by simp [effPleat]

@[simp] theorem effUnpleat_rpmc (h : Hw) (v : Nat) : (effUnpleat v h).rpmc = h.rpmc := by simp [effUnpleat]

@[simp] theorem effRng_rpmc (h : Hw) (v : Nat) : (effRng v h).rpmc = h.rpmc := by simp [effRng]

@[simp] theorem Hw.vecEnd_rpmc (h : Hw) (c : Nat) (e : Ent) : (h.vecEnd c e).rpmc = h.rpmc := by
  simp only [Hw.vecEnd]
  (repeat' split) <;> simp

@[simp] theorem effVecInstrComplete_rpmc (c i : Nat) (h : Hw) : (effVecInstrComplete c i h).rpmc = h.rpmc := by
  unfold effVecInstrComplete
  split
  · split
    · rfl
    · dsimp only
      split
      · exact getD_rpmc Hw.resultWait_rpmc (Hw.vecEnd_rpmc ..)
      · simp
  · rfl

/-! ### Dma -/

@[simp] theorem effMove_rpmc (h : Hw) (d : Nat) : (effMove d h).rpmc = h.rpmc := by
  simp only [effMove]
  (repeat' split) <;> simp

theorem Hw.readStream_rpmc {h : Hw} {cache : Nat} {l : List (Nat × Nat)} {ext : Bytes} {p : Hw × Bytes × Bool} (e : h.readStream cache l ext = .ok p) : p.1.rpmc = h.rpmc := by
  induction l generalizing h ext p with
  | nil =>
    cases e
    rfl
  | cons x l ih =>
    unfold Hw.readStream at e
    split at e
    · cases e
    · obtain ⟨o, hrest, rfl⟩ := ok_of_map_ok e
      simpa using ih hrest

theorem Hw.writeStream_rpmc {h a : Hw} {cache : Nat} {l : List (Nat × Nat)} {bs : Bytes} (e : h.writeStream cache l bs = .ok a) : a.rpmc = h.rpmc := by
  induction l generalizing h bs a with
  | nil =>
    cases e
    rfl
  | cons x l ih =>
    unfold Hw.writeStream at e
    split at e
    · cases e
    · split at e
      · cases e
      · next hrest =>
        cases e
        exact foldl_rpmc Hw.writeTarget_rpmc ((ih hrest).trans (Hw.noteRange_rpmc ..))

@[simp] theorem Hw.updJob_rpmc (h : Hw) (d c i : Nat) (f : Job → Job) : (h.updJob d c i f).rpmc = h.rpmc := (rfl)

@[simp] theorem Hw.dropJob_rpmc (h : Hw) (d c i : Nat) : (h.dropJob d c i).rpmc = h.rpmc := (rfl)

@[simp] theorem Hw.moveConsumed_rpmc (h : Hw) (d c i : Nat) (rest : List (Nat × Nat)) : (h.moveConsumed d c i rest).rpmc = h.rpmc := by
  simp [Hw.moveConsumed]

@[simp] theorem effDmaChunkDone_rpmc (c i k : Nat) (ext : Bytes) (h : Hw) : (effDmaChunkDone c i k ext h).rpmc = h.rpmc := by
  unfold effDmaChunkDone
  split
  · rfl
  · dsimp only
    split
    · refine ite_rpmc rfl ?_
      split
      · next hstale => exact Hw.staleAct_rpmc hstale
      · split
        · rfl
        · next hread =>
          have h1 := Hw.readStream_rpmc hread
          refine ite_rpmc ((Hw.finish_rpmc ..).trans ((Hw.dropWins_rpmc ..).trans ((Hw.dropJob_rpmc ..).trans h1))) ?_
          split
          · next hwait => exact Hw.resultWait_rpmc hwait
          · rfl
          · next hwrite =>
            refine ite_rpmc ((Hw.finish_rpmc ..).trans ((Hw.dropJob_rpmc ..).trans ?_)) ?_
            all_goals exact (Hw.moveConsumed_rpmc ..).trans ((Hw.updEnt_rpmc ..).trans ((Hw.updJob_rpmc ..).trans
                ((Hw.inc_rpmc ..).trans ((Hw.inc_rpmc ..).trans ((Hw.writeStream_rpmc hwrite).trans h1)))))
    · rfl

@[simp] theorem Hw.takeWins_rpmc (h : Hw) (p c i o marks : Nat) (ws : List (Nat × Nat)) : (h.takeWins p c i o marks ws).rpmc = h.rpmc := (rfl)

@[simp] theorem Hw.dropCopies_rpmc (h : Hw) (c i : Nat) (p : Nat → Bool) : (h.dropCopies c i p).rpmc = h.rpmc := (rfl)

@[simp] theorem Hw.makeRoom_rpmc (f p need : Nat) (h : Hw) : (Hw.makeRoom f p need h).rpmc = h.rpmc := by
  induction f generalizing h with
  | zero => rfl
  | succ f ih =>
    unfold Hw.makeRoom
    split
    · rfl
    · dsimp only
      split
      · rfl
      · simp [ih]

@[simp] theorem Hw.copyStart_rpmc (h : Hw) (d c p : Nat) (e : Ent) (r : Region) (ahead : Bool) (cut : Nat) : (h.copyStart d c p e r ahead cut).rpmc = h.rpmc := (rfl)

@[simp] theorem effStagingCopyStart_rpmc (h : Hw) (c i o : Nat) : (effStagingCopyStart c i o h).rpmc = h.rpmc := by
  simp only [effStagingCopyStart]
  (repeat' split) <;> simp

@[simp] theorem Hw.aheadStop_rpmc (h : Hw) (c i o va : Nat) : (h.aheadStop c i o va).rpmc = h.rpmc := by
  simp only [Hw.aheadStop]
  (repeat' split) <;> simp

@[simp] theorem effStagingCopyDone_rpmc (c i o : Nat) (ext : Bytes) (h : Hw) : (effStagingCopyDone c i o ext h).rpmc = h.rpmc := by
  unfold effStagingCopyDone
  split
  · rfl
  · split
    · exact ite_rpmc rfl (ite_rpmc (Hw.aheadStop_rpmc ..) (ite_rpmc (getD_rpmc Hw.staleAct_rpmc rfl) (ite_rpmc rfl (by simp))))
    · rfl

theorem Hw.writeVirt_rpmc {h : Hw} {cache : Nat} {ws : List (Nat × Bytes)} {a : Hw} (e : h.writeVirt cache ws = .ok a) : a.rpmc = h.rpmc := by
  grind [Hw.writeVirt, Hw.writeStream_rpmc]

@[simp] theorem effStagedWriteback_rpmc (h : Hw) (c i : Nat) : (effStagedWriteback c i h).rpmc = h.rpmc := by
  simp only [effStagedWriteback]
  grind [Hw.writebackJob_rpmc, Hw.resultWait_rpmc, Hw.writeVirt_rpmc, Hw.inc_rpmc, Hw.mmaEnd_rpmc, Hw.vecEnd_rpmc]

@[simp] theorem Hw.moveAhead_rpmc (h : Hw) (d c : Nat) (e : Ent) (s : Desc) : (h.moveAhead d c e s).rpmc = h.rpmc := by simp [Hw.moveAhead]

@[simp] theorem Hw.copyAhead_rpmc (h : Hw) (p c : Nat) (e : Ent) (r : Region) : (h.copyAhead p c e r).rpmc = h.rpmc := by
  simp only [Hw.copyAhead]
  (repeat' split) <;> simp

@[simp] theorem effRunAheadStart_rpmc (h : Hw) (c i o : Nat) : (effRunAheadStart c i o h).rpmc = h.rpmc := by
  simp only [effRunAheadStart]
  (repeat' split) <;> simp

/-! ### Stat -/

@[simp] theorem Hw.statSet_rpmc (h : Hw) (e : Ent) (bad : Bool) (f : TapeRec → TapeRec) : (h.statSet e bad f).1.rpmc = h.rpmc := by
  simp [Hw.statSet]

@[simp] theorem Hw.statRun_rpmc (h : Hw) (e : Ent) (n : Nat) : (h.statRun e n).1.rpmc = h.rpmc := by
  unfold Hw.statRun
  split
  · simp
  · split
    · rfl
    · split
      · next hwrite => exact Hw.writeStream_rpmc hwrite
      · rfl
  · simp
  · simp
  · simp
  · split
    · rfl
    · split
      · rfl
      · next hread =>
        have h1 := Hw.readStream_rpmc hread
        split
        · exact h1
        · split <;> simpa using h1

@[simp] theorem Hw.absClear_rpmc (h : Hw) (slot : Nat) : (h.absClear slot).rpmc = h.rpmc := (rfl)

@[simp] theorem Hw.statDo_rpmc (h : Hw) (c i sfn : Nat) : (h.statDo c i sfn).rpmc = h.rpmc := by
  unfold Hw.statDo
  split <;> simp

@[simp] theorem effStatRegister_rpmc (h : Hw) (c i : Nat) : (effStatRegister c i h).rpmc = h.rpmc := by simp [effStatRegister]

@[simp] theorem effStatQuery_rpmc (h : Hw) (c i : Nat) : (effStatQuery c i h).rpmc = h.rpmc := by simp [effStatQuery]

@[simp] theorem effStatSetscale_rpmc (h : Hw) (c i : Nat) : (effStatSetscale c i h).rpmc = h.rpmc := by simp [effStatSetscale]

@[simp] theorem effStatSetctl_rpmc (h : Hw) (c i : Nat) : (effStatSetctl c i h).rpmc = h.rpmc := by simp [effStatSetctl]

@[simp] theorem effStatSetwatch_rpmc (h : Hw) (c i : Nat) : (effStatSetwatch c i h).rpmc = h.rpmc := by simp [effStatSetwatch]

@[simp] theorem effStatLoad_rpmc (h : Hw) (c i : Nat) : (effStatLoad c i h).rpmc = h.rpmc := by simp [effStatLoad]

/-! ### Sync -/

@[simp] theorem effSignal_rpmc (h : Hw) (c i : Nat) : (effSignal c i h).rpmc = h.rpmc := by
  unfold effSignal
  split <;> simp

@[simp] theorem effWait_rpmc (h : Hw) (c i : Nat) : (effWait c i h).rpmc = h.rpmc := by
  unfold effWait
  split <;> simp

@[simp] theorem effWaitTimeout_rpmc (h : Hw) (c i : Nat) : (effWaitTimeout c i h).rpmc = h.rpmc := by
  unfold effWaitTimeout
  split <;> simp

@[simp] theorem effFence_rpmc (h : Hw) (c i : Nat) : (effFence c i h).rpmc = h.rpmc := by
  unfold effFence
  split <;> simp

@[simp] theorem effTokenWrite_rpmc (h : Hw) (t v : Nat) : (effTokenWrite t v h).rpmc = h.rpmc := by simp [effTokenWrite]

/-! ### Contexts -/

@[simp] theorem Hw.undefWriteback_rpmc (h : Hw) (c : Nat) (e : Ent) : (h.undefWriteback c e).rpmc = h.rpmc := by
  unfold Hw.undefWriteback
  split
  · refine foldl_rpmc (fun h w => ?_) rfl
    split
    · next hwrite => exact Hw.writeVirt_rpmc hwrite
    · rfl
  · rfl

@[simp] theorem Hw.unitRetry_rpmc (h : Hw) (x : FltUnit) : (h.unitRetry x).rpmc = h.rpmc := by
  unfold Hw.unitRetry
  split <;> simp

@[simp] theorem Hw.unitCancel_rpmc (h : Hw) (x : FltUnit) : (h.unitCancel x).rpmc = h.rpmc := by
  simp only [Hw.unitCancel]
  (repeat' split) <;> simp

@[simp] theorem Hw.fltClose_rpmc (h : Hw) (id : Nat) (retry : Bool) : (h.fltClose id retry).rpmc = h.rpmc := by
  unfold Hw.fltClose
  split <;> simp

@[simp] theorem Hw.fltAnswer_rpmc (h : Hw) (id : Nat) (retry : Bool) : (h.fltAnswer id retry).rpmc = h.rpmc := by
  simp only [Hw.fltAnswer]
  (repeat' split) <;> simp

@[simp] theorem Hw.preempt_rpmc (h : Hw) (c : Nat) : (h.preempt c).rpmc = h.rpmc := by
  unfold Hw.preempt
  split <;> simp

@[simp] theorem effCtxPreempt_rpmc (h : Hw) (c : Nat) : (effCtxPreempt c h).rpmc = h.rpmc := by simp [effCtxPreempt]

theorem Hw.vecStop_rpmc {h : Hw} {c : Nat} {x : Ctx} {e : Ent} {a : Hw} (e : h.vecStop c x e = some a) : a.rpmc = h.rpmc := by
  grind [Hw.vecStop, Hw.resultWait_rpmc, Hw.writeStream_rpmc, Hw.pokeSegs_rpmc, Hw.updEnt_rpmc]

@[simp] theorem Hw.mmaStop_rpmc (h : Hw) (c : Nat) (x : Ctx) (e : Ent) : (h.mmaStop c x e).rpmc = h.rpmc := (rfl)

theorem Hw.stopAll_rpmc {h : Hw} {c : Nat} {x : Ctx} {a : Hw} (e : h.stopAll c x = some a) : a.rpmc = h.rpmc := by
  refine foldl_opt_rpmc (fun e h b hb => ?_) e
  split at hb
  · exact Option.some.inj hb ▸ rfl
  · split at hb
    · exact Option.some.inj hb ▸ Hw.updEnt_rpmc ..
    · split at hb
      · exact Option.some.inj hb ▸ ite_rpmc (Hw.mmaStop_rpmc ..) rfl
      · split at hb
        · exact Hw.vecStop_rpmc hb
        · exact Option.some.inj hb ▸ Hw.updEnt_rpmc ..

@[simp] theorem effContextSave_rpmc (c : Nat) (h : Hw) : (effContextSave c h).rpmc = h.rpmc := by
  unfold effContextSave
  split
  · refine ite_rpmc rfl ?_
    split
    · next hstop =>
      have h1 := Hw.stopAll_rpmc hstop
      split
      · exact h1
      · exact (Hw.jobAdd_rpmc ..).trans ((Hw.inc_rpmc ..).trans ((Hw.updCtx_rpmc ..).trans (foldl_rpmc (fun _ _ => Hw.poke_rpmc ..)
          ((Hw.poke_rpmc ..).trans ((Hw.poke_rpmc ..).trans ((Hw.poke_rpmc ..).trans h1))))))
    · rfl
  · rfl

@[simp] theorem effContextSaveDone_rpmc (h : Hw) (c : Nat) : (effContextSaveDone c h).rpmc = h.rpmc := by
  unfold effContextSaveDone
  split <;> simp

@[simp] theorem Hw.resume_rpmc (h : Hw) (c : Nat) : (h.resume c).rpmc = h.rpmc := by
  unfold Hw.resume
  split <;> simp

@[simp] theorem effCtxResume_rpmc (h : Hw) (c : Nat) : (effCtxResume c h).rpmc = h.rpmc := by simp [effCtxResume]

@[simp] theorem Hw.readChain_rpmc (h : Hw) (base : Nat) (k : Chain) : (h.readChain base k).1.rpmc = h.rpmc := by simp [Hw.readChain]

@[simp] theorem Hw.readBack_rpmc (h : Hw) (c : Nat) (ks : List Chain) : (h.readBack c ks).1.rpmc = h.rpmc := by
  have hstep (base : Nat) (st : Hw × List Chain × Bool) (k : Chain) : ((fun (st : Hw × List Chain × Bool) k =>
      let (h, o, p) := st.1.readChain base k
      (h, st.2.1 ++ o.toList, st.2.2 || p)) st k).1.rpmc = st.1.rpmc := by
    have hchain := Hw.readChain_rpmc st.1 base k
    beta_reduce
    generalize st.1.readChain base k = p at hchain ⊢
    exact hchain
  unfold Hw.readBack
  extract_lets base
  split
  next e => exact foldl_fst_rpmc (hstep base) (rpmc_of_fst (Hw.readLocal_rpmc ..) e)

@[simp] theorem effContextRestore_rpmc (h : Hw) (c : Nat) (arrays : List Nat) : (effContextRestore c arrays h).rpmc = h.rpmc := by
  simp only [effContextRestore]
  (repeat' split) <;> simp

@[simp] theorem Hw.takeUp_rpmc (h : Hw) (c : Nat) : (h.takeUp c).rpmc = h.rpmc := by
  unfold Hw.takeUp
  split
  · rfl
  · refine foldl_rpmc (fun h e => ?_) rfl
    split
    · rfl
    · split
      · simp
      · split
        · split <;> simp
        · rfl

@[simp] theorem effContextRestoreDone_rpmc (h : Hw) (c : Nat) : (effContextRestoreDone c h).rpmc = h.rpmc := by
  unfold effContextRestoreDone
  split <;> simp

@[simp] theorem Hw.cancelCtx_rpmc (h : Hw) (c : Nat) : (h.cancelCtx c).rpmc = h.rpmc := by
  unfold Hw.cancelCtx
  split <;> simp

@[simp] theorem effCtxCancel_rpmc (h : Hw) (c : Nat) : (effCtxCancel c h).rpmc = h.rpmc := by simp [effCtxCancel]

end Sys2Proof.Machine

end

section

/-! PROOFS. Tailor, memory, training, snapshots and collectives: no function here changes a monotonic counter of NOR (R464). -/

namespace Sys2Proof.Machine

/-! ### Tailor -/

@[simp] theorem effTreqTailDb_rpmc (h : Hw) (v : Nat) : (effTreqTailDb v h).rpmc = h.rpmc := by simp [effTreqTailDb]

@[simp] theorem Hw.treq_rpmc {f : Hw → TreqF → Hw × Nat} (hf : ∀ h r, (f h r).1.rpmc = h.rpmc) (h : Hw) (ext : Bytes) (p : Nat → Bool) : (h.treq ext p f).rpmc = h.rpmc := by
  unfold Hw.treq
  dsimp only
  split
  · rfl
  · split
    · split <;> simp
    · next hread =>
      have h1 := Hw.vread_rpmc hread
      exact ite_rpmc rfl ((Hw.settle_rpmc _).trans (ite_fst_rpmc ((hf ..).trans h1) h1))

@[simp] theorem Hw.lifeEnds_rpmc (h : Hw) : h.lifeEnds.rpmc = h.rpmc := (Hw.settle_rpmc _).trans (foldl_rpmc (by simp) rfl)

@[simp] theorem Hw.treqRegister_rpmc (h : Hw) (r : TreqF) : (h.treqRegister r).1.rpmc = h.rpmc := by simp [Hw.treqRegister]

@[simp] theorem effTreqRegister_rpmc (h : Hw) (ext : Bytes) : (effTreqRegister ext h).rpmc = h.rpmc := by simp [effTreqRegister]

@[simp] theorem onLive_rpmc {f : Hw → TreqF → Obj → Hw × Nat} (hf : ∀ h r o, (f h r o).1.rpmc = h.rpmc) (h : Hw) (r : TreqF) : (onLive f h r).1.rpmc
    = h.rpmc := by
  grind [onLive, Hw.updObj_rpmc]

@[simp] theorem effTreqRelease_rpmc (h : Hw) (ext : Bytes) : (effTreqRelease ext h).rpmc = h.rpmc := by
  grind [effTreqRelease, Hw.treq_rpmc, onLive_rpmc, Hw.updObj_rpmc]

@[simp] theorem Hw.treqPin_rpmc (h : Hw) (r : TreqF) (o : Obj) : (h.treqPin r o).1.rpmc = h.rpmc := by
  simp only [Hw.treqPin]
  (repeat' split) <;> simp

@[simp] theorem effTreqPin_rpmc (h : Hw) (ext : Bytes) : (effTreqPin ext h).rpmc = h.rpmc := by simp [effTreqPin]

@[simp] theorem effTreqUnpin_rpmc (h : Hw) (ext : Bytes) : (effTreqUnpin ext h).rpmc = h.rpmc := by simp [effTreqUnpin]

@[simp] theorem Hw.treqMigrate_rpmc (h : Hw) (r : TreqF) (o : Obj) : (h.treqMigrate r o).1.rpmc = h.rpmc := by simp [Hw.treqMigrate]

@[simp] theorem effTreqMigrate_rpmc (h : Hw) (ext : Bytes) : (effTreqMigrate ext h).rpmc = h.rpmc := by simp [effTreqMigrate]

@[simp] theorem effTreqWorkPin_rpmc (h : Hw) (ext : Bytes) : (effTreqWorkPin ext h).rpmc = h.rpmc := by simp [effTreqWorkPin]

@[simp] theorem effTreqWorkUnpin_rpmc (h : Hw) (ext : Bytes) : (effTreqWorkUnpin ext h).rpmc = h.rpmc := by simp [effTreqWorkUnpin]

@[simp] theorem effTreqQuery_rpmc (h : Hw) (ext : Bytes) : (effTreqQuery ext h).rpmc = h.rpmc := by simp [effTreqQuery]

@[simp] theorem effTreqReservedOp_rpmc (h : Hw) (ext : Bytes) : (effTreqReservedOp ext h).rpmc = h.rpmc := by simp [effTreqReservedOp]

@[simp] theorem Hw.flushRange_rpmc (h : Hw) (n n' : Nat) : (h.flushRange n n').rpmc = h.rpmc := by simp [Hw.flushRange]

@[simp] theorem Hw.copyLocal_rpmc (h : Hw) (src dst n : Nat) : (h.copyLocal src dst n).rpmc = h.rpmc := by simp [Hw.copyLocal]

@[simp] theorem Hw.copyMove_rpmc (h : Hw) (t l t' l' n : Nat) (ext : Bytes) : (h.copyMove t l t' l' n ext).rpmc = h.rpmc := by
  unfold Hw.copyMove
  split <;> simp

@[simp] theorem effObjectMoveDone_rpmc (h : Hw) (n : Nat) (ext : Bytes) : (effObjectMoveDone n ext h).rpmc = h.rpmc := by
  simp only [effObjectMoveDone]
  (repeat' split) <;> simp

@[simp] theorem Hw.promote_rpmc (h : Hw) : h.promote.rpmc = h.rpmc := by
  unfold Hw.promote
  split
  · rfl
  · refine foldl_rpmc (fun h n => ?_) rfl
    split
    · rfl
    · dsimp only
      split <;> simp

@[simp] theorem Hw.tailorMark_rpmc (h : Hw) : h.tailorMark.rpmc = h.rpmc := by simp [Hw.tailorMark]

@[simp] theorem effSpadScrubRead_rpmc (h : Hw) (p : Nat) : (effSpadScrubRead p h).rpmc = h.rpmc := by simp [effSpadScrubRead]

/-! ### Hbm -/

@[simp] theorem Hw.mapoutStart_rpmc (h : Hw) (s c op : Nat) : (h.mapoutStart s c op).rpmc = h.rpmc := by
  refine (Hw.settle_rpmc _).trans (foldl_rpmc (fun _ _ => Hw.place_rpmc ..) (foldl_rpmc (fun h x => ?_) rfl))
  split <;> simp

@[simp] theorem Hw.autoMapouts_rpmc (h : Hw) : h.autoMapouts.rpmc = h.rpmc := by
  unfold Hw.autoMapouts
  split <;> simp

@[simp] theorem effMapoutEvacuated_rpmc (h : Hw) (s : Nat) : (effMapoutEvacuated s h).rpmc = h.rpmc := by simp [effMapoutEvacuated]

@[simp] theorem Hw.granuleUe_rpmc (h : Hw) (n : Nat) : (h.granuleUe n).rpmc = h.rpmc := by simp [Hw.granuleUe]

@[simp] theorem effRelayoutSlice_rpmc (h : Hw) (s : Nat) (usable : Bool) : (effRelayoutSlice s usable h).rpmc = h.rpmc := by simp [effRelayoutSlice]

@[simp] theorem Hw.setMapout_rpmc (h : Hw) (s mask : Nat) : (h.setMapout s mask).rpmc = h.rpmc := (rfl)

@[simp] theorem Hw.mapoutClear_rpmc (h : Hw) (s : Nat) : (h.mapoutClear s).rpmc = h.rpmc := (rfl)

@[simp] theorem Hw.chanForget_rpmc (h : Hw) (s c : Nat) : (h.chanForget s c).rpmc = h.rpmc := (rfl)

@[simp] theorem Hw.pokeMask_rpmc (h : Hw) (line mask : Nat) (bytes : Bytes) : (h.pokeMask line mask bytes).rpmc = h.rpmc := by simp [Hw.pokeMask]

@[simp] theorem effHbmRequestAccept_rpmc (h : Hw) (addr : Nat) (write : Option Nat) (bytes : Bytes) : (effHbmRequestAccept addr write bytes h).rpmc =
    h.rpmc := by
  unfold effHbmRequestAccept
  split <;> simp

@[simp] theorem effHbmReadComplete_rpmc (h : Hw) (line : Nat) : (effHbmReadComplete line h).rpmc = h.rpmc := by
  unfold effHbmReadComplete
  split <;> simp

@[simp] theorem effDarningAgeFlush_rpmc (h : Hw) (line : Nat) : (effDarningAgeFlush line h).rpmc = h.rpmc := by
  simp only [effDarningAgeFlush]
  (repeat' split) <;> simp

@[simp] theorem Hw.scrubEnd_rpmc (h : Hw) (s : Nat) : (h.scrubEnd s).rpmc = h.rpmc := by simp [Hw.scrubEnd]

@[simp] theorem effHbmScrubRead_rpmc (h : Hw) (s : Nat) : (effHbmScrubRead s h).rpmc = h.rpmc := by
  simp only [effHbmScrubRead]
  (repeat' split) <;> simp

@[simp] theorem Hw.winOpen_rpmc (h : Hw) (s c st : Nat) (w : HbmWin) : (h.winOpen s c st w).rpmc = h.rpmc := (rfl)

@[simp] theorem Hw.winClose_rpmc (h : Hw) (s c st : Nat) : (h.winClose s c st).rpmc = h.rpmc := by
  refine foldl_rpmc (fun h _ => ?_) (foldl_rpmc (fun _ _ => Hw.darnFlushOne_rpmc ..) rfl)
  split <;> simp

@[simp] theorem effHbmRetrainStart_rpmc (h : Hw) (s ch : Nat) : (effHbmRetrainStart s ch h).rpmc = h.rpmc := by
  unfold effHbmRetrainStart
  split <;> simp

@[simp] theorem effHbmRetrainDone_rpmc (h : Hw) (s : Nat) (pass : Bool) (temp : Nat) : (effHbmRetrainDone s pass temp h).rpmc = h.rpmc := by
  unfold effHbmRetrainDone
  split <;> simp

@[simp] theorem effHbmRetrainRetry_rpmc (h : Hw) (s ch : Nat) : (effHbmRetrainRetry s ch h).rpmc = h.rpmc := by simp [effHbmRetrainRetry]

@[simp] theorem effMarginScanBurst_rpmc (h : Hw) (s : Nat) : (effMarginScanBurst s h).rpmc = h.rpmc := by
  unfold effMarginScanBurst
  split <;> simp

@[simp] theorem effMarginScanPause_rpmc (h : Hw) (s : Nat) (counts : List (List Nat)) : (effMarginScanPause s counts h).rpmc = h.rpmc := by
  unfold effMarginScanPause
  split <;> simp

/-! ### Train -/

@[simp] theorem Hw.markLatchWith_rpmc (h : Hw) (cur step : Nat) : (h.markLatchWith cur step).rpmc = h.rpmc := by simp [Hw.markLatchWith]

@[simp] theorem Hw.markLatch_rpmc (h : Hw) (step : Nat) : (h.markLatch step).rpmc = h.rpmc := by simp [Hw.markLatch]

@[simp] theorem Hw.markLatchOf_rpmc (h : Hw) (x : Ctx) : (h.markLatchOf x).rpmc = h.rpmc := by simp [Hw.markLatchOf]

@[simp] theorem effMark_rpmc (h : Hw) (c i : Nat) : (effMark c i h).rpmc = h.rpmc := by
  unfold effMark
  split <;> simp

@[simp] theorem Hw.absent_rpmc (h : Hw) (slot : Nat) : (h.absent slot).rpmc = h.rpmc := by simp [Hw.absent]

@[simp] theorem effAbsentScan_rpmc (h : Hw) : (effAbsentScan h).rpmc = h.rpmc := by simp [effAbsentScan]

@[simp] theorem Hw.trainRefused_rpmc (h : Hw) : h.trainRefused.rpmc = h.rpmc := by simp [Hw.trainRefused]

@[simp] theorem Hw.relaxClr_rpmc (h : Hw) : h.relaxClr.rpmc = h.rpmc := by simp [Hw.relaxClr]

@[simp] theorem effRelaxClr_rpmc (h : Hw) : (effRelaxClr h).rpmc = h.rpmc := by simp [effRelaxClr]

/-! ### Bast -/

@[simp] theorem Hw.bastFault_rpmc (h : Hw) (desc : Nat) (acc : Acc) (x : XFault) : (h.bastFault desc acc x).1.rpmc = h.rpmc := by
  simp [Hw.bastFault]

@[simp] theorem Hw.bastRead_rpmc (h : Hw) (desc va n : Nat) : (h.bastRead desc va n).1.rpmc = h.rpmc := by
  unfold Hw.bastRead
  split
  · simp
  · next hread => exact Hw.vread_rpmc hread

@[simp] theorem Hw.snapEntry_rpmc (h : Hw) (w0 w1 : Nat) : (h.snapEntry w0 w1).1.rpmc = h.rpmc := by
  unfold Hw.snapEntry
  split
  · rfl
  · dsimp only
    split
    · simp
    · next hdesc =>
      have h1 := Hw.readDesc_rpmc hdesc
      split
      · exact h1
      · split
        · exact h1
        · split
          · simpa using h1
          · next hhem => exact (Hw.readDesc_rpmc hhem).trans h1

@[simp] theorem Hw.snapEntries_rpmc (n : Nat) (h : Hw) (b : Bytes) : (Hw.snapEntries n h b).1.rpmc = h.rpmc := by
  induction n generalizing h b with
  | zero => rfl
  | succ n ih =>
    unfold Hw.snapEntries
    split
    · next e => exact rpmc_of_fst (Hw.snapEntry_rpmc ..) e
    · next e =>
      have h1 := rpmc_of_fst (Hw.snapEntry_rpmc ..) e
      split
      · next e' => exact (rpmc_of_fst (ih ..) e').trans h1
      · next e' => exact (rpmc_of_fst (ih ..) e').trans h1

@[simp] theorem Hw.snapSet_rpmc (h : Hw) (setid : Nat) : (h.snapSet setid).1.rpmc = h.rpmc := by
  grind [Hw.snapSet, Hw.bastRead_rpmc, Hw.snapEntries_rpmc]

@[simp] theorem Hw.capWrite_rpmc (h : Hw) (k : Cap) (off : Nat) (bs : Bytes) : (h.capWrite k off bs).rpmc = h.rpmc := by simp [Hw.capWrite]

@[simp] theorem Hw.snapDrop_rpmc (h : Hw) (k : Hand) (reason : Nat) : (h.snapDrop k reason).rpmc = h.rpmc := by simp [Hw.snapDrop]

@[simp] theorem effSnapFreeze_rpmc (h : Hw) : (effSnapFreeze h).rpmc = h.rpmc := by
  grind [effSnapFreeze, Hw.snapDrop_rpmc, Hw.snapSet_rpmc, Hw.set_rpmc, Hw.snapAbort_rpmc, Hw.captureFault_rpmc, Hw.capWrite_rpmc]

@[simp] theorem Hw.capTranslate_rpmc (h : Hw) (l : List (Nat × ((Nat × Nat) × Nat))) : (Hw.capTranslate h l).1.rpmc = h.rpmc := by
  induction l generalizing h with
  | nil => rfl
  | cons x l ih =>
    obtain ⟨desc, g⟩ := x
    unfold Hw.capTranslate
    split
    · simp
    · split
      · next e => exact (rpmc_of_fst (ih _) e).trans (Hw.noteRange_rpmc ..)
      · next e => exact (rpmc_of_fst (ih _) e).trans (Hw.noteRange_rpmc ..)

@[simp] theorem effSnapSlotCleared_rpmc (h : Hw) : (effSnapSlotCleared h).rpmc = h.rpmc := by
  grind [effSnapSlotCleared, Hw.bastRead_rpmc, Hw.snapAbort_rpmc, Hw.capWrite_rpmc, Hw.capTranslate_rpmc, Hw.epochRelease_rpmc, Hw.set_rpmc]

@[simp] theorem Hw.bastBytes_rpmc (h : Hw) (n : Nat) : (h.bastBytes n).rpmc = h.rpmc := by
  unfold Hw.bastBytes
  split <;> simp

@[simp] theorem Hw.capBlock_rpmc (h : Hw) (k : Cap) (b : Nat) : (h.capBlock k b).1.rpmc = h.rpmc := by
  unfold Hw.capBlock
  split <;> simp

theorem Hw.bastJob_rpmc {h a : Hw} {k : Cap} (e : h.bastJob k = some a) : a.rpmc = h.rpmc := by
  unfold Hw.bastJob at e
  split at e
  · cases e
    rfl
  · obtain ⟨d, -, rfl⟩ := Option.map_eq_some_iff.1 e
    simp

@[simp] theorem effGuardedWriteRelease_rpmc (h : Hw) (block : Nat) : (effGuardedWriteRelease block h).rpmc = h.rpmc := by
  grind [effGuardedWriteRelease, Hw.bastJob_rpmc, Hw.capBlock_rpmc, Hw.snapAbort_rpmc, Hw.capWrite_rpmc, Hw.releaseHeld_rpmc]

@[simp] theorem Hw.capArray_rpmc (k : Cap) (l : List Nat) (h : Hw) : (Hw.capArray k l h).1.rpmc = h.rpmc := by
  induction l generalizing h with
  | nil => rfl
  | cons b l ih =>
    have hcopy := Hw.capBlock_rpmc h k b
    unfold Hw.capArray
    exact (ih _).trans (ite_rpmc hcopy ((Hw.capWrite_rpmc ..).trans hcopy))

@[simp] theorem Hw.capEntries_rpmc (k : Cap) (l : List Man) (h : Hw) : (Hw.capEntries k l h).1.rpmc = h.rpmc := by
  induction l generalizing h with
  | nil => rfl
  | cons m l ih => exact (ih _).trans ((Hw.capArray_rpmc ..).trans (Hw.capArray_rpmc ..))

@[simp] theorem effSnapDataAcked_rpmc (h : Hw) : (effSnapDataAcked h).rpmc = h.rpmc := by
  grind [effSnapDataAcked, Hw.bastJob_rpmc, Hw.capEntries_rpmc, Hw.snapAbort_rpmc, Hw.capWrite_rpmc, Hw.set_rpmc, Hw.releaseHeld_rpmc]

@[simp] theorem effSnapCommit_rpmc (h : Hw) : (effSnapCommit h).rpmc = h.rpmc := by
  unfold effSnapCommit
  split <;> simp

@[simp] theorem Hw.nvmeFail_rpmc (h : Hw) : h.nvmeFail.rpmc = h.rpmc := by
  unfold Hw.nvmeFail
  split <;> simp

@[simp] theorem effNvmeCompletion_rpmc (h : Hw) (status : Nat) : (effNvmeCompletion status h).rpmc = h.rpmc := by simp [effNvmeCompletion]

@[simp] theorem effNvmeTimeout_rpmc (h : Hw) : (effNvmeTimeout h).rpmc = h.rpmc := by simp [effNvmeTimeout]

@[simp] theorem Hw.restoreWrite_rpmc (h : Hw) (va entry : Nat) (bs : Bytes) : (h.restoreWrite va entry bs).1.rpmc = h.rpmc := by
  grind [Hw.restoreWrite, Hw.vwrite_rpmc, Hw.bastFault_rpmc]

@[simp] theorem Hw.pullEntries_rpmc (img : Bytes) (poison : List Nat) (onlyRep : Bool) (l : List (ManR × Nat)) (h : Hw) : (Hw.pullEntries img poison onlyRep l h).1.rpmc = h.rpmc := by
  induction l generalizing h with
  | nil => rfl
  | cons x l ih =>
    obtain ⟨m, i⟩ := x
    unfold Hw.pullEntries
    split
    · exact ih h
    · dsimp only
      split
      · rfl
      · split
        · next e => exact rpmc_of_fst (Hw.restoreWrite_rpmc ..) e
        · next a e =>
          have h1 := rpmc_of_fst (Hw.restoreWrite_rpmc ..) e
          have hscale : (if m.scaleBytes = 0 then (a, none) else a.restoreWrite (parseDesc m.raw).scaleAddr i (m.scalesIn img)).1.rpmc = a.rpmc := by
            split <;> simp
          split
          · next e' => exact (rpmc_of_fst hscale e').trans h1
          · next e' =>
            have h2 := (rpmc_of_fst hscale e').trans h1
            split
            · exact h2
            · exact (ih _).trans h2

@[simp] theorem Hw.hashEntries_rpmc (l : List (ManR × Nat)) (h : Hw) : (Hw.hashEntries l h).1.rpmc = h.rpmc := by
  induction l generalizing h with
  | nil => rfl
  | cons x l ih =>
    obtain ⟨m, i⟩ := x
    unfold Hw.hashEntries
    dsimp only
    split
    · next e => exact rpmc_of_fst (Hw.bastRead_rpmc ..) e
    · next a data e =>
      have h1 := rpmc_of_fst (Hw.bastRead_rpmc ..) e
      have hscale : (if m.scaleBytes = 0 then (a, .ok []) else a.bastRead 0xFFFF (parseDesc m.raw).scaleAddr m.scaleBytes).1.rpmc = a.rpmc := by
        split <;> simp
      split
      · next e' => exact (rpmc_of_fst hscale e').trans h1
      · next e' =>
        have h2 := (rpmc_of_fst hscale e').trans h1
        split
        · exact h2
        · exact (ih _).trans h2

@[simp] theorem Hw.restoreState_rpmc (h : Hw) (b : Bytes) (step : Nat) (salt : Bool) : (h.restoreState b step salt).rpmc = h.rpmc := by
  simp only [Hw.restoreState, Hw.set_rpmc]
  exact ite_rpmc ((Hw.set_rpmc ..).trans (foldl_rpmc (by simp) rfl)) (foldl_rpmc (by simp) rfl)

@[simp] theorem Hw.restoreDone_rpmc (h : Hw) (r : Restore) (img : Bytes) (status : Nat) : (h.restoreDone r img status).rpmc = h.rpmc := by
  simp [Hw.restoreDone]

@[simp] theorem Hw.restorePull_rpmc (h : Hw) (r : Restore) (img : Bytes) (poison : List Nat) : (h.restorePull r img poison).1.rpmc = h.rpmc := by
  grind [Hw.restorePull, Hw.hashEntries_rpmc, Hw.restoreWrite_rpmc, Hw.pullEntries_rpmc]

@[simp] theorem effRestorePullDone_rpmc (h : Hw) (data : Bytes) (poison : List Nat) : (effRestorePullDone data poison h).rpmc = h.rpmc := by
  simp only [effRestorePullDone]
  grind [Hw.restoreFail_rpmc, Hw.restorePull_rpmc, Hw.inc_rpmc, Hw.restoreState_rpmc, Hw.restoreDone_rpmc]

/-! ### CollOps -/

@[simp] theorem Hw.calAbort_rpmc (h : Hw) (l : Nat) : (h.calAbort l).rpmc = h.rpmc := by
  simp only [Hw.calAbort]
  (repeat' split) <;> simp

@[simp] theorem Hw.swEnd_rpmc (h : Hw) (e : Nat) : (h.swEnd e).rpmc = h.rpmc := by
  unfold Hw.swEnd
  split <;> simp

@[simp] theorem Hw.swAbort_rpmc (h : Hw) (l : Nat) : (h.swAbort l).rpmc = h.rpmc := by
  unfold Hw.swAbort
  split <;> simp

@[simp] theorem Hw.lanesBack_rpmc (h : Hw) (l : Nat) : (h.lanesBack l).rpmc = h.rpmc := by
  unfold Hw.lanesBack
  split <;> simp

@[simp] theorem Hw.rethreadReq_rpmc (h : Hw) (l port : Nat) : (h.rethreadReq l port).rpmc = h.rpmc := by simp [Hw.rethreadReq]

@[simp] theorem Hw.rethreadAxis_rpmc (h : Hw) (n : Nat) (step : Option Nat) : (h.rethreadAxis n step).rpmc = h.rpmc := by
  unfold Hw.rethreadAxis
  split <;> simp

@[simp] theorem Hw.topoDrained_rpmc (h : Hw) : h.topoDrained.rpmc = h.rpmc := by simp [Hw.topoDrained]

@[simp] theorem Hw.collGone_rpmc (h : Hw) (k : Coll) : (h.collGone k).rpmc = h.rpmc := by simp [Hw.collGone]

@[simp] theorem Hw.collUndef_rpmc (h : Hw) (k : Coll) : (h.collUndef k).rpmc = h.rpmc := by
  unfold Hw.collUndef
  split <;> simp

@[simp] theorem Hw.collFail_rpmc (h : Hw) (k : Coll) (reason pos : Nat) : (h.collFail k reason pos).rpmc = h.rpmc := by
  simp only [Hw.collFail]
  (repeat' split) <;> simp

@[simp] theorem Hw.collAxisFail_rpmc (h : Hw) (n reason pos : Nat) : (h.collAxisFail n reason pos).rpmc = h.rpmc := by simp [Hw.collAxisFail]

@[simp] theorem Hw.collLinkLost_rpmc (h : Hw) (l : Nat) : (h.collLinkLost l).rpmc = h.rpmc := by
  simp only [Hw.collLinkLost]
  (repeat' split) <;> simp

@[simp] theorem Hw.collPeerDead_rpmc (h : Hw) (chip : Nat) : (h.collPeerDead chip).rpmc = h.rpmc := by simp [Hw.collPeerDead]

end Sys2Proof.Machine

end

section

/-! PROOFS. Links and topology: no function here changes a monotonic counter of NOR (R464). -/

namespace Sys2Proof.Machine

/-! ### Lane -/

@[simp] theorem Hw.setLane_rpmc (h : Hw) (l w : Nat) (x : LaneE) : (h.setLane l w x).rpmc = h.rpmc := (rfl)

@[simp] theorem Hw.laneSvc_rpmc (h : Hw) (l w : Nat) (b : Bool) : (h.laneSvc l w b).rpmc = h.rpmc := (rfl)

@[simp] theorem Hw.eyeAssign_rpmc (h : Hw) (e : Nat) : (h.eyeAssign e).rpmc = h.rpmc := by
  unfold Hw.eyeAssign
  dsimp only
  refine (Hw.set_rpmc ..).trans (foldl_rpmc (fun _ _ => Hw.setLane_rpmc ..) (foldl_rpmc (fun h x => ?_) rfl))
  exact (Hw.set_rpmc ..).trans ((Hw.set_rpmc ..).trans ((Hw.set_rpmc ..).trans ((Hw.set_rpmc ..).trans (Hw.set_rpmc ..))))

@[simp] theorem Hw.eyeStart_rpmc (h : Hw) (e : Nat) : (h.eyeStart e).rpmc = h.rpmc := by simp [Hw.eyeStart]

@[simp] theorem Hw.linkLasers_rpmc (h : Hw) (l st : Nat) : (h.linkLasers l st).rpmc = h.rpmc := by simp [Hw.linkLasers]

@[simp] theorem Hw.acked_rpmc (h : Hw) (l ack : Nat) : (h.acked l ack).rpmc = h.rpmc := (rfl)

@[simp] theorem Hw.credited_rpmc (h : Hw) (l vl n : Nat) : (h.credited l vl n).rpmc = h.rpmc := by simp [Hw.credited]

@[simp] theorem Hw.resend_rpmc (h : Hw) (l : Nat) : (h.resend l).rpmc = h.rpmc := by
  unfold Hw.resend
  split
  · rfl
  · exact (Hw.inc_rpmc ..).trans (foldl_rpmc (fun _ _ => (Hw.send_rpmc ..).trans (Hw.inc_rpmc ..)) (Hw.updLk_rpmc ..))

@[simp] theorem Hw.linkOps_rpmc (h : Hw) (l : Nat) : (h.linkOps l).rpmc = h.rpmc := by simp [Hw.linkOps]

@[simp] theorem Hw.linkDown_rpmc (h : Hw) (l : Nat) : (h.linkDown l).rpmc = h.rpmc := by
  unfold Hw.linkDown
  dsimp only
  exact (Hw.setLk_rpmc ..).trans ((Hw.inc_rpmc ..).trans ((Hw.updLk_rpmc ..).trans
    (foldl_rpmc (fun _ _ => Hw.laneSvc_rpmc ..) (Hw.linkOps_rpmc ..))))

@[simp] theorem Hw.linkFail_rpmc (h : Hw) (l : Nat) : (h.linkFail l).rpmc = h.rpmc := by
  simp [Hw.linkFail, foldl_rpmc_eq fun h w => Hw.laneSvc_rpmc h l w false]

@[simp] theorem Hw.replay_rpmc (h : Hw) (l : Nat) : (h.replay l).rpmc = h.rpmc := by
  unfold Hw.replay
  split <;> simp

@[simp] theorem Hw.pathSet_rpmc (h : Hw) (l port : Nat) (b : Bool) : (h.pathSet l port b).rpmc = h.rpmc := (rfl)

@[simp] theorem Hw.linkStart_rpmc (h : Hw) (l : Nat) : (h.linkStart l).rpmc = h.rpmc := by simp [Hw.linkStart]

@[simp] theorem Hw.linkOff_rpmc (h : Hw) (l : Nat) : (h.linkOff l).rpmc = h.rpmc := by
  simp [Hw.linkOff, foldl_rpmc_eq fun h w => Hw.laneSvc_rpmc h l w false]

@[simp] theorem Hw.optEnable_rpmc (h : Hw) : h.optEnable.rpmc = h.rpmc := by simp [Hw.optEnable]

@[simp] theorem Hw.optDisable_rpmc (h : Hw) : h.optDisable.rpmc = h.rpmc := foldl_rpmc (by simp) (foldl_rpmc Hw.linkOff_rpmc rfl)

@[simp] theorem Hw.setRegBytes_rpmc (h : Hw) (o : Nat) (b : Bytes) : (h.setRegBytes o b).rpmc = h.rpmc := foldl_rpmc (by simp) rfl

@[simp] theorem Hw.sendLif_rpmc (h : Hw) (l : Nat) : (h.sendLif l).rpmc = h.rpmc := (rfl)

@[simp] theorem Hw.identStart_rpmc (h : Hw) (l : Nat) : (h.identStart l).rpmc = h.rpmc := by simp [Hw.identStart]

@[simp] theorem Hw.identAll_rpmc (h : Hw) : h.identAll.rpmc = h.rpmc := by simp [Hw.identAll]

@[simp] theorem Hw.linkUp_rpmc (h : Hw) (l out : Nat) : (h.linkUp l out).rpmc = h.rpmc := by simp [Hw.linkUp]

@[simp] theorem Hw.linkRefuse_rpmc (h : Hw) (l : Nat) (dark : Bool) (reason plink chip : Nat) : (h.linkRefuse l dark reason plink chip).rpmc = h.rpmc
    := by
  simp [Hw.linkRefuse]

/-! ### Optical -/

@[simp] theorem effLinkEnWrite_rpmc (h : Hw) (l : Nat) (v : Bool) : (effLinkEnWrite l v h).rpmc = h.rpmc := by simp [effLinkEnWrite]

@[simp] theorem effLasersLocked_rpmc (h : Hw) (l : Nat) : (effLasersLocked l h).rpmc = h.rpmc := by simp [effLasersLocked]

@[simp] theorem effLightDetected_rpmc (h : Hw) (l : Nat) : (effLightDetected l h).rpmc = h.rpmc := by simp [effLightDetected]

@[simp] theorem effNoLightTimeout_rpmc (h : Hw) (l : Nat) : (effNoLightTimeout l h).rpmc = h.rpmc := by simp [effNoLightTimeout]

@[simp] theorem effAcquireDone_rpmc (h : Hw) (l : Nat) : (effAcquireDone l h).rpmc = h.rpmc := by simp [effAcquireDone]

@[simp] theorem effAlignDone_rpmc (h : Hw) (l : Nat) : (effAlignDone l h).rpmc = h.rpmc := by simp [effAlignDone]

@[simp] theorem effVerifyDone_rpmc (h : Hw) (l lanes rx tx : Nat) : (effVerifyDone l lanes rx tx h).rpmc = h.rpmc := by simp [effVerifyDone]

@[simp] theorem effMarkerLockLoss_rpmc (h : Hw) (l : Nat) : (effMarkerLockLoss l h).rpmc = h.rpmc := by simp [effMarkerLockLoss]

@[simp] theorem effRetrainTimeout_rpmc (h : Hw) (l : Nat) : (effRetrainTimeout l h).rpmc = h.rpmc := by simp [effRetrainTimeout]

@[simp] theorem effEyeletFail_rpmc (h : Hw) (e : Nat) : (effEyeletFail e h).rpmc = h.rpmc := by simp [effEyeletFail]

@[simp] theorem Hw.peerReject_rpmc (h : Hw) (f : Frm) : (h.peerReject f).rpmc = h.rpmc := (rfl)

@[simp] theorem Hw.poisonHbm_rpmc (h : Hw) (n n' : Nat) : (h.poisonHbm n n').rpmc = h.rpmc := by simp [Hw.poisonHbm]

@[simp] theorem Hw.takeWrite_rpmc (h : Hw) (f : Frm) : (h.takeWrite f).rpmc = h.rpmc := by simp [Hw.takeWrite]

@[simp] theorem Hw.takeReadReq_rpmc (h : Hw) (f : Frm) : (h.takeReadReq f).rpmc = h.rpmc := by simp [Hw.takeReadReq]

@[simp] theorem Hw.owe_rpmc (h : Hw) (l vl : Nat) : (h.owe l vl).rpmc = h.rpmc := (rfl)

@[simp] theorem Hw.collTake_rpmc (h : Hw) (l : Nat) (k : Coll) (f : Frm) : (h.collTake l k f).rpmc = h.rpmc := by simp [Hw.collTake]

@[simp] theorem Hw.takeColl_rpmc (h : Hw) (l : Nat) (f : Frm) : (h.takeColl l f).rpmc = h.rpmc := by
  unfold Hw.takeColl
  split <;> simp

@[simp] theorem Hw.takeKeepalive_rpmc (h : Hw) (l : Nat) (f : Frm) : (h.takeKeepalive l f).rpmc = h.rpmc := by
  simp only [Hw.takeKeepalive]
  (repeat' split) <;> simp

@[simp] theorem Hw.deliver_rpmc (h : Hw) (l : Nat) (f : Frm) : (h.deliver l f).rpmc = h.rpmc := by simp [Hw.deliver]

@[simp] theorem Hw.fecNoted_rpmc (h : Hw) (l : Nat) : (h.fecNoted l).rpmc = h.rpmc := (rfl)

@[simp] theorem Hw.carries_rpmc (h : Hw) (l : Nat) (f : Frm) : (h.carries l f).rpmc = h.rpmc := by simp [Hw.carries]

@[simp] theorem Hw.gap_rpmc (h : Hw) (l : Nat) : (h.gap l).rpmc = h.rpmc := by simp [Hw.gap]

@[simp] theorem Hw.sequenced_rpmc (h : Hw) (l : Nat) (f : Frm) : (h.sequenced l f).rpmc = h.rpmc := by simp [Hw.sequenced]

@[simp] theorem Hw.rxFrame_rpmc (h : Hw) (l ft : Nat) (b : Bytes) : (h.rxFrame l ft b).rpmc = h.rpmc := by
  unfold Hw.rxFrame
  split <;> simp

@[simp] theorem effFrameWrite_rpmc (h : Hw) (l : Nat) (f : Bytes) : (effFrameWrite l f h).rpmc = h.rpmc := by simp [effFrameWrite]

@[simp] theorem effFrameReadReq_rpmc (h : Hw) (l : Nat) (f : Bytes) : (effFrameReadReq l f h).rpmc = h.rpmc := by simp [effFrameReadReq]

@[simp] theorem effFrameReadResp_rpmc (h : Hw) (l : Nat) (f : Bytes) : (effFrameReadResp l f h).rpmc = h.rpmc := by simp [effFrameReadResp]

@[simp] theorem effFrameColl_rpmc (h : Hw) (l : Nat) (f : Bytes) : (effFrameColl l f h).rpmc = h.rpmc := by simp [effFrameColl]

@[simp] theorem effFrameKeepalive_rpmc (h : Hw) (l : Nat) (f : Bytes) : (effFrameKeepalive l f h).rpmc = h.rpmc := by simp [effFrameKeepalive]

@[simp] theorem effFrameIdle_rpmc (h : Hw) (l : Nat) (f : Bytes) : (effFrameIdle l f h).rpmc = h.rpmc := by
  unfold effFrameIdle
  split <;> simp

@[simp] theorem effFrameNotDelivered_rpmc (h : Hw) (l : Nat) (crc : Bool) : (effFrameNotDelivered l crc h).rpmc = h.rpmc := by
  simp [effFrameNotDelivered]

@[simp] theorem effAckTimeoutReplay_rpmc (h : Hw) (l : Nat) : (effAckTimeoutReplay l h).rpmc = h.rpmc := by simp [effAckTimeoutReplay]

/-! ### Eyes -/

@[simp] theorem Hw.swStart_rpmc (h : Hw) (l w laser : Nat) (switchover : Bool) (attempt : Nat) : (h.swStart l w laser switchover attempt).rpmc = h.rpmc := (rfl)

@[simp] theorem Hw.restoreSpare_rpmc (h : Hw) (l w : Nat) : (h.restoreSpare l w).rpmc = h.rpmc := by
  unfold Hw.restoreSpare
  split <;> simp

theorem Hw.takeOp_rpmc {h : Hw} {l w op : Nat} {p : Hw × LaneOp} (e : h.takeOp l w op = some p) : p.1.rpmc = h.rpmc := by
  grind [Hw.takeOp, Hw.updLk_rpmc]

@[simp] theorem effLaneOpDupStart_rpmc (l w : Nat) (h : Hw) : (effLaneOpDupStart l w h).rpmc = h.rpmc := by
  unfold effLaneOpDupStart
  split
  · rfl
  · split
    · rfl
    · next e => exact Hw.takeOp_rpmc e

@[simp] theorem effSuddenLaneFailure_rpmc (h : Hw) (l w : Nat) : (effSuddenLaneFailure l w h).rpmc = h.rpmc := by simp [effSuddenLaneFailure]

@[simp] theorem effCalSlotStart_rpmc (h : Hw) (e : Nat) : (effCalSlotStart e h).rpmc = h.rpmc := by
  simp only [effCalSlotStart]
  (repeat' split) <;> simp

@[simp] theorem effCalSlotEnd_rpmc (h : Hw) (e power : Nat) : (effCalSlotEnd e power h).rpmc = h.rpmc := by
  unfold effCalSlotEnd
  split <;> simp

@[simp] theorem effCalOverdue_rpmc (h : Hw) (e x : Nat) : (effCalOverdue e x h).rpmc = h.rpmc := by simp [effCalOverdue]

@[simp] theorem Hw.fadeAct_rpmc (h : Hw) (e x l w : Nat) (fade : ℤ) : (h.fadeAct e x l w fade).rpmc = h.rpmc := by
  simp only [Hw.fadeAct]
  (repeat' split) <;> simp

@[simp] theorem effLaserFadeSample_rpmc (h : Hw) (e x power fade : Nat) : (effLaserFadeSample e x power fade h).rpmc = h.rpmc := by
  simp [effLaserFadeSample]

@[simp] theorem effSpareLocked_rpmc (h : Hw) (e : Nat) : (effSpareLocked e h).rpmc = h.rpmc := by
  unfold effSpareLocked
  split <;> simp

@[simp] theorem effSwitchoverTimeout_rpmc (h : Hw) (e : Nat) : (effSwitchoverTimeout e h).rpmc = h.rpmc := by
  unfold effSwitchoverTimeout
  split <;> simp

@[simp] theorem effSwitchoverRetry_rpmc (h : Hw) (e : Nat) : (effSwitchoverRetry e h).rpmc = h.rpmc := by
  unfold effSwitchoverRetry
  split <;> simp

@[simp] theorem effRestoreLaserLocked_rpmc (h : Hw) (e : Nat) : (effRestoreLaserLocked e h).rpmc = h.rpmc := by
  unfold effRestoreLaserLocked
  split <;> simp

@[simp] theorem Hw.restoreAdd_rpmc (h : Hw) (l : Nat) : (h.restoreAdd l).rpmc = h.rpmc := by
  unfold Hw.restoreAdd
  split <;> simp

@[simp] theorem effRestoreMarginTimeout_rpmc (h : Hw) (e : Nat) : (effRestoreMarginTimeout e h).rpmc = h.rpmc := by
  unfold effRestoreMarginTimeout
  split <;> simp

@[simp] theorem Hw.rethreadCheck_rpmc (h : Hw) (l port chip tag : Nat) : (h.rethreadCheck l port chip tag).rpmc = h.rpmc := by
  simp only [Hw.rethreadCheck]
  (repeat' split) <;> simp

@[simp] theorem Hw.linkRt_rpmc (h : Hw) (l op port lane : Nat) : (h.linkRt l op port lane).rpmc = h.rpmc := by simp [Hw.linkRt]

@[simp] theorem Hw.opRethread_rpmc (h : Hw) (l port : Nat) : (h.opRethread l port).rpmc = h.rpmc := by simp [Hw.opRethread]

@[simp] theorem effLinkCmdRethread_rpmc (h : Hw) (l port : Nat) : (effLinkCmdRethread l port h).rpmc = h.rpmc := by simp [effLinkCmdRethread]

@[simp] theorem effRethreadStart_rpmc (h : Hw) (l : Nat) : (effRethreadStart l h).rpmc = h.rpmc := by
  unfold effRethreadStart
  split <;> simp

@[simp] theorem effSteeringMoveDone_rpmc (h : Hw) (l : Nat) : (effSteeringMoveDone l h).rpmc = h.rpmc := by
  unfold effSteeringMoveDone
  split <;> simp

@[simp] theorem effReacquireDone_rpmc (h : Hw) (l : Nat) : (effReacquireDone l h).rpmc = h.rpmc := by
  unfold effReacquireDone
  split <;> simp

@[simp] theorem effRethreadMarkerTimeout_rpmc (h : Hw) (l : Nat) : (effRethreadMarkerTimeout l h).rpmc = h.rpmc := by
  unfold effRethreadMarkerTimeout
  split <;> simp

@[simp] theorem Hw.opRetrain_rpmc (h : Hw) (l : Nat) : (h.opRetrain l).rpmc = h.rpmc := by simp [Hw.opRetrain]

@[simp] theorem effLinkCmdRetrain_rpmc (h : Hw) (l : Nat) : (effLinkCmdRetrain l h).rpmc = h.rpmc := by simp [effLinkCmdRetrain]

@[simp] theorem Hw.opDropLane_rpmc (h : Hw) (l w : Nat) : (h.opDropLane l w).rpmc = h.rpmc := by simp [Hw.opDropLane]

@[simp] theorem effLinkCmdDropLane_rpmc (h : Hw) (l w : Nat) : (effLinkCmdDropLane l w h).rpmc = h.rpmc := by simp [effLinkCmdDropLane]

@[simp] theorem Hw.opRestoreLane_rpmc (h : Hw) (l w : Nat) : (h.opRestoreLane l w).rpmc = h.rpmc := by
  simp only [Hw.opRestoreLane]
  (repeat' split) <;> simp

@[simp] theorem effLinkCmdRestoreLane_rpmc (h : Hw) (l w : Nat) : (effLinkCmdRestoreLane l w h).rpmc = h.rpmc := by simp [effLinkCmdRestoreLane]

@[simp] theorem Hw.opSpareLane_rpmc (h : Hw) (l w : Nat) : (h.opSpareLane l w).rpmc = h.rpmc := by
  simp only [Hw.opSpareLane]
  (repeat' split) <;> simp

@[simp] theorem effLinkCmdSpareLane_rpmc (h : Hw) (l w : Nat) : (effLinkCmdSpareLane l w h).rpmc = h.rpmc := by simp [effLinkCmdSpareLane]

@[simp] theorem Hw.markerInfo_rpmc (h : Hw) (l : Nat) (m : Bytes) : (h.markerInfo l m).rpmc = h.rpmc := (rfl)

/-! ### Topology -/

@[simp] theorem Hw.discover_rpmc (h : Hw) : h.discover.rpmc = h.rpmc := by simp [Hw.discover]

@[simp] theorem Hw.topoOn_rpmc (h : Hw) : h.topoOn.rpmc = h.rpmc := by
  simp only [Hw.topoOn]
  (repeat' split) <;> simp

@[simp] theorem Hw.topoOff_rpmc (h : Hw) : h.topoOff.rpmc = h.rpmc := by simp [Hw.topoOff]

@[simp] theorem effTopoEnable_rpmc (h : Hw) : (effTopoEnable h).rpmc = h.rpmc := by simp [effTopoEnable]

@[simp] theorem Hw.remap_rpmc (h : Hw) (l x : Nat) : (h.remap l x).rpmc = h.rpmc := (rfl)

@[simp] theorem Hw.pendCheck_rpmc (h : Hw) (l : Nat) : (h.pendCheck l).rpmc = h.rpmc := by
  unfold Hw.pendCheck
  split <;> simp

@[simp] theorem Hw.doRemap_rpmc (h : Hw) (l q : Nat) : (h.doRemap l q).rpmc = h.rpmc := by simp [Hw.doRemap]

@[simp] theorem Hw.lifDecide_rpmc (h : Hw) (l : Nat) (b : Bytes) : (h.lifDecide l b).rpmc = h.rpmc := by
  unfold Hw.lifDecide
  dsimp only
  refine ite_rpmc (Hw.linkRefuse_rpmc ..) (ite_rpmc (Hw.linkRefuse_rpmc ..) (ite_rpmc (Hw.linkRefuse_rpmc ..) (ite_rpmc (Hw.linkRefuse_rpmc ..)
    (ite_rpmc (Hw.linkRefuse_rpmc ..) ?_))))
  split
  · exact ite_rpmc (Hw.linkRefuse_rpmc ..) (Hw.linkRefuse_rpmc ..)
  · refine ite_rpmc (Hw.linkRefuse_rpmc ..) (ite_rpmc (Hw.linkUp_rpmc ..) ?_)
    split
    · exact ite_rpmc (Hw.doRemap_rpmc ..) rfl
    · rfl

@[simp] theorem effLifReceive_rpmc (h : Hw) (l : Nat) (lif : Bytes) : (effLifReceive l lif h).rpmc = h.rpmc := by simp [effLifReceive]

@[simp] theorem effLifRetry_rpmc (h : Hw) (l : Nat) : (effLifRetry l h).rpmc = h.rpmc := by simp [effLifRetry]

@[simp] theorem effRemapWaitExpiry_rpmc (h : Hw) (l : Nat) : (effRemapWaitExpiry l h).rpmc = h.rpmc := by
  simp only [effRemapWaitExpiry]
  (repeat' split) <;> simp

@[simp] theorem effPortWaitExpiry_rpmc (h : Hw) (l : Nat) : (effPortWaitExpiry l h).rpmc = h.rpmc := by
  unfold effPortWaitExpiry
  split <;> simp

@[simp] theorem effDiscTmoExpiry_rpmc (h : Hw) : (effDiscTmoExpiry h).rpmc = h.rpmc := by simp [effDiscTmoExpiry]

@[simp] theorem effKeepaliveSend_rpmc (h : Hw) : (effKeepaliveSend h).rpmc = h.rpmc := by simp [effKeepaliveSend]

@[simp] theorem effKeepaliveMiss_rpmc (h : Hw) (chip : Nat) : (effKeepaliveMiss chip h).rpmc = h.rpmc := by
  unfold effKeepaliveMiss
  split <;> simp

/-! ### Enable -/

@[simp] theorem Hw.tailorGo_rpmc (h : Hw) : h.tailorGo.rpmc = h.rpmc := by simp [Hw.tailorGo]

@[simp] theorem Hw.blockOn_rpmc (h : Hw) (k : Nat) : (h.blockOn k).rpmc = h.rpmc := by
  unfold Hw.blockOn
  split <;> simp

@[simp] theorem Hw.blockOff_rpmc (h : Hw) (k : Nat) : (h.blockOff k).rpmc = h.rpmc := by
  simp only [Hw.blockOff]
  (repeat' split) <;> simp

@[simp] theorem Hw.blockSet_rpmc (h : Hw) (k : Nat) (on : Bool) : (h.blockSet k on).rpmc = h.rpmc := by simp [Hw.blockSet]

/-! ### Power -/

@[simp] theorem Hw.mbAbort_rpmc (h : Hw) (c : Nat) : (h.mbAbort c).rpmc = h.rpmc := by simp [Hw.mbAbort]

@[simp] theorem Hw.yokeOff_rpmc (h : Hw) : h.yokeOff.rpmc = h.rpmc := by
  unfold Hw.yokeOff
  split <;> simp

@[simp] theorem Hw.yokeOn_rpmc (h : Hw) : h.yokeOn.rpmc = h.rpmc := by simp [Hw.yokeOn]

@[simp] theorem Hw.yokeReset_rpmc (h : Hw) (cause : Nat) : (h.yokeReset cause).rpmc = h.rpmc := by simp [Hw.yokeReset]

@[simp] theorem Hw.wake_rpmc (h : Hw) (c : Nat) : (h.wake c).rpmc = h.rpmc := by simp [Hw.wake]

@[simp] theorem Hw.stackForget_rpmc (h : Hw) (s : Nat) : (h.stackForget s).rpmc = h.rpmc := (rfl)

@[simp] theorem Hw.stackOff_rpmc (h : Hw) (s : Nat) : (h.stackOff s).rpmc = h.rpmc := by simp [Hw.stackOff]

@[simp] theorem Hw.eyeletOff_rpmc (h : Hw) (e : Nat) : (h.eyeletOff e).rpmc = h.rpmc := by simp [Hw.eyeletOff]

@[simp] theorem Hw.eyeletUp_rpmc (h : Hw) (e : Nat) : (h.eyeletUp e).rpmc = h.rpmc := by simp [Hw.eyeletUp]

end Sys2Proof.Machine

end

section

/-! PROOFS. Translation, registers and commands: no function here changes a monotonic counter of NOR (R464). -/

namespace Sys2Proof.Machine

/-! ### Channel -/

@[simp] theorem Hw.mbDropOff_rpmc (h : Hw) (c : Nat) : (h.mbDropOff c).rpmc = h.rpmc := (rfl)

@[simp] theorem Hw.mbDropBusy_rpmc (h : Hw) (c : Nat) : (h.mbDropBusy c).rpmc = h.rpmc := by simp [Hw.mbDropBusy]

@[simp] theorem Hw.mbSend_rpmc (h : Hw) (c : Nat) (host : Bool) : (h.mbSend c host).rpmc = h.rpmc := by simp [Hw.mbSend]

@[simp] theorem Hw.mbWrite_rpmc (h : Hw) (c off : Nat) (bs : Bytes) (host : Bool) : (h.mbWrite c off bs host).rpmc = h.rpmc := by simp [Hw.mbWrite]

@[simp] theorem Hw.mbDoorbell_rpmc (h : Hw) (c op : Nat) (host : Bool) : (h.mbDoorbell c op host).rpmc = h.rpmc := by simp [Hw.mbDoorbell]

/-! ### Xlate -/

@[simp] theorem Hw.moveAbandon_rpmc (f : Nat) (h : Hw) (n : Nat) : (Hw.moveAbandon f h n).rpmc = h.rpmc := by
  induction f generalizing h n with
  | zero => rfl
  | succ f ih =>
    unfold Hw.moveAbandon
    split
    · dsimp only
      exact ite_rpmc rfl (foldl_rpmc (fun _ _ => ite_rpmc (ih ..) ((Hw.place_rpmc ..).trans (Hw.updObj_rpmc ..))) (Hw.objChange_rpmc ..))
    · rfl

@[simp] theorem Hw.unitFault_rpmc (h : Hw) (u : FltUnit) (acc : Acc) (ty : FType) (va lvl pte detail : Nat) : (h.unitFault u acc ty va lvl pte
    detail).rpmc = h.rpmc := by
  unfold Hw.unitFault
  split <;> simp

@[simp] theorem Hw.atsAsk_rpmc (h : Hw) (r : AtsReq) : (h.atsAsk r).rpmc = h.rpmc := by simp [Hw.atsAsk]

@[simp] theorem Hw.countWalk_rpmc (h : Hw) (u : FltUnit) : (h.countWalk u).rpmc = h.rpmc := by simp [Hw.countWalk]

@[simp] theorem effPageWalkDone_rpmc (h : Hw) (u : FltUnit) (va : Nat) (acc : Acc) : (effPageWalkDone u va acc h).rpmc = h.rpmc := by
  simp only [effPageWalkDone]
  (repeat' split) <;> simp

@[simp] theorem Hw.priSend_rpmc (h : Hw) : h.priSend.rpmc = h.rpmc := by simp [Hw.priSend]

@[simp] theorem Hw.atsFault_rpmc (h : Hw) (r : AtsReq) (ty : FType) (detail : Nat) : (h.atsFault r ty detail).rpmc = h.rpmc := by simp [Hw.atsFault]

@[simp] theorem Hw.atsGo_rpmc (h : Hw) (x : FltUnit) : (h.atsGo x).rpmc = h.rpmc := by
  unfold Hw.atsGo
  split <;> simp

@[simp] theorem Hw.atcPut_rpmc (h : Hw) (t : Atc) : (h.atcPut t).rpmc = h.rpmc := (rfl)

@[simp] theorem effAtsCompletion_rpmc (h : Hw) (addr size trans : Nat) (rd wr : Bool) : (effAtsCompletion addr size trans rd wr h).rpmc = h.rpmc := by
  unfold effAtsCompletion
  split <;> simp

@[simp] theorem effPriResponse_rpmc (h : Hw) (addr code : Nat) : (effPriResponse addr code h).rpmc = h.rpmc := by
  unfold effPriResponse
  split <;> simp

@[simp] theorem effPriReenable_rpmc (h : Hw) : (effPriReenable h).rpmc = h.rpmc := by simp [effPriReenable]

@[simp] theorem effAtsInvalidateRequest_rpmc (h : Hw) (addr size : Nat) : (effAtsInvalidateRequest addr size h).rpmc = h.rpmc := by
  simp [effAtsInvalidateRequest]

@[simp] theorem Hw.invalStart_rpmc (h : Hw) (x : Inval) : (h.invalStart x).rpmc = h.rpmc := (rfl)

@[simp] theorem Hw.hold_rpmc (h : Hw) (path : Path) (off size val : Nat) (read : Bool) : (h.hold path off size val read).rpmc = h.rpmc := (rfl)

@[simp] theorem Hw.xlateInval_rpmc (h : Hw) : h.xlateInval.rpmc = h.rpmc := (rfl)

@[simp] theorem effXlateInval_rpmc (h : Hw) (path : Path) (w : Nat) : (effXlateInval path w h).rpmc = h.rpmc := by simp [effXlateInval]

@[simp] theorem Hw.respResult_rpmc (h : Hw) (id result : Nat) : (h.respResult id result).rpmc = h.rpmc := (rfl)

@[simp] theorem Hw.respond_rpmc (h : Hw) (id : Nat) (retry : Bool) : (h.respond id retry).1.rpmc = h.rpmc := by simp [Hw.respond]

@[simp] theorem Hw.fltResp_rpmc (h : Hw) (id : Nat) (retry : Bool) : (h.fltResp id retry).rpmc = h.rpmc := by simp [Hw.fltResp]

@[simp] theorem effFltRespRetry_rpmc (h : Hw) (id : Nat) : (effFltRespRetry id h).rpmc = h.rpmc := by simp [effFltRespRetry]

@[simp] theorem effFltRespCancel_rpmc (h : Hw) (id : Nat) : (effFltRespCancel id h).rpmc = h.rpmc := by simp [effFltRespCancel]

@[simp] theorem effFltHeadDb_rpmc (h : Hw) (v : Nat) : (effFltHeadDb v h).rpmc = h.rpmc := by simp [effFltHeadDb]

@[simp] theorem effFaultTimeout_rpmc (h : Hw) (id : Nat) : (effFaultTimeout id h).rpmc = h.rpmc := by
  unfold effFaultTimeout
  split <;> simp

@[simp] theorem effPeerReadTimeout_rpmc (h : Hw) (u : FltUnit) (va : Nat) (rejected : Bool) : (effPeerReadTimeout u va rejected h).rpmc = h.rpmc := by
  simp only [effPeerReadTimeout]
  (repeat' split) <;> simp

@[simp] theorem effPcieCompletionTimeout_rpmc (h : Hw) (u : FltUnit) (va code : Nat) : (effPcieCompletionTimeout u va code h).rpmc = h.rpmc := by
  simp only [effPcieCompletionTimeout]
  (repeat' split) <;> simp

/-! ### Regs -/

@[simp] theorem Hw.voteCount_rpmc (h : Hw) (off : Nat) : (h.voteCount off).rpmc = h.rpmc := by
  simp only [Hw.voteCount]
  (repeat' split) <;> simp

@[simp] theorem Hw.voteFix_rpmc (h : Hw) (f : Fld) : (h.voteFix f).rpmc = h.rpmc := by
  unfold Hw.voteFix
  split <;> simp

@[simp] theorem Hw.voteSweep_rpmc (h : Hw) (p : Nat → Bool) : (h.voteSweep p).rpmc = h.rpmc := by simp [Hw.voteSweep]

@[simp] theorem Hw.voteUpset_rpmc (h : Hw) (off copy mask : Nat) : (h.voteUpset off copy mask).rpmc = h.rpmc := by simp [Hw.voteUpset]

@[simp] theorem effVoteSweep_rpmc (h : Hw) (upsets : List (Nat × Nat × Nat)) : (effVoteSweep upsets h).rpmc = h.rpmc := by simp [effVoteSweep]

@[simp] theorem Hw.busErr_rpmc (h : Hw) (path : Path) (off size : Nat) (write : Bool) (reason : Nat) : (h.busErr path off size write reason).rpmc =
    h.rpmc := by
  simp [Hw.busErr]

@[simp] theorem Hw.takeLatch_rpmc (h : Hw) (path : Path) : (h.takeLatch path).1.rpmc = h.rpmc := (rfl)

@[simp] theorem Hw.readPieces_rpmc (h : Hw) (path : Path) (size : Nat) (l : Option Latch) (ps : List Piece) : (h.readPieces path size l ps).1.rpmc = h.rpmc := by
  induction ps generalizing h with
  | nil => rfl
  | cons p ps ih =>
    unfold Hw.readPieces
    exact (ih _).trans (ite_rpmc (foldl_rpmc Hw.voteFix_rpmc rfl) (foldl_rpmc Hw.voteFix_rpmc rfl))

@[simp] theorem Hw.regRead_rpmc (h : Hw) (path : Path) (off size : Nat) : (h.regRead path off size).1.rpmc = h.rpmc := by
  simp only [Hw.regRead]
  (repeat' split) <;> simp

@[simp] theorem Hw.weRecord_rpmc (h : Hw) (own b : Nat) : (h.weRecord own b).rpmc = h.rpmc := (rfl)

@[simp] theorem Hw.msixUnmask_rpmc (h : Hw) (v : Nat) : (h.msixUnmask v).rpmc = h.rpmc := by simp [Hw.msixUnmask]

@[simp] theorem Hw.evtHead_rpmc (h : Hw) (v : Nat) : (h.evtHead v).rpmc = h.rpmc := by simp [Hw.evtHead]

@[simp] theorem Hw.linkCmd_rpmc (h : Hw) (l v : Nat) : (h.linkCmd l v).rpmc = h.rpmc := by
  unfold Hw.linkCmd
  split <;> simp

@[simp] theorem Hw.stageOn_rpmc (h : Hw) (v : Nat) : (h.stageOn v).rpmc = h.rpmc := by simp [Hw.stageOn]

@[simp] theorem Hw.mapoutWritten_rpmc (h : Hw) (s old : Nat) : (h.mapoutWritten s old).rpmc = h.rpmc := by simp [Hw.mapoutWritten]

@[simp] theorem Hw.regAct_rpmc (h : Hw) (path : Path) (r : RegRow) (b m v old : Nat) (was : Bool) : (h.regAct path r b m v old was).rpmc = h.rpmc := by
  unfold Hw.regAct
  dsimp only
  split
  · have hscrub : (if b = 0x540000 && h.get F.SCRUB_PERIOD ≠ bitsOf old 15 4 then { h with spad := { h.spad with scrub := [0, 0, 0, 0] } } else h).rpmc = h.rpmc :=
      ite_rpmc rfl rfl
    exact (Hw.blockSet_rpmc ..).trans (ite_rpmc ((Hw.set_rpmc ..).trans ((Hw.set_rpmc ..).trans ((Hw.set_rpmc ..).trans hscrub))) hscrub)
  · refine ite_rpmc (ite_rpmc (Hw.stageOn_rpmc ..) rfl) (ite_rpmc (ite_rpmc rfl (ite_rpmc (effQueueEnable_rpmc ..) (effQueueDisable_rpmc ..)))
      (ite_rpmc ?_ (ite_rpmc (ite_rpmc (effSqTailDb_rpmc ..) (effCqHeadDb_rpmc ..)) (ite_rpmc (effTreqTailDb_rpmc ..)
      (ite_rpmc (Hw.mapoutWritten_rpmc ..) (ite_rpmc (effFltHeadDb_rpmc ..) (ite_rpmc ?_ (ite_rpmc (ite_rpmc (Hw.xlateInval_rpmc ..) rfl)
      (ite_rpmc (ite_rpmc (effLinkEnWrite_rpmc ..) (ite_rpmc (Hw.linkCmd_rpmc ..) rfl)) (ite_rpmc rfl (ite_rpmc (Hw.mbWrite_rpmc ..)
      (ite_rpmc (Hw.mbDoorbell_rpmc ..) (ite_rpmc (Hw.evtHead_rpmc ..) (ite_rpmc (Hw.msixUnmask_rpmc ..) rfl))))))))))))))
    · split
      · exact effCtxPreempt_rpmc ..
      · exact effCtxResume_rpmc ..
      · exact effCtxCancel_rpmc ..
      · rfl
    · split
      · exact effFltRespRetry_rpmc ..
      · exact effFltRespCancel_rpmc ..
      · exact Hw.respResult_rpmc ..

@[simp] theorem Hw.writeReg_rpmc (h : Hw) (path : Path) (r : RegRow) (b m v : Nat) : (h.writeReg path r b m v).rpmc = h.rpmc := by
  simp [Hw.writeReg]

@[simp] theorem Hw.regWrite_rpmc (h : Hw) (path : Path) (off size v : Nat) : (h.regWrite path off size v).1.rpmc = h.rpmc := by
  simp only [Hw.regWrite]
  (repeat' split) <;> simp

@[simp] theorem Hw.readGo_rpmc (h : Hw) (path : Path) (off size : Nat) : (h.readGo path off size).rpmc = h.rpmc := by
  grind [Hw.readGo, Hw.regRead_rpmc, Hw.send_rpmc]

@[simp] theorem Hw.writeGo_rpmc (h : Hw) (path : Path) (off size v : Nat) : (h.writeGo path off size v).rpmc = h.rpmc := by
  grind [Hw.writeGo, Hw.regWrite_rpmc, Hw.send_rpmc]

@[simp] theorem Hw.regAccess_rpmc (h : Hw) (path : Path) (off size v : Nat) (read : Bool) : (h.regAccess path off size v read).rpmc = h.rpmc := by
  simp only [Hw.regAccess]
  (repeat' split) <;> simp

@[simp] theorem Hw.coreLocal_rpmc (h : Hw) (pa size v : Nat) (read : Bool) : (h.coreLocal pa size v read).rpmc = h.rpmc := by simp [Hw.coreLocal]

@[simp] theorem Hw.coreAccess_rpmc (h : Hw) (n size v : Nat) (read : Bool) : (h.coreAccess n size v read).rpmc = h.rpmc := by
  simp only [Hw.coreAccess]
  (repeat' split) <;> simp

@[simp] theorem Hw.cfgAccess_rpmc (h : Hw) (off size : Nat) (read : Bool) : (h.cfgAccess off size read).rpmc = h.rpmc := by simp [Hw.cfgAccess]

@[simp] theorem Hw.access_rpmc (h : Hw) (path : Path) (off size v : Nat) (read : Bool) : (h.access path off size v read).rpmc = h.rpmc := by
  unfold Hw.access
  split <;> simp

@[simp] theorem effRegisterRead_rpmc (h : Hw) (path : Path) (off size : Nat) : (effRegisterRead path off size h).rpmc = h.rpmc := by
  simp [effRegisterRead]

@[simp] theorem effCounterLowHalfRead_rpmc (h : Hw) (path : Path) (off : Nat) : (effCounterLowHalfRead path off h).rpmc = h.rpmc := by
  simp [effCounterLowHalfRead]

@[simp] theorem effEvtHeadDb_rpmc (h : Hw) (v : Nat) : (effEvtHeadDb v h).rpmc = h.rpmc := by simp [effEvtHeadDb]

/-! ### Roino -/

@[simp] theorem Hw.ok_rpmc (h : Hw) : (h.ok).1.rpmc = h.rpmc := (rfl)

@[simp] theorem Hw.okWith_rpmc (h : Hw) (l : List Arg) : (h.okWith l).1.rpmc = h.rpmc := (rfl)

@[simp] theorem Hw.okOp_rpmc (h : Hw) (op : Nat) : (h.okOp op).1.rpmc = h.rpmc := (rfl)

@[simp] theorem Hw.no_rpmc (h : Hw) (rc : Nat) : (h.no rc).1.rpmc = h.rpmc := (rfl)

@[simp] theorem Hw.newOp_rpmc (h : Hw) : (h.newOp).1.rpmc = h.rpmc := (rfl)

@[simp] theorem Hw.checked_rpmc {h : Hw} {l : List (Bool × Nat)} {k : Hw → Done} (hk : (k h).1.rpmc = h.rpmc) : (h.checked l k).1.rpmc = h.rpmc := by
  grind [Hw.checked, Hw.no_rpmc]

/-! ### GrpDev -/

@[simp] theorem cmdDevIdentify_rpmc (h : Hw) (ch : Nat) (a : List Nat) (d : Bytes) : (cmdDevIdentify h ch a d).1.rpmc = h.rpmc := (rfl)

@[simp] theorem cmdDevStatus_rpmc (h : Hw) (ch : Nat) (a : List Nat) (d : Bytes) : (cmdDevStatus h ch a d).1.rpmc = h.rpmc := (rfl)

@[simp] theorem cmdDevWriteIn_rpmc (h : Hw) (ch : Nat) (a : List Nat) (d : Bytes) : (cmdDevWriteIn h ch a d).1.rpmc = h.rpmc := by
  unfold cmdDevWriteIn
  split <;> simp

@[simp] theorem cmdDevReadOut_rpmc (h : Hw) (ch : Nat) (a : List Nat) (d : Bytes) : (cmdDevReadOut h ch a d).1.rpmc = h.rpmc := by
  simp [cmdDevReadOut]

@[simp] theorem cmdPwrStatus_rpmc (h : Hw) (ch : Nat) (a : List Nat) (d : Bytes) : (cmdPwrStatus h ch a d).1.rpmc = h.rpmc := (rfl)

@[simp] theorem cmdPwrClockCap_rpmc (h : Hw) (ch : Nat) (a : List Nat) (d : Bytes) : (cmdPwrClockCap h ch a d).1.rpmc = h.rpmc := by
  simp [cmdPwrClockCap]

@[simp] theorem cmdPwrStandby_rpmc (h : Hw) (ch : Nat) (a : List Nat) (d : Bytes) : (cmdPwrStandby h ch a d).1.rpmc = h.rpmc := by
  simp [cmdPwrStandby]

@[simp] theorem cmdQCtxCtl_rpmc (h : Hw) (ch : Nat) (a : List Nat) (d : Bytes) : (cmdQCtxCtl h ch a d).1.rpmc = h.rpmc := by simp [cmdQCtxCtl]

@[simp] theorem cmdQQueueCtl_rpmc (h : Hw) (ch : Nat) (a : List Nat) (d : Bytes) : (cmdQQueueCtl h ch a d).1.rpmc = h.rpmc := by
  refine Hw.checked_rpmc (ite_fst_rpmc ((Hw.okWith_rpmc ..).trans (Hw.queueStop_rpmc ..)) ((Hw.okWith_rpmc ..).trans (foldl_rpmc (fun h c => ?_) rfl)))
  exact ite_rpmc (Hw.preempt_rpmc ..) (ite_rpmc (Hw.resume_rpmc ..) (Hw.cancelCtx_rpmc ..))

@[simp] theorem cmdDiagChervil_rpmc (h : Hw) (ch : Nat) (a : List Nat) (d : Bytes) : (cmdDiagChervil h ch a d).1.rpmc = h.rpmc := by
  unfold cmdDiagChervil
  split <;> simp

@[simp] theorem cmdDiagRegRead_rpmc (h : Hw) (ch : Nat) (a : List Nat) (d : Bytes) : (cmdDiagRegRead h ch a d).1.rpmc = h.rpmc := by
  grind [cmdDiagRegRead, Hw.checked_rpmc, Hw.regRead_rpmc, Hw.okWith_rpmc, Hw.no_rpmc]

@[simp] theorem cmdDiagRegWrite_rpmc (h : Hw) (ch : Nat) (a : List Nat) (d : Bytes) : (cmdDiagRegWrite h ch a d).1.rpmc = h.rpmc := by
  grind [cmdDiagRegWrite, Hw.checked_rpmc, Hw.regWrite_rpmc, Hw.ok_rpmc, Hw.no_rpmc]

@[simp] theorem cmdDiagEngineMap_rpmc (h : Hw) (ch : Nat) (a : List Nat) (d : Bytes) : (cmdDiagEngineMap h ch a d).1.rpmc = h.rpmc := by
  simp [cmdDiagEngineMap]

@[simp] theorem cmdDiagLoopback_rpmc (h : Hw) (ch : Nat) (a : List Nat) (d : Bytes) : (cmdDiagLoopback h ch a d).1.rpmc = h.rpmc := by
  simp [cmdDiagLoopback]

@[simp] theorem cmdEvtRing_rpmc (h : Hw) (ch : Nat) (a : List Nat) (d : Bytes) : (cmdEvtRing h ch a d).1.rpmc = h.rpmc := by
  unfold cmdEvtRing
  split <;> simp

@[simp] theorem cmdEvtRead_rpmc (h : Hw) (ch : Nat) (a : List Nat) (d : Bytes) : (cmdEvtRead h ch a d).1.rpmc = h.rpmc := by
  grind [cmdEvtRead, Hw.checked_rpmc]

@[simp] theorem cmdEvtFilter_rpmc (h : Hw) (ch : Nat) (a : List Nat) (d : Bytes) : (cmdEvtFilter h ch a d).1.rpmc = h.rpmc := by
  unfold cmdEvtFilter
  split <;> simp

@[simp] theorem Hw.relay_rpmc (h : Hw) (ch rc : Nat) : (h.relay ch rc).rpmc = h.rpmc := by simp [Hw.relay]

@[simp] theorem relayed_rpmc {f : Hw → Nat → List Nat → Bytes → Done} (hf : ∀ h ch a d, (f h ch a d).1.rpmc = h.rpmc) (h : Hw) (ch : Nat) (a : List
    Nat) (d : Bytes) : (relayed f h ch a d).1.rpmc = h.rpmc := by
  grind [relayed, Hw.relay_rpmc]

@[simp] theorem cmdSageSensors_rpmc (h : Hw) (ch : Nat) (a : List Nat) (d : Bytes) : (cmdSageSensors h ch a d).1.rpmc = h.rpmc := by
  simp [cmdSageSensors]

@[simp] theorem cmdSagePins_rpmc (h : Hw) (ch : Nat) (a : List Nat) (d : Bytes) : (cmdSagePins h ch a d).1.rpmc = h.rpmc := (rfl)

@[simp] theorem cmdSageSetThresh_rpmc (h : Hw) (ch : Nat) (a : List Nat) (d : Bytes) : (cmdSageSetThresh h ch a d).1.rpmc = h.rpmc := by
  unfold cmdSageSetThresh
  split <;> simp

@[simp] theorem cmdSageLaser_rpmc (h : Hw) (ch : Nat) (a : List Nat) (d : Bytes) : (cmdSageLaser h ch a d).1.rpmc = h.rpmc := by simp [cmdSageLaser]

/-! ### GrpJob -/

@[simp] theorem Hw.nvLoad_rpmc (h : Hw) (i : Nat) : (h.nvLoad i).rpmc = h.rpmc := by
  unfold Hw.nvLoad
  split <;> simp

@[simp] theorem Hw.jobRegs_rpmc (h : Hw) : h.jobRegs.rpmc = h.rpmc :=
  foldl_rpmc (fun _ _ => ite_rpmc (Hw.nvLoad_rpmc ..) rfl) rfl

@[simp] theorem Hw.jobReset_rpmc (h : Hw) : h.jobReset.rpmc = h.rpmc := by
  unfold Hw.jobReset
  dsimp only
  refine (Hw.jobRegs_rpmc _).trans ?_
  exact foldl_rpmc (fun _ _ => ite_rpmc rfl ((Hw.invalRange_rpmc ..).trans (Hw.unmapRange_rpmc ..))) rfl

@[simp] theorem Hw.clearDown_rpmc (h : Hw) (blocks n : Nat) : (Hw.clearDown blocks n h).rpmc = h.rpmc := by
  induction n generalizing h with
  | zero => rfl
  | succ k ih =>
    have hoff : (if blocks.testBit k then h.blockOff k else h).rpmc = h.rpmc := ite_rpmc (Hw.blockOff_rpmc ..) rfl
    exact ite_rpmc hoff ((ih _).trans hoff)

@[simp] theorem Hw.quiesceGo_rpmc (h : Hw) : h.quiesceGo.rpmc = h.rpmc := by
  unfold Hw.quiesceGo
  split <;> simp

@[simp] theorem Hw.cancelAll_rpmc (h : Hw) : h.cancelAll.rpmc = h.rpmc := foldl_rpmc Hw.cancelCtx_rpmc rfl

@[simp] theorem Hw.quiesceStart_rpmc (h : Hw) (blocks mode : Nat) (reset : Bool) (op : Nat) : (h.quiesceStart blocks mode reset op).rpmc = h.rpmc :=
    by
  simp [Hw.quiesceStart]

@[simp] theorem effJobQuiesced_rpmc (h : Hw) : (effJobQuiesced h).rpmc = h.rpmc := by
  have hgo := Hw.quiesceGo_rpmc h
  unfold effJobQuiesced
  dsimp only
  split
  · exact hgo
  · exact ite_rpmc hgo (foldl_rpmc (fun _ _ => Hw.postOp_rpmc ..) (ite_rpmc ((Hw.jobReset_rpmc _).trans hgo) hgo))

@[simp] theorem cmdDevReset_rpmc (h : Hw) (ch : Nat) (a : List Nat) (d : Bytes) : (cmdDevReset h ch a d).1.rpmc = h.rpmc := by simp [cmdDevReset]

@[simp] theorem cmdJobSetKey_rpmc (h : Hw) (ch : Nat) (a : List Nat) (d : Bytes) : (cmdJobSetKey h ch a d).1.rpmc = h.rpmc :=
  Hw.checked_rpmc ((Hw.ok_rpmc ..).trans ((Hw.set_rpmc ..).trans (foldl_rpmc (fun _ _ => Hw.set_rpmc ..) rfl)))

@[simp] theorem cmdJobSetBinding_rpmc (h : Hw) (ch : Nat) (a : List Nat) (d : Bytes) : (cmdJobSetBinding h ch a d).1.rpmc = h.rpmc := by
  simp [cmdJobSetBinding]

@[simp] theorem cmdJobSetBases_rpmc (h : Hw) (ch : Nat) (a : List Nat) (d : Bytes) : (cmdJobSetBases h ch a d).1.rpmc = h.rpmc := by
  unfold cmdJobSetBases
  split <;> simp

@[simp] theorem cmdJobEnable_rpmc (h : Hw) (ch : Nat) (a : List Nat) (d : Bytes) : (cmdJobEnable h ch a d).1.rpmc = h.rpmc :=
  Hw.checked_rpmc ((Hw.okWith_rpmc ..).trans (foldl_rpmc (fun _ _ => ite_rpmc (Hw.blockOn_rpmc ..) rfl) rfl))

@[simp] theorem cmdJobQuiesce_rpmc (h : Hw) (ch : Nat) (a : List Nat) (d : Bytes) : (cmdJobQuiesce h ch a d).1.rpmc = h.rpmc := by
  simp [cmdJobQuiesce]

@[simp] theorem cmdJobTapeGet_rpmc (h : Hw) (ch : Nat) (a : List Nat) (d : Bytes) : (cmdJobTapeGet h ch a d).1.rpmc = h.rpmc := (rfl)

@[simp] theorem cmdJobTapeSet_rpmc (h : Hw) (ch : Nat) (a : List Nat) (d : Bytes) : (cmdJobTapeSet h ch a d).1.rpmc = h.rpmc := by
  unfold cmdJobTapeSet
  split <;> simp

/-! ### GrpTopo -/

@[simp] theorem cmdTopoSetCoord_rpmc (h : Hw) (ch : Nat) (a : List Nat) (d : Bytes) : (cmdTopoSetCoord h ch a d).1.rpmc = h.rpmc := by
  unfold cmdTopoSetCoord
  split
  · exact Hw.checked_rpmc ((Hw.okWith_rpmc ..).trans (ite_rpmc rfl (foldl_rpmc (fun _ _ => ite_rpmc (Hw.identStart_rpmc ..) rfl)
      ((Hw.set_rpmc ..).trans ((Hw.set_rpmc ..).trans ((Hw.set_rpmc ..).trans (Hw.set_rpmc ..)))))))
  · rfl

@[simp] theorem Hw.peerTable_rpmc (h : Hw) (p : Plan) (me : Nat) : (h.peerTable p me).rpmc = h.rpmc := (rfl)

@[simp] theorem Hw.planLoad_rpmc (h : Hw) (p : Plan) : (h.planLoad p).rpmc = h.rpmc := by
  refine foldl_rpmc (fun _ _ => ite_rpmc (Hw.identStart_rpmc ..) (ite_rpmc (Hw.linkStart_rpmc ..) rfl)) ((Hw.set_rpmc ..).trans ?_)
  refine foldl_rpmc (fun _ _ => (Hw.updLk_rpmc ..).trans (Hw.set_rpmc ..)) (foldl_rpmc (fun _ _ => Hw.set_rpmc ..) ?_)
  exact (Hw.setB_rpmc ..).trans ((Hw.set_rpmc ..).trans ((Hw.peerTable_rpmc ..).trans
    ((Hw.setRegBytes_rpmc ..).trans (Hw.setRegBytes_rpmc ..))))

@[simp] theorem cmdTopoLoadPlan_rpmc (h : Hw) (ch : Nat) (a : List Nat) (d : Bytes) : (cmdTopoLoadPlan h ch a d).1.rpmc = h.rpmc := by
  simp [cmdTopoLoadPlan]

@[simp] theorem cmdTopoStatus_rpmc (h : Hw) (ch : Nat) (a : List Nat) (d : Bytes) : (cmdTopoStatus h ch a d).1.rpmc = h.rpmc := (rfl)

@[simp] theorem cmdTopoPeer_rpmc (h : Hw) (ch : Nat) (a : List Nat) (d : Bytes) : (cmdTopoPeer h ch a d).1.rpmc = h.rpmc := by
  unfold cmdTopoPeer
  split <;> simp

@[simp] theorem cmdLinkEnable_rpmc (h : Hw) (ch : Nat) (a : List Nat) (d : Bytes) : (cmdLinkEnable h ch a d).1.rpmc = h.rpmc :=
  (Hw.okWith_rpmc ..).trans (foldl_rpmc (fun _ _ => ite_rpmc (effLinkEnWrite_rpmc ..) rfl) rfl)

@[simp] theorem cmdLinkStatus_rpmc (h : Hw) (ch : Nat) (a : List Nat) (d : Bytes) : (cmdLinkStatus h ch a d).1.rpmc = h.rpmc := by
  simp [cmdLinkStatus]

/-! ### Image -/

@[simp] theorem cmdImgInfo_rpmc (h : Hw) (ch : Nat) (a : List Nat) (d : Bytes) : (cmdImgInfo h ch a d).1.rpmc = h.rpmc := by
  unfold cmdImgInfo
  split <;> simp

@[simp] theorem cmdImgErase_rpmc (h : Hw) (ch : Nat) (a : List Nat) (d : Bytes) : (cmdImgErase h ch a d).1.rpmc = h.rpmc := by simp [cmdImgErase]

@[simp] theorem cmdImgWrite_rpmc (h : Hw) (ch : Nat) (a : List Nat) (d : Bytes) : (cmdImgWrite h ch a d).1.rpmc = h.rpmc := by
  unfold cmdImgWrite
  split <;> simp

@[simp] theorem Hw.commitWrite_rpmc (h : Hw) (slot len : Nat) : (h.commitWrite slot len).rpmc = h.rpmc := by simp [Hw.commitWrite]

@[simp] theorem Hw.commitGo_rpmc (h : Hw) (slot len : Nat) : (h.commitGo slot len).rpmc = h.rpmc := by simp [Hw.commitGo]

@[simp] theorem cmdImgCommit_rpmc (h : Hw) (ch : Nat) (a : List Nat) (d : Bytes) : (cmdImgCommit h ch a d).1.rpmc = h.rpmc := by
  unfold cmdImgCommit
  split
  · refine Hw.checked_rpmc ?_
    split
    · exact (Hw.okWith_rpmc ..).trans (ite_rpmc (Hw.commitGo_rpmc ..) (Hw.commitGo_rpmc ..))
    · rfl
  · rfl

@[simp] theorem cmdImgCfgGet_rpmc (h : Hw) (ch : Nat) (a : List Nat) (d : Bytes) : (cmdImgCfgGet h ch a d).1.rpmc = h.rpmc := by
  simp only [cmdImgCfgGet]
  (repeat' split) <;> simp

/-! ### GrpSec -/

@[simp] theorem cmdSecGetId_rpmc (h : Hw) (ch : Nat) (a : List Nat) (d : Bytes) : (cmdSecGetId h ch a d).1.rpmc = h.rpmc := (rfl)

@[simp] theorem cmdSecQuote_rpmc (h : Hw) (ch : Nat) (a : List Nat) (d : Bytes) : (cmdSecQuote h ch a d).1.rpmc = h.rpmc := by
  unfold cmdSecQuote
  split <;> simp

/-! ### GrpMem -/

@[simp] theorem cmdMemRetrain_rpmc (h : Hw) (ch : Nat) (a : List Nat) (d : Bytes) : (cmdMemRetrain h ch a d).1.rpmc = h.rpmc := by
  simp [cmdMemRetrain]

@[simp] theorem cmdMemMargin_rpmc (h : Hw) (ch : Nat) (a : List Nat) (d : Bytes) : (cmdMemMargin h ch a d).1.rpmc = h.rpmc := by
  unfold cmdMemMargin
  split <;> simp

@[simp] theorem cmdMemMarginResult_rpmc (h : Hw) (ch : Nat) (a : List Nat) (d : Bytes) : (cmdMemMarginResult h ch a d).1.rpmc = h.rpmc := by
  grind [cmdMemMarginResult, Hw.checked_rpmc, Hw.no_rpmc, Hw.okWith_rpmc]

@[simp] theorem cmdMemStackState_rpmc (h : Hw) (ch : Nat) (a : List Nat) (d : Bytes) : (cmdMemStackState h ch a d).1.rpmc = h.rpmc := by
  simp [cmdMemStackState]

@[simp] theorem cmdMemMapout_rpmc (h : Hw) (ch : Nat) (a : List Nat) (d : Bytes) : (cmdMemMapout h ch a d).1.rpmc = h.rpmc := by
  grind [cmdMemMapout, Hw.checked_rpmc, Hw.newOp_rpmc, Hw.okOp_rpmc, Hw.mapoutStart_rpmc, Hw.no_rpmc]

@[simp] theorem cmdMemRegion_rpmc (h : Hw) (ch : Nat) (a : List Nat) (d : Bytes) : (cmdMemRegion h ch a d).1.rpmc = h.rpmc := by
  unfold cmdMemRegion
  split
  · refine Hw.checked_rpmc (ite_fst_rpmc ?_ ?_)
    · split
      · next e => exact (Hw.okWith_rpmc ..).trans (rpmc_of_fst (Hw.allocRegion_rpmc ..) e)
      · rfl
    · split
      · exact (Hw.okWith_rpmc ..).trans ((Hw.set_rpmc ..).trans (Hw.set_rpmc ..))
      · rfl
  · rfl

@[simp] theorem cmdMemMap_rpmc (h : Hw) (ch : Nat) (a : List Nat) (d : Bytes) : (cmdMemMap h ch a d).1.rpmc = h.rpmc := by
  unfold cmdMemMap
  split
  · next va n _ _ _ _ =>
    refine Hw.checked_rpmc ?_
    split
    · rfl
    · next h' e =>
      have hmap := (Hw.invalRange_rpmc h' va n).trans (rpmc_of_fst (Hw.mapRange_rpmc ..) e)
      exact (Hw.ok_rpmc ..).trans (ite_rpmc hmap hmap)
  · rfl

@[simp] theorem Hw.splitLeaf_rpmc (h : Hw) (va : Nat) : (h.splitLeaf va).1.rpmc = h.rpmc := by
  grind [Hw.splitLeaf, Hw.allocRegion_rpmc, Hw.writePte_rpmc, Hw.poke_rpmc]

@[simp] theorem cmdMemUnmap_rpmc (h : Hw) (ch : Nat) (a : List Nat) (d : Bytes) : (cmdMemUnmap h ch a d).1.rpmc = h.rpmc := by
  unfold cmdMemUnmap
  split
  · refine Hw.checked_rpmc ?_
    split
    · rfl
    · next e =>
      split
      · rfl
      · next e' => exact (Hw.invalStart_rpmc ..).trans ((Hw.unmapRange_rpmc ..).trans
          ((rpmc_of_fst (Hw.splitLeaf_rpmc ..) e').trans (rpmc_of_fst (Hw.splitLeaf_rpmc ..) e)))
  · rfl

@[simp] theorem cmdMemPeerWindow_rpmc (h : Hw) (ch : Nat) (a : List Nat) (d : Bytes) : (cmdMemPeerWindow h ch a d).1.rpmc = h.rpmc := by
  unfold cmdMemPeerWindow
  split <;> simp

@[simp] theorem cmdMemHostWindow_rpmc (h : Hw) (ch : Nat) (a : List Nat) (d : Bytes) : (cmdMemHostWindow h ch a d).1.rpmc = h.rpmc := by
  unfold cmdMemHostWindow
  split <;> simp

@[simp] theorem cmdMemLend_rpmc (h : Hw) (ch : Nat) (a : List Nat) (d : Bytes) : (cmdMemLend h ch a d).1.rpmc = h.rpmc := by
  unfold cmdMemLend
  split <;> simp

@[simp] theorem cmdMemInval_rpmc (h : Hw) (ch : Nat) (a : List Nat) (d : Bytes) : (cmdMemInval h ch a d).1.rpmc = h.rpmc := by simp [cmdMemInval]

@[simp] theorem cmdMemFaultResp_rpmc (h : Hw) (ch : Nat) (a : List Nat) (d : Bytes) : (cmdMemFaultResp h ch a d).1.rpmc = h.rpmc := by
  simp [cmdMemFaultResp]

/-! ### GrpSnap -/

@[simp] theorem cmdSnapSetBase_rpmc (h : Hw) (ch : Nat) (a : List Nat) (d : Bytes) : (cmdSnapSetBase h ch a d).1.rpmc = h.rpmc := by
  simp [cmdSnapSetBase]

@[simp] theorem cmdSnapLend_rpmc (h : Hw) (ch : Nat) (a : List Nat) (d : Bytes) : (cmdSnapLend h ch a d).1.rpmc = h.rpmc := by simp [cmdSnapLend]

@[simp] theorem cmdSnapWithdraw_rpmc (h : Hw) (ch : Nat) (a : List Nat) (d : Bytes) : (cmdSnapWithdraw h ch a d).1.rpmc = h.rpmc := by
  simp [cmdSnapWithdraw]

@[simp] theorem cmdSnapSuccessor_rpmc (h : Hw) (ch : Nat) (a : List Nat) (d : Bytes) : (cmdSnapSuccessor h ch a d).1.rpmc = h.rpmc := by
  simp [cmdSnapSuccessor]

@[simp] theorem Hw.slotRead_rpmc (h : Hw) (n site : Nat) : (h.slotRead n site).rpmc = h.rpmc := by simp [Hw.slotRead]

@[simp] theorem cmdSnapBindBuddy_rpmc (h : Hw) (ch : Nat) (a : List Nat) (d : Bytes) : (cmdSnapBindBuddy h ch a d).1.rpmc = h.rpmc := by
  unfold cmdSnapBindBuddy
  split
  · exact Hw.checked_rpmc ((Hw.ok_rpmc ..).trans ((Hw.slotRead_rpmc ..).trans ((Hw.slotRead_rpmc ..).trans (foldl_rpmc (fun _ _ => Hw.set_rpmc ..)
      ((Hw.set_rpmc ..).trans ((Hw.set_rpmc ..).trans (Hw.set_rpmc ..)))))))
  · rfl

@[simp] theorem cmdSnapBindNvme_rpmc (h : Hw) (ch : Nat) (a : List Nat) (d : Bytes) : (cmdSnapBindNvme h ch a d).1.rpmc = h.rpmc := by
  unfold cmdSnapBindNvme
  split <;> simp

@[simp] theorem cmdSnapSlots_rpmc (h : Hw) (ch : Nat) (a : List Nat) (d : Bytes) : (cmdSnapSlots h ch a d).1.rpmc = h.rpmc := (rfl)

@[simp] theorem cmdSnapUnbind_rpmc (h : Hw) (ch : Nat) (a : List Nat) (d : Bytes) : (cmdSnapUnbind h ch a d).1.rpmc = h.rpmc := by
  simp [cmdSnapUnbind]

@[simp] theorem cmdSnapBuddyLost_rpmc (h : Hw) (ch : Nat) (a : List Nat) (d : Bytes) : (cmdSnapBuddyLost h ch a d).1.rpmc = h.rpmc := by
  simp [cmdSnapBuddyLost]

@[simp] theorem cmdSnapRestore_rpmc (h : Hw) (ch : Nat) (a : List Nat) (d : Bytes) : (cmdSnapRestore h ch a d).1.rpmc = h.rpmc := by
  unfold cmdSnapRestore
  split <;> simp

end Sys2Proof.Machine

end

section

/-! PROOFS. Mailboxes, Sage, boot and host: no function here changes a monotonic counter of NOR (R464). -/

namespace Sys2Proof.Machine

/-! ### Mailbox -/

@[simp] theorem Hw.mbAck_rpmc (h : Hw) (c seq rc : Nat) : (h.mbAck c seq rc).rpmc = h.rpmc := by simp [Hw.mbAck]

@[simp] theorem Hw.mbRespond_rpmc (h : Hw) (c : Nat) (b : Bytes) (r : Resp) (replay : Bool) : (h.mbRespond c b r replay).rpmc = h.rpmc := (rfl)

@[simp] theorem Hw.mbFinish_rpmc (h : Hw) (c : Nat) (r : Resp) : (h.mbFinish c r).rpmc = h.rpmc := by simp [Hw.mbFinish]

@[simp] theorem Hw.mbSettle_rpmc (h : Hw) : h.mbSettle.rpmc = h.rpmc := by simp [Hw.mbSettle]

@[simp] theorem effMbBufferWrite_rpmc (h : Hw) (c : Nat) (path : Path) (off : Nat) (bytes : Bytes) : (effMbBufferWrite c path off bytes h).rpmc = h.rpmc :=
  ite_rpmc rfl (foldl_rpmc (fun _ _ => Hw.access_rpmc ..) rfl)

@[simp] theorem Hw.transport_rpmc (h : Hw) (kind rs : Nat) (data : Bytes) : (h.transport kind rs data).rpmc = h.rpmc := (rfl)

@[simp] theorem effTransportWake_rpmc (h : Hw) (c : Nat) : (effTransportWake c h).rpmc = h.rpmc := by simp [effTransportWake]

@[simp] theorem Hw.claim_rpmc (h : Hw) (c sid : Nat) : (h.claim c sid).rpmc = h.rpmc := by simp [Hw.claim]

@[simp] theorem Hw.transportSend_rpmc (h : Hw) (c sid : Nat) (buf : Bytes) : (h.transportSend c sid buf).rpmc = h.rpmc := by simp [Hw.transportSend]

@[simp] theorem effTransportReadStatus_rpmc (h : Hw) (c : Nat) : (effTransportReadStatus c h).rpmc = h.rpmc := by simp [effTransportReadStatus]

@[simp] theorem effTransportReadBuffer_rpmc (h : Hw) (c sid : Nat) : (effTransportReadBuffer c sid h).rpmc = h.rpmc := by
  simp [effTransportReadBuffer]

@[simp] theorem Hw.arrive_rpmc (h : Hw) (op ch seq : Nat) (p : Bytes) : (h.arrive op ch seq p).rpmc = h.rpmc := by
  simp only [Hw.arrive]
  (repeat' split) <;> simp

@[simp] theorem Hw.heldGo_rpmc (h : Hw) : h.heldGo.rpmc = h.rpmc := foldl_rpmc (fun _ _ => Hw.access_rpmc ..) rfl

/-! ### Sage -/

@[simp] theorem Hw.setSrc_rpmc (h : Hw) (c : Nat) (x : Src) : (h.setSrc c x).rpmc = h.rpmc := (rfl)

@[simp] theorem Hw.setPin_rpmc (h : Hw) (b : Nat) (x : PinSt) : (h.setPin b x).rpmc = h.rpmc := (rfl)

@[simp] theorem Hw.throttlePost_rpmc (h : Hw) : h.throttlePost.rpmc = h.rpmc := by simp [Hw.throttlePost]

@[simp] theorem Hw.clocks_rpmc (h : Hw) : h.clocks.rpmc = h.rpmc := by simp [Hw.clocks]

@[simp] theorem effThrottleEventFlush_rpmc (h : Hw) : (effThrottleEventFlush h).rpmc = h.rpmc := by simp [effThrottleEventFlush]

@[simp] theorem Hw.srcStep_rpmc (h : Hw) (c : Nat) (cnt : Fld) (r : Src × Bool) : (h.srcStep c cnt r).rpmc = h.rpmc := by simp [Hw.srcStep]

@[simp] theorem Hw.sensorFails_rpmc (h : Hw) (temps : List Nat) : (h.sensorFails temps).rpmc = h.rpmc := by
  refine foldl_rpmc (fun h i => ?_) rfl
  exact ite_rpmc (Hw.set_rpmc ..) rfl

@[simp] theorem Hw.slopeStep_rpmc (h : Hw) (temps : List Nat) (calmT : Bool) : (h.slopeStep temps calmT).rpmc = h.rpmc := by
  simp only [Hw.slopeStep]
  (repeat' split) <;> simp

@[simp] theorem Hw.vinSample_rpmc (h : Hw) (vin : Nat) : (h.vinSample vin).rpmc = h.rpmc := by simp [Hw.vinSample]

@[simp] theorem Hw.tempRetrain_rpmc (h : Hw) (temps : List Nat) : (h.tempRetrain temps).rpmc = h.rpmc :=
  ite_rpmc rfl (foldl_rpmc (fun _ _ => foldl_rpmc (fun _ _ => ite_rpmc (Hw.retrainTrigger_rpmc ..) rfl) rfl) rfl)

@[simp] theorem Hw.pinsSettle_rpmc (h : Hw) : h.pinsSettle.rpmc = h.rpmc := foldl_rpmc (fun _ _ => ite_rpmc (Hw.setPin_rpmc ..) rfl) rfl

@[simp] theorem Hw.powerSources_rpmc (h : Hw) (vin iin : Nat) : (h.powerSources vin iin).rpmc = h.rpmc := by simp [Hw.powerSources]

@[simp] theorem Hw.thermalSources_rpmc (h : Hw) (temps : List Nat) : (h.thermalSources temps).rpmc = h.rpmc := by simp [Hw.thermalSources]

@[simp] theorem Hw.sampleRegs_rpmc (h : Hw) (temps : List Nat) (vin iin : Nat) : (h.sampleRegs temps vin iin).rpmc = h.rpmc := by
  refine foldl_rpmc (fun h i => ?_) ?_
  · dsimp only
    split
    · exact (Hw.set_rpmc ..).trans (Hw.set_rpmc ..)
    · exact Hw.set_rpmc ..
  · split
    · exact (Hw.set_rpmc ..).trans ((Hw.set_rpmc ..).trans (Hw.set_rpmc ..))
    · exact (Hw.set_rpmc ..).trans (Hw.set_rpmc ..)

@[simp] theorem effSageSample_rpmc (h : Hw) (temps : List Nat) (vin iin : Nat) : (effSageSample temps vin iin h).rpmc = h.rpmc := by
  simp [effSageSample]

@[simp] theorem Hw.pinEdge_rpmc (h : Hw) (b : Nat) (level : Bool) : (h.pinEdge b level).rpmc = h.rpmc := by simp [Hw.pinEdge]

@[simp] theorem Hw.pin_rpmc {act : Hw → Hw} (hact : ∀ h, (act h).rpmc = h.rpmc) (h : Hw) (b : Nat) (level : Bool) : (h.pin b level act).rpmc = h.rpmc
    := by
  grind [Hw.pin, Hw.pinEdge_rpmc]

@[simp] theorem Hw.unlessFlagged_rpmc {act : Hw → Hw} (hact : ∀ h, (act h).rpmc = h.rpmc) (b : Nat) (h : Hw) : (Hw.unlessFlagged b act h).rpmc =
    h.rpmc := by
  grind [Hw.unlessFlagged]

@[simp] theorem effForceThrottleN_rpmc (h : Hw) (level : Bool) : (effForceThrottleN level h).rpmc = h.rpmc := by simp [effForceThrottleN]

@[simp] theorem effPwrBrakeN_rpmc (h : Hw) (level : Bool) : (effPwrBrakeN level h).rpmc = h.rpmc := by simp [effPwrBrakeN]

@[simp] theorem Hw.snapRequest_rpmc (h : Hw) : h.snapRequest.rpmc = h.rpmc := by simp [Hw.snapRequest]

@[simp] theorem effSnapReqN_rpmc (h : Hw) (level : Bool) : (effSnapReqN level h).rpmc = h.rpmc := by simp [effSnapReqN]

@[simp] theorem effPinStuck_rpmc (h : Hw) (pin : Nat) : (effPinStuck pin h).rpmc = h.rpmc := by simp [effPinStuck]

@[simp] theorem effPinFlagClear_rpmc (h : Hw) (pin : Nat) : (effPinFlagClear pin h).rpmc = h.rpmc := by simp [effPinFlagClear]

/-! ### Boot -/

@[simp] theorem effAonPowerUp_rpmc (h : Hw) : (effAonPowerUp h).rpmc = h.rpmc := by simp [effAonPowerUp]

@[simp] theorem effAonPowerLoss_rpmc (h : Hw) : (effAonPowerLoss h).rpmc = h.rpmc := (rfl)

@[simp] theorem effVinWindowMet_rpmc (h : Hw) : (effVinWindowMet h).rpmc = h.rpmc := by simp [effVinWindowMet]

@[simp] theorem effPllLock_rpmc (h : Hw) : (effPllLock h).rpmc = h.rpmc := by simp [effPllLock]

@[simp] theorem effPllLoss_rpmc (h : Hw) : (effPllLoss h).rpmc = h.rpmc := by simp [effPllLoss]

@[simp] theorem Hw.vinTrip_rpmc (h : Hw) (cause : Nat) : (h.vinTrip cause).rpmc = h.rpmc := by simp [Hw.vinTrip]

@[simp] theorem effVinReset_rpmc (h : Hw) : (effVinReset h).rpmc = h.rpmc := by simp [effVinReset]

@[simp] theorem effVinOv_rpmc (h : Hw) : (effVinOv h).rpmc = h.rpmc := by simp [effVinOv]

@[simp] theorem Hw.partReset_rpmc (h : Hw) (cause : Nat) : (h.partReset cause).rpmc = h.rpmc := by simp [Hw.partReset]

@[simp] theorem effResetReqN_rpmc (h : Hw) (level : Bool) : (effResetReqN level h).rpmc = h.rpmc := by simp [effResetReqN]

@[simp] theorem effPartReset_rpmc (h : Hw) : (effPartReset h).rpmc = h.rpmc := by simp [effPartReset]

@[simp] theorem effBootWatchdog_rpmc (h : Hw) : (effBootWatchdog h).rpmc = h.rpmc := by simp [effBootWatchdog]

@[simp] theorem Hw.thermtrip_rpmc (h : Hw) (args : List Arg) : (h.thermtrip args).rpmc = h.rpmc := by simp [Hw.thermtrip]

@[simp] theorem effThermtrip_rpmc (h : Hw) (sensor : Nat) : (effThermtrip sensor h).rpmc = h.rpmc := by simp [effThermtrip]

@[simp] theorem effExtThermtripN_rpmc (h : Hw) (level : Bool) : (effExtThermtripN level h).rpmc = h.rpmc := by simp [effExtThermtripN]

@[simp] theorem Hw.bootConfig_rpmc (h : Hw) : h.bootConfig.rpmc = h.rpmc := by
  unfold Hw.bootConfig
  dsimp only
  split
  · refine (Hw.post_rpmc ..).trans ((Hw.set_rpmc ..).trans ((Hw.set_rpmc ..).trans ?_))
    exact foldl_rpmc (fun _ _ => Hw.set_rpmc ..) (foldl_rpmc (fun _ _ => Hw.set_rpmc ..) (foldl_rpmc Hw.nvLoad_rpmc (Hw.set_rpmc ..)))
  · refine (Hw.set_rpmc ..).trans ((Hw.set_rpmc ..).trans ?_)
    exact foldl_rpmc (fun _ _ => Hw.set_rpmc ..) (foldl_rpmc (fun _ _ => Hw.set_rpmc ..) (foldl_rpmc Hw.nvLoad_rpmc (Hw.set_rpmc ..)))

@[simp] theorem Hw.bootMeasure_rpmc (h : Hw) (l : List Comp) : (h.bootMeasure l).rpmc = h.rpmc := by simp [Hw.bootMeasure]

@[simp] theorem Hw.postOff_rpmc (h : Hw) : h.postOff.rpmc = h.rpmc :=
  (Hw.postKept_rpmc _).trans (foldl_rpmc (fun _ _ => ite_rpmc ((Hw.post_rpmc ..).trans (Hw.updChan_rpmc ..)) rfl) rfl)

@[simp] theorem Hw.bootIdentity_rpmc (h : Hw) (tries : Nat) (puf : Bool) : (h.bootIdentity tries puf).rpmc = h.rpmc := by
  grind [Hw.bootIdentity, Hw.set_rpmc, Hw.setB_rpmc, Hw.setRegBytes_rpmc]

@[simp] theorem Hw.bootRun_rpmc (h : Hw) (l : List Comp) (digest : Bool) : (h.bootRun l digest).rpmc = h.rpmc := by
  refine (Hw.bootMeasure_rpmc ..).trans ((Hw.bootConfig_rpmc _).trans (foldl_rpmc (fun _ _ => Hw.post_rpmc ..) ?_))
  exact (Hw.set_rpmc ..).trans ((Hw.set_rpmc ..).trans ((Hw.set_rpmc ..).trans ((Hw.set_rpmc ..).trans
    ((Hw.set_rpmc ..).trans ((Hw.set_rpmc ..).trans (Hw.set_rpmc ..))))))

@[simp] theorem effPerstOutRelease_rpmc (h : Hw) : (effPerstOutRelease h).rpmc = h.rpmc := by simp [effPerstOutRelease]

/-! ### Coll -/

@[simp] theorem Hw.collGo_rpmc (h : Hw) (eng cfn : Nat) (k : Cand) (x : Axis) : (h.collGo eng cfn k x).rpmc = h.rpmc := by
  have hbegin : (if (cfn = 0 || cfn = 2) && x.size ≠ 1 then
      match descIn k.e.descs (collD k.e.raw) with
      | some d => if d.taped then h.tapeBegin d.slot k.x.step k.c else h
      | none => h
    else h).rpmc = h.rpmc := by
    refine ite_rpmc ?_ rfl
    split
    · exact ite_rpmc (Hw.tapeBegin_rpmc ..) rfl
    · rfl
  unfold Hw.collGo
  dsimp only
  refine foldl_rpmc (fun h l => ite_rpmc rfl (foldl_rpmc (fun _ _ => Hw.takeColl_rpmc ..) (Hw.updLk_rpmc ..))) ?_
  refine ite_rpmc ((Hw.rethreadAxis_rpmc ..).trans ?_) ?_
  all_goals exact (Hw.touch_rpmc ..).trans ((Hw.updEnt_rpmc ..).trans hbegin)

@[simp] theorem Hw.collIssue_rpmc (h : Hw) (eng cfn : Nat) : (h.collIssue eng cfn).rpmc = h.rpmc := by
  simp only [Hw.collIssue]
  (repeat' split) <;> simp

@[simp] theorem effCollReduceScatter_rpmc (h : Hw) (eng : Nat) : (effCollReduceScatter eng h).rpmc = h.rpmc := by simp [effCollReduceScatter]

@[simp] theorem effCollAllGather_rpmc (h : Hw) (eng : Nat) : (effCollAllGather eng h).rpmc = h.rpmc := by simp [effCollAllGather]

@[simp] theorem effCollAllReduce_rpmc (h : Hw) (eng : Nat) : (effCollAllReduce eng h).rpmc = h.rpmc := by simp [effCollAllReduce]

@[simp] theorem effCollAllToAll_rpmc (h : Hw) (eng : Nat) : (effCollAllToAll eng h).rpmc = h.rpmc := by simp [effCollAllToAll]

@[simp] theorem effCollBroadcast_rpmc (h : Hw) (eng : Nat) : (effCollBroadcast eng h).rpmc = h.rpmc := by simp [effCollBroadcast]

@[simp] theorem effCollStepDone_rpmc (h : Hw) (c i : Nat) : (effCollStepDone c i h).rpmc = h.rpmc := by
  simp only [effCollStepDone]
  (repeat' split) <;> simp

@[simp] theorem Hw.countTx_rpmc (h : Hw) (n : Nat) (sends : Option (List (Nat × Nat))) : (h.countTx n sends).rpmc = h.rpmc := by
  cases sends with
  | none => exact foldl_rpmc (fun _ _ => Hw.inc_rpmc ..) rfl
  | some l =>
    refine foldl_rpmc (fun h s => foldl_rpmc (fun h i => ?_) rfl) rfl
    split
    · exact Hw.inc_rpmc ..
    · rfl

@[simp] theorem Hw.straggle_rpmc (h : Hw) (k : Coll) : (h.straggle k).rpmc = h.rpmc := by
  refine foldl_rpmc (fun h l => ?_) rfl
  split
  · rfl
  · dsimp only
    refine ite_rpmc (ite_rpmc ((Hw.post_rpmc ..).trans ((Hw.set_rpmc ..).trans ?_)) ((Hw.set_rpmc ..).trans ?_)) ((Hw.set_rpmc ..).trans ?_)
    all_goals exact (Hw.inc_rpmc ..).trans ((Hw.inc_rpmc ..).trans ((Hw.set_rpmc ..).trans ((Hw.set_rpmc ..).trans (Hw.updLk_rpmc ..))))

theorem Hw.writePieces_rpmc {h : Hw} {cache : Nat} {ws : List (Nat × Bytes)} {a : Hw} (e : h.writePieces cache ws = .ok a) : a.rpmc = h.rpmc := by
  grind [Hw.writePieces, Hw.writeStream_rpmc]

@[simp] theorem effCollComplete_rpmc (h : Hw) (c i : Nat) (peers : List Bytes) : (effCollComplete c i peers h).rpmc = h.rpmc := by
  unfold effCollComplete
  split
  · split
    · dsimp only
      refine ite_rpmc rfl ?_
      split
      · rfl
      · next hread =>
        have h1 := Hw.readStream_rpmc hread
        refine ite_rpmc rfl (ite_rpmc ((Hw.topoDrained_rpmc _).trans ((Hw.finish_rpmc ..).trans ((Hw.collGone_rpmc ..).trans h1))) ?_)
        split
        · next hwait => exact Hw.resultWait_rpmc hwait
        · rfl
        · next hwrite =>
          have h2 := (Hw.writePieces_rpmc hwrite).trans h1
          refine ite_rpmc rfl ((Hw.topoDrained_rpmc _).trans ((Hw.finish_rpmc ..).trans ((Hw.inc_rpmc ..).trans ((Hw.collGone_rpmc ..).trans ?_))))
          refine ite_rpmc ?_ ((Hw.straggle_rpmc ..).trans ((Hw.countTx_rpmc ..).trans ?_))
          all_goals
            split
            · exact (Hw.tapeComplete_rpmc ..).trans h2
            · exact h2
    · rfl
  · rfl

@[simp] theorem effCollTimeout_rpmc (h : Hw) (c i pos : Nat) : (effCollTimeout c i pos h).rpmc = h.rpmc := by
  unfold effCollTimeout
  split <;> simp

/-! ### D2d -/

@[simp] theorem effD2dRetrain_rpmc (h : Hw) (link : Nat) : (effD2dRetrain link h).rpmc = h.rpmc := by simp [effD2dRetrain]

@[simp] theorem Hw.ctxFatal_rpmc (h : Hw) (c : Nat) : (h.ctxFatal c).rpmc = h.rpmc := by
  unfold Hw.ctxFatal
  split
  · rfl
  · exact ite_rpmc rfl ((Hw.tryEnd_rpmc ..).trans ((Hw.updCtx_rpmc ..).trans
      (foldl_rpmc (fun _ _ => Hw.finishCore_rpmc ..) (Hw.failStop_rpmc ..))))

@[simp] theorem effD2dRetrainDone_rpmc (h : Hw) (link : Nat) (ok : Bool) : (effD2dRetrainDone link ok h).rpmc = h.rpmc :=
  ite_rpmc rfl (ite_rpmc ((Hw.bar2Go_rpmc _).trans (Hw.settle_rpmc _))
    ((Hw.drained_rpmc _).trans (foldl_rpmc (fun _ _ => Hw.ctxFatal_rpmc ..) (Hw.post_rpmc ..))))

/-! ### Pcie -/

@[simp] theorem effPcieLinkUp_rpmc (h : Hw) (speed width : Nat) (ats : Bool) : (effPcieLinkUp speed width ats h).rpmc = h.rpmc := by
  simp [effPcieLinkUp]

@[simp] theorem Hw.linkDrop_rpmc (h : Hw) : h.linkDrop.rpmc = h.rpmc := by simp [Hw.linkDrop]

@[simp] theorem effPcieLinkDown_rpmc (h : Hw) : (effPcieLinkDown h).rpmc = h.rpmc := by simp [effPcieLinkDown]

@[simp] theorem Hw.portReset_rpmc (h : Hw) : h.portReset.rpmc = h.rpmc := by simp [Hw.portReset]

@[simp] theorem Hw.hostForget_rpmc (h : Hw) : h.hostForget.rpmc = h.rpmc := (rfl)

@[simp] theorem Hw.hostReset_rpmc (h : Hw) : h.hostReset.rpmc = h.rpmc := by simp [Hw.hostReset]

@[simp] theorem effPerstN_rpmc (h : Hw) : (effPerstN h).rpmc = h.rpmc := by simp [effPerstN]

@[simp] theorem effFunctionLevelReset_rpmc (h : Hw) : (effFunctionLevelReset h).rpmc = h.rpmc := by simp [effFunctionLevelReset]

@[simp] theorem effHotReset_rpmc (h : Hw) : (effHotReset h).rpmc = h.rpmc := by simp [effHotReset]

@[simp] theorem effLinkDisable_rpmc (h : Hw) : (effLinkDisable h).rpmc = h.rpmc := by simp [effLinkDisable]

@[simp] theorem effD3hotEntry_rpmc (h : Hw) : (effD3hotEntry h).rpmc = h.rpmc := by simp [effD3hotEntry]

@[simp] theorem effD0Return_rpmc (h : Hw) : (effD0Return h).rpmc = h.rpmc :=
  ite_rpmc rfl (foldl_rpmc Hw.msixUnmask_rpmc (foldl_rpmc Hw.send_rpmc ((Hw.set_rpmc ..).trans (Hw.set_rpmc ..))))

@[simp] theorem effAspmL1Entry_rpmc (h : Hw) : (effAspmL1Entry h).rpmc = h.rpmc := by simp [effAspmL1Entry]

@[simp] theorem effBar2Request_rpmc (h : Hw) (addr : Nat) (write ep : Bool) (bytes : Bytes) (n : Nat) : (effBar2Request addr write ep bytes n h).rpmc
    = h.rpmc := by
  simp [effBar2Request]

@[simp] theorem effBar2EnableTimeout_rpmc (h : Hw) : (effBar2EnableTimeout h).rpmc = h.rpmc := by
  unfold effBar2EnableTimeout
  split <;> simp

@[simp] theorem effIdeKmKeyProg_rpmc (h : Hw) (sid stream : Nat) (keys : Bytes) : (effIdeKmKeyProg sid stream keys h).rpmc = h.rpmc := by
  simp [effIdeKmKeyProg]

@[simp] theorem effIdeIntegrityFail_rpmc (h : Hw) (stream : Nat) : (effIdeIntegrityFail stream h).rpmc = h.rpmc := by
  unfold effIdeIntegrityFail
  split <;> simp

@[simp] theorem effEventRingWrite_rpmc (h : Hw) : (effEventRingWrite h).rpmc = h.rpmc := by
  grind [effEventRingWrite, Hw.vwrite_rpmc, Hw.set_rpmc, Hw.msix_rpmc]

/-! ### Side -/

@[simp] theorem Hw.spdm_rpmc (h : Hw) (code : Nat) (body : Bytes) : (h.spdm code body).rpmc = h.rpmc := (rfl)

@[simp] theorem Hw.spdmSigned_rpmc (h : Hw) (code : Nat) (body nonce : Bytes) : (h.spdmSigned code body nonce).rpmc = h.rpmc := (rfl)

@[simp] theorem Hw.updSession_rpmc (h : Hw) (id : Nat) (f : Sess → Sess) : (h.updSession id f).rpmc = h.rpmc := (rfl)

@[simp] theorem Hw.unclaim_rpmc (h : Hw) (id c : Nat) : (h.unclaim id c).rpmc = h.rpmc := by simp [Hw.unclaim]

@[simp] theorem Hw.sessionEnd_rpmc (h : Hw) (id : Nat) : (h.sessionEnd id).rpmc = h.rpmc := by
  have hfree : ((List.range 4).foldl (fun (h : Hw) c => h.unclaim id c)
      { h with sec := { h.sec with sessions := h.sec.sessions.filter (fun x => x.id ≠ id) } }).rpmc = h.rpmc :=
    foldl_rpmc (fun _ _ => Hw.unclaim_rpmc ..) rfl
  exact ite_rpmc hfree hfree

@[simp] theorem effSpdmGetMeasurements_rpmc (h : Hw) (nonce : Bytes) : (effSpdmGetMeasurements nonce h).rpmc = h.rpmc := by
  simp [effSpdmGetMeasurements]

@[simp] theorem effSpdmKeyExchange_rpmc (h : Hw) (id : Nat) (doe : Bool) (nonce : Bytes) : (effSpdmKeyExchange id doe nonce h).rpmc = h.rpmc := by
  simp [effSpdmKeyExchange]

@[simp] theorem effSpdmFinish_rpmc (h : Hw) (id : Nat) (key sig : Bytes) : (effSpdmFinish id key sig h).rpmc = h.rpmc := by
  unfold effSpdmFinish
  split <;> simp

@[simp] theorem effSpdmChallenge_rpmc (h : Hw) (nonce : Bytes) : (effSpdmChallenge nonce h).rpmc = h.rpmc := by simp [effSpdmChallenge]

@[simp] theorem effSpdmGetCertificate_rpmc (h : Hw) : (effSpdmGetCertificate h).rpmc = h.rpmc := by simp [effSpdmGetCertificate]

@[simp] theorem effSpdmKeyUpdate_rpmc (h : Hw) (id : Nat) : (effSpdmKeyUpdate id h).rpmc = h.rpmc := by simp [effSpdmKeyUpdate]

@[simp] theorem effSpdmHeartbeat_rpmc (h : Hw) (id : Nat) : (effSpdmHeartbeat id h).rpmc = h.rpmc := by simp [effSpdmHeartbeat]

@[simp] theorem effSpdmHeartbeatTimeout_rpmc (h : Hw) (id : Nat) : (effSpdmHeartbeatTimeout id h).rpmc = h.rpmc := by simp [effSpdmHeartbeatTimeout]

@[simp] theorem effSpdmEndSession_rpmc (h : Hw) (id : Nat) : (effSpdmEndSession id h).rpmc = h.rpmc := by simp [effSpdmEndSession]

@[simp] theorem effMctpSetEndpointId_rpmc (h : Hw) (eid : Nat) : (effMctpSetEndpointId eid h).rpmc = h.rpmc := by simp [effMctpSetEndpointId]

@[simp] theorem effI3cEntdaa_rpmc (h : Hw) (addr : Nat) : (effI3cEntdaa addr h).rpmc = h.rpmc := by simp [effI3cEntdaa]

@[simp] theorem Hw.pldm_rpmc (h : Hw) (typ cc : Nat) (body : Bytes) : (h.pldm typ cc body).rpmc = h.rpmc := (rfl)

@[simp] theorem effPldmSensorRead_rpmc (h : Hw) (id : Nat) : (effPldmSensorRead id h).rpmc = h.rpmc := by
  simp only [effPldmSensorRead]
  (repeat' split) <;> simp

@[simp] theorem Hw.pldmLoad_rpmc (h : Hw) (slot : Nat) (image : Bytes) : (h.pldmLoad slot image).rpmc = h.rpmc := by simp [Hw.pldmLoad]

@[simp] theorem effPldmRequestUpdate_rpmc (h : Hw) (sid : Nat) (image : Bytes) : (effPldmRequestUpdate sid image h).rpmc = h.rpmc := by
  simp only [effPldmRequestUpdate]
  (repeat' split) <;> simp

@[simp] theorem effPldmActivateFirmware_rpmc (h : Hw) (sid : Nat) : (effPldmActivateFirmware sid h).rpmc = h.rpmc := by
  simp only [effPldmActivateFirmware]
  (repeat' split) <;> simp

/-! ### Stall -/

@[simp] theorem Hw.counts_rpmc (h : Hw) (l : List (Fld × Nat)) : (h.counts l).rpmc = h.rpmc := foldl_rpmc (fun _ _ => Hw.inc_rpmc ..) rfl

/-! ### Tick -/

@[simp] theorem Hw.cycles_rpmc (h : Hw) : h.cycles.rpmc = h.rpmc := (rfl)

@[simp] theorem Hw.tick_rpmc (h : Hw) : h.tick.rpmc = h.rpmc := by simp [Hw.tick]

end Sys2Proof.Machine

end

section

/-! PROOFS. What can raise a monotonic counter, and that nothing lowers one (R464): every command, and so every step. -/

namespace Sys2Proof.Machine

/-! ### The order of the counters -/

theorem Rpmc.le_iff {a b : Rpmc} : Rpmc.le a b ↔ a.svn ≤ b.svn ∧ a.cfgGen ≤ b.cfgGen ∧ a.ownerGen ≤ b.ownerGen ∧ a.keyFloor ≤ b.keyFloor := by
  simp [Rpmc.le, and_assoc]

theorem Rpmc.le_refl (a : Rpmc) : Rpmc.le a a := by simp [Rpmc.le_iff]

theorem Rpmc.le_trans {a b c : Rpmc} (hab : Rpmc.le a b) (hbc : Rpmc.le b c) : Rpmc.le a c := by
  rw [Rpmc.le_iff] at *
  omega

theorem rpmc_le_of_eq {h : Hw} {r : Rpmc} (e : h.rpmc = r) : Rpmc.le r h.rpmc := e ▸ Rpmc.le_refl _

/-- An update that keeps the counters, after what has not lowered them. -/
theorem rpmc_le_of_keeps {a b : Hw} {r : Rpmc} (e : b.rpmc = a.rpmc) (ha : Rpmc.le r a.rpmc) : Rpmc.le r b.rpmc := e ▸ ha

theorem ite_rpmc_le {c : Prop} [Decidable c] {a b : Hw} {r : Rpmc} (ha : Rpmc.le r a.rpmc) (hb : Rpmc.le r b.rpmc) :
    Rpmc.le r (if c then a else b).rpmc := by
  split
  · exact ha
  · exact hb

theorem foldl_rpmc_le {α : Type} {f : Hw → α → Hw} (hf : ∀ h x, Rpmc.le h.rpmc (f h x).rpmc) {l : List α} {h : Hw} {r : Rpmc} (hr : Rpmc.le r h.rpmc) :
    Rpmc.le r (l.foldl f h).rpmc := by
  induction l generalizing h with
  | nil => exact hr
  | cons x l ih => exact ih (Rpmc.le_trans hr (hf h x))

/-! ### Config: its generation goes up -/

theorem Hw.cfgReplace_rpmc_le {h : Hw} {es : List CfgKey} {r : Rpmc} (hr : Rpmc.le r h.rpmc) : Rpmc.le r (h.cfgReplace es).rpmc := by
  refine ite_rpmc_le hr (Rpmc.le_trans hr (Rpmc.le_iff.2 ?_))
  simp

theorem Hw.cfgPut_rpmc_le {h : Hw} {key : Nat} {val : Bytes} {r : Rpmc} (hr : Rpmc.le r h.rpmc) : Rpmc.le r (h.cfgPut key val).rpmc :=
  Hw.cfgReplace_rpmc_le hr

theorem Hw.cfgDrop_rpmc_le {h : Hw} {p : Nat → Bool} {r : Rpmc} (hr : Rpmc.le r h.rpmc) : Rpmc.le r (h.cfgDrop p).rpmc :=
  Hw.cfgReplace_rpmc_le hr

theorem effRelayoutDone_rpmc_le (h : Hw) (s : Nat) : Rpmc.le h.rpmc (effRelayoutDone s h).rpmc := by
  unfold effRelayoutDone
  split
  · refine ite_rpmc_le (Rpmc.le_refl _) (rpmc_le_of_keeps (Hw.postOp_rpmc ..) (Hw.cfgPut_rpmc_le (rpmc_le_of_eq ?_)))
    simp
  · exact Rpmc.le_refl _

/-! ### Lanes: the commissioning record is written anew -/

theorem Hw.laserRecord_rpmc_le {h : Hw} {e : Nat} {r : Rpmc} (hr : Rpmc.le r h.rpmc) : Rpmc.le r (h.laserRecord e).rpmc :=
  Hw.cfgPut_rpmc_le hr

theorem Hw.spareUsed_rpmc_le {h : Hw} {e : Nat} {r : Rpmc} (hr : Rpmc.le r h.rpmc) : Rpmc.le r (h.spareUsed e).rpmc :=
  Hw.laserRecord_rpmc_le (rpmc_le_of_keeps (Hw.set_rpmc ..) hr)

theorem Hw.retire_rpmc_le {h : Hw} {e laser : Nat} {r : Rpmc} (hr : Rpmc.le r h.rpmc) : Rpmc.le r (h.retire e laser).rpmc :=
  Hw.laserRecord_rpmc_le (rpmc_le_of_keeps (Hw.set_rpmc ..) hr)

theorem Hw.restoreSpare_rpmc_le {h : Hw} {l w : Nat} {r : Rpmc} (hr : Rpmc.le r h.rpmc) : Rpmc.le r (h.restoreSpare l w).rpmc :=
  rpmc_le_of_keeps (Hw.restoreSpare_rpmc ..) hr

theorem Hw.linkDown_rpmc_le {h : Hw} {l : Nat} {r : Rpmc} (hr : Rpmc.le r h.rpmc) : Rpmc.le r (h.linkDown l).rpmc :=
  rpmc_le_of_keeps (Hw.linkDown_rpmc ..) hr

theorem Hw.laneDrop_rpmc_le (h : Hw) (l w why : Nat) : Rpmc.le h.rpmc (h.laneDrop l w why).rpmc := by
  have hcounted : Rpmc.le h.rpmc (if why = 3 then (((h.laneSvc l w false).set (F.LSTATE (l / 8) (h.lane l w).laser) 6).set (F.CAL_ACTIVE l) 1)
      else (h.laneSvc l w false).inc (F.LANE_DROPS l)).rpmc :=
    rpmc_le_of_eq (ite_rpmc ((Hw.set_rpmc ..).trans (Hw.set_rpmc ..)) (Hw.inc_rpmc ..))
  have hretired := ite_rpmc_le (c := why = 1 || why = 2) (Hw.retire_rpmc_le (e := l / 8) (laser := (h.lane l w).laser) hcounted) hcounted
  have hspared := ite_rpmc_le (c := why = 2) (Hw.restoreSpare_rpmc_le (l := l) (w := w) hretired) hretired
  exact ite_rpmc_le (Hw.linkDown_rpmc_le hspared) hspared

theorem effLaneOpDrop_rpmc_le (h : Hw) (l w : Nat) : Rpmc.le h.rpmc (effLaneOpDrop l w h).rpmc := by
  refine ite_rpmc_le (Rpmc.le_refl _) ?_
  split
  · exact Rpmc.le_refl _
  · next e =>
    have h1 := rpmc_le_of_eq (Hw.takeOp_rpmc e)
    exact ite_rpmc_le h1 (Rpmc.le_trans h1 (Hw.laneDrop_rpmc_le ..))

theorem effLaneOpAdd_rpmc_le (h : Hw) (l w : Nat) : Rpmc.le h.rpmc (effLaneOpAdd l w h).rpmc := by
  refine ite_rpmc_le (Rpmc.le_refl _) ?_
  split
  · exact Rpmc.le_refl _
  · next e =>
    have h1 := Hw.takeOp_rpmc e
    dsimp only
    split
    · refine ite_rpmc_le ?_ (rpmc_le_of_eq ((Hw.set_rpmc ..).trans ((Hw.laneSvc_rpmc ..).trans h1)))
      refine ite_rpmc_le (rpmc_le_of_eq ?_) (Hw.spareUsed_rpmc_le (rpmc_le_of_eq ?_))
      all_goals exact (Hw.set_rpmc ..).trans ((Hw.set_rpmc ..).trans ((Hw.set_rpmc ..).trans ((Hw.updEye_rpmc ..).trans ((Hw.setLane_rpmc ..).trans h1))))
    · exact rpmc_le_of_eq ((Hw.set_rpmc ..).trans ((Hw.laneSvc_rpmc ..).trans h1))

theorem Hw.dupSwitched_rpmc_le (h : Hw) (l w : Nat) : Rpmc.le h.rpmc (h.dupSwitched l w).rpmc := by
  unfold Hw.dupSwitched
  dsimp only
  split
  · exact Rpmc.le_refl _
  · refine ite_rpmc_le (Rpmc.le_refl _) (rpmc_le_of_keeps (Hw.post_rpmc ..) (Hw.spareUsed_rpmc_le (rpmc_le_of_eq ?_)))
    simp

theorem effLaneOpDupSwitched_rpmc_le (h : Hw) (l w : Nat) : Rpmc.le h.rpmc (effLaneOpDupSwitched l w h).rpmc :=
  ite_rpmc_le (Hw.dupSwitched_rpmc_le ..) (Rpmc.le_refl _)

theorem Hw.dropNow_rpmc_le (h : Hw) (l w : Nat) : Rpmc.le h.rpmc (h.dropNow l w).rpmc := by
  unfold Hw.dropNow
  dsimp only
  refine ite_rpmc_le (Rpmc.le_refl _) ?_
  generalize hcount : (Hw.inc _ (F.LANE_DROPS l)) = a
  have ha : Rpmc.le h.rpmc a.rpmc := by
    refine rpmc_le_of_eq (hcount ▸ ?_)
    exact (Hw.inc_rpmc ..).trans ((Hw.laneSvc_rpmc ..).trans ((Hw.updEye_rpmc ..).trans ((Hw.updLk_rpmc ..).trans
      (ite_rpmc ((Hw.calAbort_rpmc ..).trans (Hw.lanesBack_rpmc ..)) rfl))))
  refine ite_rpmc_le (Hw.linkDown_rpmc_le ?_) (rpmc_le_of_keeps (Hw.resend_rpmc ..) ?_)
  all_goals
    exact ite_rpmc_le (ite_rpmc_le (Hw.restoreSpare_rpmc_le (Hw.retire_rpmc_le ha)) (Hw.retire_rpmc_le ha))
      (rpmc_le_of_keeps (Hw.post_rpmc ..) ha)

theorem effLaneOpDropNow_rpmc_le (h : Hw) (l w : Nat) : Rpmc.le h.rpmc (effLaneOpDropNow l w h).rpmc :=
  ite_rpmc_le (Hw.dropNow_rpmc_le ..) (Rpmc.le_refl _)

theorem effFrameCtrl_rpmc_le (h : Hw) (l : Nat) (f : Bytes) : Rpmc.le h.rpmc (effFrameCtrl l f h).rpmc := by
  unfold effFrameCtrl
  split
  · exact Rpmc.le_refl _
  · dsimp only
    refine ite_rpmc_le (Rpmc.le_refl _) ?_
    generalize hseen : Hw.restoreAdd _ l = a
    have ha : Rpmc.le h.rpmc a.rpmc := rpmc_le_of_eq (by simp [← hseen])
    refine ite_rpmc_le (ite_rpmc_le (rpmc_le_of_keeps ((Hw.linkRefuse_rpmc ..).trans ((Hw.set_rpmc ..).trans (Hw.updLk_rpmc ..))) ?_)
      (rpmc_le_of_keeps ((Hw.sendLif_rpmc ..).trans ((Hw.set_rpmc ..).trans ((Hw.set_rpmc ..).trans (Hw.updLk_rpmc ..)))) ?_)) ?_
    all_goals exact ite_rpmc_le (Rpmc.le_trans ha (Hw.dropNow_rpmc_le ..)) ha

theorem effLaneMarker_rpmc_le (h : Hw) (l : Nat) (m : Bytes) : Rpmc.le h.rpmc (effLaneMarker l m h).rpmc := by
  have hinfo : ((h.markerInfo l m).set (F.LNK_PEER_CHIP l) (fieldLE m 0x46 2)).rpmc = h.rpmc := (Hw.set_rpmc ..).trans (Hw.markerInfo_rpmc ..)
  refine ite_rpmc_le (Rpmc.le_refl _) (ite_rpmc_le (rpmc_le_of_eq (Hw.inc_rpmc ..)) (ite_rpmc_le (rpmc_le_of_eq ?_)
    (rpmc_le_of_keeps ((Hw.pump_rpmc ..).trans (Hw.restoreAdd_rpmc ..)) (ite_rpmc_le
      (Rpmc.le_trans (rpmc_le_of_eq ((Hw.acked_rpmc ..).trans ((Hw.updLk_rpmc ..).trans ?_))) (Hw.dupSwitched_rpmc_le ..))
      (rpmc_le_of_eq ((Hw.acked_rpmc ..).trans ((Hw.updLk_rpmc ..).trans ?_)))))))
  all_goals
    split
    · exact (Hw.rethreadCheck_rpmc ..).trans hinfo
    · exact hinfo

/-! ### The stacks and the domains -/

theorem Hw.stackUp_rpmc_le {h : Hw} {s : Nat} {bad : List Nat} {r : Rpmc} (hr : Rpmc.le r h.rpmc) : Rpmc.le r (h.stackUp s bad).rpmc := by
  unfold Hw.stackUp
  dsimp only
  have htrained : Rpmc.le r (bad.filter (fun c => c < 32 && !((h.domUp (domSTACK s)).get (F.STK_MAPOUT s)).testBit c) |>.foldl
      (fun h c => h.post Ev.evHbmTrainFail [u8 s, u8 c]) (h.domUp (domSTACK s))).rpmc :=
    rpmc_le_of_keeps (foldl_rpmc (fun _ _ => Hw.post_rpmc ..) (Hw.domUp_rpmc ..)) hr
  refine ite_rpmc_le (rpmc_le_of_keeps ((Hw.set_rpmc ..).trans ((Hw.set_rpmc ..).trans (Hw.set_rpmc ..))) ?_) (rpmc_le_of_keeps (Hw.set_rpmc ..) ?_)
  all_goals
    refine rpmc_le_of_keeps (foldl_rpmc (fun _ _ => (Hw.set_rpmc ..).trans (Hw.set_rpmc ..)) (Hw.setMapout_rpmc ..)) ?_
    exact ite_rpmc_le htrained (Hw.cfgPut_rpmc_le htrained)

/-- The common checks of a command: what stays is what the command's own part keeps. -/
theorem Hw.checked_rpmc_le {h : Hw} {l : List (Bool × Nat)} {k : Hw → Done} {r : Rpmc} (hr : Rpmc.le r h.rpmc) (hk : Rpmc.le r (k h).1.rpmc) :
    Rpmc.le r (h.checked l k).1.rpmc := by
  unfold Hw.checked
  split
  · exact rpmc_le_of_keeps (Hw.no_rpmc ..) hr
  · exact hk

theorem cmdPwrDomain_rpmc_le (h : Hw) (ch : Nat) (a : List Nat) (d : Bytes) : Rpmc.le h.rpmc (cmdPwrDomain h ch a d).1.rpmc := by
  refine Hw.checked_rpmc_le (Rpmc.le_refl _) ?_
  rw [Hw.fst_ite, Hw.fst_ite]
  refine ite_rpmc_le (rpmc_le_of_eq (Hw.ok_rpmc ..)) (ite_rpmc_le (rpmc_le_of_keeps (Hw.ok_rpmc ..) ?_) (rpmc_le_of_keeps (Hw.ok_rpmc ..) ?_))
  · exact ite_rpmc_le (rpmc_le_of_eq (Hw.eyeletUp_rpmc ..)) (rpmc_le_of_eq (Hw.eyeletOff_rpmc ..))
  · exact ite_rpmc_le (Hw.stackUp_rpmc_le (Rpmc.le_refl _)) (rpmc_le_of_eq (Hw.stackOff_rpmc ..))

theorem cmdLinkLaserFactory_rpmc_le (h : Hw) (ch : Nat) (a : List Nat) (d : Bytes) : Rpmc.le h.rpmc (cmdLinkLaserFactory h ch a d).1.rpmc := by
  have hdrop : Rpmc.le h.rpmc (h.cfgDrop (· = 0x20 + a.getD 0 0)).rpmc := Hw.cfgDrop_rpmc_le (Rpmc.le_refl _)
  exact Hw.checked_rpmc_le (Rpmc.le_refl _) (rpmc_le_of_keeps (Hw.ok_rpmc ..) (ite_rpmc_le hdrop (rpmc_le_of_keeps (Hw.eyeAssign_rpmc ..) hdrop)))

theorem cmdImgCfgSet_rpmc_le (h : Hw) (ch : Nat) (a : List Nat) (d : Bytes) : Rpmc.le h.rpmc (cmdImgCfgSet h ch a d).1.rpmc := by
  unfold cmdImgCfgSet
  split
  · exact Hw.checked_rpmc_le (Rpmc.le_refl _) (rpmc_le_of_keeps (Hw.ok_rpmc ..) (Hw.cfgPut_rpmc_le (Rpmc.le_refl _)))
  · exact rpmc_le_of_eq (Hw.no_rpmc ..)

theorem cmdImgCfgDefault_rpmc_le (h : Hw) (ch : Nat) (a : List Nat) (d : Bytes) : Rpmc.le h.rpmc (cmdImgCfgDefault h ch a d).1.rpmc :=
  Hw.checked_rpmc_le (Rpmc.le_refl _) (rpmc_le_of_keeps (Hw.ok_rpmc ..) (Hw.cfgDrop_rpmc_le (Rpmc.le_refl _)))

theorem cmdMemMapoutClear_rpmc_le (h : Hw) (ch : Nat) (a : List Nat) (d : Bytes) : Rpmc.le h.rpmc (cmdMemMapoutClear h ch a d).1.rpmc :=
  Hw.checked_rpmc_le (Rpmc.le_refl _) (rpmc_le_of_keeps (Hw.ok_rpmc ..) (Hw.cfgDrop_rpmc_le (Rpmc.le_refl _)))

theorem cmdSecEnrol_rpmc_le (h : Hw) (ch : Nat) (a : List Nat) (d : Bytes) : Rpmc.le h.rpmc (cmdSecEnrol h ch a d).1.rpmc := by
  refine Hw.checked_rpmc_le (Rpmc.le_refl _) (rpmc_le_of_keeps ((Hw.ok_rpmc ..).trans (Hw.setB_rpmc ..)) (Rpmc.le_iff.2 ?_))
  simp

/-! ### Every command of the mailbox (R441 to R457) -/

/-- A command lowers no counter, whatever the channel, the arguments and the data. -/
def Cmd.raises (c : Cmd) : Prop := ∀ h ch a d, Rpmc.le h.rpmc (c.run h ch a d).1.rpmc

theorem Cmd.raises_of_keeps {c : Cmd} (hc : ∀ h ch a d, (c.run h ch a d).1.rpmc = h.rpmc) : c.raises :=
  fun h ch a d => rpmc_le_of_eq (hc h ch a d)

theorem cmdLow_raises {op : Nat} {c : Cmd} (e : cmdLow op = some c) : c.raises := by
  unfold cmdLow at e
  split at e <;> cases e
  case h_11 => exact cmdImgCfgSet_rpmc_le
  case h_12 => exact cmdImgCfgDefault_rpmc_le
  case h_16 => exact cmdPwrDomain_rpmc_le
  all_goals exact Cmd.raises_of_keeps (by simp [cmdSHI, cmdSH, cmdS])

theorem cmdMid_raises {op : Nat} {c : Cmd} (e : cmdMid op = some c) : c.raises := by
  unfold cmdMid at e
  split at e <;> cases e
  case h_7 => exact cmdLinkLaserFactory_rpmc_le
  case h_13 => exact cmdMemMapoutClear_rpmc_le
  all_goals exact Cmd.raises_of_keeps (by simp [cmdSHI, cmdSH, cmdS, cmdH])

theorem cmdHigh_raises {op : Nat} {c : Cmd} (e : cmdHigh op = some c) : c.raises := by
  unfold cmdHigh at e
  split at e <;> cases e
  case h_13 => exact cmdSecEnrol_rpmc_le
  case h_22 => exact Cmd.raises_of_keeps (relayed_rpmc cmdSageSensors_rpmc)
  case h_23 => exact Cmd.raises_of_keeps (relayed_rpmc cmdSagePins_rpmc)
  case h_24 => exact Cmd.raises_of_keeps (relayed_rpmc cmdSageSetThresh_rpmc)
  case h_25 => exact Cmd.raises_of_keeps (relayed_rpmc cmdSageLaser_rpmc)
  all_goals exact Cmd.raises_of_keeps (by simp [cmdSHI, cmdSH, cmdS, cmdH])

theorem cmdOf_raises {op : Nat} {c : Cmd} (e : cmdOf op = some c) : c.raises := by
  unfold cmdOf at e
  split at e
  · exact cmdLow_raises e
  · split at e
    · exact cmdMid_raises e
    · exact cmdHigh_raises e

/-- A request that passes the checks of R434 names a command of the table. -/
theorem cmdOf_of_judge {recovery : Bool} {ch : Nat} {b : Bytes} {x : Cmd × List Nat × Bytes} (e : judge recovery ch b = .ok x) :
    cmdOf (reqOp b) = some x.1 := by
  unfold judge at e
  split at e
  · cases e
  · next hcmd =>
    dsimp only at e
    split_ifs at e
    cases e
    exact hcmd

theorem Hw.mbRun_rpmc_le (h : Hw) (c : Nat) : Rpmc.le h.rpmc (h.mbRun c).rpmc := by
  refine ite_rpmc_le (rpmc_le_of_eq (Hw.mbAck_rpmc ..)) ?_
  split
  · exact rpmc_le_of_eq ((Hw.mbAck_rpmc ..).trans (Hw.mbRespond_rpmc ..))
  · split
    · exact rpmc_le_of_eq (Hw.mbFinish_rpmc ..)
    · next args tail hjudge =>
      refine ite_rpmc_le (rpmc_le_of_eq (Hw.mbFinish_rpmc ..)) ?_
      have hrun := cmdOf_raises (cmdOf_of_judge hjudge) h c args tail
      split
      · next e =>
        rw [e] at hrun
        exact rpmc_le_of_keeps (Hw.mbFinish_rpmc ..) hrun
      · next e =>
        rw [e] at hrun
        exact hrun

theorem Hw.mbServe_rpmc_le (n : Nat) (h : Hw) : Rpmc.le h.rpmc (Hw.mbServe n h).rpmc := by
  induction n generalizing h with
  | zero => exact Rpmc.le_refl _
  | succ n ih =>
    unfold Hw.mbServe
    split
    · exact Rpmc.le_refl _
    · next c _ => exact Rpmc.le_trans (Hw.mbRun_rpmc_le { h with mb := { h.mb with todo := h.mb.todo.filter (· ≠ c) } } c) (ih _)

theorem Hw.served_rpmc_le {h : Hw} {r : Rpmc} (hr : Rpmc.le r h.rpmc) : Rpmc.le r h.served.rpmc :=
  rpmc_le_of_keeps ((Hw.bar2Go_rpmc _).trans (Hw.mbSettle_rpmc _)) (Rpmc.le_trans hr (Hw.mbServe_rpmc_le 16 h))

/-! ### The operations that serve the mailboxes -/

theorem effMbDbWake_rpmc_le (h : Hw) (c : Nat) (path : Path) : Rpmc.le h.rpmc (effMbDbWake c path h).rpmc :=
  ite_rpmc_le (Rpmc.le_refl _) (Hw.served_rpmc_le (rpmc_le_of_eq (Hw.access_rpmc ..)))

theorem effMbDbSend_rpmc_le (h : Hw) (c : Nat) (path : Path) : Rpmc.le h.rpmc (effMbDbSend c path h).rpmc :=
  ite_rpmc_le (Rpmc.le_refl _) (Hw.served_rpmc_le (rpmc_le_of_eq (Hw.access_rpmc ..)))

theorem effTransportWriteSend_rpmc_le (h : Hw) (c sid : Nat) (buf : Bytes) : Rpmc.le h.rpmc (effTransportWriteSend c sid buf h).rpmc :=
  Hw.served_rpmc_le (rpmc_le_of_eq (Hw.transportSend_rpmc ..))

theorem effRoino_rpmc_le (h : Hw) (op ch seq : Nat) (p : Bytes) : Rpmc.le h.rpmc (effRoino op ch seq p h).rpmc :=
  Hw.served_rpmc_le (rpmc_le_of_eq (Hw.arrive_rpmc ..))

theorem effRegisterWrite_rpmc_le (h : Hw) (path : Path) (off size v : Nat) : Rpmc.le h.rpmc (effRegisterWrite path off size v h).rpmc :=
  Hw.served_rpmc_le (rpmc_le_of_eq (Hw.access_rpmc ..))

theorem effInvalidationDone_rpmc_le (h : Hw) : Rpmc.le h.rpmc (effInvalidationDone h).rpmc := by
  unfold effInvalidationDone
  split
  · exact Rpmc.le_refl _
  · refine ite_rpmc_le (Rpmc.le_refl _) (Hw.served_rpmc_le (rpmc_le_of_eq ((Hw.heldGo_rpmc _).trans ?_)))
    split
    · exact ite_rpmc ((Hw.mbFinish_rpmc ..).trans ((Hw.set_rpmc ..).trans (Hw.invalRange_rpmc ..))) ((Hw.set_rpmc ..).trans (Hw.invalRange_rpmc ..))
    · exact (Hw.set_rpmc ..).trans (Hw.invalRange_rpmc ..)

/-! ### Boot -/

theorem Hw.enterRecovery_rpmc_le {h : Hw} {reason : Nat} {r : Rpmc} (hr : Rpmc.le r h.rpmc) : Rpmc.le r (h.enterRecovery reason).rpmc :=
  Hw.served_rpmc_le (rpmc_le_of_keeps ((Hw.postOff_rpmc _).trans ((Hw.post_rpmc ..).trans ((Hw.set_rpmc ..).trans ((Hw.set_rpmc ..).trans
    ((Hw.set_rpmc ..).trans (Hw.set_rpmc ..)))))) hr)

theorem effBootRomRun_rpmc_le (h : Hw) (tries : Nat) (recovery : Bool) : Rpmc.le h.rpmc (effBootRomRun tries recovery h).rpmc := by
  have hid := rpmc_le_of_eq (Hw.bootIdentity_rpmc h tries (decide (1 ≤ tries) && decide (tries ≤ 8)))
  have hfail := fun reason => Hw.enterRecovery_rpmc_le (reason := reason) hid
  unfold effBootRomRun
  dsimp only
  refine ite_rpmc_le (Rpmc.le_refl _) (ite_rpmc_le (hfail 3) (ite_rpmc_le (hfail 5) (ite_rpmc_le (hfail 2) (ite_rpmc_le (hfail 4) ?_))))
  split
  · exact hfail 1
  · exact rpmc_le_of_keeps (Hw.bootRun_rpmc ..) hid

theorem Hw.raiseCounters_rpmc_le (h : Hw) : Rpmc.le h.rpmc h.raiseCounters.rpmc := by
  refine ite_rpmc_le (Rpmc.le_refl _) (rpmc_le_of_keeps ((Hw.set_rpmc ..).trans (Hw.set_rpmc ..)) (Rpmc.le_iff.2 ?_))
  simp

theorem effFirmwareReady_rpmc_le (h : Hw) : Rpmc.le h.rpmc (effFirmwareReady h).rpmc := by
  unfold effFirmwareReady
  refine ite_rpmc_le (Rpmc.le_refl _) (Hw.served_rpmc_le (rpmc_le_of_keeps (Hw.postOff_rpmc _) ?_))
  dsimp only
  exact rpmc_le_of_keeps (foldl_rpmc (fun _ _ => (Hw.set_rpmc ..).trans (Hw.set_rpmc ..)) rfl) (Hw.raiseCounters_rpmc_le h)

theorem effPanelBringupDone_rpmc_le (h : Hw) (bad : List Nat) : Rpmc.le h.rpmc (effPanelBringupDone bad h).rpmc := by
  refine ite_rpmc_le (Rpmc.le_refl _) (rpmc_le_of_keeps (foldl_rpmc Hw.eyeletUp_rpmc rfl) (foldl_rpmc_le (fun h s => ?_)
    (rpmc_le_of_eq (foldl_rpmc (fun _ _ => Hw.domUp_rpmc ..) rfl))))
  exact Hw.stackUp_rpmc_le (rpmc_le_of_eq (Hw.setMapout_rpmc ..))


/-! ### Every command, every step -/

/-- Every command is an update of the hardware that lowers no counter: the mailbox's commands through their common service, the few operations that write
Config, an owner record or the firmware's counters by their own rule, and the rest because they leave the counters alone. -/
theorem exec_rpmc_le (c : Instr) (s : State) : ∃ f : Hw → Hw, exec c s = s.run f ∧ ∀ h, Rpmc.le h.rpmc (f h).rpmc := by
  cases c
  case devIdentify | devStatus | devResetPart | devResetJob | devWriteIn | devReadOut | imgInfo | imgErase | imgWrite | imgCommit | imgCfgGet |
      imgCfgSet | imgCfgDefault | pwrStatus | pwrClockCap | pwrStandby | pwrDomain | jobSetKey | jobSetBinding | jobSetBases | jobEnable |
      jobQuiesce | jobTapeGet | jobTapeSet | topoSetCoord | topoLoadPlan | topoStatus | topoPeer | linkEnable | linkStatus | linkLaserFactory |
      memRetrain | memMargin | memMarginResult | memStackState | memMapout | memMapoutClear | memRegion | memMap | memUnmap | memPeerWindow |
      memHostWindow | memLend | memInval | memFaultResp | qCtxCtl | qQueueCtl | snapSetBase | snapLend | snapWithdraw | snapSuccessor |
      snapBindBuddy | snapBindNvme | snapSlots | snapUnbind | snapBuddyLost | snapRestore | secGetId | secQuote | secEnrol | diagChervil |
      diagRegRead | diagRegWrite | diagEngineMap | diagLoopback | evtRing | evtRead | evtFilter | sageSensors | sagePins | sageSetThresh |
      sageLaser =>
    exact ⟨_, rfl, fun h => effRoino_rpmc_le h ..⟩
  case invalidationDone => exact ⟨_, rfl, fun h => effInvalidationDone_rpmc_le h ..⟩
  case relayoutDone => exact ⟨_, rfl, fun h => effRelayoutDone_rpmc_le h ..⟩
  case frameCtrl => exact ⟨_, rfl, fun h => effFrameCtrl_rpmc_le h ..⟩
  case laneMarker => exact ⟨_, rfl, fun h => effLaneMarker_rpmc_le h ..⟩
  case laneOpDrop => exact ⟨_, rfl, fun h => effLaneOpDrop_rpmc_le h ..⟩
  case laneOpAdd => exact ⟨_, rfl, fun h => effLaneOpAdd_rpmc_le h ..⟩
  case laneOpDupSwitched => exact ⟨_, rfl, fun h => effLaneOpDupSwitched_rpmc_le h ..⟩
  case laneOpDropNow => exact ⟨_, rfl, fun h => effLaneOpDropNow_rpmc_le h ..⟩
  case mbDbWake => exact ⟨_, rfl, fun h => effMbDbWake_rpmc_le h ..⟩
  case mbDbSend => exact ⟨_, rfl, fun h => effMbDbSend_rpmc_le h ..⟩
  case transportWriteSend => exact ⟨_, rfl, fun h => effTransportWriteSend_rpmc_le h ..⟩
  case bootRomRun => exact ⟨_, rfl, fun h => effBootRomRun_rpmc_le h ..⟩
  case firmwareReady => exact ⟨_, rfl, fun h => effFirmwareReady_rpmc_le h ..⟩
  case panelBringupDone => exact ⟨_, rfl, fun h => effPanelBringupDone_rpmc_le h ..⟩
  case registerWrite => exact ⟨_, rfl, fun h => effRegisterWrite_rpmc_le h ..⟩
  all_goals exact ⟨_, rfl, fun h => rpmc_le_of_eq (by simp)⟩

theorem State.idle_rpmc (s : State) : s.idle.hw.rpmc = s.hw.rpmc := by
  unfold State.idle
  split
  · exact Hw.tick_rpmc _
  · rfl

end Sys2Proof.Machine

namespace Sys2Proof.Proofs
open Machine

/-- Settles O42: an idle step leaves the counters, and a command updates the hardware by a function that lowers none. -/
theorem monotonicCountersNeverFall : Obligations.MonotonicCountersNeverFall := by
  intro s t hstep
  unfold step at hstep
  split at hstep
  · cases hstep
    exact rpmc_le_of_eq (State.idle_rpmc s)
  · next c rest _ =>
    obtain ⟨f, hf, hle⟩ := exec_rpmc_le c ⟨rest, s.hw⟩
    obtain ⟨-, hhw⟩ := State.run_next (hf.symm.trans hstep)
    rw [hhw, Hw.stamp_rpmc]
    exact hle s.hw

end Sys2Proof.Proofs
end
